-- ==== Sys2Proof/Word.lean ====
section
/-! DEFINITION. Words, bytes, the token word of R39, and the names of units that commands carry. -/

namespace Sys2Proof

/-- A 64-bit word: a token's VALUE or TAG (R39), a strand register (R118). -/
abbrev W64 := BitVec 64

/-- A 32-bit word: a BAR0 register (R8), an instruction word (R127). -/
abbrev W32 := BitVec 32

/-- A byte of module or host memory (R8). -/
abbrev Byte := BitVec 8

/-- A finite map from numbers, kept sorted by its key. A key that is not listed reads as the default its reader names. -/
abbrev SMap (α : Type) := List (Nat × α)

/-- A token (R39): VALUE, TAG and CTRL. A parcel's words have the same shape (R56). -/
structure Token where
  value : W64
  tag   : W64
  ctrl  : BitVec 16
deriving DecidableEq, Repr, Inhabited

/-- The place a strand instruction issues at: physical Quarter (R13), PE and strand slot (R118). -/
structure Site where
  q    : Fin 68
  pe   : Fin 16
  slot : Fin 8
deriving DecidableEq, Repr, Inhabited

/-- The points at which a token enters the Avenue (Checks at injection, before R50). -/
inductive InjPoint where
  -- outbound lane 4 + j of Quarter q, whose word may have bad parity (R106); lane 7 carries parcel words (R99)
  | lane (q : Fin 68) (j : Fin 4) (upset : Bool)
  | host                            -- the Host Gate: INJECT and the Dispatcher
  | conv                            -- the Converter Gate
  | colir                           -- the Colir Gate
  | marker                          -- hardware MARKERs of R424 and R439, sent by snapshot logic and Gates
deriving DecidableEq, Repr, Inhabited

/-- The ports of a Crossing (R216), in the order of AVENUE_LINK_DOWN.DIR. -/
inductive Port where
  | n | e | s | w | l0 | l1
deriving DecidableEq, Repr, Inhabited

/-- A lane of a Quarter, and whether the word at its head meets a parity error (R106). -/
structure LaneAt where
  lane  : Fin 4
  upset : Bool
deriving DecidableEq, Repr, Inhabited

/-- A Quarter whose lanes are copied (R114, R424), and the words, as lane and place in it, whose parity fails as they are copied. -/
structure CutAt where
  q      : Fin 68
  upsets : List (Nat × Nat)
deriving DecidableEq, Repr, Inhabited

/-- A District whose frames are saved (R459), and the frame words, as Quarter, word and bits in error, in which the reads that save them
first meet an error (R208). -/
structure SaveAt where
  d      : Fin 8
  upsets : List (Fin 68 × Nat × Fin 3)
deriving DecidableEq, Repr, Inhabited

/-- A page a Sweeper revisits: its Stop, and the lines of the page, with what each read of one first meets: 1 a single-bit, 2 a
double-bit error (R334, R335). -/
structure SweepAt where
  stop   : Fin 8
  upsets : List (Fin 64 × Fin 3)
deriving DecidableEq, Repr, Inhabited

/-- The bytes of a write to module memory, and what the read that merges them into a line they cover in part first meets there (R328). -/
structure MergeBytes where
  bytes : List Byte
  upset : Fin 3
deriving DecidableEq, Repr, Inhabited

/-- What the checks of a receive link find on a frame (R287): nothing, a code, disparity or sync-header error, or a CRC-12 failure of
the multiblock that holds its first octet. -/
inductive LaneErr where
  | none | code | crc
deriving DecidableEq, Repr, Inhabited

/-- What FEC decoding says of an arriving cell (R301): nothing; that it is the first cell of a codeword in which so many symbols were
corrected; or that its codeword could not be corrected, the cell being the first of it or not. -/
inductive FecMark where
  | none
  | corrected (symbols : Fin 16)
  | uncorrectable (first : Bool)
deriving DecidableEq, Repr, Inhabited

/-- A cell as it leaves the line decoder of a Colir port (R301). -/
structure RxCell where
  cell : BitVec 256
  fec  : FecMark
deriving DecidableEq, Repr, Inhabited

/-- The three kinds of host ring (R353). -/
inductive RingKind where
  | sq | cq | eq
deriving DecidableEq, Repr, Inhabited

/-- The units whose host read can time out (R348). -/
inductive HostReader where
  | descriptor (ring : Fin 64)   -- a descriptor fetch
  | job (ring : Fin 64)          -- the read of a running job
  | head (ring : Fin 80)         -- a head read of the EVC
  | poll (first count : Nat)     -- a doorbell poll read, of so many words of the doorbell page
deriving DecidableEq, Repr, Inhabited

/-- The configuration-space controls the spec names (R347 to R349, R351, R352, R389, R394). -/
inductive CfgReg where
  | deviceId      -- Device ID 0x7840 and class code; read only
  | command       -- bit 0: Bus Master Enable
  | msixControl   -- bit 0: MSI-X Enable, bit 1: Function Mask
  | powerState    -- bits 1:0: 0 is D0, 3 is D3hot
  | pmeControl    -- bit 0: PME_En; a write with bit 1 set clears PME_Status
  | bar0          -- BAR0, low word: 64-bit, non-prefetchable, 64 MiB
  | bar0High      -- BAR0, high word
  | bar2          -- BAR2, low word: 64-bit, prefetchable, 4 GiB
  | bar2High      -- BAR2, high word
deriving DecidableEq, Repr, Inhabited

/-- A detection on the fault wires (R398): its source code, unit and the details of R402. `dry` and `injected` are
the marks of R418; `ctxs` are contexts a seeding fault names itself (R436). -/
structure Detection where
  code     : Nat
  unit     : Nat
  detailA  : W64
  detailB  : W64
  injected : Bool
  dry      : Bool
  ctxs     : List Nat
deriving DecidableEq, Repr, Inhabited

end Sys2Proof
end

