-- ==== Sys2Proof/Machine/Bits.lean ====
section
/-! DEFINITION. Bit fields, sign extension, byte order and the finite maps that every other file uses. -/

namespace Sys2Proof

/-- The value listed for a key. -/
def SMap.find? {α : Type} : SMap α → Nat → Option α
  | [], _ => none
  | (k', v) :: m, k => if k' = k then some v else SMap.find? m k

/-- The value at a key, or the default. -/
def SMap.get {α : Type} (m : SMap α) (d : α) (k : Nat) : α := (SMap.find? m k).getD d

/-- Writes a key, keeping the keys rising. -/
def SMap.put {α : Type} : SMap α → Nat → α → SMap α
  | [], k, v => [(k, v)]
  | (k', v') :: m, k, v =>
    if k' = k then (k, v) :: m
    else if k < k' then (k, v) :: (k', v') :: m
    else (k', v') :: SMap.put m k v

/-- Removes a key. -/
def SMap.erase {α : Type} (m : SMap α) (k : Nat) : SMap α := m.filter fun e => e.1 ≠ k

/-- Changes the value at a key. -/
def SMap.upd {α : Type} (m : SMap α) (d : α) (k : Nat) (f : α → α) : SMap α := SMap.put m k (f (SMap.get m d k))

/-- Changes every listed value. -/
def SMap.mapVal {α β : Type} (m : SMap α) (f : Nat → α → β) : SMap β := m.map fun e => (e.1, f e.1 e.2)

/-- Bits hi:lo of a number, as a number. -/
def bits (x hi lo : Nat) : Nat := (x >>> lo) % 2 ^ (hi + 1 - lo)

/-- One bit of a number. -/
def bit (x n : Nat) : Bool := x.testBit n

/-- A Bool as 0 or 1. -/
def b2n (b : Bool) : Nat := if b then 1 else 0

/-- A field placed at bit lo, cut to its width. -/
def field (v hi lo : Nat) : Nat := (v % 2 ^ (hi + 1 - lo)) <<< lo

/-- A word with bits hi:lo replaced. -/
def setBits (x hi lo v : Nat) : Nat := x - ((bits x hi lo) <<< lo) + field v hi lo

/-- The number below 2^w as a two's-complement integer. -/
def toInt (w x : Nat) : Int := if x % 2 ^ w < 2 ^ (w - 1) then (x % 2 ^ w : Nat) else ((x % 2 ^ w : Nat) : Int) - ((2 ^ w : Nat) : Int)

/-- An integer modulo 2^w. -/
def ofInt (w : Nat) (x : Int) : Nat := (x % ((2 ^ w : Nat) : Int)).toNat

/-- Number of bits of a number; 0 for 0 (R191). -/
def bitlen (n : Nat) : Nat := if n = 0 then 0 else Nat.log2 n + 1

/-- The bytes of a number, little-endian (R8). -/
def leBytes : Nat → Nat → List Byte
  | 0, _ => []
  | n + 1, x => BitVec.ofNat 8 x :: leBytes n (x / 256)

/-- The number that bytes spell, little-endian (R8). -/
def ofBytes : List Byte → Nat
  | [] => 0
  | b :: bs => b.toNat + 256 * ofBytes bs

/-- Saturating increment of a 32-bit counter. -/
def satAdd (x n : Nat) : Nat := min (x + n) 0xFFFFFFFF

/-- The list cut into pieces of n, for at most `fuel` pieces. -/
def chunks {α : Type} : Nat → Nat → List α → List (List α)
  | 0, _, _ => []
  | _, _, [] => []
  | fuel + 1, n, l => l.take n :: chunks fuel n (l.drop n)

/-- The first element that passes, and the list without it. -/
def takeFirst {α : Type} (p : α → Bool) : List α → Option (α × List α)
  | [] => none
  | x :: xs => if p x then some (x, xs) else
    match takeFirst p xs with
    | none => none
    | some (y, ys) => some (y, x :: ys)

/-- Adds a number to a list that holds no repeats. -/
def addNew (l : List Nat) (n : Nat) : List Nat := if l.contains n then l else l ++ [n]

/-- One's bits of a list of positions. -/
def bitsOf (l : List Nat) : Nat := l.foldl (fun a b => if a.testBit b then a else a + 2 ^ b) 0

/-- The positions below n whose bit is set. -/
def onesOf (n x : Nat) : List Nat := (List.range n).filter fun b => x.testBit b

-- TAG and CTRL fields (R40, R46)
/-- DEV of a TAG. -/
def tagDev (t : W64) : Nat := bits t.toNat 63 60
/-- CTX of a TAG. -/
def tagCtx (t : W64) : Nat := bits t.toNat 59 40
/-- NODE of a TAG. -/
def tagNode (t : W64) : Nat := bits t.toNat 39 22
/-- IDX of a TAG. -/
def tagIdx (t : W64) : Nat := bits t.toNat 21 4
/-- PORT of a TAG. -/
def tagPort (t : W64) : Nat := bits t.toNat 3 2
/-- A TAG from its fields, the two low bits 0. -/
def mkTag (dev ctx node idx port : Nat) : W64 :=
  BitVec.ofNat 64 (field dev 63 60 + field ctx 59 40 + field node 39 22 + field idx 21 4 + field port 3 2)
/-- Replaces bits hi:lo of a TAG. -/
def tagSet (t : W64) (hi lo v : Nat) : W64 := BitVec.ofNat 64 (setBits t.toNat hi lo v)
/-- KIND of a token. -/
def Token.kind (t : Token) : Nat := bits t.ctrl.toNat 15 12
/-- FMT of a token. -/
def Token.fmt (t : Token) : Nat := bits t.ctrl.toNat 11 9
/-- POISON of a token. -/
def Token.poison (t : Token) : Bool := t.ctrl.toNat.testBit 8
/-- END of a token. -/
def Token.last (t : Token) : Bool := t.ctrl.toNat.testBit 7
/-- SO of a token. -/
def Token.so (t : Token) : Bool := t.ctrl.toNat.testBit 6
/-- GOP of a token. -/
def Token.gop (t : Token) : Nat := bits t.ctrl.toNat 5 3
/-- EPL of a token. -/
def Token.epl (t : Token) : Nat := bits t.ctrl.toNat 2 0
/-- CTX of a token. -/
def Token.ctx (t : Token) : Nat := tagCtx t.tag
/-- A CTRL from its fields. -/
def mkCtrl (kind fmt : Nat) (poison last so : Bool) (gop epl : Nat) : BitVec 16 :=
  BitVec.ofNat 16 (field kind 15 12 + field fmt 11 9 + field (b2n poison) 8 8 + field (b2n last) 7 7 +
    field (b2n so) 6 6 + field gop 5 3 + field epl 2 0)
/-- Replaces bits hi:lo of CTRL. -/
def Token.setCtrl (t : Token) (hi lo v : Nat) : Token := { t with ctrl := BitVec.ofNat 16 (setBits t.ctrl.toNat hi lo v) }
/-- The token with POISON set (R52). -/
def Token.poisoned (t : Token) : Token := t.setCtrl 8 8 1
/-- Index a is later than index b (R44). -/
def idxLater (a b : Nat) : Bool := let d := (a + 262144 - b % 262144) % 262144; 1 ≤ d && d ≤ 131071
/-- A token as 32 bytes in the slot layout of R79: VALUE, TAG, CTRL; the rest by the caller. -/
def Token.bytes (t : Token) : List Byte := leBytes 8 t.value.toNat ++ leBytes 8 t.tag.toNat ++ leBytes 2 t.ctrl.toNat
/-- A token from its first 18 bytes. -/
def Token.ofBytes (bs : List Byte) : Token :=
  { value := BitVec.ofNat 64 (Sys2Proof.ofBytes (bs.take 8)), tag := BitVec.ofNat 64 (Sys2Proof.ofBytes ((bs.drop 8).take 8)),
    ctrl := BitVec.ofNat 16 (Sys2Proof.ofBytes ((bs.drop 16).take 2)) }
/-- Whether a number has an odd count of ones among its n low bits. -/
def oddOnes : Nat → Nat → Bool
  | 0, _ => false
  | n + 1, x => (x % 2 == 1) != oddOnes n (x / 2)
/-- The parity bits 144 and 145 of a lane word (R55): each makes the ones of its 72-bit half and itself odd in number. -/
def Token.parity (t : Token) : BitVec 2 :=
  BitVec.ofNat 2 (b2n (!oddOnes 72 (t.value.toNat + t.tag.toNat % 256 * 2 ^ 64)) +
    2 * b2n (!oddOnes 72 (t.tag.toNat / 256 + t.ctrl.toNat * 2 ^ 56)))
/-- One bit into the CRC-16 of R57: polynomial x¹⁶ + x¹² + x⁵ + 1, most significant bit first. -/
def crcStep (c bit : Nat) : Nat := if (c / 2 ^ 15 + bit) % 2 = 1 then (2 * c % 2 ^ 16) ^^^ 0x1021 else 2 * c % 2 ^ 16
/-- The n low bits of a number into a CRC-16, the most significant first. -/
def crc16 : Nat → Nat → Nat → Nat
  | 0, _, c => c
  | n + 1, x, c => crc16 n x (crcStep c (x / 2 ^ n % 2))
/-- The key of R71: CTX, NODE and IDX as one 56-bit number. -/
def keyOf (t : W64) : Nat := (tagCtx t <<< 36) ||| (tagNode t <<< 18) ||| tagIdx t

end Sys2Proof
end

