-- ==== Sys2Proof/Syntax.lean ====
section
/-! DEFINITION. The commands of the block: one constructor for each row of the opcode table, in the table's order. A
strand instruction carries the place it issues at; its word stands in the Quarter's strand code. -/

namespace Sys2Proof

/-- The commands. Each docstring names the row and the rule that governs it. -/
inductive Instr where
  /-- ADD (R133): Strand instruction adding RA and RB, as 64-bit or as two wrapping 32-bit lanes. -/
  | add (site : Site)
  /-- SUB (R133): Strand instruction subtracting RB from RA, as 64-bit or as two 32-bit lanes. -/
  | sub (site : Site)
  /-- MUL (R183): Strand instruction giving the low 64 bits of the product. -/
  | mul (site : Site)
  /-- MULH (R130): Strand instruction giving the high 64 bits of the signed product. -/
  | mulh (site : Site)
  /-- MULHU (R130): Strand instruction giving the high 64 bits of the unsigned product. -/
  | mulhu (site : Site)
  /-- DIV (R184): Signed integer division that starts on the shared iterative divider. -/
  | div (site : Site)
  /-- DIVU (R184): Unsigned integer division that starts on the divider. -/
  | divu (site : Site)
  /-- REM (R184): Signed remainder that starts on the divider. -/
  | rem (site : Site)
  /-- REMU (R184): Unsigned remainder that starts on the divider. -/
  | remu (site : Site)
  /-- AND (R130): Bitwise AND of RA and RB. -/
  | and (site : Site)
  /-- OR (R130): Bitwise OR of RA and RB. -/
  | or (site : Site)
  /-- XOR (R130): Bitwise exclusive-or of RA and RB. -/
  | xor (site : Site)
  /-- ANDN (R130): RA AND NOT RB. -/
  | andn (site : Site)
  /-- SHL (R130): Logical left shift by RB[5:0]. -/
  | shl (site : Site)
  /-- SHR (R130): Logical right shift by RB[5:0]. -/
  | shr (site : Site)
  /-- SRA (R130): Arithmetic right shift by RB[5:0]. -/
  | sra (site : Site)
  /-- ROR (R130): Rotate right by RB[5:0]. -/
  | ror (site : Site)
  /-- MIN (R133): Signed minimum, 64-bit or per 32-bit lane. -/
  | min (site : Site)
  /-- MAX (R133): Signed maximum, 64-bit or per 32-bit lane. -/
  | max (site : Site)
  /-- MINU (R130): Unsigned minimum. -/
  | minu (site : Site)
  /-- MAXU (R130): Unsigned maximum. -/
  | maxu (site : Site)
  /-- CMPEQ (R130): Writes 1 if RA equals RB, else 0. -/
  | cmpeq (site : Site)
  /-- CMPLT (R130): Writes 1 if RA is less than RB as signed values, else 0. -/
  | cmplt (site : Site)
  /-- CMPLTU (R130): Writes 1 if RA is less than RB as unsigned values, else 0. -/
  | cmpltu (site : Site)
  /-- SEL (R130): Selects RA if RD is non-zero, else RB. -/
  | sel (site : Site)
  /-- CLZ (R130): Counts the leading zeros of RA. -/
  | clz (site : Site)
  /-- CTZ (R130): Counts the trailing zeros of RA. -/
  | ctz (site : Site)
  /-- POPC (R130): Counts the ones in RA. -/
  | popc (site : Site)
  /-- ADDI (R130): Adds the sign-extended immediate to RA. -/
  | addi (site : Site)
  /-- ANDI (R130): ANDs RA with the immediate. -/
  | andi (site : Site)
  /-- ORI (R130): ORs RA with the immediate. -/
  | ori (site : Site)
  /-- XORI (R130): Exclusive-ors RA with the immediate. -/
  | xori (site : Site)
  /-- SHLI (R130): Left shift of RA by an immediate amount. -/
  | shli (site : Site)
  /-- SHRI (R130): Logical right shift of RA by an immediate amount. -/
  | shri (site : Site)
  /-- SRAI (R130): Arithmetic right shift of RA by an immediate amount. -/
  | srai (site : Site)
  /-- CMPEQI (R130): Writes 1 if RA equals the immediate, else 0. -/
  | cmpeqi (site : Site)
  /-- CMPLTI (R130): Signed compare of RA with the immediate. -/
  | cmplti (site : Site)
  /-- CMPLTUI (R130): Unsigned compare of RA with the immediate. -/
  | cmpltui (site : Site)
  /-- LIH (R130): Loads the immediate into the high 32 bits and keeps the low 32 bits of RA. -/
  | lih (site : Site)
  /-- BFX (R133): Extracts a bit field of RA. -/
  | bfx (site : Site)
  /-- BFI (R133): Inserts the low bits of RA into a field of RD. -/
  | bfi (site : Site)
  /-- LI (R130): Loads the sign-extended immediate. -/
  | li (site : Site)
  /-- FADD (R174): Floating-point add, rounded once. -/
  | fadd (site : Site)
  /-- FSUB (R174): Floating-point subtract, rounded once. -/
  | fsub (site : Site)
  /-- FMUL (R174): Floating-point multiply, rounded once. -/
  | fmul (site : Site)
  /-- FDIV (R174): Floating-point divide that starts on the divider. -/
  | fdiv (site : Site)
  /-- FSQRT (R174): Floating-point square root that starts on the divider. -/
  | fsqrt (site : Site)
  /-- FMA (R174): Fused RA × RB + RD, rounded once, into RD. -/
  | fma (site : Site)
  /-- FMS (R174): Fused RA × RB − RD, rounded once. -/
  | fms (site : Site)
  /-- FNMA (R174): Fused −(RA × RB) + RD, rounded once. -/
  | fnma (site : Site)
  /-- FNMS (R174): Fused −(RA × RB) − RD, rounded once. -/
  | fnms (site : Site)
  /-- FMIN (R175): IEEE minimumNumber of RA and RB. -/
  | fmin (site : Site)
  /-- FMAX (R175): IEEE maximumNumber of RA and RB. -/
  | fmax (site : Site)
  /-- FCMPEQ (R176): Quiet floating-point equality compare. -/
  | fcmpeq (site : Site)
  /-- FCMPLT (R176): Signalling floating-point less-than compare. -/
  | fcmplt (site : Site)
  /-- FCMPLE (R176): Signalling floating-point less-or-equal compare. -/
  | fcmple (site : Site)
  /-- FCMPUN (R176): Quiet test for an unordered pair of operands. -/
  | fcmpun (site : Site)
  /-- FABS (R178): Clears the sign bit of each lane. -/
  | fabs (site : Site)
  /-- FNEG (R178): Inverts the sign bit of each lane. -/
  | fneg (site : Site)
  /-- FCLASS (R177): Writes the one-hot class mask of RA. -/
  | fclass (site : Site)
  /-- FCVT (R134): Format conversion selected by the RB field. -/
  | fcvt (site : Site)
  /-- FRINT (R182): Rounds to an integral value in the same format. -/
  | frint (site : Site)
  /-- LD (R136): Issues a frame-memory load, or a plain read through an alias window. -/
  | ld (site : Site)
  /-- LDD (R205): Issues a deferred load that parks on an EMPTY word. -/
  | ldd (site : Site)
  /-- ST (R136): Issues a store, or an atomic OR or AND-NOT through an alias window. -/
  | st (site : Site)
  /-- STW (R500): Issues a write-once store whose presence test is made at the bank. -/
  | stw (site : Site)
  /-- MKE (R136): Issues a write that marks a frame word EMPTY. -/
  | mke (site : Site)
  /-- BSET (R202): Atomic read-modify-write that ORs RB into a word and returns the old word. -/
  | bset (site : Site)
  /-- BCLR (R202): Atomic read-modify-write that clears the RB bits of a word and returns the old word. -/
  | bclr (site : Site)
  /-- SEND (R139): Builds a token from RV and RT and offers it to the PE's outbound lane. -/
  | send (site : Site)
  /-- BEQ (R142): Branches if RA equals RB. -/
  | beq (site : Site)
  /-- BNE (R142): Branches if RA differs from RB. -/
  | bne (site : Site)
  /-- BLT (R142): Branches if RA is less than RB, signed. -/
  | blt (site : Site)
  /-- BGE (R142): Branches if RA is greater than or equal to RB, signed. -/
  | bge (site : Site)
  /-- BLTU (R142): Branches if RA is less than RB, unsigned. -/
  | bltu (site : Site)
  /-- BGEU (R142): Branches if RA is greater than or equal to RB, unsigned. -/
  | bgeu (site : Site)
  /-- BEQZ (R142): Branches if RA is zero. -/
  | beqz (site : Site)
  /-- BNEZ (R142): Branches if RA is non-zero. -/
  | bnez (site : Site)
  /-- BLTZ (R142): Branches if RA is negative. -/
  | bltz (site : Site)
  /-- BGEZ (R142): Branches if RA is zero or positive. -/
  | bgez (site : Site)
  /-- JMP (R142): Jumps to TARGET. -/
  | jmp (site : Site)
  /-- JR (R142): Jumps to RA[14:0]. -/
  | jr (site : Site)
  /-- CALL (R143): Tests the stack limit, pushes the return address and jumps to TARGET. -/
  | call (site : Site)
  /-- CALLR (R143): Tests the stack limit, pushes the return address and jumps to RA[14:0]. -/
  | callr (site : Site)
  /-- RET (R143): Pops the return address from the stack and jumps to it. -/
  | ret (site : Site)
  /-- LOOP (R145): Starts hardware loop N with its count taken from RC. -/
  | loop (site : Site)
  /-- LOOPI (R145): Starts hardware loop N with an immediate count. -/
  | loopi (site : Site)
  /-- LBRK (R149): Leaves loop N and continues at its exit address. -/
  | lbrk (site : Site)
  /-- REP (R150): Prefix that issues the next instruction COUNT times. -/
  | rep (site : Site)
  /-- REPR (R150): Prefix that issues the next instruction RCNT times. -/
  | repr (site : Site)
  /-- MFS (R126): Reads a special register into RD. -/
  | mfs (site : Site)
  /-- MTS (R126): Writes a special register from RA. -/
  | mts (site : Site)
  /-- FENCE (R154): Holds the slot until its earlier stores have reached their banks. -/
  | fence (site : Site)
  /-- TRAP (R156): Ends the strand with a TRAP strand fault that carries CODE. -/
  | trap (site : Site)
  /-- HALT (R155): Ends the strand normally. -/
  | halt (site : Site)
  /-- NOP (R130): Does nothing. -/
  | nop (site : Site)
  /-- UNDEFINED_OPCODE (R131): An instruction word with an undefined opcode is issued as an illegal instruction. -/
  | undefinedOpcode (site : Site)
  /-- FIRE_PACKET_TAKE (R115): A PE takes the fire packet at the head of its queue into its lowest free strand slot and sets up the registers. -/
  | firePacketTake (q : Fin 68) (pe : Fin 16) (upset : Bool)
  /-- LOAD_RETURN (R198): Load data returns from the bank to the slot, setting PSTATE on an uncorrectable word. -/
  | loadReturn (site : Site) (upset : Fin 3)
  /-- STORE_REACHES_BANK (R198): An issued store, MKE or STW reaches its bank and writes, or raises WRITE_ONCE for an STW. -/
  | storeReachesBank (q : Fin 68) (pe : Fin 16) (upset : Fin 3)
  /-- DIVIDER_FINISH (R190): The divider finishes its operation, delivers the result and its flags, and frees itself. -/
  | dividerFinish (q : Fin 68) (pe : Fin 16)
  /-- PARK_RELEASE (R206): The park table releases one parked LDD or READ_WAIT with the value of the releasing write. -/
  | parkRelease (q : Fin 68)
  /-- SEND_COMPLETE (R141): The outbound lane takes a SEND's word, possibly after refusals, and counts one emission. -/
  | sendComplete (site : Site)
  /-- LANE_WORD_ARRIVE (R104): A word is written into the fill bank of a lane, or refused while the fill bank is full. -/
  | laneWordArrive (q : Fin 68) (lane : Fin 9)
  /-- LANE_SWAP (R104): The drain bank is empty and the fill bank holds a visible word, so the two banks swap. -/
  | laneSwap (q : Fin 68) (lane : Fin 9)
  /-- LANE_FLUSH (R108): A write of 1 to QTRnn_LANEj_CTRL.FLUSH requests a flush of the lane. -/
  | laneFlush (q : Fin 68) (lane : Fin 8)
  /-- LANE_FLUSH_EFFECT (R108): The flush takes effect and discards every complete and partial item in both banks. -/
  | laneFlushEffect (q : Fin 68) (lane : Fin 8)
  /-- TOKEN_LOOKUP (R72): The Plaza takes a lane word and looks up its key: it fires, inserts, evicts, parks or discards the token. -/
  | tokenLookup (q : Fin 68) (lane : Fin 4) (upset : Bool)
  /-- STICKY_TOKEN (R47): A STICKY token writes the sticky slot of its node entry. -/
  | stickyToken (q : Fin 68) (lane : Fin 4) (upset : Bool)
  /-- FREE_TOKEN (R47): A FREE token removes every waiting operand of its key. -/
  | freeToken (q : Fin 68) (lane : Fin 4) (upset : Bool)
  /-- PEN_NOTICE (R84): A VC1 notice raises the Quarter's pen count after a pen write. -/
  | penNotice (q : Fin 72)
  /-- PEN_READ_RETURN (R84): A pen line read returns, and its tokens are queued for lookup ahead of lane words. -/
  | penReadReturn (q : Fin 68) (upset : Fin 3)
  /-- PEN_TOKEN_LOOKUP (R84): A pen token takes a pipe slot and is looked up as an arriving token. -/
  | penTokenLookup (q : Fin 68)
  /-- WAIT_TABLE_RELEASE (R82): A parked token is released in order and starts its lookup afresh. -/
  | waitTableRelease (q : Fin 68)
  /-- INTERNAL_LOOKUP (R227): A lookup for a newly admitted index fires the entry node if all its operands are waiting. -/
  | internalLookup (q : Fin 68)
  /-- BACKSTREET_WINDOW_RETURN (R81): A window read returns, and the parked tokens of its key are matched, brought back or inserted. -/
  | backstreetWindowReturn (q : Fin 68) (cycles : Nat)
  /-- NODEMAP_WORD_RETURN (R498): A NODEMAP word requested by the Plaza arrives, and the waiting token starts its lookup afresh. -/
  | nodemapWordReturn (q : Fin 68)
  /-- SPILL_PARCEL_SEND (R77): The spill buffer writes a victim key to its window in the Backstreet as one parcel. -/
  | spillParcelSend (q : Fin 68)
  /-- SPILL_WRITE_ACK (R77): The Stop acknowledges a spill parcel, and its spill-buffer entries are freed. -/
  | spillWriteAck (q : Fin 68)
  /-- HOLDING_RETRY (R87): A victim key held for want of free slots retries its spill every 256 cycles. -/
  | holdingRetry (q : Fin 68)
  /-- FIRE_BUFFER_DRAIN (R88): A buffered fire packet moves into its PE's fire queue when room appears. -/
  | fireBufferDrain (q : Fin 68)
  /-- PLZ_BS_RECONFIG (R97): A write of QTRnn_PLZ_BS_BASE or QTRnn_PLZ_BS_SIZE resets the occupancies, the pen positions and the filter. -/
  | plzBsReconfig (q : Fin 68) (size : Bool) (value : W32)
  /-- TOKEN_INJECT (R50): A word enters the Avenue at an injection point, which checks and rewrites it and builds the route header. -/
  | tokenInject (point : InjPoint)
  /-- NODEMAP_MISS_FILL (R362): A NODEMAP word missing from an injection point's cache arrives, and the held token goes on. -/
  | nodemapMissFill (point : InjPoint)
  /-- FLIT_FORWARD (R218): A Crossing forwards one flit on an output port: it increments HOPS and recomputes the CRC. -/
  | flitForward (x : Fin 9) (y : Fin 8) (port : Port) (vc : Fin 3)
  /-- CREDIT_RETURN (R217): A credit returns to the sender 2 cycles after a buffer place frees. -/
  | creditReturn (x : Fin 9) (y : Fin 8) (port : Port) (vc : Fin 3)
  /-- LINK_REPLAY (R221): A CRC failure causes a NAK, and the sender replays from the failed flit. -/
  | linkReplay (x : Fin 9) (y : Fin 8) (port : Port)
  /-- ROUNDABOUT_ESCAPE (R231): A VC0 head flit blocked for ROUND_WAIT moves onto VC2 together with its source-ordered followers. -/
  | roundaboutEscape (x : Fin 9) (y : Fin 8) (port : Port)
  /-- PEN_WRITE (R233): A Backstreet writer writes an escaped token into its destination's pen and acknowledges it. -/
  | penWrite (stop : Fin 8)
  /-- RETIRE_WORD (R227): An exit-node retire word reaches the entry Quarter and sets a bit of the retire map. -/
  | retireWord (q : Fin 68)
  /-- GATE_REGROW (R230): After a REGROW period without gridlock, K_NOW doubles up to K_SET. -/
  | gateRegrow
  /-- GATE_K_SET_WRITE (R230): A write of AVENUE_GATE_D2.K_SET to a valid entry lowers or widens the window. -/
  | gateKSetWrite (value : W32)
  /-- STREAM_GATE_REPORT (R229): A STREAM gate's BASE and K_NOW reach the Converter Gate. -/
  | streamGateReport (q : Fin 68) (entry : Fin 16)
  /-- DIST_SUSPECT (R236): A District's progress counter reaches STALL_WAIT, and the District becomes SUSPECT or QUIET. -/
  | distSuspect (d : Fin 8)
  /-- GRIDLOCK (R237): The Host Gate declares gridlock and freezes, dumps and drains under recovery steps 1 to 4. -/
  | gridlock
  /-- GRIDLOCK_RELEASE (R238): Once every drain has ended, the K_NOW values are halved and the Plazas resume. -/
  | gridlockRelease (cycles : Nat)
  /-- MIGRATION_START (R244): A migration starts in the next epoch by holding the group's tokens at every injection point. -/
  | migrationStart
  /-- MIGRATION_SWITCH (R244): The group becomes idle, its placement switches, and the held tokens are released. -/
  | migrationSwitch
  /-- MIGRATION_ABANDON (R244): The group is not idle within WAIT µs, so the migration is abandoned. -/
  | migrationAbandon
  /-- PORT_B_WRITE (R199): A port B WRITE parcel writes frame words FULL and releases parked reads. -/
  | portBWrite (q : Fin 68) (upset : Option Nat)
  /-- PORT_B_WRITE_KEEP (R199): A port B WRITE_KEEP parcel writes data without changing presence or DIRTY. -/
  | portBWriteKeep (q : Fin 68) (upset : Option Nat)
  /-- PORT_B_PRES_WRITE (R199): A port B PRES_WRITE parcel writes presence codes. -/
  | portBPresWrite (q : Fin 68) (upset : Option Nat)
  /-- PORT_B_READ (R199): A port B READ request is answered with the words read. -/
  | portBRead (q : Fin 68) (upset : Option Nat) (ecc : List (Fin 3))
  /-- PORT_B_PRES_READ (R199): A port B PRES_READ request is answered with presence codes. -/
  | portBPresRead (q : Fin 68) (upset : Option Nat)
  /-- PORT_B_READ_WAIT (R199): A port B READ_WAIT request is answered at once or parks until the word is written. -/
  | portBReadWait (q : Fin 68) (upset : Option Nat) (ecc : Fin 3)
  /-- PORT_B_BAD_OP (R199): A port B parcel with a reserved OP is consumed and counted in PB_BAD. -/
  | portBBadOp (q : Fin 68) (upset : Option Nat)
  /-- PORT_B_WRITE_RETRY (R201): A port B write refused by a colliding port A write lands in the next cycle. -/
  | portBWriteRetry (q : Fin 68)
  /-- FRAME_CE_WRITEBACK (R208): A corrected frame word is written back in a free bank cycle. -/
  | frameCeWriteback (q : Fin 68)
  /-- SNAPSHOT_LINE_COPY (R212): The snapshot engine copies a PENDING frame line and clears PENDING. -/
  | snapshotLineCopy (q : Fin 68) (ecc : List (Fin 3))
  /-- START_CTX (R254): A job that arms a context, or reports why it cannot be armed. -/
  | startCtx (ring : Fin 64)
  /-- DESCRIPTOR_READ_DONE (R254): The descriptor read for an arming returns and the context enters WAITING, DELAYED or READY, or the arming is refused. -/
  | descriptorReadDone
  /-- CANCEL_CTX (R269): A job that cancels a context as its state gives. -/
  | cancelCtx (ring : Fin 64)
  /-- SET_COUNTER_SET (R363): SET_COUNTER with MODE 0 sets DEP to VALUE. -/
  | setCounterSet (ring : Fin 64)
  /-- SET_COUNTER_SUB (R363): SET_COUNTER with MODE 1 subtracts VALUE from DEP. -/
  | setCounterSub (ring : Fin 64)
  /-- DEP_DECREMENT (R255): A completion or a job notification decrements the DEP of a named context. -/
  | depDecrement
  /-- TICK (R258): TIME_NS passes a multiple of PERIOD, TICK_NOW increases, and the due timers are tested. -/
  | tick
  /-- TIMER_DUE (R259): The Dispatcher acts on a context whose timer has fallen due. -/
  | timerDue
  /-- CONTEXT_START (R264): The Dispatcher takes a ready head, reserves its entries, places and wakes it, and injects CTL_START. -/
  | contextStart
  /-- WAKEFIRST_START (R266): The Districts of a WAKEFIRST context are running, so its held CTL_START is injected. -/
  | wakefirstStart (ctx : Nat)
  /-- CTL_END (R501): A CTL_END token reaches the Dispatcher and acts according to the state of its context. -/
  | ctlEnd
  /-- COUNT_FLUSH (R92): A unit flushes a context's unflushed emission and consumption counts to the Dispatcher. -/
  | countFlush (unit : Fin 72) (ctx : Nat)
  /-- COMPLETION_ROUND (R93): A completion round gathers every unit's counts and decides whether the context is complete. -/
  | completionRound (ctx : Nat)
  /-- ORPHAN_WAIT_EXPIRE (R94): ORPHAN_WAIT passes without completion, so the context becomes CLOSING and collection is ordered. -/
  | orphanWaitExpire (ctx : Nat)
  /-- QUARTER_COLLECT (R94): A Quarter removes every token of the context from its Plaza, spill buffer, hash part and pen. -/
  | quarterCollect (q : Fin 68) (ctx : Nat)
  /-- COLLECTION_DONE (R95): Every Quarter has finished collection, and the context completes with ORPHANS and UNFOUND. -/
  | collectionDone (ctx : Nat)
  /-- QUARANTINE_END (R271): DISPATCH_QUAR_WAIT expires, and the context returns to IDLE or re-arms. -/
  | quarantineEnd (ctx : Nat)
  /-- DISPATCH_TICK_WRITE (R258): A write of a new PERIOD changes when TICK_NOW next increases. -/
  | dispatchTickWrite (value : W32)
  /-- DOORBELL_POLL (R355): The module reads the doorbell words and acts on changed tails and heads, including halting on a jump. -/
  | doorbellPoll (hw : List (Nat × Byte))
  /-- POLL_MODE_IDLE (R355): 1 ms without a changed word switches polling to IDLE. -/
  | pollModeIdle
  /-- DESCRIPTOR_FETCH (R374): The module reads a descriptor that a polled tail covers. -/
  | descriptorFetch (ring : Fin 64) (hw : List (Nat × Byte))
  /-- DESCRIPTOR_ACCEPT (R374): The descriptor's Ledger copy is written, and the job is accepted and started in ring order. -/
  | descriptorAccept (ring : Fin 64)
  /-- ACCEPT_RECORD_WRITE (R375): The ACCEPT record of an SQ is written to host memory. -/
  | acceptRecordWrite (ring : Fin 64)
  /-- JOB_NOP (R358): NOP job, which completes at once. -/
  | jobNop (ring : Fin 64)
  /-- JOB_FENCE (R358): FENCE job, which completes when every earlier job of its ring has completed. -/
  | jobFence (ring : Fin 64)
  /-- INJECT (R360): A job that reads a token array and injects its tokens in order, refusing CTL_END and MARKER. -/
  | inject (ring : Fin 64) (hw : List (Nat × Byte)) (failAt : Option Nat)
  /-- LOAD_IMAGE (R361): A job that reads image sections and writes the node tables, code, stack configuration and shadows. -/
  | loadImage (ring : Fin 64)
  /-- DMA_TO_MODULE (R364): A job that copies host memory into module memory. -/
  | dmaToModule (ring : Fin 64) (hw : List (Nat × Byte)) (failAt : Option Nat)
  /-- DMA_FROM_MODULE (R364): A job that copies module memory to the host. -/
  | dmaFromModule (ring : Fin 64)
  /-- LOG_DRAIN (R365): A job that copies the oldest sealed log blocks to the host. -/
  | logDrain (ring : Fin 64)
  /-- KEY_LOAD (R366): A job that writes a seal key slot and zeros the key bytes in the descriptor. -/
  | keyLoad (ring : Fin 64)
  /-- FAULT_ACK (R406): A job that acknowledges the pending faults of the selected classes up to FSEQ. -/
  | faultAck (ring : Fin 64)
  /-- KERB_FORCE_RELEASE (R414): KERB_FORCE with MODE 0 returns the masked outputs to RUN unless a bound fault holds them. -/
  | kerbForceRelease (ring : Fin 64)
  /-- KERB_FORCE_LEVEL (R414): KERB_FORCE with MODE 1 forces the masked outputs to their LEVEL bits. -/
  | kerbForceLevel (ring : Fin 64)
  /-- KERB_FORCE_SAFE (R414): KERB_FORCE with MODE 2 forces the masked outputs to their safe levels. -/
  | kerbForceSafe (ring : Fin 64)
  /-- EPOCH_NOW (R367): A job that closes the current epoch, or completes at once while SNAP_EN is 0. -/
  | epochNow (ring : Fin 64)
  /-- BAD_OP (R358): A descriptor with a reserved OP completes at once with status BAD_OP. -/
  | badOp (ring : Fin 64)
  /-- COMPLETION_RECORD_WRITE (R373): A due completion record is written once its CQ has room, in index order. -/
  | completionRecordWrite (cq : Fin 64)
  /-- HOST_READ_TIMEOUT (R348): A read to host memory does not complete within 50 ms and is handled by the unit that issued it. -/
  | hostReadTimeout (reader : HostReader)
  /-- RESUME (R378): A write of HOST_CTRL.RESUME reconciles the rings, writes the ACCEPT records and resumes the jobs. -/
  | resume (hw : List (Nat × Byte))
  /-- ABANDON (R379): A write of HOST_CTRL.ABANDON drops the unfinished jobs and records and restarts every ring at index 0. -/
  | abandon
  /-- RING_ENABLE (R380): A ring CFG write that changes EN from 0 to 1 without ZERO resumes the ring and clears a halt. -/
  | ringEnable (kind : RingKind) (ring : Fin 64) (value : W32)
  /-- RING_ENABLE_ZERO (R380): A ring CFG write of EN = 1 with ZERO restarts the index at 0 and clears a halt. -/
  | ringEnableZero (kind : RingKind) (ring : Fin 64) (value : W32)
  /-- RING_DISABLE (R380): A ring CFG write of EN = 0 stops fetching or writing at once. -/
  | ringDisable (kind : RingKind) (ring : Fin 64) (value : W32)
  /-- CONFIG_REQUEST (R348): A PCIe configuration request is served by the MGC, or retried before READY. -/
  | configRequest (write : Bool) (reg : CfgReg) (value : W32)
  /-- D3HOT_ENTRY (R394): A configuration write to D3hot completes after the EVC writes, flushes and signals. -/
  | d3hotEntry
  /-- BAR2_READ (R352): A BAR2 read returns module memory, or Unsupported Request while BAR2 is disabled. -/
  | bar2Read (offset : W32)
  /-- BAR2_WRITE (R352): A BAR2 write lands in module memory, or is discarded and counted. -/
  | bar2Write (offset : W32) (bytes : List Byte)
  /-- REGISTER_WRITE (R17): A BAR0 write to a register without behaviour of its own stores its fields, or is discarded and counted. -/
  | registerWrite (offset : Nat) (bytes : List Byte)
  /-- RC_READ (R14): A read of an RC field returns its value and then clears it. -/
  | rcRead (offset : Nat) (size : Nat)
  /-- TIME_NOW_LO_READ (R14): A read of TIME_NOW_LO latches TIME_NOW_HI. -/
  | timeNowLoRead
  /-- CONV_SYSREF_TLO_READ (R283): A read of CONV_SYSREF_TLO latches CONV_SYSREF_THI. -/
  | convSysrefTloRead
  /-- FAULT_SEQ_LO_READ (R402): A read of FAULT_SEQ_LO latches FAULT_SEQ_HI. -/
  | faultSeqLoRead
  /-- FAULT_SRC_TIME_LO_READ (R408): A read of a FIRST_LO or LAST_LO cause-record time latches its HI. -/
  | faultSrcTimeLoRead (src : Fin 64) (last : Bool)
  /-- CONT_EPOCH_LO_READ (R435): A read of CONT_EPOCH_LO latches CONT_EPOCH_HI. -/
  | contEpochLoRead
  /-- QMAP_WRITE (R30): A software write of a GLOBAL_QMAPk register, discarded if a hardware substitution lands in the same cycle. -/
  | qmapWrite (k : Fin 16) (value : W32) (substitution : Bool)
  /-- EVENT_INTAKE (R382): An event enters the EVC intake and is staged, masked or lost. -/
  | eventIntake
  /-- EQ_RECORD_WRITE (R384): A staged event record is written to its EQ once the ring can take it. -/
  | eqRecordWrite (eq : Fin 16)
  /-- MSIX_SEND (R389): The EVC sends the MSI-X message of a due ring whose PRIO exceeds the running priority and pushes it. -/
  | msixSend
  /-- COALESCE_TIME_DUE (R388): The oldest unsignalled record of a ring reaches TIME µs, and the ring becomes due. -/
  | coalesceTimeDue (ring : Fin 80)
  /-- EVC_EOI (R390): A write of EVC_EOI pops the top stack entry and issues the ring's head read. -/
  | evcEoi (value : W32)
  /-- HEAD_READ_RETURN (R391): A head read returns, and the ring becomes due if records remain unconsumed. -/
  | headReadReturn (ring : Fin 80) (hw : List (Nat × Byte))
  /-- EVC_FLUSH (R393): Before an L1 request, every ring holding unsignalled records becomes due. -/
  | evcFlush
  /-- EVC_SRC_MASK (R382): A write of EVC_SRCn.EN from 1 to 0 masks the source and opens the LATE window. -/
  | evcSrcMask (src : Fin 256) (value : W32)
  /-- EVC_SRC_UNMASK (R382): A write of EVC_SRCn.EN = 1 unmasks the source from the next cycle. -/
  | evcSrcUnmask (src : Fin 256) (value : W32)
  /-- WAKE_INPUT (R396): A filtered wake input sets its CAUSE bit and may restart the management domain. -/
  | wakeInput (input : Fin 32)
  /-- CORNER_WAKE_TIMER_WRITE (R397): A write of CORNER_WAKE_TIMER restarts or stops the Corner timer. -/
  | cornerWakeTimerWrite (value : W32)
  /-- CORNER_TIMER_EXPIRE (R397): The Corner timer reaches 0, sets CAUSE bit 24 and stops. -/
  | cornerTimerExpire
  /-- FAULT_DETECT (R398): A detection reaches the Fault Hub, which classifies it, escalates it and runs the reaction of its class. -/
  | faultDetect (det : Detection)
  /-- CLASS_CLEAR (R407): FAULT_QUIET passes without faults, and the class clears and releases its AUTO Kerbs. -/
  | classClear (cls : Fin 3)
  /-- F0_NOW_CLEAR (R408): NOW of an F0 source returns to 0 FAULT_QUIET ms after its last detection. -/
  | f0NowClear (src : Fin 8)
  /-- SHADOW_WINDOW_END (R409): A reaction's shadow window closes FAULT_SHADOW µs after the reaction completes. -/
  | shadowWindowEnd
  /-- HEARTBEAT_SEND (R401): The Fault Hub sends its 100 µs heartbeat to the Quarters of running Districts. -/
  | heartbeatSend (answers : List (Fin 68))
  /-- HEARTBEAT_TIMEOUT (R401): A Quarter does not answer the heartbeat within 100 µs, and QTR_HANG is raised. -/
  | heartbeatTimeout (q : Fin 68)
  /-- KERB_IN_EDGE (R417): A filtered KERB_IN edge enters the active level and raises its source. -/
  | kerbInEdge (input : Fin 8) (level : Bool)
  /-- KERB_OUT_ENABLE (R414): A write of KERB_OUTn_CFG.EN from 0 to 1 puts the output in SAFE_SW. -/
  | kerbOutEnable (out : Fin 16) (value : W32)
  /-- KERB_OUT_DISABLE (R414): A write of KERB_OUTn_CFG.EN = 0 turns the output OFF, except in SAFE_GRAVE. -/
  | kerbOutDisable (out : Fin 16) (value : W32)
  /-- FAULT_INJ_N_WRITE (R418): A write of FAULT_INJ_N arms the selected checker for N checks, or disarms it. -/
  | faultInjNWrite (value : W32)
  /-- FAULT_INJ_SEL_WRITE (R418): A write of FAULT_INJ_SEL moves the remaining armed checks to the new checker. -/
  | faultInjSelWrite (value : W32)
  /-- EPOCH_CLOSE_START (R423): The Host Gate starts the close of an epoch and broadcasts CLOSE. -/
  | epochCloseStart
  /-- QUARTER_CUT (R424): CLOSE or the first MARKER reaches a Quarter: it shadows its state, sets PENDING and sends CLOSE MARKERs. -/
  | quarterCut (x : CutAt)
  /-- GATE_MARK (R424): A Gate receives CLOSE, writes a MARK record and sends CLOSE MARKERs. -/
  | gateMark (gate : Fin 4)
  /-- MARKER_ARRIVE (R427): A CLOSE MARKER from one sender reaches a Quarter and ends its part of the channel record. -/
  | markerArrive (q : Fin 68) (x : LaneAt)
  /-- EPOCH_DONE (R428): Every snapshot part is written, EPOCH_DONE is journaled, and the anchor moves. -/
  | epochDone
  /-- FLUSH_MARKER_ARRIVE (R439): A FLUSH MARKER reaches a closure Quarter, which stops discarding once every sender's has arrived. -/
  | flushMarkerArrive (q : Fin 68) (x : LaneAt)
  /-- ROLLBACK_RESTORE_DONE (R439): The closure has been restored, and replay from the journal starts. -/
  | rollbackRestoreDone
  /-- ROLLBACK_REJOIN (R439): Replay reaches live input, live injection resumes and RECOVERING clears. -/
  | rollbackRejoin
  /-- RECOVERY_SLOW (R441): A rollback has not rejoined within 3 × LEN, so it is counted and the event is raised. -/
  | recoverySlow
  /-- LEDGER_ROOM_FREED (R435): Journal space frees, and the writers waiting for room go on. -/
  | ledgerRoomFreed
  /-- STOP_READ (R328): A Stop serves a read of module memory, correcting or poisoning and counting errors. -/
  | stopRead (ma : Nat) (upset : Fin 3)
  /-- STOP_WRITE (R328): A Stop serves a write of module memory, merging partial lines. -/
  | stopWrite (ma : Nat) (x : MergeBytes)
  /-- SWEEPER_PAGE (R334): At its interval the Sweeper reads a page, or borrows it for the pattern test. -/
  | sweeperPage (stop : Fin 8) (upsets : List (Fin 64 × Fin 3))
  /-- BORROW_RESTORE (R335): A pattern test ends, and the buffer is written back or the page is retired. -/
  | borrowRestore (stop : Fin 8) (mismatch : Bool)
  /-- SWEEP_REVISIT (R337): The Sweeper revisits a page 10 ms after an aborted borrow. -/
  | sweepRevisit (x : SweepAt)
  /-- CE_HISTORY_EXPIRE (R331): A history entry expires 24 h after its first corrected error. -/
  | ceHistoryExpire (stop : Fin 8)
  /-- LOG_TOKEN (R339): The Archive takes a LOG token and writes a record into the open block, or discards or holds it when the ring is full. -/
  | logToken
  /-- BLOCK_CLOSE_TIMER (R340): The open block's first record reaches CLOSE_MS, and the block closes. -/
  | blockCloseTimer
  /-- SEAL_START (R341): The seal engine starts sealing the next closed block with the active key. -/
  | sealStart
  /-- SEAL_DONE (R341): A seal finishes after 65,792 cycles, and the block's TAG is written. -/
  | sealDone
  /-- CONV_SETTLE (R279): A write of CONV_LINKk_CTRL.SETTLE runs the ID script and tries the profile entries. -/
  | convSettle (link : Fin 8) (value : W32) (spi : List Byte)
  /-- PRBS_DWELL_END (R280): The PRBS dwell of an entry ends, and the entry is accepted or the next one is tried. -/
  | prbsDwellEnd (link : Fin 8) (eyes : List (Nat × Bool)) (spi : List Byte)
  /-- CONV_STOP (R279): A write of CONV_LINKk_CTRL.STOP turns the link OFF and releases its slots. -/
  | convStop (link : Fin 8) (value : W32)
  /-- ALIGN_COMPLETE (R282): Alignment completes, or fails the ILAS check, and the link enters DATA or FAILED. -/
  | alignComplete (link : Fin 8) (ilas : List (List Byte))
  /-- ALIGN_TIMEOUT (R282): Alignment has not completed within 100 ms, and the link fails with ILAS. -/
  | alignTimeout (link : Fin 8)
  /-- SYSREF_EDGE (R283): A SYSREF edge is timestamped, and it aligns or checks or resyncs the subclass 1 links. -/
  | sysrefEdge (wait : Nat)
  /-- RX_FRAME_ARRIVE (R289): A receive frame is accepted into staging and journaled, or it overruns and leaves a gap. -/
  | rxFrameArrive (link : Fin 8) (words : List W32) (err : LaneErr)
  /-- FRAME_RELEASE (R284): A receive frame is released from the elastic buffer and timestamped, and its tokens are queued. -/
  | frameRelease (link : Fin 8)
  /-- STAGING_INJECT (R285): The Converter Gate injects one token from staging per cycle, including paired twins and placeholders. -/
  | stagingInject (link : Fin 8)
  /-- TX_FRAME_BUILD (R284): A transmit frame is built at its boundary from the drive buffer. -/
  | txFrameBuild (link : Fin 8)
  /-- DRIVE_TOKEN (R293): The Converter Gate takes a DRIVE token and stores it or discards it as late, early, poisoned or duplicate. -/
  | driveToken
  /-- DRIVE_DEADLINE (R293): D(NEXT) passes, NEXT advances, and an empty index plays its late policy. -/
  | driveDeadline (ch : Fin 512)
  /-- LANE_LOCK_LOSS (R287): A receive link loses lock and realigns, injecting placeholders, or enters SAFE. -/
  | laneLockLoss (link : Fin 8) (frames : Nat)
  /-- LANE_DEAD_TIMEOUT (R287): A receive link has no lock for 10 ms and enters SAFE with LANE_DEAD. -/
  | laneDeadTimeout (link : Fin 8)
  /-- CONV_SLOT_DIR_WRITE (R273): A write of CONV_SLOT_DIR changes slot directions at once. -/
  | convSlotDirWrite (value : W32)
  /-- CHANNEL_BIND_ENABLE (R291): A write of binding EN from 0 to 1 starts the channel at IDX 0 from the next frame. -/
  | channelBindEnable (ch : Fin 4104) (value : W32)
  /-- CHANNEL_BIND_DISABLE (R291): A write of binding EN = 0 stops the staging of the channel's samples. -/
  | channelBindDisable (ch : Fin 4104) (value : W32)
  /-- DRIVE_CHANNEL_DISABLE (R292): A write of CONV_OUTBd_CTRL.EN = 0 plays SAFE_VALUE from the next frame. -/
  | driveChannelDisable (ch : Fin 512) (value : W32)
  /-- CONV_SPI_RUN (R278): A write of CONV_SPI_RUN starts a host SPI script, or is refused. -/
  | convSpiRun (value : W32)
  /-- SPI_SCRIPT_END (R278): A host SPI script ends, and DONE, RESULT and OP are set. -/
  | spiScriptEnd (spi : List Byte)
  /-- COLIR_PORT_ENABLE (R305): A write of COLIR_PORTp_CTRL.EN from 0 to 1 enters DETECT. -/
  | colirPortEnable (port : Fin 4) (value : W32)
  /-- COLIR_PORT_DISABLE (R305): A write of EN = 0 turns the port off and discards its replay buffer. -/
  | colirPortDisable (port : Fin 4) (value : W32)
  /-- RENEG (R305): A write of RENEG enters DETECT and keeps the replay buffer. -/
  | reneg (port : Fin 4) (value : W32)
  /-- COLIR_BLOCK_LOCK (R305): Lane 0 locks in DETECT, and the port enters CAPS. -/
  | colirBlockLock (port : Fin 4) (signal : BitVec 4)
  /-- CAPS_CELL_SEND (R305): A port in CAPS sends its capability cell every 1 µs. -/
  | capsCellSend (port : Fin 4)
  /-- CAPS_CELL_RECEIVE (R307): A CAPS cell arrives and may complete CAPS, check the partner and choose the mode. -/
  | capsCellReceive (port : Fin 4) (cell : RxCell)
  /-- CAPS_TIMEOUT (R305): CAPS has not completed within 10 ms, so the port returns to DETECT. -/
  | capsTimeout (port : Fin 4)
  /-- TRAIN_DWELL_END (R309): A TRAIN dwell ends, and the lanes, rate and FEC are settled or training repeats. -/
  | trainDwellEnd (port : Fin 4) (laneOk : BitVec 4) (errSeen : Bool) (partner : W64)
  /-- COLIR_CELL_SEND (R304): A port sends its next cell, chosen by priority and credits. -/
  | colirCellSend (port : Fin 4)
  /-- TOKEN_CELL_RECEIVE (R314): A TOKEN cell arrives and is injected locally or passed on in transit, with CRC and order checks. -/
  | tokenCellReceive (port : Fin 4) (cell : RxCell)
  /-- EVENT_CELL_RECEIVE (R387): An EVENT cell arrives and is staged as a forwarded record. -/
  | eventCellReceive (port : Fin 4) (cell : RxCell)
  /-- LEDGER_CELL_RECEIVE (R323): A mirrored Ledger record arrives. -/
  | ledgerCellReceive (port : Fin 4) (cell : RxCell)
  /-- NOTIFY (R320): A DISP NOTIFY decrements a context on this module. -/
  | dispNotify (port : Fin 4) (cell : RxCell)
  /-- ROUND_REQ (R319): A DISP ROUND_REQ makes a member run its round and answer. -/
  | roundReq (port : Fin 4) (cell : RxCell)
  /-- ROUND_REP (R319): A DISP ROUND_REP brings a member's L and X to the home. -/
  | roundRep (port : Fin 4) (cell : RxCell)
  /-- COMPLETE (R319): A DISP COMPLETE makes a member complete with the home's status. -/
  | dispComplete (port : Fin 4) (cell : RxCell)
  /-- COLLECT (R319): A DISP COLLECT makes a member collect and report orphans. -/
  | collect (port : Fin 4) (cell : RxCell)
  /-- COLLECT_DONE (R319): A DISP COLLECT_DONE brings a member's orphan count to the home. -/
  | collectDone (port : Fin 4) (cell : RxCell)
  /-- CANCEL (R319): A DISP CANCEL makes a member cancel the spanning context. -/
  | dispCancel (port : Fin 4) (cell : RxCell)
  /-- DISP_BAD (R318): A DISP cell with OP 7 to 15 is discarded and counted. -/
  | dispBad (port : Fin 4) (cell : RxCell)
  /-- TIME_CELL_SEND (R321): The controller end sends a TIME cell every 1 ms. -/
  | timeCellSend (port : Fin 4)
  /-- TIME_CELL_RECEIVE (R321): A TIME cell arrives, and the target answers and computes delay and offset. -/
  | timeCellReceive (port : Fin 4) (cell : RxCell)
  /-- NAK_RECEIVE (R302): A NAK arrives, and the sender replays from the named cell. -/
  | nakReceive (port : Fin 4) (cell : RxCell)
  /-- ACK_TIMEOUT (R302): No ACK advances for 2 µs, and the sender replays from the oldest cell. -/
  | ackTimeout (port : Fin 4)
  /-- COLIR_LANE_RETIRE (R310): A failing lane is retired, and the port restripes over the remaining lanes. -/
  | colirLaneRetire (port : Fin 4) (lane : Fin 4)
  /-- RESTRIPE_DONE (R310): Restriping ends, the port returns to ACTIVE and replays. -/
  | restripeDone (port : Fin 4)
  /-- COLIR_RATE_FALLBACK (R311): More than 1,000 CRC failures in 1 s step the rate down and turn FEC on. -/
  | colirRateFallback (port : Fin 4)
  /-- COLIR_PORT_LOST (R312): A port not ACTIVE 100 ms after leaving ACTIVE is lost, an F3. -/
  | colirPortLost (port : Fin 4)
  /-- SPAN_GIVEUP (R319): A member does not answer COLLECT within 10 ms and is given up. -/
  | spanGiveup (ctx : Nat) (member : Fin 16)
  /-- MIRROR_GAP (R323): A mirror record held for more than 1 ms is dropped from the mirror. -/
  | mirrorGap
  /-- POWER_TARGET_RUN (R455): A write of POWER_CTRL.TARGET = RUN sets the rest levels of RUN. -/
  | powerTargetRun (value : W32)
  /-- POWER_TARGET_LOGKEEP (R455): A write of TARGET = LOGKEEP keeps one District and sends the others OFF at rest. -/
  | powerTargetLogkeep (value : W32)
  /-- POWER_TARGET_NAP (R455): A write of TARGET = NAP makes STOPPED the shallowest rest level. -/
  | powerTargetNap (value : W32)
  /-- POWER_TARGET_SLEEP (R456): A write of TARGET = SLEEP sets SLEEP_PENDING. -/
  | powerTargetSleep (value : W32)
  /-- SLEEP_WAKE (R457): An enabled wake event brings the module out of SLEEP. -/
  | sleepWake
  /-- DISTRICT_REST_ENTRY (R455): A District idle for IDLE_US starts entry into its rest level. -/
  | districtRestEntry (d : Fin 8)
  /-- OFF_ENTRY_DONE (R459): The OFF image is written and the District's power switch opens. -/
  | offEntryDone (x : SaveAt)
  /-- DISTRICT_WAKE_REQUEST (R461): A wake request reaches a sleeping District, or cancels its entry. -/
  | districtWakeRequest (d : Fin 8)
  /-- DISTRICT_WAKE_DONE (R458): A District's wake completes, its state restored, and it runs. -/
  | districtWakeDone (d : Fin 8)
  /-- VIN_WARN (R453): VIN falls below VIN_WARN: the Kerbs may be forced safe and the log block sealed. -/
  | vinWarn (mv : Fin 65536)
  /-- UVLO (R452): VIN falls below UVLO, and all state is lost. -/
  | uvlo (mv : Fin 65536)
  /-- OVERVOLTAGE_SHUTDOWN (R451): VIN above 19.5 V for 10 µs shuts the module down as UVLO. -/
  | overvoltageShutdown (mv : Fin 65536)
  /-- POR (R469): Power-on reset on leaving UVLO or over-voltage shutdown. -/
  | por (mv : Fin 65536) (clkrefOk : Bool)
  /-- RST_LONG (R469): RST_N held low for 100 ms or more: a cold reset. -/
  | rstLong (clkrefOk : Bool)
  /-- RST_SHORT (R469): RST_N low for less than 100 ms: a warm reset. -/
  | rstShort (clkrefOk : Bool)
  /-- PERST (R469): PERST_N assertion: a warm reset, except under R456. -/
  | perst (clkrefOk : Bool)
  /-- HOT (R469): PCIe hot reset: a warm reset. -/
  | hot (clkrefOk : Bool)
  /-- FLR (R469): Function level reset: a warm reset. -/
  | flr (clkrefOk : Bool)
  /-- WDOG (R469): The MGC watchdog expires: a warm reset. -/
  | wdog (clkrefOk : Bool)
  /-- READY (R475): Boot completes and the MGC reports READY. -/
  | ready
  /-- BOOT_ROM_IMAGE_LOAD (R474): With no valid slot, the boot ROM accepts an image over the UART. -/
  | bootRomImageLoad (image : List Byte)
  /-- POWER_NOR_UPD (R476): A write of POWER_NOR_UPD starts verifying and writing a new boot image into the other slot. -/
  | powerNorUpd (value : W32)
  /-- NOR_UPDATE_DONE (R476): The NOR update finishes, and UPD reads done or failed. -/
  | norUpdateDone
  /-- REFCLK_SWITCH (R463): CLKREF_IN stops or drifts out of range, and the module switches to the internal oscillator. -/
  | refclkSwitch
  /-- THERMAL_STEP_DOWN (R467): A hot sensor steps its Districts down one step every 100 µs. -/
  | thermalStepDown (sensor : Fin 10) (celsius : BitVec 8)
  /-- THERMAL_STEP_UP (R467): A cooled District steps back up one step every 10 ms. -/
  | thermalStepUp (sensor : Fin 10) (celsius : BitVec 8)
  /-- FREQ_DECISION (R466): At an epoch close, or every LEN µs, a District's frequency steps by load. -/
  | freqDecision (d : Fin 8) (loadPct : Nat)
  /-- FREQ_STEP_DONE (R464): A 2 µs frequency step completes. -/
  | freqStepDone (d : Fin 8)
  /-- AVS_STEP (R466): AVS moves VCORE by the timing monitors, overriding MAX_MV if it must. -/
  | avsStep (needMv : Nat) (d : Fin 8)
  /-- TIME_IN_EDGE (R468): A TIME_IN rising edge measures the offset of TIME_NS, and it is stepped or slewed. -/
  | timeInEdge
  /-- TIME_SET_LO (R468): A write of TIME_SET_LO steps TIME_NS to TIME_SET_HI:LO. -/
  | timeSetLo (value : W32)
  /-- TIME_LOCK_TIMEOUT (R468): 2 s without an offset clear LOCKED, and TIME_NS runs free. -/
  | timeLockTimeout
  /-- TIME_OUT_PULSE (R468): At each multiple of 10^9 ns, TIME_OUT goes high for OUT_W. -/
  | timeOutPulse
  /-- CLEAR_FAULTS (R494): PMBus CLEAR_FAULTS clears CML and PMB_ALERT_N. -/
  | clearFaults
  /-- CAPABILITY (R494): PMBus CAPABILITY returns 0xB0. -/
  | capability
  /-- STATUS_WORD (R494): PMBus STATUS_WORD returns CML, TEMPERATURE and VIN_UV. -/
  | statusWord
  /-- READ_VIN (R494): PMBus READ_VIN returns VIN. -/
  | readVin
  /-- READ_TEMPERATURE_1 (R494): PMBus READ_TEMPERATURE_1 returns the hottest District sensor. -/
  | readTemperature1
  /-- READ_TEMPERATURE_2 (R494): PMBus READ_TEMPERATURE_2 returns the Gate-column sensor. -/
  | readTemperature2
  /-- READ_TEMPERATURE_3 (R494): PMBus READ_TEMPERATURE_3 returns the power-stage sensor. -/
  | readTemperature3
  /-- READ_PIN (R494): PMBus READ_PIN returns input power. -/
  | readPin
  /-- PMBUS_REVISION (R494): PMBus PMBUS_REVISION returns 0x33. -/
  | pmbusRevision
  /-- PMBUS_INVALID_COMMAND (R494): An unknown PMBus command, or a write to a read-only one, is NACKed and sets CML. -/
  | pmbusInvalidCommand (code : Byte) (write : Bool)
  /-- IDLE_CELL_RECEIVE (R303): An IDLE cell arrives at a Colir port and its ACK and its TCRED and OCRED credit counts are applied, or it fails CRC and is counted. -/
  | idleCellReceive (port : Fin 4) (cell : RxCell)
  /-- VIN_WARN_REARM (R453): VIN rises 200 mV above VIN_WARN, the warning re-arms and the PMBus VIN_UV bit clears. -/
  | vinWarnRearm (mv : Fin 65536)
  /-- RESET_RELEASE (R469): The later of RST_N and PERST_N rises, and boot starts. -/
  | resetRelease
deriving DecidableEq, Repr

end Sys2Proof
end

