-- ==== Sys2Proof/Decode.lean ====
section
/-! DEFINITION. The strand instruction words of R127 to R131: the forms, the opcode map, what makes a word illegal, and
the encoder. `decodeTableWord` answers for the table of commands, none of whose rows gives bits. -/

namespace Sys2Proof

/-- No row of the command table gives bits, so no word spells a command. -/
def decodeTableWord (_nbits _w : Nat) : Option Instr := none

/-- The fields of a strand instruction by form (R127, R130). -/
inductive Fields where
  | r (rd ra rb : BitVec 5) (rm : BitVec 3) (w : BitVec 2)
  | i (rd ra : BitVec 5) (imm : BitVec 13) (ext : Option W32)
  | b (ra rb : BitVec 5) (off : BitVec 14)
  | j (target : BitVec 15)
  | loop (n : BitVec 2) (rc : BitVec 5) (len : BitVec 12)
  | loopi (n : BitVec 2) (cnt : BitVec 10) (len : BitVec 12)
  | send (rv rt : BitVec 5) (kind : BitVec 4) (fmt gop : BitVec 3) (port : BitVec 2) (sp : BitVec 1) (ext : Option W32)
  | lbrk (n : BitVec 2)
  | rep (count : BitVec 12)
  | mfs (rd sr : BitVec 5)
  | mts (sr ra : BitVec 5)
  | trap (code : BitVec 16)
  | plain
deriving DecidableEq, Repr

/-- A strand instruction: its primary opcode and its fields. -/
structure SInstr where
  op : BitVec 8
  f  : Fields
deriving DecidableEq, Repr

/-- What the opcode map says of a row (R130). In an R row `w` is the largest W it allows, `rm` whether RM is used and
`rb` whether RB is. In an I row `ra` and `rd` say whether those fields are used. In a B row `rb` and `off` do. -/
inductive Shape where
  | r (w : Nat) (rm rb : Bool)
  | cvt
  | i (rd ra : Bool)
  | b (rb off : Bool)
  | j | loop | loopi | send | lbrk | rep | mfs | mts | trap | plain
deriving DecidableEq, Repr

/-- The opcode map (R130); none for an undefined opcode. -/
def shapeOf (op : Nat) : Option Shape :=
  if op = 0x01 ∨ op = 0x02 ∨ op = 0x12 ∨ op = 0x13 then some (.r 1 false true)          -- ADD SUB MIN MAX
  else if 0x03 ≤ op ∧ op ≤ 0x19 then some (.r 0 false true)
  else if 0x1A ≤ op ∧ op ≤ 0x1C then some (.r 0 false false)                            -- CLZ CTZ POPC
  else if op = 0x2D then some (.i true false)                                           -- LI
  else if 0x20 ≤ op ∧ op ≤ 0x2C then some (.i true true)
  else if op = 0x34 ∨ op = 0x43 then some (.r 2 true false)                             -- FSQRT FRINT
  else if 0x30 ≤ op ∧ op ≤ 0x38 then some (.r 2 true true)
  else if 0x39 ≤ op ∧ op ≤ 0x3E then some (.r 2 false true)                             -- FMIN to FCMPUN
  else if 0x3F ≤ op ∧ op ≤ 0x41 then some (.r 2 false false)                            -- FABS FNEG FCLASS
  else if op = 0x42 then some .cvt
  else if 0x50 ≤ op ∧ op ≤ 0x53 then some (.i true true)
  else if op = 0x54 then some (.i false true)                                           -- MKE
  else if op = 0x55 ∨ op = 0x56 then some (.r 0 false true)                             -- BSET BCLR
  else if op = 0x60 then some .send
  else if 0x70 ≤ op ∧ op ≤ 0x75 then some (.b true true)
  else if 0x76 ≤ op ∧ op ≤ 0x79 then some (.b false true)
  else if op = 0x7A ∨ op = 0x7C then some .j
  else if op = 0x7B ∨ op = 0x7D then some (.b false false)                              -- JR CALLR
  else if op = 0x80 then some .loop
  else if op = 0x81 then some .loopi
  else if op = 0x82 then some .lbrk
  else if op = 0x83 then some .rep
  else if op = 0x85 then some .mfs
  else if op = 0x86 then some .mts
  else if op = 0x88 then some .trap
  else if op = 0x7E ∨ op = 0x84 ∨ op = 0x87 ∨ op = 0x89 ∨ op = 0x8A then some .plain    -- RET REPR FENCE HALT NOP
  else none

/-- The first word of an instruction (R127, R130); every reserved bit is 0. -/
def encodeWord (x : SInstr) : W32 :=
  match x.f with
  | .r rd ra rb rm w => x.op ++ rd ++ ra ++ rb ++ rm ++ w ++ 0#4
  | .i rd ra imm ext => x.op ++ rd ++ ra ++ BitVec.ofBool ext.isSome ++ imm
  | .b ra rb off => x.op ++ ra ++ rb ++ off
  | .j target => x.op ++ 0#9 ++ target
  | .loop n rc len => x.op ++ n ++ rc ++ 0#5 ++ len
  | .loopi n cnt len => x.op ++ n ++ cnt ++ len
  | .send rv rt kind fmt gop port sp ext => x.op ++ rv ++ rt ++ kind ++ fmt ++ gop ++ port ++ sp ++ BitVec.ofBool ext.isSome
  | .lbrk n => x.op ++ n ++ 0#22
  | .rep count => x.op ++ 0#12 ++ count
  | .mfs rd sr => x.op ++ rd ++ 0#5 ++ sr ++ 0#9
  | .mts sr ra => x.op ++ 0#5 ++ ra ++ sr ++ 0#9
  | .trap code => x.op ++ 0#8 ++ code
  | .plain => x.op ++ 0#24

/-- The extension word of an instruction, if it has one (R128). -/
def SInstr.ext (x : SInstr) : Option W32 :=
  match x.f with
  | .i _ _ _ e => e
  | .send _ _ _ _ _ _ _ e => e
  | _ => none

/-- The words of an instruction: one, or two with an extension word (R128). -/
def encodeStrand (x : SInstr) : List W32 := encodeWord x :: x.ext.toList

/-- The special registers that MFS reads (R125, R126). -/
def mfsDefined (sr : Nat) : Bool := sr ≤ 22
/-- The special registers that MTS writes (R125, R126). -/
def mtsDefined (sr : Nat) : Bool := sr ≤ 17

/-- The opcodes that may not follow a REP or REPR (R152). -/
def repForbids (op : Nat) : Bool :=
  (0x70 ≤ op && op ≤ 0x7E) || (0x80 ≤ op && op ≤ 0x84) || op == 0x88 || op == 0x89

/-- The instruction is legal on its own: the conditions of R131 but for the reserved bits, which have no field here, and
for R152, which names the word that follows. -/
def SInstr.legal (x : SInstr) : Bool :=
  match shapeOf x.op.toNat, x.f with
  | some (.r wmax rm rb), .r _ _ rbv rmv wv =>
    wv.toNat ≤ wmax && (if rm then rmv.toNat ≤ 5 else rmv == 0#3) && (rb || rbv == 0#5)
  | some .cvt, .r _ _ rbv rmv wv => wv == 0#2 && rmv.toNat ≤ 5 && rbv.toNat ≤ 11
  | some (.i rd ra), .i rdv rav imm ext => (rd || rdv == 0#5) && (ra || rav == 0#5) && (ext.isNone || imm == 0#13)
  | some (.b rb off), .b _ rbv offv => (rb || rbv == 0#5) && (off || offv == 0#14)
  | some .j, .j _ => true
  | some .loop, .loop _ _ len => len != 0#12
  | some .loopi, .loopi _ _ len => len != 0#12
  | some .send, .send _ _ _ _ _ _ _ ext => match ext with
    | none => true
    | some e => e.extractLsb' 12 2 != 3#2                       -- IOP 3 (R131)
  | some .lbrk, .lbrk _ => true
  | some .rep, .rep _ => true
  | some .mfs, .mfs _ sr => mfsDefined sr.toNat
  | some .mts, .mts sr _ => mtsDefined sr.toNat
  | some .trap, .trap _ => true
  | some .plain, .plain => true
  | _, _ => false

/-- The fields a word spells in the form its opcode names; `nxt` is the word that follows it. -/
def fieldsOf (sh : Shape) (w nxt : W32) : Fields :=
  match sh with
  | .r _ _ _ | .cvt =>
    .r (w.extractLsb' 19 5) (w.extractLsb' 14 5) (w.extractLsb' 9 5) (w.extractLsb' 6 3) (w.extractLsb' 4 2)
  | .i _ _ => .i (w.extractLsb' 19 5) (w.extractLsb' 14 5) (w.extractLsb' 0 13) (if w.getLsbD 13 then some nxt else none)
  | .b _ _ => .b (w.extractLsb' 19 5) (w.extractLsb' 14 5) (w.extractLsb' 0 14)
  | .j => .j (w.extractLsb' 0 15)
  | .loop => .loop (w.extractLsb' 22 2) (w.extractLsb' 17 5) (w.extractLsb' 0 12)
  | .loopi => .loopi (w.extractLsb' 22 2) (w.extractLsb' 12 10) (w.extractLsb' 0 12)
  | .send => .send (w.extractLsb' 19 5) (w.extractLsb' 14 5) (w.extractLsb' 10 4) (w.extractLsb' 7 3) (w.extractLsb' 4 3)
      (w.extractLsb' 2 2) (w.extractLsb' 1 1) (if w.getLsbD 0 then some nxt else none)
  | .lbrk => .lbrk (w.extractLsb' 22 2)
  | .rep => .rep (w.extractLsb' 0 12)
  | .mfs => .mfs (w.extractLsb' 19 5) (w.extractLsb' 9 5)
  | .mts => .mts (w.extractLsb' 9 5) (w.extractLsb' 14 5)
  | .trap => .trap (w.extractLsb' 0 16)
  | .plain => .plain

/-- The primary opcode of a word. -/
def opOf (w : W32) : BitVec 8 := w.extractLsb' 24 8

/-- Decodes the word `w` that `nxt` follows; none for an illegal instruction (R131, R152). A reserved bit that is set
makes the word differ from the encoding of its fields. -/
def decodeStrand (w nxt : W32) : Option SInstr :=
  match shapeOf (opOf w).toNat with
  | none => none
  | some sh =>
    let x : SInstr := ⟨opOf w, fieldsOf sh w nxt⟩
    if x.legal && encodeWord x == w &&
      !(((opOf w).toNat == 0x83 || (opOf w).toNat == 0x84) && repForbids (opOf nxt).toNat) then some x else none

/-- The length in words of the instruction that starts with a word, from its opcode and its X bit; 1 for an undefined
opcode (R146, R150). -/
def wordLength (w : W32) : Nat :=
  match shapeOf (opOf w).toNat with
  | some (.i _ _) => if w.getLsbD 13 then 2 else 1
  | some .send => if w.getLsbD 0 then 2 else 1
  | _ => 1

/-- An immediate of the I form, sign-extended to 64 bits (R128). -/
def immOf (imm : BitVec 13) (ext : Option W32) : W64 :=
  match ext with
  | none => imm.signExtend 64
  | some e => e.signExtend 64

/-- The registers an instruction reads (R130). -/
def SInstr.reads (x : SInstr) : List Nat :=
  let op := x.op.toNat
  match x.f with
  | .r rd ra rb _ _ =>
    ra.toNat :: ((match shapeOf op with | some (.r _ _ true) => [rb.toNat] | _ => []) ++
      (if op = 0x19 ∨ (0x35 ≤ op ∧ op ≤ 0x38) then [rd.toNat] else []))
  | .i rd ra _ _ => (if op = 0x2D then [] else [ra.toNat]) ++ (if op = 0x2C ∨ op = 0x52 ∨ op = 0x53 then [rd.toNat] else [])
  | .b ra rb _ => ra.toNat :: (if 0x70 ≤ op ∧ op ≤ 0x75 then [rb.toNat] else [])
  | .loop _ rc _ => [rc.toNat]
  | .send rv rt _ _ _ _ _ _ => [rv.toNat, rt.toNat]
  | .mts _ ra => [ra.toNat]
  | _ => []

/-- The registers an instruction writes (R130). -/
def SInstr.writes (x : SInstr) : List Nat :=
  match x.f with
  | .r rd _ _ _ _ => [rd.toNat]
  | .i rd _ _ _ => if x.op.toNat = 0x52 ∨ x.op.toNat = 0x53 ∨ x.op.toNat = 0x54 then [] else [rd.toNat]
  | .mfs rd _ => [rd.toNat]
  | _ => []

end Sys2Proof
end

