-- ==== Sys2Proof/Machine/Flags.lean ====
section
/-! DEFINITION. Integer and floating-point results and the flags they raise (R162 to R188), on numbers. A floating-point
value is an encoding of a format; every operation forms the exact value and rounds it once. -/

namespace Sys2Proof.Machine

-- FLAGS (R165)
/-- IDZ, integer division by zero. -/
def fIDZ : Nat := 0x200
/-- OV, signed division overflow. -/
def fOV : Nat := 0x100
/-- NV, invalid operation. -/
def fNV : Nat := 0x10
/-- DZ, division by zero. -/
def fDZ : Nat := 0x08
/-- OF, overflow. -/
def fOF : Nat := 0x04
/-- UF, underflow. -/
def fUF : Nat := 0x02
/-- NX, inexact. -/
def fNX : Nat := 0x01

/-- The IEEE formats (Formats and lanes): exponent and fraction bits. -/
structure Fmt where
  eb : Nat
  mb : Nat
deriving DecidableEq, Repr

/-- binary64 -/
def f64 : Fmt := ⟨11, 52⟩
/-- binary32 -/
def f32 : Fmt := ⟨8, 23⟩
/-- binary16 -/
def f16 : Fmt := ⟨5, 10⟩

/-- Width of an encoding. -/
def Fmt.width (f : Fmt) : Nat := f.eb + f.mb + 1
/-- The exponent of the last place of a subnormal. -/
def Fmt.emin (f : Fmt) : Int := 2 - (2 ^ (f.eb - 1) : Nat) - f.mb
/-- The exponent field of ∞ and NaN. -/
def Fmt.emaxField (f : Fmt) : Nat := 2 ^ f.eb - 1
/-- The canonical NaN (R168). -/
def Fmt.nan (f : Fmt) : Nat := (f.emaxField <<< f.mb) + 2 ^ (f.mb - 1)
/-- ∞ of a sign. -/
def Fmt.inf (f : Fmt) (s : Bool) : Nat := (b2n s <<< (f.eb + f.mb)) + (f.emaxField <<< f.mb)
/-- Zero of a sign. -/
def Fmt.zero (f : Fmt) (s : Bool) : Nat := b2n s <<< (f.eb + f.mb)
/-- The largest finite value M of a sign. -/
def Fmt.maxFin (f : Fmt) (s : Bool) : Nat := f.inf s - 1

/-- Rounding modes (R129, R167). -/
inductive RMode where
  | rne | rtz | rup | rdn | rmm
deriving DecidableEq, Repr

/-- The mode of a code 1 to 5 in RM (R129). -/
def RMode.ofRm : Nat → RMode
  | 2 => .rtz
  | 3 => .rup
  | 4 => .rdn
  | 5 => .rmm
  | _ => .rne

/-- The mode of FPCTL.RMODE (R163); 5 to 7 behave as RNE. -/
def RMode.ofFpctl : Nat → RMode
  | 1 => .rtz
  | 2 => .rup
  | 3 => .rdn
  | 4 => .rmm
  | _ => .rne

/-- What an encoding stands for: a NaN (signalling or not), an infinity, or ± m × 2^e exactly. -/
inductive FVal where
  | nan (signalling : Bool)
  | inf (neg : Bool)
  | fin (neg : Bool) (m : Nat) (e : Int)
deriving DecidableEq, Repr

/-- Sign bit of an encoding. -/
def Fmt.sign (f : Fmt) (x : Nat) : Bool := x.testBit (f.eb + f.mb)
/-- Exponent field. -/
def Fmt.expo (f : Fmt) (x : Nat) : Nat := bits x (f.eb + f.mb - 1) f.mb
/-- Fraction field. -/
def Fmt.frac (f : Fmt) (x : Nat) : Nat := x % 2 ^ f.mb

/-- The value of an encoding. -/
def Fmt.val (f : Fmt) (x : Nat) : FVal :=
  let e := f.expo x
  let m := f.frac x
  if e = f.emaxField then (if m = 0 then .inf (f.sign x) else .nan (!m.testBit (f.mb - 1)))
  else if e = 0 then .fin (f.sign x) m f.emin
  else .fin (f.sign x) (m + 2 ^ f.mb) (f.emin + (e - 1 : Nat))

/-- Whether an encoding is a non-zero subnormal. -/
def Fmt.subnormal (f : Fmt) (x : Nat) : Bool := f.expo x == 0 && f.frac x != 0

/-- DAZ: a subnormal operand is read as a zero of its sign (R173). -/
def Fmt.daz (f : Fmt) (on : Bool) (x : Nat) : Nat := if on && f.subnormal x then f.zero (f.sign x) else x

/-- m × 2^e rounded to a multiple of 2^q: the multiple, and whether it is inexact (R167). -/
def roundAt (mode : RMode) (neg : Bool) (m : Nat) (e q : Int) : Nat × Bool :=
  if q ≤ e then (m <<< (e - q).toNat, false)
  else
    let r := (q - e).toNat
    let hi := m >>> r
    let lo := m % 2 ^ r
    let half := 2 ^ (r - 1)
    if lo = 0 then (hi, false)
    else
      let up := match mode with
        | .rne => half < lo || (lo == half && hi % 2 == 1)
        | .rtz => false
        | .rup => !neg
        | .rdn => neg
        | .rmm => half ≤ lo
      (if up then hi + 1 else hi, true)

/-- The exact non-zero value ± m × 2^e delivered in a format (R167, R169, R172): its encoding and its flags. -/
def Fmt.deliver (f : Fmt) (mode : RMode) (ftz neg : Bool) (m : Nat) (e : Int) : Nat × Nat :=
  let p := f.mb + 1
  let q : Int := e + (bitlen m : Nat) - (p : Nat)
  let (n0, inex0) := roundAt mode neg m e q
  -- tiny: below the smallest normal value after rounding with unbounded exponent (R169)
  let tiny := decide (q + (bitlen n0 : Nat) < f.emin + (p : Nat))
  let q' := max q f.emin
  let (n, inex) := if q' = q then (n0, inex0) else roundAt mode neg m e q'
  let sb := f.zero neg
  -- 2^eMax is the first value past the range
  if q' + (bitlen n : Nat) > f.emin + ((f.emaxField - 1 + f.mb : Nat) : Int) then
    let big := match mode with
      | .rne | .rmm => true
      | .rtz => false
      | .rup => !neg
      | .rdn => neg
    (if big then f.inf neg else f.maxFin neg, fOF + fNX)
  else
    let enc := sb + ((q' - f.emin).toNat <<< f.mb) + n
    if ftz && f.subnormal enc then (sb, fUF + fNX)
    else (enc, (if inex then fNX else 0) + (if tiny && inex then fUF else 0))

/-- A zero result of an exact sum of values of opposite sign (R170). -/
def zeroSign (mode : RMode) : Bool := mode == .rdn

/-- Whether a value is a signalling NaN. -/
def FVal.sig : FVal → Bool
  | .nan s => s
  | _ => false
/-- Whether a value is a NaN. -/
def FVal.isNan : FVal → Bool
  | .nan _ => true
  | _ => false

/-- The exact sum of two finite values delivered (R170, R174). -/
def Fmt.sum (f : Fmt) (mode : RMode) (ftz : Bool) (s1 : Bool) (m1 : Nat) (e1 : Int) (s2 : Bool) (m2 : Nat) (e2 : Int) : Nat × Nat :=
  let e := min e1 e2
  let a : Int := (if s1 then -1 else 1) * ((m1 <<< (e1 - e).toNat : Nat) : Int)
  let b : Int := (if s2 then -1 else 1) * ((m2 <<< (e2 - e).toNat : Nat) : Int)
  let t := a + b
  if t = 0 then
    -- two zeros of one sign keep it; otherwise R170
    (f.zero (if s1 = s2 then s1 else zeroSign mode), 0)
  else f.deliver mode ftz (t < 0) t.natAbs e

/-- FADD (R174); FSUB adds the negated second operand. -/
def Fmt.add (f : Fmt) (mode : RMode) (ftz : Bool) (x y : FVal) : Nat × Nat :=
  let nv := if x.sig || y.sig then fNV else 0
  match x, y with
  | .nan _, _ => (f.nan, nv)
  | _, .nan _ => (f.nan, nv)
  | .inf s, .inf t => if s = t then (f.inf s, 0) else (f.nan, fNV)
  | .inf s, .fin _ _ _ => (f.inf s, 0)
  | .fin _ _ _, .inf t => (f.inf t, 0)
  | .fin s1 m1 e1, .fin s2 m2 e2 => f.sum mode ftz s1 m1 e1 s2 m2 e2

/-- The negated value; a NaN stays as it is. -/
def FVal.neg : FVal → FVal
  | .nan s => .nan s
  | .inf s => .inf (!s)
  | .fin s m e => .fin (!s) m e

/-- FMUL (R174). -/
def Fmt.mul (f : Fmt) (mode : RMode) (ftz : Bool) (x y : FVal) : Nat × Nat :=
  let nv := if x.sig || y.sig then fNV else 0
  match x, y with
  | .nan _, _ => (f.nan, nv)
  | _, .nan _ => (f.nan, nv)
  | .inf s, .inf t => (f.inf (s != t), 0)
  | .inf s, .fin t m _ => if m = 0 then (f.nan, fNV) else (f.inf (s != t), 0)
  | .fin s m _, .inf t => if m = 0 then (f.nan, fNV) else (f.inf (s != t), 0)
  | .fin s m1 e1, .fin t m2 e2 =>
    if m1 = 0 ∨ m2 = 0 then (f.zero (s != t), 0) else f.deliver mode ftz (s != t) (m1 * m2) (e1 + e2)

/-- FDIV (R169, R174). -/
def Fmt.div (f : Fmt) (mode : RMode) (ftz : Bool) (x y : FVal) : Nat × Nat :=
  let nv := if x.sig || y.sig then fNV else 0
  match x, y with
  | .nan _, _ => (f.nan, nv)
  | _, .nan _ => (f.nan, nv)
  | .inf _, .inf _ => (f.nan, fNV)
  | .inf s, .fin t _ _ => (f.inf (s != t), 0)
  | .fin s _ _, .inf t => (f.zero (s != t), 0)
  | .fin s m1 e1, .fin t m2 e2 =>
    if m2 = 0 then (if m1 = 0 then (f.nan, fNV) else (f.inf (s != t), fDZ))
    else if m1 = 0 then (f.zero (s != t), 0)
    else
      -- enough quotient bits for every rounding, and a last bit that says whether a remainder is left
      let k := 2 * f.mb + 8
      let n := m1 <<< k
      let q := n / m2
      f.deliver mode ftz (s != t) (2 * q + (if n % m2 = 0 then 0 else 1)) (e1 - e2 - (k : Nat) - 1)

/-- The integer square root, by its bits from 2^k down. -/
def isqrt (n : Nat) : Nat → Nat → Nat
  | 0, r => if (r + 1) * (r + 1) ≤ n then r + 1 else r
  | k + 1, r => if (r + 2 ^ (k + 1)) * (r + 2 ^ (k + 1)) ≤ n then isqrt n k (r + 2 ^ (k + 1)) else isqrt n k r

/-- FSQRT (R169, R174). -/
def Fmt.sqrt (f : Fmt) (mode : RMode) (ftz : Bool) (x : FVal) : Nat × Nat :=
  match x with
  | .nan s => (f.nan, if s then fNV else 0)
  | .inf s => if s then (f.nan, fNV) else (f.inf false, 0)
  | .fin s m e =>
    if m = 0 then (f.zero s, 0)
    else if s then (f.nan, fNV)
    else
      -- an even exponent and enough bits
      let odd := e % 2 ≠ 0
      let m1 := if odd then 2 * m else m
      let e1 := if odd then e - 1 else e
      let k := 2 * f.mb + 8
      let n := m1 <<< (2 * k)
      let r := isqrt n (bitlen n / 2 + 1) 0
      f.deliver mode ftz false (2 * r + (if r * r = n then 0 else 1)) (e1 / 2 - (k : Nat) - 1)

/-- x × y + z rounded once, with the product negated or the addend negated by the caller (R169, R170, R174). -/
def Fmt.fma (f : Fmt) (mode : RMode) (ftz : Bool) (x y z : FVal) (negProd : Bool) : Nat × Nat :=
  let nv0 := x.sig || y.sig || z.sig
  -- 0 × ∞ is invalid whatever the addend
  let zi := match x, y with
    | .inf _, .fin _ m _ => m == 0
    | .fin _ m _, .inf _ => m == 0
    | _, _ => false
  if x.isNan || y.isNan then (f.nan, if nv0 then fNV else 0)
  else if zi then (f.nan, fNV)
  else if z.isNan then (f.nan, if nv0 then fNV else 0)
  else
    let sx := match x with | .inf s => s | .fin s _ _ => s | .nan _ => false
    let sy := match y with | .inf s => s | .fin s _ _ => s | .nan _ => false
    let sp := (sx != sy) != negProd
    match x, y, z with
    | .fin _ m1 e1, .fin _ m2 e2, .fin sz mz ez => f.sum mode ftz sp (m1 * m2) (e1 + e2) sz mz ez
    | .fin _ _ _, .fin _ _ _, .inf sz => (f.inf sz, 0)
    | _, _, .inf sz => if sz = sp then (f.inf sz, 0) else (f.nan, fNV)
    | _, _, _ => (f.inf sp, 0)

/-- Order of two values that are not NaNs: the exact difference's sign, −0 below +0 where `signed` (R175, R176). -/
def FVal.lt (x y : FVal) : Bool :=
  match x, y with
  | .inf s, .inf t => s && !t
  | .inf s, .fin _ _ _ => s
  | .fin _ _ _, .inf t => !t
  | .fin s1 m1 e1, .fin s2 m2 e2 =>
    let e := min e1 e2
    let a : Int := (if s1 then -1 else 1) * ((m1 <<< (e1 - e).toNat : Nat) : Int)
    let b : Int := (if s2 then -1 else 1) * ((m2 <<< (e2 - e).toNat : Nat) : Int)
    a < b
  | _, _ => false
/-- Equality of two values that are not NaNs; −0 equals +0 (R176). -/
def FVal.eq (x y : FVal) : Bool := !x.isNan && !y.isNan && !x.lt y && !y.lt x

/-- FMIN, or FMAX where `big` (R175): the operand encoding itself. -/
def Fmt.minmax (f : Fmt) (big : Bool) (xb yb : Nat) : Nat × Nat :=
  let x := f.val xb
  let y := f.val yb
  let nv := if x.sig || y.sig then fNV else 0
  if x.isNan && y.isNan then (f.nan, nv)
  else if x.isNan then (yb, nv)
  else if y.isNan then (xb, nv)
  else
    let less := x.lt y || (x.eq y && f.sign xb && !f.sign yb)
    (if less != big then xb else yb, 0)

/-- The comparisons (R176): 0 FCMPEQ, 1 FCMPLT, 2 FCMPLE, 3 FCMPUN. -/
def fcmp (k : Nat) (x y : FVal) : Bool × Nat :=
  let un := x.isNan || y.isNan
  let nv := if (if k = 1 ∨ k = 2 then un else x.sig || y.sig) then fNV else 0
  (if k = 3 then un else !un && (if k = 0 then x.eq y else if k = 1 then x.lt y else x.lt y || x.eq y), nv)

/-- FCLASS (R177). -/
def Fmt.classify (f : Fmt) (x : Nat) : Nat :=
  match f.val x with
  | .inf s => if s then 2 ^ 0 else 2 ^ 7
  | .nan s => if s then 2 ^ 8 else 2 ^ 9
  | .fin s m _ =>
    if m = 0 then (if s then 2 ^ 3 else 2 ^ 4)
    else if f.subnormal x then (if s then 2 ^ 2 else 2 ^ 5)
    else (if s then 2 ^ 1 else 2 ^ 6)

/-- FRINT (R182): the source rounded to an integral value. -/
def Fmt.rint (f : Fmt) (mode : RMode) (ftz : Bool) (x : Nat) : Nat × Nat :=
  match f.val x with
  | .nan s => (f.nan, if s then fNV else 0)
  | .inf s => (f.inf s, 0)
  | .fin s m e =>
    if m = 0 ∨ 0 ≤ e then (x % 2 ^ f.width, 0)
    else
      let (n, inex) := roundAt mode s m e 0
      let fl := if inex then fNX else 0
      if n = 0 then (f.zero s, fl) else ((f.deliver mode ftz s n 0).1, fl)

/-- FCVT between floating-point formats (R179): FTZ acts on the narrowing ones. -/
def cvtFF (src dst : Fmt) (mode : RMode) (ftz : Bool) (x : Nat) : Nat × Nat :=
  match src.val x with
  | .nan s => (dst.nan, if s then fNV else 0)
  | .inf s => (dst.inf s, 0)
  | .fin s m e => if m = 0 then (dst.zero s, 0) else dst.deliver mode ftz s m e

/-- FCVT to an integer of w bits (R180). -/
def cvtFI (src : Fmt) (mode : RMode) (w : Nat) (signed : Bool) (x : Nat) : Nat × Nat :=
  let top := if signed then 2 ^ (w - 1) - 1 else 2 ^ w - 1
  let bot := if signed then 2 ^ (w - 1) else 0      -- magnitude of the least value
  let least := if signed then 2 ^ (w - 1) else 0    -- its encoding
  match src.val x with
  | .nan _ => (0, fNV)
  | .inf s => (if s then least else top, fNV)
  | .fin s m e =>
    let (n, inex) := roundAt mode s m e 0
    let fl := if inex then fNX else 0
    if s then (if bot < n then (least, fNV) else (ofInt w (-(n : Int)), fl))
    else (if top < n then (top, fNV) else (n, fl))

/-- FCVT from an integer (R181). -/
def cvtIF (dst : Fmt) (mode : RMode) (w : Nat) (signed : Bool) (x : Nat) : Nat × Nat :=
  let v : Int := if signed then toInt w x else (x % 2 ^ w : Nat)
  if v = 0 then (dst.zero false, 0) else dst.deliver mode false (v < 0) v.natAbs 0

/-- DIV, DIVU, REM and REMU (R184, R185). -/
def intDiv (signed rem : Bool) (a b : Nat) : Nat × Nat :=
  if b = 0 then (if rem then a else 0, fIDZ)
  else if signed then
    let x := toInt 64 a
    let y := toInt 64 b
    if x = -(2 ^ 63 : Nat) ∧ y = -1 then (if rem then 0 else a, fOV)
    else (ofInt 64 (if rem then x.tmod y else x.tdiv y), 0)
  else (if rem then a % b else a / b, 0)

end Sys2Proof.Machine
end

