-- ==== Sys2Proof/Config.lean ====
section
/-! DEFINITION. What an implementation fixes: the register map of R36 and the register tables of every chapter, and the
free values the spec leaves open, which are constants without a body. -/

namespace Sys2Proof

/-- One register of the register tables: the offset of its first copy in BAR0, the strides and counts of its indices
(widest first), its reset value, and the bits of each access type (R14). Bits of no listed type are RO or reserved. -/
structure RegRow where
  base  : Nat
  dims  : List (Nat × Nat)
  reset : Nat
  rw    : Nat
  w1c   : Nat
  w1s   : Nat
  wo    : Nat
  rc    : Nat
deriving DecidableEq, Repr

namespace Config

/-- Registers of the GLOBAL block. A reset value that the tables leave to the MGC or to the boot is 0 here and is set at READY. -/
def regsGlobal : List RegRow := [
  ⟨0x100, [], 0x3020100, 0x7F7F7F7F, 0, 0, 0, 0⟩,  -- GLOBAL_QMAP0
  ⟨0x104, [], 0x7060504, 0x7F7F7F7F, 0, 0, 0, 0⟩,  -- GLOBAL_QMAP1
  ⟨0x108, [], 0xB0A0908, 0x7F7F7F7F, 0, 0, 0, 0⟩,  -- GLOBAL_QMAP2
  ⟨0x10c, [], 0xF0E0D0C, 0x7F7F7F7F, 0, 0, 0, 0⟩,  -- GLOBAL_QMAP3
  ⟨0x110, [], 0x14131211, 0x7F7F7F7F, 0, 0, 0, 0⟩,  -- GLOBAL_QMAP4
  ⟨0x114, [], 0x18171615, 0x7F7F7F7F, 0, 0, 0, 0⟩,  -- GLOBAL_QMAP5
  ⟨0x118, [], 0x1C1B1A19, 0x7F7F7F7F, 0, 0, 0, 0⟩,  -- GLOBAL_QMAP6
  ⟨0x11c, [], 0x201F1E1D, 0x7F7F7F7F, 0, 0, 0, 0⟩,  -- GLOBAL_QMAP7
  ⟨0x120, [], 0x25242322, 0x7F7F7F7F, 0, 0, 0, 0⟩,  -- GLOBAL_QMAP8
  ⟨0x124, [], 0x29282726, 0x7F7F7F7F, 0, 0, 0, 0⟩,  -- GLOBAL_QMAP9
  ⟨0x128, [], 0x2D2C2B2A, 0x7F7F7F7F, 0, 0, 0, 0⟩,  -- GLOBAL_QMAP10
  ⟨0x12c, [], 0x31302F2E, 0x7F7F7F7F, 0, 0, 0, 0⟩,  -- GLOBAL_QMAP11
  ⟨0x130, [], 0x36353433, 0x7F7F7F7F, 0, 0, 0, 0⟩,  -- GLOBAL_QMAP12
  ⟨0x134, [], 0x3A393837, 0x7F7F7F7F, 0, 0, 0, 0⟩,  -- GLOBAL_QMAP13
  ⟨0x138, [], 0x3E3D3C3B, 0x7F7F7F7F, 0, 0, 0, 0⟩,  -- GLOBAL_QMAP14
  ⟨0x13c, [], 0x4241403F, 0x7F7F7F7F, 0, 0, 0, 0⟩,  -- GLOBAL_QMAP15
  ⟨0x140, [], 0x40000, 0, 0, 0, 0, 0⟩,  -- GLOBAL_QMAP_STAT
  ⟨0x144, [], 0, 0, 0, 0, 0, 0xFFFFFFFF⟩,  -- GLOBAL_MISROUTE
  ⟨0x0, [], 0x78400110, 0, 0, 0, 0, 0⟩  -- GLOBAL_PART_ID
]

/-- Registers of the QUARTER block (part 1). A reset value that the tables leave to the MGC or to the boot is 0 here and is set at READY. -/
def regsQuarter0 : List RegRow := [
  ⟨0x600000, [(0x10000, 68)], 0x1, 0x3, 0, 0, 0, 0⟩,  -- QTRnn_PLZ_CTRL
  ⟨0x600004, [(0x10000, 68)], 0, 0xFFFFFFF, 0, 0, 0, 0⟩,  -- QTRnn_PLZ_BS_BASE
  ⟨0x600008, [(0x10000, 68)], 0x408, 0x70F, 0, 0, 0, 0⟩,  -- QTRnn_PLZ_BS_SIZE
  ⟨0x60000c, [(0x10000, 68)], 0, 0, 0x17, 0, 0, 0⟩,  -- QTRnn_PLZ_STATUS
  ⟨0x600010, [(0x10000, 68)], 0, 0, 0, 0, 0, 0x7FFF0000⟩,  -- QTRnn_PLZ_OCC
  ⟨0x600014, [(0x10000, 68)], 0, 0, 0, 0, 0, 0⟩,  -- QTRnn_PLZ_BS_OCC
  ⟨0x600018, [(0x10000, 68)], 0, 0, 0, 0, 0, 0⟩,  -- QTRnn_PLZ_PEN_OCC
  ⟨0x60001c, [(0x10000, 68)], 0, 0, 0, 0, 0, 0xFFFF⟩,  -- QTRnn_PLZ_BS_LAT
  ⟨0x600100, [(0x10000, 68), (0x4, 16)], 0, 0, 0, 0, 0, 0xFFFFFFFF⟩,  -- QTRnn_PLZ_CNTk
  ⟨0x601000, [(0x10000, 68), (0x40, 8)], 0, 0xFF30, 0, 0x1, 0, 0⟩,  -- QTRnn_LANEj_CTRL
  ⟨0x601004, [(0x10000, 68), (0x40, 8)], 0x1, 0, 0, 0, 0, 0⟩,  -- QTRnn_LANEj_STATUS
  ⟨0x601008, [(0x10000, 68), (0x40, 8)], 0, 0, 0x80000000, 0, 0, 0xFF⟩,  -- QTRnn_LANEj_WMSTAT
  ⟨0x60100c, [(0x10000, 68), (0x40, 8)], 0, 0, 0, 0, 0, 0xFFFFFFFF⟩,  -- QTRnn_LANEj_WMCOUNT
  ⟨0x601010, [(0x10000, 68), (0x40, 8)], 0, 0, 0, 0, 0, 0xFFFFFFFF⟩,  -- QTRnn_LANEj_PARITY
  ⟨0x601014, [(0x10000, 68), (0x40, 8)], 0, 0, 0, 0, 0, 0xFFFFFFFF⟩,  -- QTRnn_LANEj_FLUSHED
  ⟨0x6010d8, [(0x10000, 68)], 0x1, 0, 0, 0, 0, 0⟩,  -- QTRnn_LANE3_VC1STAT
  ⟨0x601400, [(0x10000, 68), (0x4, 16)], 0, 0, 0, 0, 0, 0x3F0000⟩,  -- QTRnn_FQp_STAT
  ⟨0x601440, [(0x10000, 68)], 0, 0, 0, 0, 0, 0xFFFFFFFF⟩,  -- QTRnn_FQ_PARITY
  ⟨0x602000, [(0x10000, 68)], 0, 0xF00FFFF8, 0, 0, 0, 0⟩,  -- QTRnn_STK_CFG
  ⟨0x602004, [(0x10000, 68)], 0x10000, 0xFFFFFFFF, 0, 0, 0, 0⟩  -- QTRnn_PE_BUDGET
]

/-- Registers of the QUARTER block (part 2). A reset value that the tables leave to the MGC or to the boot is 0 here and is set at READY. -/
def regsQuarter1 : List RegRow := [
  ⟨0x602010, [(0x10000, 68)], 0, 0, 0x8000, 0, 0, 0⟩,  -- QTRnn_SF_INFO
  ⟨0x602014, [(0x10000, 68)], 0, 0, 0, 0, 0, 0⟩,  -- QTRnn_SF_TAG_LO
  ⟨0x602018, [(0x10000, 68)], 0, 0, 0, 0, 0, 0⟩,  -- QTRnn_SF_TAG_HI
  ⟨0x60201c, [(0x10000, 68)], 0, 0, 0, 0, 0, 0⟩,  -- QTRnn_SF_DETAIL
  ⟨0x602040, [(0x10000, 68), (0x4, 8)], 0, 0, 0, 0, 0, 0xFFFFFFFF⟩,  -- QTRnn_SF_CNTk
  ⟨0x602100, [(0x10000, 68), (0x8, 16)], 0, 0, 0, 0, 0, 0⟩,  -- QTRnn_PEp_SLOTS
  ⟨0x602104, [(0x10000, 68), (0x8, 16)], 0, 0, 0, 0, 0, 0xFFFFFFFF⟩,  -- QTRnn_PEp_ISSUED
  ⟨0x602180, [(0x10000, 68)], 0, 0, 0, 0, 0, 0xFFFFFFFF⟩,  -- QTRnn_PARK_ABORT
  ⟨0x603000, [(0x10000, 68)], 0x1, 0x1, 0, 0, 0, 0⟩,  -- QTRnn_FRM_CTRL
  ⟨0x603004, [(0x10000, 68)], 0, 0, 0, 0, 0, 0x1FFF0000⟩,  -- QTRnn_FRM_STATUS
  ⟨0x603008, [(0x10000, 68)], 0, 0, 0x80000000, 0, 0, 0⟩,  -- QTRnn_FRM_UE_ADDR
  ⟨0x603010, [(0x10000, 68), (0x4, 7)], 0, 0, 0, 0, 0, 0xFFFFFFFF⟩  -- QTRnn_FRM_CNTk
]

/-- Registers of the DISPATCH block. A reset value that the tables leave to the MGC or to the boot is 0 here and is set at READY. -/
def regsDispatch : List RegRow := [
  ⟨0x400f00, [], 0x2710, 0xFFFFF, 0, 0, 0, 0⟩,  -- DISPATCH_ORPHAN_WAIT
  ⟨0x400f04, [], 0x100, 0xFFFF, 0, 0, 0, 0⟩,  -- DISPATCH_ORPHAN_LIMIT
  ⟨0x400000, [], 0x1, 0x1, 0, 0, 0, 0⟩,  -- DISPATCH_CTRL
  ⟨0x400004, [], 0, 0xFFFFFFF, 0, 0, 0, 0⟩,  -- DISPATCH_DESC_BASE
  ⟨0x400008, [], 0, 0x1FFFFF, 0, 0, 0, 0⟩,  -- DISPATCH_DESC_LIMIT
  ⟨0x40000c, [], 0x64, 0x3FF, 0, 0, 0, 0⟩,  -- DISPATCH_TICK
  ⟨0x400010, [], 0, 0, 0, 0, 0, 0⟩,  -- DISPATCH_TICK_NOW
  ⟨0x400014, [], 0xA, 0x3FF, 0, 0, 0, 0⟩,  -- DISPATCH_QUAR_WAIT
  ⟨0x400018, [], 0, 0, 0, 0, 0, 0⟩,  -- DISPATCH_RESIDENT
  ⟨0x40001c, [], 0, 0, 0, 0, 0, 0⟩,  -- DISPATCH_READY
  ⟨0x400020, [], 0, 0xFFFFF, 0, 0, 0, 0⟩,  -- DISPATCH_CTX_SEL
  ⟨0x400024, [], 0, 0, 0, 0, 0, 0⟩,  -- DISPATCH_CTX_STATE
  ⟨0x400028, [], 0, 0, 0, 0, 0, 0⟩,  -- DISPATCH_CTX_DEP
  ⟨0x40002c, [], 0, 0, 0, 0, 0, 0⟩,  -- DISPATCH_CTX_LIVE
  ⟨0x400100, [(0x4, 14)], 0, 0, 0, 0, 0, 0xFFFFFFFF⟩  -- DISPATCH_CNTk
]

/-- Registers of the AVENUE block. A reset value that the tables leave to the MGC or to the boot is 0 here and is set at READY. -/
def regsAvenue : List RegRow := [
  ⟨0x500000, [], 0x3, 0xF, 0, 0, 0, 0⟩,  -- AVENUE_CTRL
  ⟨0x500004, [], 0x800, 0xFFFFF, 0, 0, 0, 0⟩,  -- AVENUE_ROUND_WAIT
  ⟨0x500008, [], 0x4E20, 0xFFFFFF, 0, 0, 0, 0⟩,  -- AVENUE_STALL_WAIT
  ⟨0x50000c, [], 0xA2000, 0xFF7FFF, 0, 0, 0, 0⟩,  -- AVENUE_GL_CFG
  ⟨0x500010, [], 0, 0, 0, 0, 0, 0⟩,  -- AVENUE_GL_STATUS
  ⟨0x500014, [], 0, 0, 0, 0, 0, 0xFFFFFFFF⟩,  -- AVENUE_GL_COUNT
  ⟨0x500018, [], 0, 0, 0, 0, 0, 0⟩,  -- AVENUE_GL_DUR
  ⟨0x50001c, [], 0, 0, 0, 0, 0, 0xFFFFFFFF⟩,  -- AVENUE_GL_DUR_MAX
  ⟨0x500020, [], 0, 0, 0x80000000, 0, 0, 0⟩,  -- AVENUE_LINK_DOWN
  ⟨0x500100, [(0x4, 15)], 0, 0, 0, 0, 0, 0xFFFFFFFF⟩,  -- AVENUE_CNTk
  ⟨0x500200, [], 0, 0xF7F, 0, 0, 0, 0⟩,  -- AVENUE_GATE_SEL
  ⟨0x500204, [], 0, 0, 0, 0, 0, 0⟩,  -- AVENUE_GATE_D0
  ⟨0x500208, [], 0, 0, 0, 0, 0, 0⟩,  -- AVENUE_GATE_D1
  ⟨0x50020c, [], 0, 0x3FFFF, 0, 0, 0, 0⟩,  -- AVENUE_GATE_D2
  ⟨0x500210, [], 0, 0, 0, 0, 0, 0⟩,  -- AVENUE_GATE_D3
  ⟨0x500214, [], 0, 0, 0, 0, 0, 0⟩,  -- AVENUE_GATE_D4
  ⟨0x500300, [], 0xA325A, 0xFF7F7F, 0, 0, 0, 0⟩  -- AVENUE_PLC_CFG
]

/-- Registers of the CONV block (part 1). A reset value that the tables leave to the MGC or to the boot is 0 here and is set at READY. -/
def regsConv0 : List RegRow := [
  ⟨0xd00000, [], 0x1F40801, 0xFFFFFF03, 0, 0, 0, 0⟩,  -- CONV_CTRL
  ⟨0xd00004, [], 0, 0xFFFF, 0, 0, 0, 0⟩,  -- CONV_SLOT_DIR
  ⟨0xd00008, [], 0, 0, 0, 0, 0, 0⟩,  -- CONV_SYSREF_TLO
  ⟨0xd0000c, [], 0, 0, 0, 0, 0, 0⟩,  -- CONV_SYSREF_THI
  ⟨0xd00010, [], 0, 0xFFFFFFFF, 0, 0, 0, 0⟩,  -- CONV_DRV
  ⟨0xd00020, [], 0x9, 0x7FF, 0, 0, 0, 0⟩,  -- CONV_SPI_CFG
  ⟨0xd00024, [], 0, 0, 0, 0, 0xFFFFFFFF, 0⟩,  -- CONV_SPI_RUN
  ⟨0xd00028, [], 0, 0, 0x60000000, 0, 0, 0⟩,  -- CONV_SPI_STAT
  ⟨0xd00030, [], 0, 0x1FFF, 0, 0, 0, 0⟩,  -- CONV_CH_SEL
  ⟨0xd00034, [], 0xFFFFFFFF, 0, 0, 0, 0, 0⟩,  -- CONV_CH_START
  ⟨0xd01000, [(0x100, 8)], 0, 0x1F0, 0, 0x3, 0, 0⟩,  -- CONV_LINKk_CTRL
  ⟨0xd01004, [(0x100, 8)], 0, 0xFFFFFFFF, 0, 0, 0, 0⟩,  -- CONV_LINKk_PROFILE
  ⟨0xd01008, [(0x100, 8)], 0, 0, 0, 0, 0, 0⟩,  -- CONV_LINKk_STATE
  ⟨0xd0100c, [(0x100, 8)], 0, 0, 0, 0, 0, 0⟩,  -- CONV_LINKk_TRY
  ⟨0xd01010, [(0x100, 8)], 0, 0, 0, 0, 0, 0⟩,  -- CONV_LINKk_PARAM0
  ⟨0xd01014, [(0x100, 8)], 0, 0, 0, 0, 0, 0⟩,  -- CONV_LINKk_PARAM1
  ⟨0xd01018, [(0x100, 8)], 0, 0, 0, 0, 0, 0⟩,  -- CONV_LINKk_EYE
  ⟨0xd0101c, [(0x100, 8)], 0, 0xFFFFFFFF, 0, 0, 0, 0⟩,  -- CONV_LINKk_STG
  ⟨0xd01020, [(0x100, 8)], 0, 0xFC0FFFFF, 0, 0, 0, 0⟩,  -- CONV_LINKk_TSB_LO
  ⟨0xd10000, [(0x8, 4096)], 0, 0xFC0FFFFF, 0, 0, 0, 0⟩  -- CONV_INBc_LO
]

/-- Registers of the CONV block (part 2). A reset value that the tables leave to the MGC or to the boot is 0 here and is set at READY. -/
def regsConv1 : List RegRow := [
  ⟨0xd01024, [(0x100, 8)], 0, 0x3FFFF, 0, 0, 0, 0⟩,  -- CONV_LINKk_TSB_HI
  ⟨0xd10004, [(0x8, 4096)], 0, 0x3FFFF, 0, 0, 0, 0⟩,  -- CONV_INBc_HI
  ⟨0xd01028, [(0x100, 8)], 0, 0, 0, 0, 0, 0⟩,  -- CONV_LINKk_FRAME
  ⟨0xd01080, [(0x100, 8), (0x4, 15)], 0, 0, 0, 0, 0, 0xFFFFFFFF⟩,  -- CONV_LINKk_CNTj
  ⟨0xd20000, [(0x8, 512)], 0, 0xF0000000, 0, 0, 0, 0⟩,  -- CONV_OUTBd_CTRL
  ⟨0xd20004, [(0x8, 512)], 0, 0xFFFFFFFF, 0, 0, 0, 0⟩  -- CONV_OUTBd_SAFE
]

/-- Registers of the COLIR block. A reset value that the tables leave to the MGC or to the boot is 0 here and is set at READY. -/
def regsColir : List RegRow := [
  ⟨0xe00000, [], 0, 0xFFFF000F, 0, 0, 0, 0⟩,  -- COLIR_ID
  ⟨0xe00004, [], 0xFFFFFFFF, 0xFFFFFFFF, 0, 0, 0, 0⟩,  -- COLIR_ROUTE0
  ⟨0xe00008, [], 0xFFFFFFFF, 0xFFFFFFFF, 0, 0, 0, 0⟩,  -- COLIR_ROUTE1
  ⟨0xe0000c, [], 0, 0xC00000FF, 0, 0, 0, 0⟩,  -- COLIR_FWD
  ⟨0xe00100, [(0x4, 8)], 0, 0, 0, 0, 0, 0xFFFFFFFF⟩,  -- COLIR_CNTk
  ⟨0xe02000, [(0x8, 64)], 0, 0x80FFFFFF, 0, 0, 0, 0⟩,  -- COLIR_SPANs_A
  ⟨0xe02004, [(0x8, 64)], 0, 0xFFFF, 0, 0, 0, 0⟩,  -- COLIR_SPANs_B
  ⟨0xe01000, [(0x100, 4)], 0x20, 0x3773, 0, 0x4, 0, 0⟩,  -- COLIR_PORTp_CTRL
  ⟨0xe01004, [(0x100, 4)], 0, 0, 0, 0, 0, 0⟩,  -- COLIR_PORTp_STATE
  ⟨0xe01008, [(0x100, 4)], 0, 0, 0, 0, 0, 0⟩,  -- COLIR_PORTp_CAPS_LO
  ⟨0xe0100c, [(0x100, 4)], 0, 0, 0, 0, 0, 0⟩,  -- COLIR_PORTp_CAPS_HI
  ⟨0xe01010, [(0x100, 4)], 0, 0, 0, 0, 0, 0⟩,  -- COLIR_PORTp_TSTAT
  ⟨0xe01014, [(0x100, 4)], 0, 0xFFFF, 0, 0, 0, 0⟩,  -- COLIR_PORTp_ASYM
  ⟨0xe01080, [(0x100, 4), (0x4, 10)], 0, 0, 0, 0, 0, 0xFFFFFFFF⟩  -- COLIR_PORTp_CNTj
]

/-- Registers of the MEMORY block. A reset value that the tables leave to the MGC or to the boot is 0 here and is set at READY. -/
def regsMemory : List RegRow := [
  ⟨0xb00000, [(0x8, 16)], 0, 0x8F03FFFF, 0, 0, 0, 0⟩,  -- MEMORY_REGIONr_A
  ⟨0xb00004, [(0x8, 16)], 0, 0x3FFFF, 0, 0, 0, 0⟩,  -- MEMORY_REGIONr_B
  ⟨0xb00100, [], 0xC00003E8, 0xC00FFFFF, 0, 0, 0, 0⟩,  -- MEMORY_SWEEP_CTRL
  ⟨0xb00110, [(0x4, 8)], 0, 0, 0x80000000, 0, 0, 0⟩,  -- MEMORY_POOLs
  ⟨0xb00140, [], 0, 0, 0, 0, 0, 0⟩,  -- MEMORY_UE_LO
  ⟨0xb00144, [], 0, 0, 0x80000000, 0, 0, 0⟩,  -- MEMORY_UE_HI
  ⟨0xb00200, [(0x4, 9)], 0, 0, 0, 0, 0, 0xFFFFFFFF⟩  -- MEMORY_CNTk
]

/-- Registers of the ARCHIVE block. A reset value that the tables leave to the MGC or to the boot is 0 here and is set at READY. -/
def regsArchive : List RegRow := [
  ⟨0xc00000, [], 0x80006400, 0x80FFFF17, 0, 0, 0, 0⟩,  -- ARCHIVE_CTRL
  ⟨0xc00004, [], 0, 0xFFFFFF, 0, 0, 0, 0⟩,  -- ARCHIVE_RING_BASE
  ⟨0xc00008, [], 0, 0x3FFFFF, 0, 0, 0, 0⟩,  -- ARCHIVE_RING_SIZE
  ⟨0xc0000c, [], 0, 0, 0, 0, 0, 0⟩,  -- ARCHIVE_RING_FILL
  ⟨0xc00010, [], 0x80000, 0x3FFFFF, 0, 0, 0, 0⟩,  -- ARCHIVE_RING_WM
  ⟨0xc00020, [(0x4, 8)], 0, 0, 0, 0, 0, 0⟩,  -- ARCHIVE_KEYj
  ⟨0xc00100, [(0x4, 6)], 0, 0, 0, 0, 0, 0xFFFFFFFF⟩  -- ARCHIVE_CNTk
]

/-- Registers of the HOST block (part 1). A reset value that the tables leave to the MGC or to the boot is 0 here and is set at READY. -/
def regsHost0 : List RegRow := [
  ⟨0x100000, [], 0x1, 0x1, 0, 0x6, 0, 0⟩,  -- HOST_CTRL
  ⟨0x100004, [], 0, 0, 0, 0, 0, 0⟩,  -- HOST_STATUS
  ⟨0x100008, [], 0, 0xFFFFF000, 0, 0, 0, 0⟩,  -- HOST_DB_LO
  ⟨0x10000c, [], 0, 0xFFFFFFFF, 0, 0, 0, 0⟩,  -- HOST_DB_HI
  ⟨0x100010, [], 0, 0xFFFFFC00, 0, 0, 0, 0⟩,  -- HOST_ACC_LO
  ⟨0x100014, [], 0, 0xFFFFFFFF, 0, 0, 0, 0⟩,  -- HOST_ACC_HI
  ⟨0x100018, [], 0x14, 0x3FFF, 0, 0, 0, 0⟩,  -- HOST_POLL
  ⟨0x10001c, [], 0, 0xC000003F, 0, 0, 0, 0⟩,  -- HOST_BAR2
  ⟨0x100100, [(0x4, 8)], 0, 0, 0, 0, 0, 0xFFFFFFFF⟩,  -- HOST_CNTk
  ⟨0x101000, [(0x10, 64)], 0, 0xFFFFF000, 0, 0, 0, 0⟩,  -- HOST_SQr_BASE_LO
  ⟨0x101004, [(0x10, 64)], 0, 0xFFFFFFFF, 0, 0, 0, 0⟩,  -- HOST_SQr_BASE_HI
  ⟨0x101008, [(0x10, 64)], 0, 0x80003F1F, 0, 0x10000, 0, 0⟩,  -- HOST_SQr_CFG
  ⟨0x10100c, [(0x10, 64)], 0, 0, 0, 0, 0, 0⟩,  -- HOST_SQr_STAT
  ⟨0x102000, [(0x10, 64)], 0, 0xFFFFF000, 0, 0, 0, 0⟩,  -- HOST_CQc_BASE_LO
  ⟨0x102004, [(0x10, 64)], 0, 0xFFFFFFFF, 0, 0, 0, 0⟩,  -- HOST_CQc_BASE_HI
  ⟨0x102008, [(0x10, 64)], 0, 0x80003F1F, 0, 0x10000, 0, 0⟩,  -- HOST_CQc_CFG
  ⟨0x10200c, [(0x10, 64)], 0, 0, 0, 0, 0, 0⟩,  -- HOST_CQc_STAT
  ⟨0x103000, [(0x10, 16)], 0, 0xFFFFF000, 0, 0, 0, 0⟩,  -- HOST_EQe_BASE_LO
  ⟨0x103004, [(0x10, 16)], 0, 0xFFFFFFFF, 0, 0, 0, 0⟩,  -- HOST_EQe_BASE_HI
  ⟨0x103008, [(0x10, 16)], 0, 0x80003F1F, 0, 0x10000, 0, 0⟩  -- HOST_EQe_CFG
]

/-- Registers of the HOST block (part 2). A reset value that the tables leave to the MGC or to the boot is 0 here and is set at READY. -/
def regsHost1 : List RegRow := [
  ⟨0x108000, [(0x10, 64)], 0, 0xFFFFFFFC, 0, 0, 0, 0⟩,  -- MSIX_ADDR_LO
  ⟨0x108004, [(0x10, 64)], 0, 0xFFFFFFFF, 0, 0, 0, 0⟩,  -- MSIX_ADDR_HI
  ⟨0x108008, [(0x10, 64)], 0, 0xFFFFFFFF, 0, 0, 0, 0⟩,  -- MSIX_DATA
  ⟨0x10800c, [(0x10, 64)], 0x1, 0x1, 0, 0, 0, 0⟩,  -- MSIX_CTRL
  ⟨0x109000, [(0x4, 2)], 0, 0, 0, 0, 0, 0⟩  -- MSIX_PBA
]

/-- Registers of the EVC block. A reset value that the tables leave to the MGC or to the boot is 0 here and is set at READY. -/
def regsEvc : List RegRow := [
  ⟨0x200000, [], 0x80000000, 0x8000000F, 0, 0, 0, 0⟩,  -- EVC_CTRL
  ⟨0x200004, [], 0, 0, 0, 0, 0x7F, 0⟩,  -- EVC_EOI
  ⟨0x200008, [], 0, 0, 0, 0, 0, 0⟩,  -- EVC_STACK
  ⟨0x20000c, [], 0, 0xFFFFFFFF, 0, 0, 0, 0⟩,  -- EVC_STG
  ⟨0x201000, [(0x4, 256)], 0x80000000, 0x8000000F, 0, 0, 0, 0⟩,  -- EVC_SRCn
  ⟨0x202000, [(0x8, 80)], 0x10000, 0xF0FFFFFF, 0, 0, 0, 0⟩,  -- EVC_RINGk_CFG
  ⟨0x202004, [(0x8, 80)], 0, 0, 0, 0, 0, 0⟩,  -- EVC_RINGk_STAT
  ⟨0x203000, [(0x4, 16)], 0, 0, 0x40000000, 0, 0, 0⟩,  -- EVC_EQe_STAT
  ⟨0x200100, [(0x4, 10)], 0, 0, 0, 0, 0, 0xFFFFFFFF⟩  -- EVC_CNTk
]

/-- Registers of the CORNER block. A reset value that the tables leave to the MGC or to the boot is 0 here and is set at READY. -/
def regsCorner : List RegRow := [
  ⟨0x1100100, [], 0x200000, 0xFFFFFFFF, 0, 0, 0, 0⟩,  -- CORNER_WAKE_EN
  ⟨0x1100104, [], 0, 0, 0x3BFFFFF, 0, 0, 0⟩,  -- CORNER_WAKE_CAUSE
  ⟨0x1100108, [], 0, 0xFFFFFF, 0, 0, 0, 0⟩,  -- CORNER_WAKE_TIMER
  ⟨0x1100200, [], 0x3, 0x3, 0, 0, 0, 0⟩,  -- CONT_CTRL
  ⟨0x1100204, [], 0x3007D0, 0x3FFFFFF, 0, 0, 0, 0⟩,  -- CONT_EPOCH_CFG
  ⟨0x1100208, [], 0, 0, 0, 0, 0, 0⟩,  -- CONT_EPOCH_LO
  ⟨0x110020c, [], 0, 0, 0, 0, 0, 0⟩,  -- CONT_EPOCH_HI
  ⟨0x1100210, [], 0, 0, 0x10, 0, 0, 0⟩,  -- CONT_STATUS
  ⟨0x1100214, [], 0, 0xFFFFFFF, 0, 0, 0, 0⟩,  -- CONT_JOURNAL_BASE
  ⟨0x110021c, [], 0, 0xFFFFFFF, 0, 0, 0, 0⟩,  -- CONT_STORE_BASE
  ⟨0x1100218, [], 0, 0x3FFFF, 0, 0, 0, 0⟩,  -- CONT_JOURNAL_SIZE
  ⟨0x1100220, [], 0, 0x3FFFF, 0, 0, 0, 0⟩,  -- CONT_STORE_SIZE
  ⟨0x1100224, [], 0, 0, 0, 0, 0, 0⟩,  -- CONT_JOURNAL_FILL
  ⟨0x1100228, [], 0, 0, 0, 0, 0, 0⟩,  -- CONT_RB_LAST
  ⟨0x1100300, [(0x4, 9)], 0, 0, 0, 0, 0, 0xFFFFFFFF⟩,  -- CONT_CNTk
  ⟨0x1100400, [(0x8, 64)], 0, 0x800FFFFF, 0, 0, 0, 0⟩,  -- CONT_PAIRp_A
  ⟨0x1100404, [(0x8, 64)], 0, 0xFFFFF, 0, 0, 0, 0⟩,  -- CONT_PAIRp_B
  ⟨0x1100000, [], 0, 0, 0, 0, 0, 0⟩,  -- CORNER_RESET
  ⟨0x1100010, [], 0, 0xC000FFFF, 0, 0, 0, 0⟩  -- CORNER_VINW
]

/-- Registers of the FAULT block. A reset value that the tables leave to the MGC or to the boot is 0 here and is set at READY. -/
def regsFault : List RegRow := [
  ⟨0x300000, [], 0x400, 0xFF01, 0, 0, 0, 0⟩,  -- FAULT_CTRL
  ⟨0x300004, [], 0x64, 0x3FFF, 0, 0, 0, 0⟩,  -- FAULT_QUIET
  ⟨0x300008, [], 0x3E8, 0xFFFF, 0, 0, 0, 0⟩,  -- FAULT_SHADOW
  ⟨0x30000c, [], 0, 0, 0, 0, 0, 0⟩,  -- FAULT_STATUS
  ⟨0x300010, [], 0, 0xFFFFFFFF, 0, 0, 0, 0⟩,  -- FAULT_LOG_BASE
  ⟨0x300014, [], 0x1, 0, 0, 0, 0, 0⟩,  -- FAULT_SEQ_LO
  ⟨0x300018, [], 0, 0, 0, 0, 0, 0⟩,  -- FAULT_SEQ_HI
  ⟨0x300020, [(0x4, 3)], 0, 0, 0, 0, 0, 0⟩,  -- FAULT_RECOVERY_Fk
  ⟨0x300040, [], 0, 0xFFFFFC01, 0, 0, 0, 0⟩,  -- FAULT_INJ_SEL
  ⟨0x300044, [], 0, 0xFFFF, 0, 0, 0, 0⟩,  -- FAULT_INJ_N
  ⟨0x301000, [(0x20, 64)], 0, 0, 0x40000000, 0, 0, 0⟩,  -- FAULT_SRCs_STAT
  ⟨0x301004, [(0x20, 64)], 0, 0, 0, 0, 0, 0xFFFFFFFF⟩,  -- FAULT_SRCs_COUNT
  ⟨0x301008, [(0x20, 64)], 0, 0, 0, 0, 0, 0⟩,  -- FAULT_SRCs_FIRST_LO
  ⟨0x30100c, [(0x20, 64)], 0, 0, 0, 0, 0, 0⟩,  -- FAULT_SRCs_FIRST_HI
  ⟨0x301010, [(0x20, 64)], 0, 0, 0, 0, 0, 0⟩,  -- FAULT_SRCs_LAST_LO
  ⟨0x301014, [(0x20, 64)], 0, 0, 0, 0, 0, 0⟩  -- FAULT_SRCs_LAST_HI
]

/-- Registers of the KERB block. A reset value that the tables leave to the MGC or to the boot is 0 here and is set at READY. -/
def regsKerb : List RegRow := [
  ⟨0x1200000, [(0x10, 16)], 0, 0xFC000000, 0, 0, 0, 0⟩,  -- KERB_OUTn_CFG
  ⟨0x1200004, [(0x10, 16)], 0, 0xFFFFFFFF, 0, 0, 0, 0⟩,  -- KERB_OUTn_BIND_LO
  ⟨0x1200008, [(0x10, 16)], 0, 0xFFFFFFFF, 0, 0, 0, 0⟩,  -- KERB_OUTn_BIND_HI
  ⟨0x120000c, [(0x10, 16)], 0, 0, 0x10, 0, 0, 0⟩,  -- KERB_OUTn_STAT
  ⟨0x1200100, [(0x4, 8)], 0, 0xFF, 0, 0, 0, 0⟩,  -- KERB_INi_CFG
  ⟨0x1200120, [], 0, 0, 0, 0, 0, 0⟩  -- KERB_IN_LEVEL
]

/-- Registers of the POWER block. A reset value that the tables leave to the MGC or to the boot is 0 here and is set at READY. -/
def regsPower : List RegRow := [
  ⟨0x1000000, [], 0, 0x177, 0, 0, 0, 0⟩,  -- POWER_CTRL
  ⟨0x1000004, [], 0, 0, 0, 0, 0, 0⟩,  -- POWER_STATE
  ⟨0x1000010, [(0x4, 8)], 0x10100A01, 0x1F1FFF03, 0, 0, 0, 0⟩,  -- POWER_DISTd_CFG
  ⟨0x1000030, [(0x4, 8)], 0x1000, 0, 0, 0, 0, 0⟩,  -- POWER_DISTd_STAT
  ⟨0x1000050, [], 0x3520226, 0x3FF03FF, 0, 0, 0, 0⟩,  -- POWER_AVS
  ⟨0x1000054, [], 0x352, 0, 0, 0, 0, 0⟩,  -- POWER_VCORE
  ⟨0x1000058, [], 0, 0, 0, 0, 0, 0⟩,  -- POWER_VIN
  ⟨0x1000060, [(0x4, 10)], 0, 0, 0, 0, 0, 0xFF00⟩,  -- POWER_THERMs
  ⟨0x1000100, [(0x4, 4)], 0, 0, 0, 0, 0, 0xFFFFFFFF⟩,  -- POWER_OVRk
  ⟨0x1000200, [], 0x700, 0xF03, 0, 0, 0, 0⟩,  -- POWER_CLK
  ⟨0x1000300, [], 0, 0x30, 0, 0, 0, 0⟩,  -- POWER_NOR
  ⟨0x1000304, [], 0, 0, 0, 0, 0xFFFFFFFF, 0⟩  -- POWER_NOR_UPD
]

/-- Registers of the TIME block. A reset value that the tables leave to the MGC or to the boot is 0 here and is set at READY. -/
def regsTime : List RegRow := [
  ⟨0xf00000, [], 0x10000, 0xFFF133, 0, 0, 0, 0⟩,  -- TIME_CTRL
  ⟨0xf00004, [], 0, 0, 0, 0, 0, 0⟩,  -- TIME_NOW_LO
  ⟨0xf00008, [], 0, 0, 0, 0, 0, 0⟩,  -- TIME_NOW_HI
  ⟨0xf0000c, [], 0, 0, 0, 0, 0xFFFFFFFF, 0⟩,  -- TIME_SET_LO
  ⟨0xf00010, [], 0, 0, 0, 0, 0xFFFFFFFF, 0⟩,  -- TIME_SET_HI
  ⟨0xf00014, [], 0, 0, 0x40000000, 0, 0, 0⟩  -- TIME_STAT
]

/-- Every register of BAR0. -/
def regRows : List RegRow :=
  regsGlobal ++ regsQuarter0 ++ regsQuarter1 ++ regsDispatch ++ regsAvenue ++ regsConv0 ++ regsConv1 ++ regsColir ++ regsMemory ++ regsArchive ++ regsHost0 ++ regsHost1 ++ regsEvc ++ regsCorner ++ regsFault ++ regsKerb ++ regsPower ++ regsTime

/-- FREE VALUE. The word that an uncorrectable read delivers "as read" (R209, R328): which bits have flipped is not
said. The first argument is the count of free values drawn. -/
opaque upsetWord : Nat → W64 → W64


/-- FREE VALUE: the token a lane delivers after a parity error (R106); its POISON and END are set by the lane. -/
opaque upsetToken : Nat → Token → Token

/-- FREE VALUE: the level at Kerb output n's land while nothing drives it (R413): its external pull is the user's. -/
opaque floatLevel : Nat → Bool

/-- FREE VALUE: the sequence number of a boot image, given by its non-zero bytes with their offsets, if the MGC finds it sound (R474):
the header and the digest are not laid out. -/
opaque bootImage : List (Nat × Byte) → Option Nat

/-- FREE VALUE: the input power in units of 0.1 W, as measured at a time (POWER_VIN.PIN). -/
opaque inputPower : Nat → BitVec 16

/-- FREE VALUE: the error of TIME_NS after SLEEP, within 31 µs, as 31,000 more than its ns (R457). -/
opaque sleepError : Nat → Fin 62001

end Config

end Sys2Proof
end

