-- ==== Sys2Proof/Machine/QuarterState.lean ====
section
/-! DEFINITION. The state of one Quarter: strand slots and PEs (R118 to R161), the divider (R190), frame memory (R195 to
R215), lanes and fire queues (R98 to R117), the Plaza (R64 to R97) and the iteration gates (R224 to R230). Plain data. -/

namespace Sys2Proof.Machine

/-- One hardware loop of a slot (R125, R145): LSTART, LEND, LCOUNT and its LACTIVE bit. -/
structure Loop where
  start  : Nat
  stop   : Nat
  count  : Nat
  active : Bool
deriving DecidableEq, Repr, Inhabited

/-- A latched REP or REPR (R150): the address of the REP word and the repetitions left. -/
structure Rep where
  addr : Nat
  left : Nat
deriving DecidableEq, Repr, Inhabited

/-- A strand slot (R118, R121 to R126). `ended` marks a strand that has ended while a load or divider result is still
outstanding; `limited` is false when BUDGET does not fall (R157); `send` holds a SEND that no lane has taken (R141), with its NC bit;
`fence` holds the slot after a FENCE (R154); `serial` tells the strands of one slot apart, so that a store that outlives
its strand (R121) meets no other. -/
structure Slot where
  busy    : Bool
  ended   : Bool
  pc      : Nat
  v       : SMap W64
  loops   : SMap Loop
  rcnt    : Nat
  sp      : Nat
  slim    : Nat
  fpctl   : Nat
  flags   : Nat
  budget  : Nat
  limited : Bool
  epoch   : Nat
  pstate  : Bool
  mode    : Nat
  tag     : W64
  rep     : Option Rep
  send    : Option (Token × Bool)
  fence   : Bool
  serial  : Nat
deriving DecidableEq, Repr, Inhabited

/-- A free slot. -/
def Slot.free : Slot :=
  { busy := false, ended := false, pc := 0, v := [], loops := [], rcnt := 0, sp := 0, slim := 0, fpctl := 0, flags := 0,
    budget := 0, limited := true, epoch := 0, pstate := false, mode := 0, tag := 0, rep := none, send := none, fence := false, serial := 0 }

/-- The memory accesses a PE has issued (R136, R143, R198). `got` is a read-modify-write whose bank access is done and
whose old word has still to return; `lddGot` a parked read released (R206). -/
inductive MemKind where
  | ld | ldd | ret | st | stOr | stAnd | stw | mke | bset | bclr
  | got (word : W64) (bad : Bool)
deriving DecidableEq, Repr, Inhabited

/-- One issued access: its slot, kind, word number (FA / 8), EA, destination register, store data and the address of its
instruction. -/
structure MemOp where
  slot : Nat
  kind : MemKind
  word : Nat
  ea   : W64
  rd   : Nat
  data : W64
  pc   : Nat
  serial : Nat
deriving DecidableEq, Repr, Inhabited

/-- The operation in a PE's divider (R190): slot, destination, result and the flags it sets when it finishes (R165). -/
structure DivOp where
  slot   : Nat
  rd     : Nat
  result : W64
  flags  : Nat
deriving DecidableEq, Repr, Inhabited

/-- A fire packet (R88): CODE, TAG with PORT cleared, the operands by position, whether the node is a gather node
(which fixes the registers of R122), the OR of the POISON bits, and EPL. -/
structure FirePacket where
  code   : Nat
  tag    : W64
  gather : Bool
  ops    : SMap W64
  poison : Bool
  epl    : Nat
deriving DecidableEq, Repr, Inhabited

/-- A PE: its slots, the accesses it has issued in order (R198), its divider, its fire queue (R115) and the slot that
issued last (R119); `fires` counts the packets taken. -/
structure PE where
  slots : SMap Slot
  memq  : List MemOp
  div   : Option DivOp
  fireq : List FirePacket
  last  : Nat
  fires : Nat
deriving DecidableEq, Repr, Inhabited

/-- A frame word (R196): its data, what its 8 check bits say of the 72 bits stored, and its presence code. With `bad` two bits are
in error and the word is uncorrectable (R209); with `ce` one is, and `data` is what the correction gives (R208). The spec does not give
the code's matrix, so the check bits are held as what they tell (log 19). -/
structure FrameWord where
  data : W64
  bad  : Bool
  pres : BitVec 2
  ce   : Bool := false
deriving DecidableEq, Repr, Inhabited

/-- Who waits in the park table (R205, R207): an LDD, or a port B READ_WAIT with its TAG and the route of its reply. -/
inductive Parker where
  | ldd (pe slot rd : Nat)
  | readWait (tag : W64) (dest : Nat)
deriving DecidableEq, Repr, Inhabited

/-- A park-table entry: the word waited for and who waits. -/
structure Park where
  word : Nat
  who  : Parker
deriving DecidableEq, Repr, Inhabited

/-- A parked read whose word has been written: the value of the releasing write (R206). -/
structure Release where
  who   : Parker
  value : W64
  bad   : Bool
deriving DecidableEq, Repr, Inhabited

/-- A frame word's share of a port B write (R199): its data, where the operation writes data, and its presence code, where it writes
that: both for WRITE, data alone for WRITE_KEEP, presence alone for PRES_WRITE. -/
structure PbWrite where
  word : Nat
  data : Option W64
  pres : Option (BitVec 2)
deriving DecidableEq, Repr, Inhabited

/-- A word that port A has written (R201): as it stood before, and when the write landed. -/
structure PortHit where
  word : Nat
  old  : FrameWord
  time : Nat
deriving DecidableEq, Repr, Inhabited

/-- A word in a lane with its point: the injection point it came from (R57, R99), or, in lane 7, the point it goes to
(R199), as 2 * (16 * y + x) + local port; and the two parity bits made when it is written (R55). -/
structure LaneWord where
  tok : Token
  pt  : Nat
  par : BitVec 2 := tok.parity
deriving DecidableEq, Repr, Inhabited

/-- A lane (R98 to R111): its two banks, which is the drain bank, whether a flush has been asked for and has still to
take effect, skip-to-END, whether the producer is part-way through an item, the point of the item the consumer is part-way
through, the closing word owed to the consumer, and, for an outbound lane, the PE served last (R103). -/
structure Lane where
  a        : List LaneWord
  b        : List LaneWord
  drainB   : Bool
  flush    : Bool
  skip     : Bool
  prodMid  : Bool
  consMid  : Option Nat
  closing  : Option LaneWord
  lastPe   : Nat := 15
deriving DecidableEq, Repr, Inhabited

/-- An empty lane after reset: A fills, B drains (R104). -/
def Lane.empty : Lane :=
  { a := [], b := [], drainB := true, flush := false, skip := false, prodMid := false, consMid := none, closing := none }

/-- A word on its way from the Crossing into a lane: the lane and the word. -/
structure Arrival where
  lane : Nat
  word : LaneWord
deriving DecidableEq, Repr, Inhabited

/-- A waiting operand (R76, R79): the token, its operand position and its arrival ordinal. -/
structure Operand where
  tok : Token
  pos : Nat
  ord : Nat
deriving DecidableEq, Repr, Inhabited

/-- A key in the spill buffer (R77): its operands, whether its parcel has been sent and to which slots (module memory
addresses), which operands were taken since, and whether a first attempt found no room (R499). -/
structure SpillKey where
  key    : Nat
  ops    : List Operand
  sent   : Bool
  slots  : List Nat
  taken  : List Nat
  failed : Bool
deriving DecidableEq, Repr, Inhabited

/-- Why a token waits in the wait table (R81, R82, R85, R498). -/
inductive WaitWhy where
  | window (key : Nat) (asked : Bool)  -- waits for the window of its key; `asked` if this token's read is outstanding
  | behind                             -- a source-ordered token held behind a parked one of its lane, or until the pen is read
  | nodemap (asked : Bool)             -- waits for its NODEMAP word
  | ready                              -- may be released
deriving DecidableEq, Repr, Inhabited

/-- A wait-table entry: the token, its arrival ordinal if it has one, the lane it came from (4 for the pen, 5 for an internal
lookup), why it waits, and the write position up to which the pen has to be read before it goes on (R85; 0 for none). -/
structure WaitEntry where
  tok  : Token
  ord  : Nat
  lane : Nat
  why  : WaitWhy
  pen  : Nat := 0
deriving DecidableEq, Repr, Inhabited

/-- An iteration-gate entry (R225 to R230). `map` lists the retired indices of the retire map at or beyond BASE; `since` counts the
retirements since the last report (R229). -/
structure GateEntry where
  valid  : Bool
  stream : Bool
  ctx    : Nat
  entry  : Nat
  exit   : Nat
  kset   : Nat
  know   : Nat
  base   : Nat
  map    : List Nat
  since  : Nat
deriving DecidableEq, Repr, Inhabited

/-- A NODEMAP word held in a cache, with the context and NODE it belongs to (R362, R498). -/
structure CacheWord where
  ctx  : Nat
  node : Nat
  word : Nat
deriving DecidableEq, Repr, Inhabited

/-- The Plaza of a Quarter. `entries` are the waiting operands in the order of insertion (R74, R76); `penWr`, `penRd`
count the slots written to and read from the pen, `penCount` the notices received and not yet read (R84); `penTokens` are
pen tokens read and not yet looked up; `internal` the indices to be looked up by R227; `fireBuf` the fire buffer (R88);
`noted` the pen notices under way; `penRun` a run of refused pen writes (R86); `lastLane` the inbound lane served last (R72); `pipe` the
bank of the lookup in pipe 0 of a cycle whose pipe 1 has gone to a waiting lookup (R73); `short` the set that needs an eviction for
which the spill buffer has no room, and the places it needs there (R87). -/
structure Plaza where
  entries   : List Operand
  spill     : List SpillKey
  filter    : SMap Nat
  bsOcc     : Nat
  penWr     : Nat
  penRd     : Nat
  penCount  : Nat
  noted     : Nat
  penTokens : List (Token × Nat)
  penRun    : Bool
  wait      : List WaitEntry
  internal  : List W64
  fireBuf   : List (Nat × FirePacket)
  ordinal   : Nat
  cache     : List CacheWord
  lastLane  : Nat := 3
  pipe      : Option Bool := none
  short     : Option (Nat × Nat) := none
deriving DecidableEq, Repr, Inhabited

/-- An empty Plaza. -/
def Plaza.empty : Plaza :=
  { entries := [], spill := [], filter := [], bsOcc := 0, penWr := 0, penRd := 0, penCount := 0, noted := 0, penTokens := [],
    penRun := false, wait := [], internal := [], fireBuf := [], ordinal := 0, cache := [] }

/-- A node-table entry (R64): the control word and the sticky value. -/
structure NodeEntry where
  ctl    : W64
  sticky : W64
deriving DecidableEq, Repr, Inhabited

/-- The record limiter of R159 and R403: the time of the last record of its kind and the faults suppressed since. -/
structure Limit where
  last  : Option Nat
  count : Nat
deriving DecidableEq, Repr, Inhabited

/-- A Quarter. `modes` is the context-mode table (R125); `nodesLen` the loaded length of the node table (R66); `frame` lists the frame
words that differ from an empty word; `dirty` and `pend` the lines whose DIRTY and PENDING bits are set (R212), and `saved` the frame as
the snapshot engine has last copied its lines; `arriving` the words the Crossing has handed over and no lane has taken; `asm` the words of
the parcel the parcel port is taking (R100); `pbq` the writes of port B's parcel that have still to land, by body word, a refused one
first (R201); `hits` the words that port A has written; `bankLast` the PE that port A of a bank served last (R197); `wb` corrected words
whose write-back waits (R208); `vc1Out` words waiting for lane 7; `sfLimit` the record limiter by context; `gates` the iteration gates. -/
structure Quarter where
  code     : SMap W32
  nodes    : SMap NodeEntry
  nodesLen : Nat
  modes    : SMap Nat
  pes      : SMap PE
  frame    : SMap FrameWord
  dirty    : List Nat
  pend     : List Nat
  saved    : SMap FrameWord
  park     : List Park
  releases : List Release
  lanes    : SMap Lane
  arriving : List Arrival
  asm      : List LaneWord
  pbq      : List (List PbWrite)
  hits     : List PortHit
  bankLast : SMap Nat
  wb       : List (Nat × W64)
  vc1Out   : List LaneWord
  plaza    : Plaza
  gates    : SMap GateEntry
  sfLimit  : SMap Limit
  retireIn : List W64
deriving DecidableEq, Repr, Inhabited

/-- A Quarter as the MGC initialises it (R214): nothing loaded, nothing waiting. -/
def Quarter.empty : Quarter :=
  { code := [], nodes := [], nodesLen := 0, modes := [], pes := [], frame := [], dirty := [], pend := [], saved := [], park := [],
    releases := [], lanes := [], arriving := [], asm := [], pbq := [], hits := [], bankLast := [], wb := [], vc1Out := [],
    plaza := Plaza.empty, gates := [], sfLimit := [], retireIn := [] }

/-- A PE with nothing in it. -/
def PE.empty : PE := { slots := [], memq := [], div := none, fireq := [], last := 7, fires := 0 }

/-- A frame word after initialisation (R214): data 0, check bits valid, EMPTY. -/
def FrameWord.empty : FrameWord := { data := 0, bad := false, pres := 0 }

end Sys2Proof.Machine
end

