-- ==== Sys2Proof/Machine/State.lean ====
section
/-! DEFINITION. The state of the block, as plain data, the reasons a step can stop, and the state after reset. -/

namespace Sys2Proof.Machine

/-- An event on its way to the EVC intake (R381): source, ARG and, for an ORPHAN, the TAG that takes the place of the
time (R383). -/
structure Event where
  src : Nat
  arg : Nat
  tag : Option W64
deriving DecidableEq, Repr, Inhabited

/-- A flit (R57): its word, its route header and the CRC that the Crossing which holds it has made. `ord` is the arrival ordinal a drained
victim keeps (R238 step 4), `esc` the Crossing at which it moved onto VC2, to which its acknowledgement goes (R60, R233). -/
structure Flit where
  word : Token
  dstX : Nat
  dstY : Nat
  dstP : Nat
  vc   : Nat
  srcX : Nat
  srcY : Nat
  srcP : Nat
  hops : Nat
  ord  : Nat
  esc  : Nat
  crc  : Nat := 0
deriving DecidableEq, Repr, Inhabited

/-- A destination for which a Crossing holds VC0 tokens until its writer has acknowledged (R60). -/
structure Hold where
  dst  : Nat        -- the destination, as 16 * y + x
  left : Nat        -- tokens not yet acknowledged
deriving DecidableEq, Repr, Inhabited

/-- A Crossing (R216 to R223). Input buffers are keyed by 4 * port + VC, ports in the order N, E, S, W, L0, L1. `spent`
and `freed` count, by output port and VC, the credits spent and those on their way back (R217); `turn` the input port served
last; `vcRun` the VC2 flits sent in a row and `vcLast` the channel served last at an output (R218); `since` the time from
which the head of a VC0 input buffer waits (R231); `held` the destinations of R60; `replays` the replays in
a row of one flit at an input and `down` the input links that are DOWN (R221, R222); `vc1Hold` the input whose parcel an output is part-way
through on VC1 (R56); `sentNo` and `sentLast` the number of the next flit and the replay buffer of each direction of a link, by output
port, with 8 more for the local ports' inputs (R221). -/
structure Crossing where
  bufs    : SMap (List Flit)
  spent   : SMap Nat
  freed   : SMap Nat
  turn    : SMap Nat
  vcRun   : SMap Nat
  vcLast  : SMap Nat
  since   : SMap Nat
  held    : List Hold
  replays : SMap Nat
  down    : List Nat
  vc1Hold  : SMap Nat
  sentNo   : SMap Nat
  sentLast : SMap (List Flit)
deriving DecidableEq, Repr, Inhabited

/-- A Crossing with nothing in it. -/
def Crossing.empty : Crossing :=
  { bufs := [], spent := [], freed := [], turn := [], vcRun := [], vcLast := [], since := [], held := [], replays := [], down := [],
    vc1Hold := [], sentNo := [], sentLast := [] }

/-- An injection point (R362): its NODEMAP cache and the word it waits for. -/
structure Inj where
  cache : List CacheWord
  miss  : Option (Nat × Nat)
deriving DecidableEq, Repr, Inhabited

/-- A Gate's side of the Avenue: the tokens that have reached it, the Dispatcher's CTL_STARTs and the tokens it has still to
inject (the last of an INJECT job with its ring and index), the parcel words that have reached it, and its pen (R234): slots
written and read, the notices of writes under way and those received and not yet read. -/
structure GateBox where
  inbox  : List Token
  starts : List Token
  out    : List (Token × Option (Nat × Nat))
  vc1In  : List Token
  penWr  : Nat
  penRd  : Nat
  noted  : Nat := 0
  penCount : Nat := 0
deriving DecidableEq, Repr, Inhabited

/-- A migration (R242, R244): the context, the group, its old and its new logical Quarter, and when it started. -/
structure Migration where
  ctx    : Nat
  group  : Nat
  old    : Nat
  target : Nat
  start  : Nat
deriving DecidableEq, Repr, Inhabited

/-- The Avenue as a whole. `inj` holds the NODEMAP caches by unit; `writers` the flits at each Backstreet writer; `lastFired` the time at
which each District last fired or held a strand (R236); `suspect` and `quiet` the Districts found so; `recovering` and `declared` the
recovery of R238; `period` the REGROW period in force in ns, 0 for none, and `regrow` the period and time of the next regrowth (R230);
`chosen` the migration the placement engine chose at the last epoch close (R242) and `mig` the one under way; `convGate` what the
Converter Gate has seen of a STREAM gate, by 16 * Quarter + entry (R229); `gatePen` the Gates' pens in MiB; `issued` and `fires` the
instructions issued by each Quarter and the firings of each context and group since the last close. -/
structure Avenue where
  xings      : SMap Crossing
  inj        : SMap Inj
  gates      : SMap GateBox
  writers    : SMap (List Flit)
  lastFired  : SMap Nat
  suspect    : List Nat
  quiet      : List Nat
  recovering : Bool
  declared   : Nat
  regrow     : Option (Nat × Nat)
  period     : Nat := 1000000000
  mig        : Option Migration
  chosen     : Option Migration
  convGate   : SMap (Nat × Nat)
  gatePen    : SMap Nat
  issued     : SMap Nat
  fires      : SMap Nat
deriving DecidableEq, Repr, Inhabited

/-- A context's descriptor as the Dispatcher has read it (R249, R251). -/
structure Desc where
  ctl        : Nat
  dep        : Nat
  depInit    : Nat
  ticks      : Nat
  due        : Nat
  image      : Nat
  startNode  : Nat
  startTag   : Nat
  startValue : W64
  notify     : List Nat
  place      : Nat
  acts       : Nat
  startTime  : Nat
deriving DecidableEq, Repr, Inhabited

/-- A spanning context at its home or at a member (R317 to R319): the number of the present round, whether it waits for answers, the
members that have answered it, the home's own L, the sum of their L, the sum of X so far and whether any CHANGED; the L that each member
answered last; then the collection: whether it has been asked for and when, the members that have ended it, whether one was given up, and
the orphans they reported. -/
structure Span where
  round     : Nat
  waiting   : Bool
  answered  : List Nat
  own       : Int
  live      : Int
  cross     : Int
  changed   : Bool
  asked     : Bool
  askedAt   : Nat
  collected : List Nat
  gaveUp    : Bool
  orphans   : Nat
  lives     : SMap Int := []
deriving DecidableEq, Repr, Inhabited

/-- A resident context (R247, R253). `seq` is the order of arming; `readySeq` its place in its ready list (R263); `e` and
`c` the totals of R92; `decs` the events since the start (R257); `endSeen` whether the END node has fired; `status` the
status it will complete with; `cancelled` marks the collection of R269; `okRounds` the rounds in a row that ended with
E = C (R93); `when` the time of its next timed step; `todo` the Quarters that have still to collect; `held` a CTL_START held
by WAKEFIRST (R266); `modes` the Quarters holding its mode entry; `armRing` and `armIndex` the START_CTX that armed it. -/
structure Ctx where
  state    : Nat
  desc     : Desc
  timer    : Bool
  cring    : Nat
  seq      : Nat
  readySeq : Nat
  rearm    : Bool
  started  : Bool
  faulted  : Bool
  poisoned : Bool
  orphaned : Bool
  endSeen  : Bool
  value    : W64
  status   : Nat
  cancelled : Bool
  startTime : Nat
  endTime  : Nat
  e        : Nat
  c        : Nat
  decs     : Nat
  okRounds : Nat
  orphWait : Nat
  when_    : Nat
  todo     : List Nat
  orphans  : Nat
  reported : Nat
  groups   : SMap Nat
  held     : Bool
  woken    : List Nat
  modes    : List Nat
  blocked  : Bool
  span     : Span
  armRing  : Nat
  armIndex : Nat
deriving DecidableEq, Repr, Inhabited

/-- An arming whose descriptor read is under way (R254), with the job that asked for it. -/
structure Arming where
  ctx   : Nat
  cring : Nat
  ring  : Nat
  index : Nat
deriving DecidableEq, Repr, Inhabited

/-- The Dispatcher. `armSeq` and `readySeq` number armings and entries into ready lists; `nextTick` is the TIME_NS at which
TICK_NOW next increases (R258); `depQ` the decrements waiting to be applied (R255). -/
structure Disp where
  ctxs     : SMap Ctx
  arming   : List Arming
  depQ     : List Nat
  tickNow  : Nat
  nextTick : Nat
  armSeq   : Nat
  readySeq : Nat
  charges  : SMap (List Nat)
deriving DecidableEq, Repr, Inhabited

/-- An accepted job (R374): its index, its descriptor (key bytes zero, R366), the CQ of its record, whether it has started,
whether it has completed with which outcome, whether its record is queued, and the LSN of its JOB record, by which jobs of all rings are
ordered by acceptance (R345). -/
structure Job where
  index  : Nat
  desc   : List Byte
  cring  : Nat
  begun  : Bool
  done   : Bool
  queued : Bool
  status : Nat
  result : Nat
  detail : Nat
  lsn    : Nat := 0
deriving DecidableEq, Repr, Inhabited

/-- A submission ring (R353 to R376): the last TAIL polled, ACCEPTED, GEN, the HSEQ accepted last, a halt and its cause, the descriptor
fetched and not yet accepted, for a KEY_LOAD the check value once the slot is written, the jobs whose records are not written, and
whether the ACCEPT record is due. -/
structure SQ where
  tail     : Nat
  accepted : Nat
  gen      : Nat
  hseq     : Nat
  halted   : Bool
  cause    : Nat
  fetched  : Option (List Byte)
  keyDone  : Option Nat
  jobs     : List Job
  accDue   : Bool
deriving DecidableEq, Repr, Inhabited

/-- A completion record before PHASE and its ring index are known (R371): a job's, or a context's with the START_CTX job that
armed it. -/
inductive CqRec where
  | job (hseq status sq index result detail : Nat)
  | ctx (endTime flags status ctx : Nat) (value : W64) (orphans unfound : Nat) (ring index : Nat)
deriving DecidableEq, Repr, Inhabited

/-- A completion ring (R371 to R373): next write index, the head seen, the records due and not yet written, and those the
journal holds as issued (R378). -/
structure CQ where
  w       : Nat
  head    : Nat
  halted  : Bool
  waiting : List CqRec
  issued  : List (Nat × CqRec)
deriving DecidableEq, Repr, Inhabited

/-- A staged event record (R383). -/
structure EqRec where
  src    : Nat
  arg    : Nat
  time   : Nat
  fwd    : Bool
  late   : Bool
  lost   : Bool
  origin : Nat
deriving DecidableEq, Repr, Inhabited

/-- An event ring (R384 to R386). `lossMark` says that the next record staged carries LOST. -/
structure EQ where
  w        : Nat
  head     : Nat
  halted   : Bool
  staged   : List EqRec
  lossMark : Bool
  issued   : List (Nat × EqRec)
deriving DecidableEq, Repr, Inhabited

/-- A ring as the EVC signals it (R388 to R391). `time` is the TIME of its CFG as the last record written found it. -/
structure Ring where
  unsig     : Nat
  oldest    : Nat
  time      : Nat
  due       : Bool
  signalled : Bool
  headRead  : Bool
deriving DecidableEq, Repr, Inhabited

/-- The Event Controller. `raised` are the events on their way to the intake; `late` the sources whose mask window is open,
with the time it closes (R382); `stack` the running-priority stack, top first (R389); `wake0` the wake causes set, while enabled,
since the last WAKE record (R396); `timer` when the Corner timer reaches 0 (R397). -/
structure Evc where
  raised : List Event
  eqs    : SMap EQ
  rings  : SMap Ring
  stack  : List (Nat × Nat)
  late   : SMap Nat
  wake0  : Nat
  timer  : Option Nat
deriving DecidableEq, Repr, Inhabited

/-- The endpoint's configuration-space controls (R347 to R349, R351, R352, R389, R394). `bar0` is the base of BAR0 in units of 64 MiB, and
`bar2` that of BAR2 in units of 4 GiB. -/
structure Pcie where
  busMaster : Bool
  msixOn    : Bool
  funcMask  : Bool
  d3        : Bool
  pmeEn     : Bool
  pmeStatus : Bool
  bar0      : Nat
  bar2      : Nat
deriving DecidableEq, Repr, Inhabited

/-- The host interface. `active` and `lastChange` are the polling mode of R355; `resume` is RESUME_PENDING, `reconciling` R378;
`seen` the last value polled of each doorbell word. -/
structure HostIf where
  pcie       : Pcie
  sqs        : SMap SQ
  cqs        : SMap CQ
  active     : Bool
  lastChange : Nat
  lastPoll   : Nat
  resume     : Bool
  reconciling : Bool
  seen       : SMap Nat
  lastMsix   : List (Nat × Nat)
deriving DecidableEq, Repr, Inhabited

/-- A fault that pends (R405): FSEQ, applied class, source and unit. -/
structure Pend where
  fseq : Nat
  cls  : Nat
  src  : Nat
  unit : Nat
deriving DecidableEq, Repr, Inhabited

/-- The reactions that open a shadow window (R409). -/
inductive Shadow where
  | quarter (p : Nat) | page (n : Nat) | convLink (k : Nat) | colirLane (p : Nat) | colirPort (p : Nat)
  | stop (s : Nat) | district (d : Nat) | rollback
deriving DecidableEq, Repr, Inhabited

/-- An open shadow window: the reaction, the primary fault's FSEQ, and when it closes once the reaction has completed. -/
structure Window where
  kind  : Shadow
  fseq  : Nat
  until_ : Option Nat
deriving DecidableEq, Repr, Inhabited

/-- The Fault Hub (R398 to R410) and the grave state (R411). `wires` are the detections on the fault wires; `pend` the faults that
pend, `active` the ACTIVE classes, `graveUnacked` the F4s no FAULT_ACK covers; `quietDue` when each class may clear (R407) and `f0Due`
when NOW of each F0 source returns to 0 (R408); `times` FIRST and LAST of the cause records; `qtrTimes` the detections of R401 by
Quarter; `windows` the open shadow windows; `limits` the record limiter of R403; `degraded` R410; `pllLost` the Districts whose PLL is
out of lock; `beatAt` when the next heartbeat is sent and `beatWait` the Quarters that have not answered the last. -/
structure FaultHub where
  wires     : List Detection
  fseq      : Nat
  pend      : List Pend
  active    : List Nat
  grave     : Bool
  graveUnacked : List Nat
  quietDue  : SMap Nat
  f0Due     : SMap Nat
  times     : SMap (Nat × Nat)
  qtrTimes  : SMap (List Nat)
  windows   : List Window
  limits    : SMap Limit
  degraded  : Bool
  pllLost   : List Nat
  beatAt    : Nat
  beatWait  : List Nat
deriving DecidableEq, Repr, Inhabited

/-- The Kerb outputs and inputs (R413 to R417): each output's state code and forced level, the outputs whose CFG has been written since
POR, and the inputs' filtered levels as bits. -/
structure Kerb where
  state  : SMap Nat
  level  : SMap Nat
  configured : List Nat
  inputs : Nat
deriving DecidableEq, Repr, Inhabited

/-- A page a Sweeper has borrowed (R335): the page number, and whether its region was URGENT at the borrow (R330, R337). The holding
buffer's contents are what the page's addresses read, so they stand in module memory itself. -/
structure Borrow where
  page   : Nat
  urgent : Bool
deriving DecidableEq, Repr, Inhabited

/-- The Stops and their Sweepers (R326 to R338). `bad` are the uncorrectable lines, `lost` the Stops that have stopped
answering, `remap` the retired pages with their spare's number, `hist` the history entries (page, time) of each Stop oldest
first, `sweep` the next page of each Sweeper in steps of its own pages, `borrow` the borrowed pages, `revisit` the pages to be
swept again with their times by Stop, `aborts` the aborts in a row of a page, `typed` the used entries of the region table as the MGC
read them before READY, each with TYPE, BASE and SIZE (R330). -/
structure MemUnit where
  bad      : List Nat
  lost     : List Nat
  remap    : SMap Nat
  hist     : SMap (List (Nat × Nat))
  sweep    : SMap Nat
  sweepAt  : SMap Nat
  borrow   : SMap Borrow
  revisit  : SMap (List (Nat × Nat))
  aborts   : SMap Nat
  typed    : List (Nat × Nat × Nat)
deriving DecidableEq, Repr, Inhabited

/-- A block of the Archive ring (R340, R344): its slot, BSEQ, whether its seal has finished, the job (ring and index) that drains it, and
its address where the ring has been moved since it was opened (R346). -/
structure ABlock where
  slot   : Nat
  bseq   : Nat
  nrec   : Nat
  first  : Nat
  last   : Nat
  start  : Bool
  cut    : Bool
  sealed : Bool
  drain  : Option (Nat × Nat)
  base   : Option Nat := none
deriving DecidableEq, Repr, Inhabited

/-- The Archive Gate (R339 to R346). `open_` is the open block, `blocks` the closed ones oldest first, `seqs` the record
numbers of the streams, `sealing` the key slot, the key and the start of the seal that runs, `lost` and `lostAt` the records lost
since the last GAP record and the time of the first. -/
structure Archive where
  open_   : Option ABlock
  blocks  : List ABlock
  nextSlot : Nat
  bseq    : Nat
  chainId : Option Nat
  lastTag : List Byte
  seqs    : SMap Nat
  keys    : SMap (List Byte)
  sealing : Option (Nat × List Byte × Nat)
  lost    : Nat
  lostAt  : Nat
deriving DecidableEq, Repr, Inhabited

/-- The decisions the Dispatcher journals (R434, kind 8). A DEP change carries the new value and the units it was lowered by, 0
where it was set. -/
inductive Decision where
  | arm | ready | timerDue | cancel | start
  | dep (value units : Nat)
  | complete (status : Nat) (value : W64)
deriving DecidableEq, Repr, Inhabited

/-- The payload of a journal record (R434). -/
inductive JBody where
  | mark (epoch : Nat)
  | epochDone (epoch : Nat)
  | samples (frame stamp width : Nat) (ts toks : List Token)
  | job (index : Nat) (desc : List Byte)
  | inject (tok : Token)
  | colirIn (tok : Token)
  | merge (tag : W64) (ord : Nat)
  | disp (ctx : Nat) (what : Decision)
  | cross (tok : Token) (ctx : Nat)
  | out (tag value : W64) (seq : Nat)
deriving DecidableEq, Repr, Inhabited

/-- A journal record (R432): its LSN, its SRC, its length in bytes and its payload. -/
structure JRec where
  lsn  : Nat
  src  : Nat
  len  : Nat
  body : JBody
deriving DecidableEq, Repr, Inhabited

/-- A Quarter at its cut (R424, R427): the Quarter as it stood, the next LSN then, the channel record so far, and the senders whose
MARKER has arrived (numbered as in R425). -/
structure QCut where
  image   : Quarter
  lsn     : Nat
  chan    : List Token
  markers : List Nat
deriving DecidableEq, Repr, Inhabited

/-- What a close has gathered (R424, R428): the Quarters that have taken their cut; of each Gate that has written its MARK, the LSN of
the MARK and the tokens it held; the counts each unit had not flushed at its cut; and the Dispatcher at the Host Gate's cut. -/
structure Cuts where
  quarters : SMap QCut
  marks    : SMap (Nat × List Token)
  counts   : SMap (Nat × Nat)
  disp     : Option Disp
deriving DecidableEq, Repr, Inhabited

/-- A close under way (R423): the epoch and when it started. -/
structure Close where
  epoch : Nat
  start : Nat
  cuts  : Cuts
deriving DecidableEq, Repr, Inhabited

/-- A complete epoch's bank (R428). -/
structure Bank where
  epoch : Nat
  cuts  : Cuts
deriving DecidableEq, Repr, Inhabited

/-- An undo entry (R430): the epoch it belongs to, the Quarter whose area it is in (68 to 71 for a Gate's pen), the line and
what it held. -/
structure Undo where
  epoch : Nat
  unit  : Nat
  line  : Nat
  old   : List Byte
deriving DecidableEq, Repr, Inhabited

/-- A rollback under way (R439): the closure as logical Quarters, physical Quarters and contexts, when it started, the step it is in
(3, 4 or 5), the senders whose FLUSH has reached each closure Quarter, the journaled inputs still to be fed by unit, the firing
order of merge nodes by Quarter, the Dispatcher's decisions still to be applied, whether RECOVERY_SLOW has been raised, and the
logical Quarters that a retirement has set to UNMAPPED (R447). -/
structure Rollback where
  logicals : List Nat
  quarters : List Nat
  ctxs     : List Nat
  start    : Nat
  step     : Nat
  flush    : SMap (List Nat)
  feed     : SMap (List Token)
  merges   : SMap (List (W64 × Nat))
  decs     : List (Nat × Decision)
  slow     : Bool
  lost     : List Nat
deriving DecidableEq, Repr, Inhabited

/-- Continuity (R422 to R450). `epoch` is the current epoch, `qEpoch` and `gEpoch` the sender epochs of Quarters and Gates, `lsn`
the next record number, `journal` the records since the anchor, `bank` the last complete epoch, `undo` the undo entries
newest first, `lastClose` the start of the previous close, `freeAt` the end of the last close or rollback, `lateWait` whether a close
has been asked for while a rollback ran, `epochAsked` the EPOCH_NOW jobs that wait, `outs` the outputs that replay must not repeat
(R438), `outbox` the MARKERs to be injected with the point they start from, `fullSince` since when a writer waits, `fresh_` whether
the store has been moved and no close has completed since (R450), and `shadows` the instruction shadows (R460): node table, its loaded
length and code. -/
structure Cont where
  epoch      : Nat
  qEpoch     : SMap Nat
  gEpoch     : SMap Nat
  lsn        : Nat
  journal    : List JRec
  bank       : Option Bank
  undo       : List Undo
  lastClose  : Nat
  freeAt     : Nat
  lateWait   : Bool
  epochAsked : List (Nat × Nat)
  close      : Option Close
  roll       : Option Rollback
  outs       : List (W64 × W64)
  outbox     : List (Nat × Token)
  fullSince  : Option Nat
  fresh_     : Bool
  shadows    : SMap (SMap NodeEntry × Nat × SMap W32)
deriving DecidableEq, Repr, Inhabited

/-- A frame in a link's staging area (R289): its number, whether it is a gap, whether it has been released (`due`: not before when, R284)
and from when its tokens enter, the LSN of its journal record, its timestamp token and its sample tokens, each with its twin behind it (R444), what it
takes of the area, and whether WINDOW_HOLD has counted it. The tokens get EPL and SO at injection. -/
structure StgFrame where
  frame    : Nat
  gap      : Bool
  released : Bool
  ready    : Nat
  lsn      : Option Nat
  ts       : List Token
  toks     : List Token
  bytes    : Nat
  held     : Bool
  due      : Nat := 0
deriving DecidableEq, Repr, Inhabited

/-- A converter link (R274 to R291) beside its registers. `todo` holds the entries settling has still to try and `entry` the one
tried or accepted, with its parameters as PARAM0 and PARAM1 show them, its RATE, LAT_NS and EYE_MIN; `slots` the lane slots it
holds; `dwellAt` the start of the PRBS dwell; `edge` whether a SYSREF edge has been seen since ALIGNING, entered at `alignAt`, and `lmfc`
the time of that edge, from which the LMFC or LEMC runs (R283); `dataAt` the boundary at which frame 0 starts; `frames` the frames since
then; `lockLost` when a lock was lost; `realigns` the times of realigns; `lastOut` the words of the frame built last. `first`, `tx` and
`prof` are FIRST, the direction of that slot and the bytes of the profile as read at SETTLE (R274, R277), `ke` and `rbd` KE and RBD of the
entry, `crcBad` the multiblock whose CRC-12 failed last (R287), and `ilasOut` the configuration octets a transmit link sends on its lanes
(R282). -/
structure ConvLink where
  todo     : List Nat
  entry    : Nat
  p0       : Nat
  p1       : Nat
  rate     : Nat
  lat      : Nat
  eyeMin   : Nat
  slots    : List Nat
  subclass : Nat
  dwellAt  : Option Nat
  edge     : Bool
  alignAt  : Nat
  dataAt   : Nat
  frames   : Nat
  lockLost : Option Nat
  realigns : List Nat
  staging  : List StgFrame
  lastOut  : List Nat
  first    : Nat := 0
  tx       : Bool := false
  prof     : List Byte := []
  ke       : Nat := 0
  rbd      : Nat := 0
  lmfc     : Nat := 0
  crcBad   : Option Nat := none
  ilasOut  : List (List Byte) := []
deriving DecidableEq, Repr, Inhabited

/-- A drive channel (R292 to R295): the frame at which it started, NEXT, the drive buffer by index, the values decided and not yet
played out with their indices, the value it plays, and the value decided last as its N bits; `paired` is PAIRED as it still applies, after
a write, until the next deadline. -/
structure Drive where
  start  : Option Nat
  next   : Nat
  buffer : SMap Token
  queue  : List (Nat × Nat)
  play   : Option Nat
  last   : Option Nat
  paired : Option Bool := none
deriving DecidableEq, Repr, Inhabited

/-- The Converter Gate (R273 to R296). `starts` holds the frame at which each input channel started (a link's timestamp stream under
4096 + link); `script` the host script that runs (its MA); `settleWait` the links whose SETTLE waits; `sysref` the TIME_NS of the
latest SYSREF edge; `limit` REALIGN_LIMIT as it applies since that edge. -/
structure Conv where
  links      : SMap ConvLink
  starts     : SMap Nat
  drives     : SMap Drive
  script     : Option Nat
  settleWait : List Nat
  sysref     : Nat
  limit      : Nat := 8
deriving DecidableEq, Repr, Inhabited

/-- The transmitter of a lane of a Colir port (R301). `scram` holds the last 58 scrambled bits, the latest in bit 0; `blocks` counts the
data blocks since the last alignment marker; `cells` are those packed in the codeword being filled, and `words` counts codewords;
`line` is what went onto the line last: 66-bit blocks with FEC off, one codeword with FEC on. -/
structure LaneTx where
  scram  : Nat := 0
  blocks : Nat := 0
  cells  : List (BitVec 256) := []
  words  : Nat := 0
  line   : List Nat := []
deriving DecidableEq, Repr, Inhabited

/-- A Colir port (R297 to R312) beside its registers. `ctl` is CTRL as read at the last entry to CAPS; `signal` the RX lanes with
signal; `sentWord` the capability word last sent, `capsCount` how often the partner's came in a row with our ECHO; `since` the time of
the entry to CAPS or the start of the TRAIN dwell; `cut` the lanes TRAIN left and `rateCap` the highest rate code the port may still
choose; `seq` and `expect` the next sequence numbers out and in; `replay` the unacknowledged cells, oldest first, without ACK, credits
and CRC, and `again` the index of the one to be sent again next; `nakDue` and `nakking` the receiver's NAK; `ackAt` when an ACK last
advanced; `tcred`, `ocred` the credits held and `retT`, `retO` those to return; the queues of waiting cells, a token with its HOPS
and, in transit, the port it came by, a mirror cell with its time; `rxHeld` received cells that wait for the journal; `run` the TOKEN
cells in a row and `evNext` whose turn it is of EVENT and LEDGER; `leftAt` when ACTIVE was left and `lost` R312; `timeAt` when the next
TIME cell is due, `tArrive` the arrival of the partner's latest, `meas` t1 to t3 of R321; `fails` the times of CRC failures in the
last second; `lastCell` the cell put on the lanes last and `lastLane` its lane; `said` whether a capability word has been sent since
the entry to CAPS; `stripe` counts the cells of the stream over the active lanes; `lanes` are the lane transmitters. -/
structure CPort where
  ctl       : Nat
  signal    : Nat
  sentWord  : W64
  capsCount : Nat
  since     : Nat
  cut       : Nat
  rateCap   : Nat
  seq       : Nat
  expect    : Nat
  replay    : List (BitVec 256)
  again     : Option Nat
  nakDue    : Bool
  nakking   : Bool
  ackAt     : Nat
  tcred     : Nat
  ocred     : Nat
  retT      : Nat
  retO      : Nat
  tokQ      : List (Token × Nat × Option Nat)
  dispQ     : List (BitVec 144 × Nat)
  evQ       : List (BitVec 144 × Nat)
  ledQ      : List (BitVec 144 × Nat × Nat)
  rxHeld    : List (BitVec 256)
  run       : Nat
  evNext    : Bool
  leftAt    : Option Nat
  lost      : Bool
  timeAt    : Nat
  tArrive   : Nat
  meas      : Option (Nat × Nat × Nat)
  fails     : List Nat
  lastCell  : BitVec 256
  lastLane  : Nat := 0
  said      : Bool := false
  stripe    : Nat := 0
  lanes     : List LaneTx := List.replicate 4 {}
deriving DecidableEq, Repr, Inhabited

/-- The Colir Gate (R297 to R325). `flow` is, by context, tokens sent minus received (X of R318). -/
structure Colir where
  ports : SMap CPort
  flow  : SMap Int
deriving DecidableEq, Repr, Inhabited

/-- An image slot of the boot NOR (R474): whether header, length and digest are sound, the header's sequence number, and the boots that
have failed in a row. -/
structure NorSlot where
  sound : Bool
  seq   : Nat
  fails : Nat
deriving DecidableEq, Repr, Inhabited

/-- The boot NOR (R474, R476) and the boot: slots A and B; which was booted; whether an image has been chosen since the release of
reset; UPD; and, while an update is written, the sequence number of its image if it verified. -/
structure Nor where
  slotA  : NorSlot
  slotB  : NorSlot
  bootB  : Bool
  chosen : Bool
  upd    : Nat
  image  : Option Nat
deriving DecidableEq, Repr, Inhabited

/-- A register write as it waits for a District to wake (R459): offset and value. -/
structure LateWrite where
  off   : Nat
  value : Nat
deriving DecidableEq, Repr, Inhabited

/-- Power, clocks and resets (R451 to R476) beside the registers. `off` is UVLO or over-voltage shutdown; `held` lasts from a reset to
READY; `released` says that RST_N and PERST_N are high and boot has started; `since` is the strongest reset since the last READY;
`sleeping` is SLEEP, and `woken` that an enabled wake event has come in it (R396, R457); `vinLow` a warning that has not re-armed. By
District: `due` the end of an entry into OFF or of a wake, `later` the writes that wait (R459), `therm` the last step of its thermal
limiter, `fstep` the frequency step under way and its end, `goal` the frequency of R466 and `fAt` its last decision. `images` holds the
OFF images by Quarter; `hotAt` since when a sensor reads above 125 °C; `wasUp` the converter links that were up before a warm reset
(R471). -/
structure Power where
  off      : Bool
  held     : Bool
  released : Bool
  since    : Option Nat
  sleeping : Bool
  woken    : Bool
  vinLow   : Bool
  due      : SMap Nat
  later    : SMap (List LateWrite)
  therm    : SMap Nat
  fstep    : SMap (Nat × Nat)
  goal     : SMap Nat
  fAt      : SMap Nat
  images   : SMap Quarter
  hotAt    : SMap Nat
  wasUp    : List Nat
  nor      : Nor
deriving DecidableEq, Repr, Inhabited

/-- Time discipline (R468): when the last offset came, the rest to be slewed, the ns since the last slewed one, and when TIME_OUT
falls. -/
structure TimeUnit where
  lastOffset : Option Nat
  slew       : Int
  slewAcc    : Nat
  outUntil   : Option Nat
deriving DecidableEq, Repr, Inhabited

/-- The PMBus target (R493, R494): CML, the STATUS_WORD bits as last seen, those of them that hold PMB_ALERT_N low, and the answer to
the last command: its bytes, or a NACK. -/
structure Pmb where
  cml    : Bool
  seen   : Nat
  alert  : Nat
  answer : List Byte
  nack   : Bool
deriving DecidableEq, Repr, Inhabited

/-- A transfer on the side SPI (R278): chip select, whether it reads, ADDR[14:0] and the byte written. -/
structure SpiXfer where
  cs   : Nat
  read : Bool
  addr : Nat
  data : Nat
deriving DecidableEq, Repr, Inhabited

/-- What the block last put on its outward buses: a register value read over PCIe, the line a Stop last answered with its POISON (empty for
an Unsupported Request), a
configuration value (none for a retry status, R348), the PM_PME messages sent, the TIME_OUT pin, and the SPI transfers of the last
script. -/
structure Lands where
  read    : Nat
  line    : List Byte
  lineBad : Bool
  config  : Option Nat
  pmPme   : Nat
  timeOut : Bool
  spi     : List SpiXfer := []
deriving DecidableEq, Repr, Inhabited

/-- Everything but the queue of commands. `now` is the time in ns since VIN rose, `timeNs` is TIME_NS, `free` counts the
free values drawn, `regs` holds the registers by BAR0 offset that differ from their reset value, `retired` the retired
Quarters (R26), `live` the unflushed emission and consumption counts by 2^20 * unit + context (R92), `mem` module memory and
`hostMem` the host's memory as far as the module and its host have written it. -/
structure Block where
  now     : Nat
  timeNs  : Nat
  free    : Nat
  regs    : SMap Nat
  retired : List Nat
  qs      : SMap Quarter
  live    : SMap (Nat × Nat)
  ave     : Avenue
  disp    : Disp
  host    : HostIf
  evc     : Evc
  hub     : FaultHub
  kerb    : Kerb
  stops   : MemUnit
  arch    : Archive
  cont    : Cont
  conv    : Conv
  colir   : Colir
  power   : Power
  time    : TimeUnit
  pmb     : Pmb
  lands   : Lands
  mem     : List Host.Cell
  hostMem : List Host.Cell
deriving DecidableEq, Repr, Inhabited

/-- The state of the model: the block, and the commands that wait, first in, first out. -/
structure State where
  blk     : Block
  pending : List Instr
deriving DecidableEq, Repr

/-- The Avenue after a reset. The Gate pens stand where the MGC places them (R330). -/
def Avenue.initial : Avenue :=
  { xings := [], inj := [], gates := [], writers := [], lastFired := [], suspect := [], quiet := [], recovering := false,
    declared := 0, regrow := none, mig := none, chosen := none, convGate := [],
    gatePen := [(0, 17536), (1, 17552), (2, 17568), (3, 17584)], issued := [], fires := [] }

/-- The Dispatcher after a reset that keeps nothing. -/
def Disp.initial : Disp :=
  { ctxs := [], arming := [], depQ := [], tickNow := 0, nextTick := 0, armSeq := 0, readySeq := 0, charges := [] }

/-- The configuration-space controls at their reset values (R347, R389, R394). -/
def Pcie.initial : Pcie :=
  { busMaster := false, msixOn := false, funcMask := false, d3 := false, pmeEn := false, pmeStatus := false, bar0 := 0, bar2 := 0 }

/-- The host interface after a reset that keeps nothing; polling is ACTIVE (R355). -/
def HostIf.initial : HostIf :=
  { pcie := Pcie.initial, sqs := [], cqs := [], active := true, lastChange := 0, lastPoll := 0, resume := false,
    reconciling := false, seen := [], lastMsix := [] }

/-- The Event Controller after a reset that keeps nothing. -/
def Evc.initial : Evc := { raised := [], eqs := [], rings := [], stack := [], late := [], wake0 := 0, timer := none }

/-- The Fault Hub after a reset that keeps nothing: FSEQ starts at 1 (R404). -/
def FaultHub.initial : FaultHub :=
  { wires := [], fseq := 1, pend := [], active := [], grave := false, graveUnacked := [], quietDue := [], f0Due := [], times := [],
    qtrTimes := [], windows := [], limits := [], degraded := false, pllLost := [], beatAt := 0, beatWait := [] }

/-- Module memory's units after a reset that keeps nothing. -/
def MemUnit.initial : MemUnit :=
  { bad := [], lost := [], remap := [], hist := [], sweep := [], sweepAt := [], borrow := [], revisit := [], aborts := [], typed := [] }

/-- The Archive after a reset that keeps nothing (R345). -/
def Archive.initial : Archive :=
  { open_ := none, blocks := [], nextSlot := 0, bseq := 0, chainId := none, lastTag := List.replicate 32 0, seqs := [], keys := [],
    sealing := none, lost := 0, lostAt := 0 }

/-- Continuity after a reset that keeps nothing: epoch 0, empty banks (R449). -/
def Cont.initial : Cont :=
  { epoch := 0, qEpoch := [], gEpoch := [], lsn := 0, journal := [], bank := none, undo := [], lastClose := 0, freeAt := 0,
    lateWait := false, epochAsked := [], close := none, roll := none, outs := [], outbox := [], fullSince := none, fresh_ := false,
    shadows := [] }

/-- The Converter Gate after a reset: every link OFF. -/
def Conv.initial : Conv := { links := [], starts := [], drives := [], script := none, settleWait := [], sysref := 0 }

/-- Power after a power-on reset with RST_N and PERST_N high: boot has started and READY has still to be reported. Slot A of the NOR holds
the image that boots, slot B none. -/
def Power.initial : Power :=
  { off := false, held := true, released := true, since := some 0, sleeping := false, woken := false, vinLow := false, due := [], later := [],
    therm := [], fstep := [], goal := [], fAt := [], images := [], hotAt := [], wasUp := []
    nor := { slotA := { sound := true, seq := 1, fails := 0 }, slotB := { sound := false, seq := 0, fails := 0 }, bootB := false,
             chosen := true, upd := 0, image := none } }

/-- Time discipline after a reset. -/
def TimeUnit.initial : TimeUnit := { lastOffset := none, slew := 0, slewAcc := 0, outUntil := none }

/-- The block after a power-on reset: every register at its reset value, every memory, queue and buffer empty. -/
def Block.initial : Block :=
  { now := 0, timeNs := 0, free := 0, regs := [], retired := [], qs := [], live := [], ave := Avenue.initial, disp := Disp.initial,
    host := HostIf.initial, evc := Evc.initial, hub := FaultHub.initial,
    kerb := { state := [], level := [], configured := [], inputs := 0 }, stops := MemUnit.initial, arch := Archive.initial,
    cont := Cont.initial, conv := Conv.initial, colir := { ports := [], flow := [] }, power := Power.initial,
    time := TimeUnit.initial, pmb := { cml := false, seen := 0, alert := 0, answer := [], nack := false },
    lands := { read := 0, line := [], lineBad := false, config := none, pmPme := 0, timeOut := false }, mem := [], hostMem := [] }

/-- The machine right after a power-on reset, with no command waiting. -/
def State.reset : State := { blk := Block.initial, pending := [] }

/-- Why a command can stop. No meaning of this model stops; the type keeps the one name the interface asks for. -/
inductive Fault where
  /-- Raised by no command of this model; a stop with it would be safe, since no effect would be claimed. -/
  | none_
deriving DecidableEq, Repr

/-- Why a command has no meaning. -/
inductive Refusal where
  /-- Raised by the dispatcher's arm of a command that has no meaning in this model; safe, since it claims no effect. -/
  | notModelled (mnemonic : String)
deriving DecidableEq, Repr

end Sys2Proof.Machine
end

