-- ==== Sys2Proof/Machine/Ops.lean ====
section
/-! DEFINITION. The named operations every meaning is made of: registers, time, module memory and host memory, Quarters
and the mesh, live counts, events, detections and fault records. -/

namespace Sys2Proof.Machine

-- The form of a meaning

/-- A meaning whose effect is a function of the block; the queue is left as it is. -/
def act (f : Block → Block) (s : State) : Host.Outcome State Fault Refusal := .next { s with blk := f s.blk }

-- Whether the module runs

/-- The module is powered, out of reset with READY reported, and not in SLEEP. -/
def Block.up (b : Block) : Bool := !b.power.off && !b.power.held && !b.power.sleeping

/-- A meaning of a unit that works only while the module runs. -/
def actUp (f : Block → Block) (s : State) : Host.Outcome State Fault Refusal := act (fun b => if b.up then f b else b) s

-- Registers (R8, R14 to R17, R36)

/-- Whether an offset below a row's base names one of its copies, by the strides left. -/
def dimsHit : List (Nat × Nat) → Nat → Bool
  | [], r => r == 0
  | (s, n) :: ds, r => r / s < n && dimsHit ds (r % s)

/-- The row whose copy stands at a word offset. -/
def regRow (off : Nat) : Option RegRow :=
  Config.regRows.find? fun r => r.base ≤ off && dimsHit r.dims (off - r.base)

/-- The value a register holds (as stored; the live fields are computed where the register is read). -/
def Block.reg (b : Block) (off : Nat) : Nat :=
  match SMap.find? b.regs off with
  | some v => v
  | none => match regRow off with
    | some r => r.reset
    | none => 0

/-- Stores a register whole. -/
def Block.setReg (b : Block) (off v : Nat) : Block := { b with regs := SMap.put b.regs off (v % 2 ^ 32) }

/-- Bits hi:lo of a register. -/
def Block.rf (b : Block) (off hi lo : Nat) : Nat := bits (b.reg off) hi lo

/-- Writes bits hi:lo of a register. -/
def Block.setRf (b : Block) (off hi lo v : Nat) : Block := b.setReg off (setBits (b.reg off) hi lo v)

/-- A write of the fields of a register that has no behaviour of its own: RW bits are stored, W1C bits cleared. -/
def Block.writePlain (b : Block) (off v : Nat) : Block :=
  match regRow off with
  | none => b
  | some r =>
    let old := b.reg off
    b.setReg off (((old &&& (0xFFFFFFFF ^^^ r.rw)) ||| (v &&& r.rw)) &&& (0xFFFFFFFF ^^^ (v &&& r.w1c)))

/-- Adds to a saturating counter register. -/
def Block.bump (b : Block) (off : Nat) (n : Nat := 1) : Block :=
  if n = 0 then b else b.setReg off (satAdd (b.reg off) n)

/-- Offset of a register of Quarter q (R13, R37). -/
def qOff (q o : Nat) : Nat := 0x600000 + 0x10000 * q + o
/-- PLZ_CNTk of Quarter q. -/
def plzCnt (q k : Nat) : Nat := qOff q (0x100 + 4 * k)
/-- FRM_CNTk of Quarter q. -/
def frmCnt (q k : Nat) : Nat := qOff q (0x3010 + 4 * k)
/-- AVENUE_CNTk. -/
def aveCnt (k : Nat) : Nat := 0x500100 + 4 * k
/-- DISPATCH_CNTk. -/
def dispCnt (k : Nat) : Nat := 0x400100 + 4 * k
/-- HOST_CNTk. -/
def hostCnt (k : Nat) : Nat := 0x100100 + 4 * k
/-- EVC_CNTk. -/
def evcCnt (k : Nat) : Nat := 0x200100 + 4 * k
/-- MEMORY_CNTk. -/
def memCnt (k : Nat) : Nat := 0xB00200 + 4 * k
/-- ARCHIVE_CNTk. -/
def archCnt (k : Nat) : Nat := 0xC00100 + 4 * k
/-- CONT_CNTk. -/
def contCnt (k : Nat) : Nat := 0x1100300 + 4 * k
/-- COLIR_CNTk. -/
def colirCnt (k : Nat) : Nat := 0xE00100 + 4 * k
/-- CONV_LINKk_CNTj. -/
def convCnt (k j : Nat) : Nat := 0xD01080 + 0x100 * k + 4 * j
/-- COLIR_PORTp_CNTj. -/
def portCnt (p j : Nat) : Nat := 0xE01080 + 0x100 * p + 4 * j

/-- The module's own ID (COLIR_ID.ID). -/
def Block.ownId (b : Block) : Nat := b.rf 0xE00000 3 0

-- Time

/-- Time passes by n ns: TIME_NS counts ns (R63, R468). An offset being slewed out changes it by 1 ns in 10,000 (100 ppm). -/
def Block.pass (b : Block) (n : Nat) : Block :=
  if b.time.slew = 0 then { b with now := b.now + n, timeNs := (b.timeNs + n) % 2 ^ 64 }
  else
    let acc := b.time.slewAcc + n
    let c := min (acc / 10000) b.time.slew.natAbs
    let d : Int := if b.time.slew < 0 then -(c : Int) else (c : Int)
    { b with
      now := b.now + n, timeNs := ofInt 64 ((b.timeNs : Int) + n - d)
      time := { b.time with slew := b.time.slew - d, slewAcc := acc % 10000 } }

/-- Time passes up to a moment; nothing happens where it has passed already. -/
def Block.passTo (b : Block) (t : Nat) : Block := if b.now < t then b.pass (t - b.now) else b

/-- A number of CK_AVE cycles in ns, rounded up (1.5 GHz nominal, R21). -/
def cyclesNs (n : Nat) : Nat := (2 * n + 2) / 3

/-- Draws the number of the next free value. -/
def Block.fresh (b : Block) : Block × Nat := ({ b with free := b.free + 1 }, b.free)

-- Byte memories in canonical form: addresses rising, no entry 0

/-- The byte at an address; an unlisted one reads 0. -/
def memGet : List Host.Cell → Nat → Byte
  | [], _ => 0
  | (a', v) :: m, a => if a' = a then v else memGet m a

/-- Writes one byte and keeps the canonical form: a byte of 0 is not listed. -/
def memPut : List Host.Cell → Nat → Byte → List Host.Cell
  | [], a, v => if v = 0 then [] else [(a, v)]
  | (a', v') :: m, a, v =>
    if a' = a then (if v = 0 then m else (a, v) :: m)
    else if a < a' then (if v = 0 then (a', v') :: m else (a, v) :: (a', v') :: m)
    else (a', v') :: memPut m a v

/-- Writes bytes from an address on. -/
def memWrite (m : List Host.Cell) (a : Nat) : List Byte → List Host.Cell
  | [] => m
  | v :: vs => memWrite (memPut m a v) (a + 1) vs

/-- Reads n bytes from an address on. -/
def memRead (m : List Host.Cell) (a n : Nat) : List Byte := (List.range n).map fun i => memGet m (a + i)

/-- The canonical form of a memory: addresses rising, no entry 0. -/
def Memory.wf : List Host.Cell → Bool
  | [] => true
  | [(_, v)] => v != 0
  | (a, v) :: (a', v') :: m => v != 0 && decide (a < a') && Memory.wf ((a', v') :: m)

/-- The end of MA space (R326). -/
def maEnd : Nat := 0x3C00000000

/-- Host memory as the module's writes and the host's stores leave it. -/
def Block.hostWrite (b : Block) (a : Nat) (bs : List Byte) : Block := { b with hostMem := memWrite b.hostMem a bs }
/-- The host's stores that have landed before a read. -/
def Block.hostStores (b : Block) (hw : List (Nat × Byte)) : Block :=
  { b with hostMem := hw.foldl (fun m c => memPut m c.1 c.2) b.hostMem }
/-- Bytes of host memory. -/
def Block.hostRead (b : Block) (a n : Nat) : List Byte := memRead b.hostMem a n

-- The mesh (R18 to R21, R33)

/-- Crossing of a physical Quarter (R19). -/
def xyOf (p : Nat) : Nat × Nat :=
  if p % 17 < 8 then (p % 17, 2 * (p / 17)) else (p % 17 - 8, 2 * (p / 17) + 1)
/-- Quarter at a Crossing; none at a Gate (R19). -/
def quarterAt (x y : Nat) : Option Nat :=
  if y % 2 = 0 then (if x < 8 then some (17 * (y / 2) + x) else none) else some (17 * (y / 2) + 8 + x)
/-- Gate at a Crossing: 0 Host, 1 Converter, 2 Colir, 3 Archive (R19). -/
def gateAt (x y : Nat) : Option Nat := if x = 8 ∧ y % 2 = 0 ∧ y < 8 then some (y / 2) else none
/-- Crossing of a Gate. -/
def gateXY (g : Nat) : Nat × Nat := (8, 2 * g)
/-- Stop at a Crossing (R33). -/
def stopAt (x y : Nat) : Option Nat :=
  if x % 2 = 1 ∧ x < 8 then (if y = 0 then some (x / 2) else if y = 7 then some (4 + x / 2) else none) else none
/-- Crossing of a Stop (R33). -/
def stopXY (s : Nat) : Nat × Nat := (2 * (s % 4) + 1, if s < 4 then 0 else 7)
/-- District of a Quarter (R21). -/
def distOf (p : Nat) : Nat := (xyOf p).2
/-- Quarters of a District. -/
def quartersOf (d : Nat) : List Nat := (List.range 68).filter fun p => distOf p = d
/-- Hops between two Crossings (R20). -/
def hopsXY (a c : Nat × Nat) : Nat := (a.1 - c.1) + (c.1 - a.1) + (a.2 - c.2) + (c.2 - a.2)
/-- Number of a Crossing in the maps. -/
def xk (x y : Nat) : Nat := 16 * y + x
/-- Stop of a module memory address (R33). -/
def stopOf (ma : Nat) : Nat := bits ma 14 12

-- The QMAP (R24 to R28)

/-- The field of a logical Quarter. -/
def Block.qmap (b : Block) (lq : Nat) : Nat := b.rf (0x100 + 4 * (lq / 4)) (8 * (lq % 4) + 6) (8 * (lq % 4))
/-- The physical Quarter of a logical one; none where it is UNMAPPED (R27). -/
def Block.phys (b : Block) (lq : Nat) : Option Nat :=
  let p := b.qmap lq
  if lq < 64 ∧ p < 68 ∧ !b.retired.contains p then some p else none
/-- The lowest logical Quarter that a physical Quarter serves. -/
def Block.logical (b : Block) (p : Nat) : Option Nat := (List.range 64).find? fun l => b.qmap l = p
/-- The free spares (R26). -/
def Block.spares (b : Block) : List Nat :=
  (List.range 68).filter fun p => (b.logical p).isNone && !b.retired.contains p

-- Quarters

/-- Quarter p. -/
def Block.q (b : Block) (p : Nat) : Quarter := SMap.get b.qs Quarter.empty p
/-- Replaces Quarter p. -/
def Block.setQ (b : Block) (p : Nat) (q : Quarter) : Block := { b with qs := SMap.put b.qs p q }
/-- PE n of a Quarter. -/
def Quarter.pe (q : Quarter) (n : Nat) : PE := SMap.get q.pes PE.empty n
/-- Replaces a PE. -/
def Quarter.setPe (q : Quarter) (n : Nat) (p : PE) : Quarter := { q with pes := SMap.put q.pes n p }
/-- Slot n of a PE. -/
def PE.slot (p : PE) (n : Nat) : Slot := SMap.get p.slots Slot.free n
/-- Replaces a slot. -/
def PE.setSlot (p : PE) (n : Nat) (s : Slot) : PE := { p with slots := SMap.put p.slots n s }
/-- A slot of a Quarter. -/
def Quarter.slot (q : Quarter) (pe n : Nat) : Slot := (q.pe pe).slot n
/-- Replaces a slot of a Quarter. -/
def Quarter.setSlot (q : Quarter) (pe n : Nat) (s : Slot) : Quarter := q.setPe pe ((q.pe pe).setSlot n s)
/-- Lane j of a Quarter; 8 is the VC1 pair of lane 3 (R100). -/
def Quarter.lane (q : Quarter) (j : Nat) : Lane := SMap.get q.lanes Lane.empty j
/-- Replaces a lane. -/
def Quarter.setLane (q : Quarter) (j : Nat) (l : Lane) : Quarter := { q with lanes := SMap.put q.lanes j l }
/-- An instruction word of the strand code; unwritten code reads 0. -/
def Quarter.word (q : Quarter) (pc : Nat) : W32 := SMap.get q.code 0 (pc % 32768)

-- Events and detections

/-- An event is raised (R381). -/
def Block.raise (b : Block) (src arg : Nat) : Block :=
  { b with evc := { b.evc with raised := b.evc.raised ++ [{ src := src, arg := arg % 2 ^ 32, tag := none }] } }

/-- A detection goes out on the fault wires (R398). -/
def Block.wire (b : Block) (d : Detection) : Block := { b with hub := { b.hub with wires := b.hub.wires ++ [d] } }

/-- A plain detection of a source at a unit with detail A. -/
def Block.detect (b : Block) (code unit : Nat) (detailA : Nat := 0) (injected : Bool := false) (ctxs : List Nat := []) : Block :=
  b.wire { code := code, unit := unit, detailA := BitVec.ofNat 64 detailA, detailB := 0, injected := injected, dry := false,
           ctxs := ctxs }

/-- An armed checker takes one check (R418): the checker's answer is whether it sees inverted check bits, with DRY and
BITS. -/
def Block.inject (b : Block) (checker unit sub : Nat) : Block × Option (Bool × Nat) :=
  let sel := b.reg 0x300040
  let n := b.rf 0x300044 15 0
  if n ≠ 0 ∧ bits sel 31 28 = checker ∧ bits sel 27 16 = unit ∧ bits sel 15 12 = sub then
    (b.setReg 0x300044 (n - 1), some (sel.testBit 0, bits sel 11 10))
  else (b, none)

/-- A detection of an armed DRY check (R418): to the Fault Hub only. -/
def Block.dryDetect (b : Block) (code unit detail : Nat) : Block :=
  b.wire { code := code, unit := unit, detailA := BitVec.ofNat 64 detail, detailB := 0, injected := true, dry := true, ctxs := [] }

-- Module memory as its Stops serve it (R328)

/-- The lines of 64 bytes that an access touches. -/
def linesOf (ma n : Nat) : List Nat :=
  if n = 0 then [] else (List.range ((ma + n - 1) / 64 - ma / 64 + 1)).map fun i => 64 * (ma / 64 + i)

/-- The used entries of the region table with TYPE, URGENT, BASE and SIZE (R329). -/
def Block.regionTable (b : Block) : List (Nat × Bool × Nat × Nat) :=
  (List.range 16).filterMap fun r =>
    let a := b.reg (0xB00000 + 8 * r)
    let size := b.rf (0xB00004 + 8 * r) 17 0
    if size = 0 then none else some (if bits a 27 24 < 8 then bits a 27 24 else 0, a.testBit 31, bits a 17 0, size)

/-- An address is in a region of some MiB, clipped at the end of MA space (R329). -/
def inRegion (ma base size : Nat) : Bool := decide (base ≤ ma / 2 ^ 20) && decide (ma / 2 ^ 20 < base + size) && decide (ma < maEnd)

/-- URGENT of the region of an address, which the hardware reads from the table (R329, R330). -/
def Block.urgent (b : Block) (ma : Nat) : Bool :=
  match b.regionTable.find? fun e => inRegion ma e.2.2.1 e.2.2.2 with
  | some e => e.2.1
  | none => false

/-- TYPE of the region of an address, from the table as the MGC read it before READY (R329, R330). -/
def Block.regionType (b : Block) (ma : Nat) : Nat :=
  match b.stops.typed.find? fun e => inRegion ma e.2.1 e.2.2 with
  | some e => e.1
  | none => 0

/-- The MGC reads the TYPEs of the region table before READY (R330). -/
def Block.readTypes (b : Block) : Block :=
  { b with stops := { b.stops with typed := b.regionTable.map fun e => (e.1, e.2.2.1, e.2.2.2) } }

/-- An access meets a borrowed page (R330, R337): one that was URGENT at the borrow is restored at once and revisited after 10 ms. -/
def Block.touchPage (b : Block) (ma : Nat) : Block :=
  let s := stopOf ma
  match SMap.find? b.stops.borrow s with
  | none => b
  | some w =>
    if w.page ≠ ma / 4096 then b
    else if w.urgent then
      { b with stops := { b.stops with
          borrow := SMap.erase b.stops.borrow s
          revisit := SMap.upd b.stops.revisit [] s (· ++ [(w.page, b.now + 10000000)])
          aborts := SMap.put b.stops.aborts w.page (SMap.get b.stops.aborts 0 w.page + 1) } } |>.bump (memCnt 7)
    else b.bump (memCnt 6)

/-- An access reaches past MA space (R328). -/
def Block.rangeFault (b : Block) (ma : Nat) : Block := (b.bump (memCnt 2)).detect 16 (stopOf ma) ma

/-- An uncorrectable line is read (R328): UE counts, the first line is captured, and the class depends on the region. -/
def Block.uncorrectable (b : Block) (line : Nat) (injected : Bool := false) : Block :=
  let b := b.bump (memCnt 1)
  let b := if b.rf 0xB00144 31 31 = 0 then
      (b.setReg 0xB00140 (bits line 31 6 <<< 6)).setReg 0xB00144 (2 ^ 31 + bits line 39 32) else b
  let t := b.regionType line
  b.detect (if t = 1 ∨ t = 2 then 33 else 15) (stopOf line) line injected

/-- The lines of an access that stand on a lost Stop. -/
def Block.onLost (b : Block) (ma : Nat) : Bool := b.stops.lost.contains (stopOf ma)

/-- A page is retired to a spare (R332): its contents go with it, a borrow of it ends, and F2 MEM_RETIRE is raised. With the
pool empty the page stays in use (R333). -/
def Block.retirePage (b : Block) (page : Nat) (injected : Bool := false) : Block :=
  let s := page % 8
  let pool := 0xB00110 + 4 * s
  let free := b.rf pool 15 0
  if free = 0 then b.setRf pool 31 31 1
  else
    let b := { b with stops := { b.stops with
      remap := SMap.put b.stops.remap page (39321 - free)
      borrow := match SMap.find? b.stops.borrow s with
        | some w => if w.page = page then SMap.erase b.stops.borrow s else b.stops.borrow
        | none => b.stops.borrow } }
    ((b.setRf pool 15 0 (free - 1)).bump (memCnt 3)).detect 28 s (4096 * page) injected

/-- A corrected error (R328, R331): CE counts, F0 MEM_CE, and the history table, by TIME_NS: a second error on a page with a live entry
retires it; a full table loses its oldest entry. -/
def Block.corrected (b : Block) (line : Nat) (injected : Bool := false) : Block :=
  let s := stopOf line
  let page := line / 4096
  let b := (b.bump (memCnt 0)).detect 5 s line injected
  let h := (SMap.get b.stops.hist [] s).filter fun e => b.timeNs < e.2 + 86400000000000
  if h.any fun e => e.1 = page then
    { b with stops := { b.stops with hist := SMap.put b.stops.hist s (h.filter fun e => e.1 ≠ page) } }.retirePage page injected
  else
    let full := decide (4096 ≤ h.length)
    let b := if full then b.bump (memCnt 4) else b
    let h := (if full then h.tail else h) ++ [(page, b.timeNs)]
    { b with stops := { b.stops with hist := SMap.put b.stops.hist s h } }

/-- Eight free words for a line that has become uncorrectable. -/
def Block.freeLine (b : Block) (line : Nat) : Block :=
  (List.range 8).foldl (fun b i =>
    let (b, n) := b.fresh
    let w := Config.upsetWord n (BitVec.ofNat 64 (ofBytes (memRead b.mem (line + 8 * i) 8)))
    { b with mem := memWrite b.mem (line + 8 * i) (leBytes 8 w.toNat) }) b

/-- Start of the journal or the store that holds an address (R430, R432); none outside both. -/
def Block.parityBase (b : Block) (ma : Nat) : Option Nat :=
  [(b.rf 0x1100214 27 0, b.rf 0x1100218 17 0), (b.rf 0x110021C 27 0, b.rf 0x1100220 17 0)].findSome? fun e =>
    if 4096 * e.1 ≤ ma ∧ ma < 4096 * e.1 + max e.2 64 * 2 ^ 20 then some (4096 * e.1) else none

/-- A line of the journal or the store as the other seven pages of its stripe give it (R431): their XOR. None outside both, or where
one of the seven cannot be read. -/
def Block.rebuilt (b : Block) (line : Nat) : Option (List Byte) :=
  match b.parityBase line with
  | none => none
  | some base =>
    let off := (line - base) % 32768
    let others := ((List.range 8).filter fun i => i ≠ off / 4096).map fun i => line - off + 4096 * i + off % 4096
    if others.any fun l => b.onLost l || b.stops.bad.contains l then none
    else some (others.foldl (fun x l => List.zipWith (· ^^^ ·) x (memRead b.mem l 64)) (List.replicate 64 0))

/-- An uncorrectable line that has been read is rebuilt and written back whole where R431 allows it; whether it is delivered with
POISON. -/
def Block.rebuildLine (b : Block) (line : Nat) : Block × Bool :=
  match b.rebuilt line with
  | none => (b, true)
  | some bs => ({ b with mem := memWrite b.mem line bs, stops := { b.stops with bad := b.stops.bad.filter (· ≠ line) } }, false)

/-- The SECDED check of a line that is read (R326, R328, R418, R431): whether it is delivered with POISON. `upset` is 0 for a sound
read, 1 for a single-bit and 2 for a double-bit error. -/
def Block.lineCheck (b : Block) (upset line : Nat) : Block × Bool :=
  let (b, inj) := b.inject 8 (stopOf line) 0
  let b := if upset = 2 then
      { b.freeLine line with stops := { b.stops with bad := addNew b.stops.bad line } }
    else b
  if b.stops.bad.contains line then (b.uncorrectable line).rebuildLine line
  else match inj with
    | some (true, sel) =>
      let t := b.regionType line
      (b.dryDetect (if sel < 2 then 5 else if t = 1 ∨ t = 2 then 33 else 15) (stopOf line) line, false)
    | some (false, sel) => if sel < 2 then (b.corrected line true, false) else (b.uncorrectable line true).rebuildLine line
    | none => if upset = 1 then (b.corrected line, false) else (b, false)

/-- A byte as it is read: on a lost Stop 0, or the rebuilt byte in the journal and the store (R328, R443). -/
def Block.readByte (b : Block) (ma : Nat) : Byte :=
  if b.onLost ma then (match b.rebuilt (64 * (ma / 64)) with | some bs => bs.getD (ma % 64) 0 | none => 0) else memGet b.mem ma

/-- A read of n bytes of module memory: the bytes, and the lines delivered with POISON (R328). `upset` acts on the first line. -/
def Block.stopReadLines (b : Block) (ma n upset : Nat) : Block × List Byte × List Nat :=
  if maEnd < ma + n then (b.rangeFault ma, List.replicate n 0, linesOf ma n)
  else
    let ls := linesOf ma n
    let (b, bad) := ls.foldl (fun (acc : Block × List Nat) l =>
      let b := acc.1.touchPage l
      if b.onLost l then (b, if (b.rebuilt l).isSome then acc.2 else acc.2 ++ [l])
      else
        let (b, p) := b.lineCheck (if l = 64 * (ma / 64) then upset else 0) l
        (b, if p then acc.2 ++ [l] else acc.2)) (b, [])
    (b, (List.range n).map (fun i => b.readByte (ma + i)), bad)

/-- A read of n bytes of module memory: the bytes, and whether any of them carries POISON. -/
def Block.stopRead (b : Block) (ma n : Nat) (upset : Nat := 0) : Block × List Byte × Bool :=
  let (b, bs, bad) := b.stopReadLines ma n upset
  (b, bs, !bad.isEmpty)

-- The spill areas, the pens and the undo rings (R78, R84, R96, R234, R430)

/-- Size of a Quarter's spill area in bytes (QTRnn_PLZ_BS_SIZE.AREA). -/
def Block.areaBytes (b : Block) (q : Nat) : Nat :=
  let a := b.rf (qOff q 8) 3 0
  if a = 0 then 0 else 2 ^ (min (max a 4) 10) * 2 ^ 20
/-- Size of the pen: a pen of the area's size or larger takes the whole area (R96). -/
def Block.penBytes (b : Block) (q : Nat) : Nat := min (2 ^ (b.rf (qOff q 8) 10 8) * 2 ^ 20) (b.areaBytes q)
/-- Start of the spill area. -/
def Block.areaBase (b : Block) (q : Nat) : Nat := b.rf (qOff q 4) 27 0 * 4096
/-- Bytes of the hash part. -/
def Block.hashBytes (b : Block) (q : Nat) : Nat := b.areaBytes q - b.penBytes q
/-- Start of the pen. -/
def Block.penBase (b : Block) (q : Nat) : Nat := b.areaBase q + b.hashBytes q
/-- Bytes of a Gate's pen (R234). -/
def gatePenBytes : Nat := 0x1000000
/-- Start of a Gate's pen. -/
def Block.gatePenBase (b : Block) (g : Nat) : Nat := SMap.get b.ave.gatePen 0 g * 0x100000

/-- Whose spill area or pen a line is in: a Quarter, or a Gate as 68 to 71. -/
def Block.areaOf (b : Block) (line : Nat) : Option Nat :=
  match (List.range 68).find? fun q => !b.retired.contains q ∧ b.areaBase q ≤ line ∧ line < b.areaBase q + b.areaBytes q with
  | some q => some q
  | none => ((List.range 4).find? fun g => b.gatePenBase g ≤ line ∧ line < b.gatePenBase g + gatePenBytes).map (68 + ·)

/-- Sender epoch of a Quarter (R422, R424). -/
def Block.qEpoch (b : Block) (q : Nat) : Nat := SMap.get b.cont.qEpoch (SMap.get b.cont.gEpoch 0 0) q
/-- Sender epoch of a Gate. -/
def Block.gEpoch (b : Block) (g : Nat) : Nat := SMap.get b.cont.gEpoch 0 g

/-- The first write after a cut to a line of a spill area or a pen copies the old line into the undo ring (R430). -/
def Block.undoLine (b : Block) (line : Nat) : Block :=
  match b.areaOf line with
  | none => b
  | some u =>
    let e := if u < 68 then b.qEpoch u else b.gEpoch (u - 68)
    if b.cont.undo.any fun x => x.epoch == e && x.line == line then b
    else { b with cont := { b.cont with undo := { epoch := e, unit := u, line := line, old := memRead b.mem line 64 } :: b.cont.undo } }

/-- The undo copies of a write; none is made before the first cut. -/
def Block.undoFor (b : Block) (lines : List Nat) : Block :=
  if b.cont.bank.isNone && b.cont.close.isNone then b else lines.foldl (fun b l => b.undoLine l) b

/-- Bytes of a share's undo ring: a Quarter's share is 1/72 of seven eighths of the store (R430, R431), less two image banks of
2 MiB. -/
def Block.undoSpace (b : Block) : Nat :=
  (max (b.rf 0x1100220 17 0) 64) * 2 ^ 20 * 7 / 8 / 72 - 4 * 2 ^ 20
/-- Bytes of a Quarter's undo ring in use. -/
def Block.undoUsed (b : Block) (q : Nat) : Nat := 64 * (b.cont.undo.filter fun x => x.unit = q).length
/-- A Quarter's undo ring has no room: its writes to the spill area and the pen wait (R430). Before the first cut no write needs it. -/
def Block.undoFull (b : Block) (q : Nat) : Bool :=
  (b.cont.bank.isSome || b.cont.close.isSome) && decide (b.undoSpace < b.undoUsed q + 64)

/-- A write of bytes to module memory (R328): a whole line written makes it sound again; a lost Stop discards. -/
def Block.stopWrite (b : Block) (ma : Nat) (bs : List Byte) : Block :=
  if maEnd < ma + bs.length then b.rangeFault ma
  else
    let ls := linesOf ma bs.length
    let b := (ls.foldl (fun b l => b.touchPage l) b).undoFor ls
    if b.stops.lost.isEmpty then
      { b with
        mem := memWrite b.mem ma bs
        stops := { b.stops with bad := b.stops.bad.filter fun l => !(ls.contains l && ma ≤ l && l + 64 ≤ ma + bs.length) } }
    else
      let keep := ls.filter fun l => !b.onLost l
      { b with
        mem := keep.foldl (fun m l =>
          let lo := max l ma
          memWrite m lo ((bs.drop (lo - ma)).take (min (l + 64) (ma + bs.length) - lo))) b.mem
        stops := { b.stops with bad := b.stops.bad.filter fun l => !(keep.contains l && ma ≤ l && l + 64 ≤ ma + bs.length) } }

/-- Module memory with a range of whole lines written as zeros, which makes its lines sound; a lost Stop keeps its own, and a borrowed
page is met as by any write (R328, R337). -/
def Block.zeroMem (b : Block) (lo n : Nat) : Block :=
  let out (a : Nat) : Bool := !(decide (lo ≤ a) && decide (a < lo + n)) || b.onLost a
  let b := (List.range ((n + 4095) / 4096)).foldl (fun b i => b.touchPage (lo + 4096 * i)) b
  { b with mem := b.mem.filter fun c => out c.1, stops := { b.stops with bad := b.stops.bad.filter out } }

/-- The n bytes at an address as the Stops deliver them. -/
def Block.loadBytes (b : Block) (ma n : Nat) : List Byte := (List.range n).map fun i => b.readByte (ma + i)
/-- The n bytes at an address as a number, little-endian. -/
def Block.loadLe (b : Block) (ma n : Nat) : Nat := ofBytes (b.loadBytes ma n)

-- Contexts and live counts (R91, R92)

/-- The Dispatcher's entry of a context. -/
def Block.ctx? (b : Block) (c : Nat) : Option Ctx := SMap.find? b.disp.ctxs c
/-- Replaces a context's entry. -/
def Block.setCtx (b : Block) (c : Nat) (x : Ctx) : Block :=
  { b with disp := { b.disp with ctxs := SMap.put b.disp.ctxs c x } }
/-- Changes a context's entry, if it is resident. -/
def Block.modCtx (b : Block) (c : Nat) (f : Ctx → Ctx) : Block :=
  match b.ctx? c with
  | some x => b.setCtx c (f x)
  | none => b
/-- State code of a context (R253). -/
def Block.ctxState (b : Block) (c : Nat) : Nat := match b.ctx? c with
  | some x => x.state
  | none => 0

/-- Key of a unit's counts: Quarters are units 0 to 67, the Gates 68 to 71. -/
def liveKey (unit ctx : Nat) : Nat := unit * 2 ^ 20 + ctx

/-- A unit's counts of one context go to the Dispatcher's totals (R92). -/
def Block.flushCount (b : Block) (unit ctx : Nat) : Block :=
  match SMap.find? b.live (liveKey unit ctx) with
  | none => b
  | some (e, c) =>
    { b.modCtx ctx (fun x => { x with e := x.e + e, c := x.c + c }) with live := SMap.erase b.live (liveKey unit ctx) }

/-- The contexts for which a unit keeps unflushed counts. -/
def Block.countsOf (b : Block) (unit : Nat) : List Nat :=
  (b.live.filter fun e => e.1 / 2 ^ 20 = unit).map fun e => e.1 % 2 ^ 20

/-- A unit counts emissions and consumptions; it flushes its first context's counts when 64 are held (R92). -/
def Block.count (b : Block) (unit ctx e c : Nat) : Block :=
  let b := if (SMap.find? b.live (liveKey unit ctx)).isNone ∧ 64 ≤ (b.countsOf unit).length then
      b.flushCount unit ((b.countsOf unit).headD 0) else b
  let (e0, c0) := SMap.get b.live (0, 0) (liveKey unit ctx)
  { b with live := SMap.put b.live (liveKey unit ctx) (e0 + e, c0 + c) }

/-- One emission (R91). -/
def Block.emit (b : Block) (unit ctx : Nat) : Block := b.count unit ctx 1 0
/-- One consumption (R91). -/
def Block.consume (b : Block) (unit ctx : Nat) (n : Nat := 1) : Block := if n = 0 then b else b.count unit ctx 0 n

-- Fault records (R402, R403, R159)

/-- Records in the fault log (FAULT_LOG_BASE.SIZE). -/
def Block.logEntries (b : Block) : Nat := 2 ^ (min (b.rf 0x300010 31 28) 6 + 10)

/-- Writes one fault record with the next FSEQ and raises FAULT (R402). -/
def Block.faultRecord (b : Block) (type dcls acls flags code unit link ctx supp : Nat) (tag detail : W64) : Block :=
  let f := b.hub.fseq
  let bs := leBytes 8 f ++ leBytes 8 b.timeNs ++ leBytes 1 type ++ leBytes 1 dcls ++ leBytes 1 acls ++ leBytes 1 flags ++
    leBytes 1 code ++ leBytes 1 b.ownId ++ leBytes 2 unit ++ leBytes 8 link ++ leBytes 4 ctx ++ leBytes 4 supp ++
    leBytes 8 tag.toNat ++ leBytes 8 detail.toNat ++ leBytes 8 0
  let b := b.stopWrite (b.rf 0x300010 27 0 * 4096 + 64 * (f % b.logEntries)) bs
  { b with hub := { b.hub with fseq := f + 1 } }.raise 1 f

/-- The limiter of R159 and R403 takes one fault: whether its record is due, the faults suppressed before it, and the
limiter after it. A record exactly 1 ms after the last one is let through (DESIGN CHOICE: 'in any 1 ms' does not say whether the bound
itself counts, log 111). -/
def Limit.take (l : Limit) (now : Nat) : Bool × Nat × Limit :=
  match l.last with
  | none => (true, l.count, { last := some now, count := 0 })
  | some t => if t + 1000000 ≤ now then (true, l.count, { last := some now, count := 0 })
              else (false, 0, { l with count := l.count + 1 })

/-- A context is flagged FAULTED (R45). -/
def Block.flagFaulted (b : Block) (ctx : Nat) : Block := b.modCtx ctx fun x => { x with faulted := true }

/-- The primary fault of a NOROUTE fault (R409): a token whose route names a Colir port within the shadow window of that port's loss. -/
def Block.lostPortFault (b : Block) (tag : W64) : Option Nat :=
  let dev := tagDev tag
  let port := b.rf (if dev < 8 then 0xE00004 else 0xE00008) (4 * (dev % 8) + 3) (4 * (dev % 8))
  (b.hub.windows.find? fun w => decide (w.kind = .colirPort port) && (w.until_.all fun t => decide (b.now ≤ t))).map (·.fseq)

/-- A context fault at a unit (R45, R403): FAULTED is set and a record written, at most one per unit, context and reason
in 1 ms. `lq` is the logical Quarter, 0xFFFF for none. A NOROUTE fault in the shadow of its port's loss is consequential (R409). -/
def Block.contextFault (b : Block) (unit reason ctx lq : Nat) (tag : W64) (ctrl : Nat) : Block :=
  let b := b.flagFaulted ctx
  let k := (liveKey unit ctx) * 8 + reason
  let (due, supp, l) := (SMap.get b.hub.limits ⟨none, 0⟩ k).take b.now
  let b := { b with hub := { b.hub with limits := SMap.put b.hub.limits k l } }
  let link := if reason = 7 then b.lostPortFault tag else none
  if due then b.faultRecord 1 255 255 (2 * b2n link.isSome) reason lq (link.getD 0) ctx supp tag (BitVec.ofNat 64 ctrl) else b

-- Districts

/-- Sleep level of a District (POWER_DISTd_STAT.LEVEL): 0 running, 1 GATED, 2 STOPPED, 3 OFF. -/
def Block.distLevel (b : Block) (d : Nat) : Nat := b.rf (0x1000030 + 4 * d) 5 4

/-- A District fires: its progress monitor starts again (R236). -/
def Block.fired (b : Block) (d : Nat) : Block :=
  { b with ave := { b.ave with
      lastFired := SMap.put b.ave.lastFired d b.now
      suspect := b.ave.suspect.filter (· ≠ d)
      quiet := b.ave.quiet.filter (· ≠ d) } }

end Sys2Proof.Machine
end

