-- ==== Sys2Proof/Machine/Operands.lean ====
section
/-! DEFINITION. The operand forms of strand instructions: general and special registers (R118, R125, R126), lanes (R129,
R133, R162), rounding (R164), and the address windows of frame memory (R135). -/

namespace Sys2Proof.Machine

/-- General register n of a slot. -/
def Slot.rd (s : Slot) (n : BitVec 5) : W64 := SMap.get s.v 0 n.toNat
/-- Writes general register n. -/
def Slot.wr (s : Slot) (n : BitVec 5) (x : W64) : Slot := { s with v := SMap.put s.v n.toNat x }
/-- A hardware loop of a slot. -/
def Slot.loop (s : Slot) (n : Nat) : Loop := SMap.get s.loops ⟨0, 0, 0, false⟩ n
/-- Replaces a hardware loop. -/
def Slot.setLoop (s : Slot) (n : Nat) (l : Loop) : Slot := { s with loops := SMap.put s.loops n l }
/-- Sets sticky flags (R165). -/
def Slot.flag (s : Slot) (f : Nat) : Slot := { s with flags := s.flags ||| f }
/-- CT of the context mode (R125). -/
def Slot.ct (s : Slot) : Bool := s.mode.testBit 0
/-- FTZ of the context mode. -/
def Slot.ftz (s : Slot) : Bool := s.mode.testBit 1
/-- DAZ of the context mode. -/
def Slot.daz (s : Slot) : Bool := s.mode.testBit 2
/-- The rounding mode of an instruction: RM, or FPCTL where RM is 0 (R164). -/
def Slot.round (s : Slot) (rm : BitVec 3) : RMode :=
  if rm = 0 then RMode.ofFpctl (s.fpctl % 8) else RMode.ofRm rm.toNat

/-- SELF (R125): slot, PE, logical Quarter, physical Quarter, module. A Quarter that no QMAP field names reads logical 0. -/
def selfWord (b : Block) (q pe slot : Nat) : Nat :=
  slot + (pe <<< 3) + (((b.logical q).getD 0) <<< 7) + (q <<< 13) + (b.ownId <<< 20)

/-- A special register as MFS reads it (R125, R126). -/
def Slot.special (s : Slot) (self : Nat) (n : Nat) : Nat :=
  if n < 4 then (s.loop n).start
  else if n < 8 then (s.loop (n - 4)).stop
  else if n < 12 then (s.loop (n - 8)).count
  else match n with
    | 12 => s.rcnt
    | 13 => s.sp
    | 14 => s.slim
    | 15 => s.fpctl
    | 16 => s.flags
    | 17 => if s.limited then s.budget else 0xFFFFFFFF
    | 18 => bitsOf ((List.range 4).filter fun k => (s.loop k).active)
    | 19 => self
    | 20 => s.epoch
    | 21 => b2n s.pstate
    | 22 => s.mode
    | _ => 0

/-- A write of a special register by MTS (R125, R126, R163, R165). -/
def Slot.setSpecial (s : Slot) (n v : Nat) : Slot :=
  if n < 4 then s.setLoop n { s.loop n with start := v % 2 ^ 15 }
  else if n < 8 then s.setLoop (n - 4) { s.loop (n - 4) with stop := v % 2 ^ 15 }
  else if n < 12 then s.setLoop (n - 8) { s.loop (n - 8) with count := v % 2 ^ 32 }
  else match n with
    | 12 => { s with rcnt := v % 2 ^ 12 }
    | 13 => { s with sp := v % 2 ^ 24 }
    | 14 => { s with slim := v % 2 ^ 24 }
    | 15 => { s with fpctl := v % 8 }
    | 16 => { s with flags := v &&& 0x31F }
    | 17 => { s with budget := min (v % 2 ^ 32) (s.special 0 17), limited := true }
    | _ => s

-- Lanes (R129, R133, R162)

/-- Lane width of a W code. -/
def laneBits : Nat → Nat
  | 0 => 64
  | 1 => 32
  | _ => 16

/-- The format of a W code. -/
def laneFmt : Nat → Fmt
  | 0 => f64
  | 1 => f32
  | _ => f16

/-- Lane k of a register at a lane width. -/
def lane (w : Nat) (x : W64) (k : Nat) : Nat := bits x.toNat (w * k + w - 1) (w * k)

/-- A register built from its lanes. -/
def ofLanes (w : Nat) (ls : List Nat) : W64 :=
  BitVec.ofNat 64 (((List.range ls.length).zip ls).foldl (fun a e => a + ((e.2 % 2 ^ w) <<< (w * e.1))) 0)

/-- A lane-wise operation on up to three registers, each lane giving a result and flags. -/
def onLanes (w : Nat) (f : Nat → Nat → Nat → Nat × Nat) (x y z : W64) : W64 × Nat :=
  let lb := laneBits w
  let rs := (List.range (64 / lb)).map fun k => f (lane lb x k) (lane lb y k) (lane lb z k)
  (ofLanes lb (rs.map (·.1)), rs.foldl (fun a r => a ||| r.2) 0)

-- Frame addresses (R135, R136)

/-- The window of an effective address and the word it names: 0 plain, 1 bit-set alias, 2 bit-clear alias. -/
def frameWindow (ea : W64) : Option (Nat × Nat) :=
  let a := ea.toNat
  if a < 0x100000 then some (0, a / 8)
  else if 0x400000 ≤ a ∧ a < 0x500000 then some (1, (a - 0x400000) / 8)
  else if 0x800000 ≤ a ∧ a < 0x900000 then some (2, (a - 0x800000) / 8)
  else none

/-- Whether an effective address faults: cause 4 ADDRESS before cause 5 ALIGN (R135). `alias` says whether the alias
windows are allowed (R136). -/
def frameFault (ea : W64) (aliasOk : Bool) : Option Nat :=
  match frameWindow ea with
  | none => some 4
  | some (k, _) => if k ≠ 0 ∧ !aliasOk then some 4 else if ea.toNat % 8 ≠ 0 then some 5 else none

-- Outstanding results of a slot (R119, R121)

/-- Whether an access delivers a result to its slot. -/
def MemKind.loads : MemKind → Bool
  | .ld | .ldd | .ret | .bset | .bclr | .got _ _ => true
  | _ => false
/-- Whether an access is one of the issued stores of R198. -/
def MemKind.stores : MemKind → Bool
  | .st | .stOr | .stAnd | .stw | .mke | .bset | .bclr => true
  | _ => false

/-- The read-modify-writes, which take port A for two cycles (R202). -/
def MemKind.rmw : MemKind → Bool
  | .stOr | .stAnd | .bset | .bclr => true
  | _ => false

/-- The parked or released LDDs of a slot, by destination (R205, R206). -/
def Quarter.parkedRds (q : Quarter) (pe slot : Nat) : List Nat :=
  (q.park.map (·.who) ++ q.releases.map (·.who)).filterMap fun w => match w with
    | .ldd p s rd => if p = pe ∧ s = slot then some rd else none
    | _ => none

/-- The registers of a slot whose results are outstanding (R119). -/
def Quarter.outstanding (q : Quarter) (pe slot : Nat) : List Nat :=
  let p := q.pe pe
  (p.memq.filterMap fun m => if m.slot = slot ∧ m.kind.loads ∧ m.kind ≠ .ret then some m.rd else none) ++
  (match p.div with | some d => if d.slot = slot then [d.rd] else [] | none => []) ++ q.parkedRds pe slot

/-- Whether a RET of the slot is under way. -/
def PE.returning (p : PE) (slot : Nat) : Bool := p.memq.any fun m => m.slot == slot && m.kind == .ret

/-- Whether the slot has a store that has not reached its bank (R154). -/
def PE.storing (p : PE) (slot : Nat) : Bool := p.memq.any fun m => m.slot == slot && m.kind.stores

/-- Whether the PE's four store places are taken (R198). -/
def PE.storesFull (p : PE) : Bool := 4 ≤ (p.memq.filter fun m => m.kind.stores).length

/-- Whether nothing the slot issued is outstanding (R121). -/
def Quarter.slotQuiet (q : Quarter) (pe slot : Nat) : Bool :=
  (q.outstanding pe slot).isEmpty && !(q.pe pe).returning slot

/-- A strand that has ended frees its slot once its last result has returned (R121). -/
def Quarter.settle (q : Quarter) (pe slot : Nat) : Quarter :=
  let s := q.slot pe slot
  if s.busy && s.ended && q.slotQuiet pe slot then q.setSlot pe slot Slot.free else q

end Sys2Proof.Machine
end

