-- ==== Sys2Proof/Machine/Strand.lean ====
section
/-! DEFINITION. Issue of a strand instruction (R119, R131, R132, R157), the end of a strand (R121), strand faults (R158 to
R161), hardware loops (R145 to R149) and REP (R150 to R153): shared by every instruction. -/

namespace Sys2Proof.Machine

/-- What the body of an instruction does: it completes without transferring control, transfers control, ends the strand
normally, faults with a cause and a DETAIL, or cannot issue now. -/
inductive Body where
  | cont (sl : Slot) (p : PE)
  | jump (sl : Slot) (p : PE) (pc : Nat)
  | halt
  | fault (cause detail : Nat)
  | hold

/-- The Quarter is awake: not retired, its District awake with its clock, and the device not in the grave state (R21, R32,
R401, R411). -/
def Block.qAwake (b : Block) (q : Nat) : Bool :=
  !b.retired.contains q && b.distLevel (distOf q) == 0 && !b.hub.pllLost.contains (distOf q) && !b.hub.grave && b.up

/-- The Quarter runs: it is awake, and no rollback has stopped it (R439, steps 3 and 4). -/
def Block.qRuns (b : Block) (q : Nat) : Bool :=
  b.qAwake q && !(match b.cont.roll with
    | some r => decide (r.step < 5) && r.quarters.contains q
    | none => false)

/-- The exit address of the loop whose LEND is `e` (R146). -/
def Quarter.exitAddr (q : Quarter) (e : Nat) : Nat :=
  let w := q.word e
  let op := (opOf w).toNat
  let l := wordLength w
  (e + l + (if op = 0x83 ∨ op = 0x84 then wordLength (q.word (e + 1)) else 0)) % 32768

/-- The end-of-body tests of loops n − 1 down to 0 for the addresses just completed (R146, R147). -/
def endTests (q : Quarter) (addrs : List Nat) : Nat → Slot → Slot
  | 0, s => s
  | n + 1, s =>
    let l := s.loop n
    if l.active && addrs.contains l.stop then
      let left := l.count - 1
      if l.count = 0 ∨ left = 0 then
        endTests q addrs n { s.setLoop n { l with count := left, active := false } with pc := q.exitAddr l.stop }
      else { s.setLoop n { l with count := left } with pc := l.start }
    else endTests q addrs n s

/-- Completion without transfer of control: the next repetition, or the next instruction and the end-of-body tests
(R146, R150, R153). -/
def advance (q : Quarter) (w : W32) (s : Slot) : Slot :=
  let next := (s.pc + wordLength w) % 32768
  match s.rep with
  | some r =>
    if 1 < r.left then { s with rep := some { r with left := r.left - 1 } }
    else endTests q [r.addr, s.pc] 4 { s with rep := none, pc := next }
  | none => endTests q [s.pc] 4 { s with pc := next }

/-- A REP or REPR with a latched count (R150, R153). -/
def latchRep (q : Quarter) (count : Nat) (s : Slot) : Slot :=
  let a := s.pc
  let nxt := (a + 1) % 32768
  if count = 0 then endTests q [a, nxt] 4 { s with pc := (nxt + wordLength (q.word nxt)) % 32768 }
  else { s with pc := nxt, rep := some { addr := a, left := count } }

/-- A strand ends: a SEND that has not completed is dropped, and the slot is freed when nothing of it is outstanding
(R121, R141). -/
def Block.endStrand (b : Block) (q pe slot : Nat) : Block :=
  let qq := b.q q
  let s := qq.slot pe slot
  let b := b.setQ q ((qq.setSlot pe slot { s with ended := true, send := none, rep := none, fence := false }).settle pe slot)
  b.fired (distOf q)

/-- A strand fault (R132, R158 to R161): it is counted, captured if the capture is armed, its context is flagged FAULTED, a
record is queued at most once per context in 1 ms, and the strand ends. -/
def Block.strandFault (b : Block) (q pe slot cause pc detail : Nat) : Block :=
  let s := (b.q q).slot pe slot
  let ctx := tagCtx s.tag
  let b := b.bump (qOff q (0x2040 + 4 * (cause - 1)))
  let b := if b.rf (qOff q 0x2010) 15 15 = 0 then
      let b := b.setReg (qOff q 0x2010) (field cause 31 28 + field pe 27 24 + field slot 23 21 + 2 ^ 15 + field pc 14 0)
      let b := b.setReg (qOff q 0x2014) (s.tag.toNat % 2 ^ 32)
      let b := b.setReg (qOff q 0x2018) (s.tag.toNat / 2 ^ 32)
      b.setReg (qOff q 0x201C) detail
    else b
  let b := b.flagFaulted ctx
  let (due, supp, l) := (SMap.get (b.q q).sfLimit ⟨none, 0⟩ ctx).take b.now
  let b := b.setQ q { b.q q with sfLimit := SMap.put (b.q q).sfLimit ctx l }
  let b := if due then b.faultRecord 2 255 255 0 cause (q + (pe <<< 8) + (slot <<< 12)) 0 ctx supp s.tag
      (BitVec.ofNat 64 (detail % 2 ^ 32 + (pc <<< 32))) else b
  b.endStrand q pe slot

/-- The divider instructions (R190). -/
def usesDivider (op : Nat) : Bool := (0x06 ≤ op && op ≤ 0x09) || op == 0x33 || op == 0x34

/-- Whether the instruction reads or writes FLAGS by MFS or MTS, which waits for the slot's divider result (R126, R166). -/
def touchesFlags (x : SInstr) : Bool :=
  match x.f with
  | .mfs _ sr => sr == 16#5
  | .mts sr _ => sr == 16#5
  | _ => false

/-- A slot can be offered for issue: it holds a running strand that no SEND, FENCE, RET or parked read holds (R119). -/
def Quarter.offered (q : Quarter) (pe slot : Nat) : Bool :=
  let s := q.slot pe slot
  s.busy && !s.ended && s.send.isNone && !s.fence && !(q.pe pe).returning slot && (q.parkedRds pe slot).isEmpty

/-- The slot that issued last, from which the round robin goes on (R119). -/
def Block.markLast (b : Block) (q pe slot : Nat) : Block :=
  b.setQ q ((b.q q).setPe pe { (b.q q).pe pe with last := slot })

/-- An issue is counted for the load of R242. -/
def Block.countIssue (b : Block) (q : Nat) : Block :=
  { b with ave := { b.ave with issued := SMap.upd b.ave.issued 0 q (· + 1) } }

/-- Whether the divider works for a slot. -/
def PE.divides (p : PE) (slot : Nat) : Bool := match p.div with
  | some d => d.slot == slot
  | none => false

/-- A slot as its BUDGET falls by an issue (R157). -/
def Slot.charged (s : Slot) : Slot := if s.limited then { s with budget := s.budget - 1 } else s

/-- An issue is counted, and the slot is the one that issued last. -/
def Block.issueCounted (b : Block) (q pe slot : Nat) : Block :=
  ((b.bump (qOff q (0x2104 + 8 * pe))).countIssue q).markLast q pe slot

/-- Issue of the instruction with primary opcode `op` at a site. Nothing happens where the slot is not ready or its next
instruction has another opcode. An illegal word ends the strand and counts nowhere (R132), also where BUDGET is 0: the spec gives R132
and R157 no order, and this one is the model's choice (log 121). An instruction that may not issue now holds (R119, R138,
R198); one that would issue with BUDGET 0 ends the strand (R157); otherwise BUDGET falls, the issue is counted, and the body acts.
Which of several ready slots issues is given by the commands: readiness turns on the latencies of R120, which are timing. -/
def issue (op : Nat) (site : Site) (body : Block → Quarter → PE → Slot → SInstr → Body) (b : Block) : Block :=
  let qn := site.q.val
  let pn := site.pe.val
  let sn := site.slot.val
  let q := b.q qn
  let p := q.pe pn
  let s := q.slot pn sn
  let w := q.word s.pc
  if !(b.qRuns qn && q.offered pn sn && (opOf w).toNat == op) then b
  else match decodeStrand w (q.word (s.pc + 1)) with
    | none => (b.markLast qn pn sn).strandFault qn pn sn 1 s.pc w.toNat
    | some x =>
      let out := q.outstanding pn sn
      if (x.reads ++ x.writes).any out.contains then b
      else if usesDivider op && p.div.isSome then b
      else if touchesFlags x && p.divides sn then b
      else
        let c := b.issueCounted qn pn sn
        match body b q p s.charged x with
        | .hold => b
        | out => if s.limited && s.budget == 0 then b.strandFault qn pn sn 3 s.pc 0 else
        match out with
        | .hold => b
        | .fault cause detail => c.strandFault qn pn sn cause s.pc detail
        | .halt => (c.setQ qn ((c.q qn).setSlot pn sn s.charged)).endStrand qn pn sn
        | .cont s2 p2 => c.setQ qn (q.setPe pn { (p2.setSlot sn (advance q w s2)) with last := sn })
        | .jump s2 p2 pc => c.setQ qn (q.setPe pn { (p2.setSlot sn { s2 with pc := pc % 32768 }) with last := sn })

end Sys2Proof.Machine
end

