-- ==== Sys2Proof/Machine/Alu.lean ====
section
/-! DEFINITION. The integer strand instructions (R130, R133, R183 to R185) and the divider's delivery (R190). -/

namespace Sys2Proof.Machine

/-- An R-form instruction on 64-bit values. -/
def rBody (f : W64 → W64 → W64) (_ : Block) (_ : Quarter) (p : PE) (s : Slot) (x : SInstr) : Body :=
  match x.f with
  | .r rd ra rb _ _ => .cont (s.wr rd (f (s.rd ra) (s.rd rb))) p
  | _ => .hold

/-- An R-form instruction that W = 1 makes two 32-bit lanes (R133): `f` acts on numbers of a lane width. -/
def rLaneBody (f : Nat → Nat → Nat → Nat) (_ : Block) (_ : Quarter) (p : PE) (s : Slot) (x : SInstr) : Body :=
  match x.f with
  | .r rd ra rb _ w =>
    .cont (s.wr rd (onLanes w.toNat (fun a b _ => (f (laneBits w.toNat) a b, 0)) (s.rd ra) (s.rd rb) 0).1) p
  | _ => .hold

/-- An I-form instruction with its immediate; the third argument is RD as it stands. -/
def iBody (f : W64 → W64 → W64 → W64) (_ : Block) (_ : Quarter) (p : PE) (s : Slot) (x : SInstr) : Body :=
  match x.f with
  | .i rd ra imm ext => .cont (s.wr rd (f (s.rd ra) (immOf imm ext) (s.rd rd))) p
  | _ => .hold

/-- An integer division by the strand of a slot, delivered when the divider finishes (R190). -/
def divBody (slot : Nat) (signed rem : Bool) (_ : Block) (_ : Quarter) (p : PE) (s : Slot) (x : SInstr) : Body :=
  match x.f with
  | .r rd ra rb _ _ =>
    let r := intDiv signed rem (s.rd ra).toNat (s.rd rb).toNat
    .cont s { p with div := some { slot := slot, rd := rd.toNat, result := BitVec.ofNat 64 r.1, flags := r.2 } }
  | _ => .hold

/-- 1 or 0 as a register. -/
def flagW (c : Bool) : W64 := if c then 1 else 0

/-- The field of R133: the bits of x from pos for len, those above bit 63 read as 0. -/
def bfx (x imm : W64) : W64 :=
  let pos := bits imm.toNat 5 0
  let len := min (bits imm.toNat 12 6) 64
  BitVec.ofNat 64 ((x.toNat >>> pos) % 2 ^ len)

/-- RD with the field of R133 replaced by the low bits of RA; bits above 63 are not written. -/
def bfi (ra imm rd : W64) : W64 :=
  let pos := bits imm.toNat 5 0
  let len := min (bits imm.toNat 12 6) 64
  let mask : W64 := BitVec.ofNat 64 ((2 ^ len - 1) <<< pos)
  (rd &&& ~~~mask) ||| ((ra <<< pos) &&& mask)

/-- Leading zeros, 0 to 64. -/
def clz (x : W64) : W64 := BitVec.ofNat 64 (64 - bitlen x.toNat)
/-- Trailing zeros, 0 to 64. -/
def ctz (x : W64) : W64 := BitVec.ofNat 64 (((List.range 64).find? fun i => x.toNat.testBit i).getD 64)
/-- Number of ones. -/
def popc (x : W64) : W64 := BitVec.ofNat 64 ((List.range 64).filter fun i => x.toNat.testBit i).length
/-- High half of the signed product. -/
def mulh (x y : W64) : W64 := BitVec.ofInt 64 ((x.toInt * y.toInt) >>> 64)
/-- High half of the unsigned product. -/
def mulhu (x y : W64) : W64 := BitVec.ofNat 64 ((x.toNat * y.toNat) >>> 64)

/-- SEL: RA if RD is not 0, else RB. -/
def selBody (_ : Block) (_ : Quarter) (p : PE) (s : Slot) (x : SInstr) : Body :=
  match x.f with
  | .r rd ra rb _ _ => .cont (s.wr rd (if s.rd rd ≠ 0 then s.rd ra else s.rd rb)) p
  | _ => .hold

/-- ADD (R133). -/
def execAdd (site : Site) (s : State) : Host.Outcome State Fault Refusal :=
  act (issue 0x01 site (rLaneBody fun w a b => (a + b) % 2 ^ w)) s

/-- SUB (R133). -/
def execSub (site : Site) (s : State) : Host.Outcome State Fault Refusal :=
  act (issue 0x02 site (rLaneBody fun w a b => (a + 2 ^ w - b) % 2 ^ w)) s

/-- MUL (R183). -/
def execMul (site : Site) (s : State) : Host.Outcome State Fault Refusal :=
  act (issue 0x03 site (rBody (· * ·))) s

/-- MULH (R130). -/
def execMulh (site : Site) (s : State) : Host.Outcome State Fault Refusal :=
  act (issue 0x04 site (rBody mulh)) s

/-- MULHU (R130). -/
def execMulhu (site : Site) (s : State) : Host.Outcome State Fault Refusal :=
  act (issue 0x05 site (rBody mulhu)) s

/-- DIV (R184). -/
def execDiv (site : Site) (s : State) : Host.Outcome State Fault Refusal :=
  act (issue 0x06 site (divBody site.slot.val true false)) s

/-- DIVU (R184). -/
def execDivu (site : Site) (s : State) : Host.Outcome State Fault Refusal :=
  act (issue 0x07 site (divBody site.slot.val false false)) s

/-- REM (R184). -/
def execRem (site : Site) (s : State) : Host.Outcome State Fault Refusal :=
  act (issue 0x08 site (divBody site.slot.val true true)) s

/-- REMU (R184). -/
def execRemu (site : Site) (s : State) : Host.Outcome State Fault Refusal :=
  act (issue 0x09 site (divBody site.slot.val false true)) s

/-- AND (R130). -/
def execAnd (site : Site) (s : State) : Host.Outcome State Fault Refusal :=
  act (issue 0x0A site (rBody (· &&& ·))) s

/-- OR (R130). -/
def execOr (site : Site) (s : State) : Host.Outcome State Fault Refusal :=
  act (issue 0x0B site (rBody (· ||| ·))) s

/-- XOR (R130). -/
def execXor (site : Site) (s : State) : Host.Outcome State Fault Refusal :=
  act (issue 0x0C site (rBody (· ^^^ ·))) s

/-- ANDN (R130). -/
def execAndn (site : Site) (s : State) : Host.Outcome State Fault Refusal :=
  act (issue 0x0D site (rBody fun a b => a &&& ~~~b)) s

/-- SHL (R130). -/
def execShl (site : Site) (s : State) : Host.Outcome State Fault Refusal :=
  act (issue 0x0E site (rBody fun a b => a <<< (b.toNat % 64))) s

/-- SHR (R130). -/
def execShr (site : Site) (s : State) : Host.Outcome State Fault Refusal :=
  act (issue 0x0F site (rBody fun a b => a >>> (b.toNat % 64))) s

/-- SRA (R130). -/
def execSra (site : Site) (s : State) : Host.Outcome State Fault Refusal :=
  act (issue 0x10 site (rBody fun a b => a.sshiftRight (b.toNat % 64))) s

/-- ROR (R130). -/
def execRor (site : Site) (s : State) : Host.Outcome State Fault Refusal :=
  act (issue 0x11 site (rBody fun a b => a.rotateRight (b.toNat % 64))) s

/-- MIN (R133). -/
def execMin (site : Site) (s : State) : Host.Outcome State Fault Refusal :=
  act (issue 0x12 site (rLaneBody fun w a b => if toInt w a ≤ toInt w b then a else b)) s

/-- MAX (R133). -/
def execMax (site : Site) (s : State) : Host.Outcome State Fault Refusal :=
  act (issue 0x13 site (rLaneBody fun w a b => if toInt w a ≤ toInt w b then b else a)) s

/-- MINU (R130). -/
def execMinu (site : Site) (s : State) : Host.Outcome State Fault Refusal :=
  act (issue 0x14 site (rBody fun a b => if a.toNat ≤ b.toNat then a else b)) s

/-- MAXU (R130). -/
def execMaxu (site : Site) (s : State) : Host.Outcome State Fault Refusal :=
  act (issue 0x15 site (rBody fun a b => if a.toNat ≤ b.toNat then b else a)) s

/-- CMPEQ (R130). -/
def execCmpeq (site : Site) (s : State) : Host.Outcome State Fault Refusal :=
  act (issue 0x16 site (rBody fun a b => flagW (a == b))) s

/-- CMPLT (R130). -/
def execCmplt (site : Site) (s : State) : Host.Outcome State Fault Refusal :=
  act (issue 0x17 site (rBody fun a b => flagW (a.slt b))) s

/-- CMPLTU (R130). -/
def execCmpltu (site : Site) (s : State) : Host.Outcome State Fault Refusal :=
  act (issue 0x18 site (rBody fun a b => flagW (a.ult b))) s

/-- SEL (R130). -/
def execSel (site : Site) (s : State) : Host.Outcome State Fault Refusal :=
  act (issue 0x19 site (selBody)) s

/-- CLZ (R130). -/
def execClz (site : Site) (s : State) : Host.Outcome State Fault Refusal :=
  act (issue 0x1A site (rBody fun a _ => clz a)) s

/-- CTZ (R130). -/
def execCtz (site : Site) (s : State) : Host.Outcome State Fault Refusal :=
  act (issue 0x1B site (rBody fun a _ => ctz a)) s

/-- POPC (R130). -/
def execPopc (site : Site) (s : State) : Host.Outcome State Fault Refusal :=
  act (issue 0x1C site (rBody fun a _ => popc a)) s

/-- ADDI (R130). -/
def execAddi (site : Site) (s : State) : Host.Outcome State Fault Refusal :=
  act (issue 0x20 site (iBody fun a i _ => a + i)) s

/-- ANDI (R130). -/
def execAndi (site : Site) (s : State) : Host.Outcome State Fault Refusal :=
  act (issue 0x21 site (iBody fun a i _ => a &&& i)) s

/-- ORI (R130). -/
def execOri (site : Site) (s : State) : Host.Outcome State Fault Refusal :=
  act (issue 0x22 site (iBody fun a i _ => a ||| i)) s

/-- XORI (R130). -/
def execXori (site : Site) (s : State) : Host.Outcome State Fault Refusal :=
  act (issue 0x23 site (iBody fun a i _ => a ^^^ i)) s

/-- SHLI (R130). -/
def execShli (site : Site) (s : State) : Host.Outcome State Fault Refusal :=
  act (issue 0x24 site (iBody fun a i _ => a <<< (i.toNat % 64))) s

/-- SHRI (R130). -/
def execShri (site : Site) (s : State) : Host.Outcome State Fault Refusal :=
  act (issue 0x25 site (iBody fun a i _ => a >>> (i.toNat % 64))) s

/-- SRAI (R130). -/
def execSrai (site : Site) (s : State) : Host.Outcome State Fault Refusal :=
  act (issue 0x26 site (iBody fun a i _ => a.sshiftRight (i.toNat % 64))) s

/-- CMPEQI (R130). -/
def execCmpeqi (site : Site) (s : State) : Host.Outcome State Fault Refusal :=
  act (issue 0x27 site (iBody fun a i _ => flagW (a == i))) s

/-- CMPLTI (R130). -/
def execCmplti (site : Site) (s : State) : Host.Outcome State Fault Refusal :=
  act (issue 0x28 site (iBody fun a i _ => flagW (a.slt i))) s

/-- CMPLTUI (R130). -/
def execCmpltui (site : Site) (s : State) : Host.Outcome State Fault Refusal :=
  act (issue 0x29 site (iBody fun a i _ => flagW (a.ult i))) s

/-- LIH (R130). -/
def execLih (site : Site) (s : State) : Host.Outcome State Fault Refusal :=
  act (issue 0x2A site (iBody fun a i _ => (a &&& 0xFFFFFFFF) ||| ((i &&& 0xFFFFFFFF) <<< 32))) s

/-- BFX (R133). -/
def execBfx (site : Site) (s : State) : Host.Outcome State Fault Refusal :=
  act (issue 0x2B site (iBody fun a i _ => bfx a i)) s

/-- BFI (R133). -/
def execBfi (site : Site) (s : State) : Host.Outcome State Fault Refusal :=
  act (issue 0x2C site (iBody bfi)) s

/-- LI (R130). -/
def execLi (site : Site) (s : State) : Host.Outcome State Fault Refusal :=
  act (issue 0x2D site (iBody fun _ i _ => i)) s

/-- DIVIDER_FINISH (R165, R190): the result and its flags are delivered and the divider is free. -/
def execDividerFinish (q : Fin 68) (pe : Fin 16) (s : State) : Host.Outcome State Fault Refusal :=
  act (fun b =>
    let qq := b.q q
    let p := qq.pe pe
    match p.div with
    | none => b
    | some d =>
      if !b.qRuns q then b
      else
        let sl := p.slot d.slot
        let sl' := if sl.ended then sl else { sl with v := SMap.put sl.v d.rd d.result, flags := sl.flags ||| d.flags }
        b.setQ q ((qq.setPe pe { (p.setSlot d.slot sl') with div := none }).settle pe d.slot)) s

end Sys2Proof.Machine
end

