-- ==== Sys2Proof/Machine/Ledger.lean ====
section
/-! DEFINITION. The Ledger's journal (R432 to R435), its mirror (R323), and what waits on a migration or a rollback. -/

namespace Sys2Proof.Machine

/-- KIND of a record (R434). -/
def JBody.kind : JBody → Nat
  | .mark _ => 1
  | .epochDone _ => 2
  | .samples _ _ _ _ _ => 3
  | .job _ _ => 4
  | .inject _ => 5
  | .colirIn _ => 6
  | .merge _ _ => 7
  | .disp _ _ => 8
  | .cross _ _ => 9
  | .out _ _ _ => 10

/-- A decision as three numbers: its code, a status or counter, a value. -/
def Decision.nums : Decision → Nat × Nat × Nat
  | .arm => (0, 0, 0)
  | .ready => (1, 0, 0)
  | .timerDue => (2, 0, 0)
  | .dep v n => (3, v, n)
  | .cancel => (4, 0, 0)
  | .start => (5, 0, 0)
  | .complete st v => (6, st, v.toNat)

/-- The payload of a record as bytes. R434 names its parts; their packing is the model's. -/
def JBody.bytes : JBody → List Byte
  | .mark e => leBytes 8 e ++ leBytes 8 0
  | .epochDone e => leBytes 8 e ++ leBytes 8 (e % 2)
  | .samples f t w _ toks => leBytes 8 f ++ leBytes 8 t ++ toks.flatMap fun x => leBytes w x.value.toNat
  | .job _ d => d
  | .inject t => t.bytes ++ leBytes 14 0
  | .colirIn t => t.bytes ++ leBytes 14 0
  | .merge t o => leBytes 8 t.toNat ++ leBytes 8 o
  | .disp c d => leBytes 4 c ++ leBytes 4 d.nums.1 ++ leBytes 8 d.nums.2.1 ++ leBytes 8 d.nums.2.2
  | .cross t c => t.bytes ++ leBytes 14 c
  | .out t v s => leBytes 8 t.toNat ++ leBytes 8 v.toNat ++ leBytes 16 s

/-- Length of a record with its header, a multiple of 16 (R432). -/
def JBody.len (x : JBody) : Nat := 16 + (x.bytes.length + 15) / 16 * 16

/-- A whole record as bytes (R432). -/
def JRec.bytes (r : JRec) : List Byte :=
  leBytes 1 r.body.kind ++ leBytes 1 0 ++ leBytes 2 (r.len / 16) ++ leBytes 4 r.src ++ leBytes 8 r.lsn ++ r.body.bytes ++
    leBytes (r.len - 16 - r.body.bytes.length) 0

/-- Bytes of the journal in use. -/
def Block.journalUsed (b : Block) : Nat := b.cont.journal.foldl (fun a r => a + r.len) 0
/-- Bytes the journal can hold: seven eighths of its area (R431). -/
def Block.journalSpace (b : Block) : Nat := max (b.rf 0x1100218 17 0) 64 * 2 ^ 20 * 7 / 8
/-- The journal has room for a record (R435). -/
def Block.journalRoom (b : Block) (x : JBody) : Bool := decide (b.journalUsed + x.len ≤ b.journalSpace)

/-- The port for a destination module; none where no token can be sent there (R315). RESTRIPE makes a token wait, so it counts
as a port. -/
def Block.colirRoute (b : Block) (dev : Nat) : Option Nat :=
  let r := b.rf (if dev < 8 then 0xE00004 else 0xE00008) (4 * (dev % 8) + 3) (4 * (dev % 8))
  let st := b.rf (0xE01004 + 0x100 * r) 2 0
  if r < 4 ∧ (st = 4 ∨ st = 5) ∧ !(match SMap.find? b.colir.ports r with | some p => p.lost | none => false) then some r else none

/-- A Colir port that has never been used. -/
def CPort.empty : CPort :=
  { ctl := 0x20, signal := 0, sentWord := 0, capsCount := 0, since := 0, cut := 15, rateCap := 2, seq := 0, expect := 0, replay := [],
    again := none, nakDue := false, nakking := false, ackAt := 0, tcred := 0, ocred := 0, retT := 0, retO := 0, tokQ := [], dispQ := [],
    evQ := [], ledQ := [], rxHeld := [], run := 0, evNext := true, leftAt := none, lost := false, timeAt := 0, tArrive := 0,
    meas := none, fails := [], lastCell := 0 }

/-- A Colir port. -/
def Block.cport (b : Block) (p : Nat) : CPort := SMap.get b.colir.ports CPort.empty p
/-- Replaces a Colir port. -/
def Block.setCport (b : Block) (p : Nat) (x : CPort) : Block :=
  { b with colir := { b.colir with ports := SMap.put b.colir.ports p x } }

/-- The time at which the longest held cell of the module's own mirror stream was queued at a port. -/
def Block.mirrorHeld (b : Block) (p : Nat) : Option Nat := ((b.cport p).ledQ.find? fun e => e.2.1 = 0).map fun e => e.2.2

/-- A record is dropped from the mirror (R323). -/
def Block.mirrorGap (b : Block) : Block :=
  let b := b.bump (colirCnt 5)
  b.raise 14 (b.reg (colirCnt 5))

/-- The mirror takes a record (R323): one LEDGER cell for each 16 bytes, laid out as an EVENT cell. A record that finds the stream's
cells held for more than 1 ms is dropped. Nothing is sent without a route, or where the destination is this module, whose own route is
ignored (R313). -/
def Block.mirror (b : Block) (r : JRec) : Block :=
  let dev := b.rf 0xE0000C 7 4
  if b.rf 0xE0000C 30 30 = 0 ∨ dev = b.ownId then b
  else
    match b.colirRoute dev with
    | none => b
    | some p =>
      if (b.mirrorHeld p).any fun t => t + 1000000 < b.now then b.mirrorGap else
      let port := b.cport p
      let cells := (chunks (r.len / 16) 16 r.bytes).map fun c =>
        (BitVec.ofNat 144 (ofBytes c + (b.ownId <<< 128) + (dev <<< 140)), 0, b.now)
      b.setCport p { port with ledQ := port.ledQ ++ cells }

/-- A record goes into the journal (R432). -/
def Block.journal (b : Block) (src : Nat) (x : JBody) : Block :=
  let r : JRec := { lsn := b.cont.lsn, src := src, len := x.len, body := x }
  ({ b with cont := { b.cont with lsn := b.cont.lsn + 1, journal := b.cont.journal ++ [r] } }).mirror r

/-- A writer waits for room in the journal (R435): LEDGER_FULL is set, and the event raised when the bit is set. -/
def Block.ledgerWait (b : Block) : Block :=
  if b.rf 0x1100210 2 2 = 1 then b
  else
    let b := { b with cont := { b.cont with fullSince := some b.now } }
    (b.setRf 0x1100210 2 2 1).raise 26 (b.journalUsed / 2 ^ 20)

/-- A context's journaled decisions are still being applied by a replay (R438). -/
def Block.replaying (b : Block) (ctx : Nat) : Bool :=
  match b.cont.roll with
  | some r => r.step == 5 && r.decs.any fun e => e.1 == ctx
  | none => false

/-- A context is in the closure of a rollback (R439). -/
def Block.inClosure (b : Block) (ctx : Nat) : Bool :=
  match b.cont.roll with
  | some r => r.ctxs.contains ctx
  | none => false

/-- A Dispatcher decision is journaled (R434, kind 8); one that a replay applies is in the journal already. -/
def Block.decide_ (b : Block) (ctx : Nat) (d : Decision) : Block :=
  if b.replaying ctx then b else b.journal ctx (.disp ctx d)

-- The graph image (R361, R362)

/-- The sections of the image at an address, up to END or an undefined TYPE: TYPE, FIRST, COUNT and the address of the body.
Every header that does not end the image has a listed byte of its own, so the memory's length bounds their number. -/
def imageSections (rd : Nat → Nat → List Byte) : Nat → Nat → List (Nat × Nat × Nat × Nat)
  | 0, _ => []
  | fuel + 1, ma =>
    let h := rd ma 16
    let ty := (h.headD 0).toNat
    let first := ofBytes ((h.drop 4).take 4)
    let n := ofBytes ((h.drop 8).take 4)
    if ty = 0 ∨ 7 ≤ ty then []
    else
      let len := if ty = 1 ∨ ty = 5 then 16 * n else if ty = 6 then 8 * n else 4 * n
      (ty, first, n, ma + 16) :: imageSections rd fuel (ma + 16 + (len + 15) / 16 * 16)

/-- The sections of an image as the Stops deliver them. -/
def Block.image (b : Block) (image : Nat) : List (Nat × Nat × Nat × Nat) := imageSections b.loadBytes (b.mem.length + 1) image
/-- The sections of an image of one TYPE. -/
def Block.sections (b : Block) (image ty : Nat) : List (Nat × Nat × Nat × Nat) :=
  (b.image image).filter fun s => s.1 = ty

/-- The NODEMAP word of a NODE; 0, with VALID 0, where none covers it (R362). A later section replaces an earlier one. -/
def Block.nodemap (b : Block) (image node : Nat) : Nat :=
  match ((b.sections image 4).filter fun s => s.2.1 ≤ node ∧ node < s.2.1 + s.2.2.1).getLast? with
  | some s => b.loadLe (s.2.2.2 + 4 * (node - s.2.1)) 4
  | none => 0

/-- The mask of a node group; 0 where none covers it (R362). -/
def Block.groupMask (b : Block) (image g : Nat) : Nat :=
  match ((b.sections image 6).filter fun s => s.2.1 ≤ g ∧ g < s.2.1 + s.2.2.1).getLast? with
  | some s => b.loadLe (s.2.2.2 + 8 * (g - s.2.1)) 8
  | none => 0

/-- The node groups of an image. -/
def Block.groupsOf (b : Block) (image : Nat) : List Nat :=
  (List.range 256).filter fun g => (b.sections image 6).any fun s => s.2.1 ≤ g ∧ g < s.2.1 + s.2.2.1

/-- The gates of an image: entry node, STREAM, exit node, K_SET and BASE (R362). -/
def Block.gatesOf (b : Block) (image : Nat) : List (Nat × Bool × Nat × Nat × Nat) :=
  let all := (b.sections image 5).flatMap fun s => (List.range s.2.2.1).map fun i => (s.2.1 + i, s.2.2.2 + 16 * i)
  (List.range 256).filterMap fun g =>
    match (all.filter fun e => e.1 = g).getLast? with
    | none => none
    | some e =>
      let w := b.loadLe e.2 4
      some (w % 2 ^ 18, w.testBit 31, b.loadLe (e.2 + 4) 4 % 2 ^ 18, b.loadLe (e.2 + 8) 4 % 2 ^ 18, b.loadLe (e.2 + 12) 4 % 2 ^ 18)

/-- A walk of an image reads its section headers, and then ranges of its bodies: the Stops serve every read (R328, R362). -/
def Block.walkImage (b : Block) (image : Nat) (ranges : List (Nat × Nat)) : Block :=
  let heads := image :: (b.image image).map fun s =>
    s.2.2.2 + ((if s.1 = 1 ∨ s.1 = 5 then 16 else if s.1 = 6 then 8 else 4) * s.2.2.1 + 15) / 16 * 16
  (heads.map (fun a => (a, 16)) ++ ranges).foldl (fun (b : Block) (r : Nat × Nat) => (b.stopRead r.1 r.2).1) b

/-- An injection point or a Plaza reads the NODEMAP word of a NODE (R362, R498). -/
def Block.readNodemap (b : Block) (image node : Nat) : Block :=
  b.walkImage image ((b.sections image 4).filterMap fun s =>
    if s.2.1 ≤ node ∧ node < s.2.1 + s.2.2.1 then some (s.2.2.2 + 4 * (node - s.2.1), 4) else none)

/-- The Dispatcher or the placement engine reads the sections of some TYPEs of an image (R225, R242, R264, R448). -/
def Block.readSections (b : Block) (image : Nat) (types : List Nat) : Block :=
  b.walkImage image ((b.image image).filterMap fun s =>
    if types.contains s.1 then some (s.2.2.2, (if s.1 = 5 then 16 else 8) * s.2.2.1) else none)

-- Placement and what is held back

/-- The kinds routed to a node's Quarter (R47); reserved codes become DATA. -/
def nodeKind (k : Nat) : Bool := !(k == 4 || k == 5 || k == 7 || k == 8)

/-- A context has a current placement: it has been started in its current activation and is resident (R43). -/
def Ctx.placed (x : Ctx) : Bool := decide (4 ≤ x.state)

/-- The group of a NODE in a context, from its NODEMAP word; none where VALID is 0. -/
def wordGroup (w : Nat) : Option Nat := if w.testBit 31 then some (bits w 20 13) else none

/-- A token's NODE lies in a group of its context. -/
def Block.inGroup (b : Block) (ctx group : Nat) (t : W64) : Bool :=
  tagCtx t == ctx && (match b.ctx? ctx with
    | some x => wordGroup (b.nodemap x.desc.image (tagNode t)) == some group
    | none => false)

/-- A firing is counted for the placement engine (R242): by context and group, since the last close. -/
def Block.countFire (b : Block) (t : W64) : Block :=
  match b.ctx? (tagCtx t) with
  | none => b
  | some x => match wordGroup (b.nodemap x.desc.image (tagNode t)) with
    | none => b
    | some g => { b with ave := { b.ave with fires := SMap.upd b.ave.fires 0 (tagCtx t * 256 + g) (· + 1) } }

/-- A token is held by a migration (R244): it is addressed to a node of the migrating group. -/
def Block.migHeld (b : Block) (t : Token) : Bool :=
  match b.ave.mig with
  | none => false
  | some m =>
    nodeKind t.kind && tagDev t.tag == b.ownId && b.inGroup m.ctx m.group t.tag

/-- A token of a closure context is held by a rollback (R439): everywhere in steps 2 to 4, and in step 5 where it comes from
outside the closure. -/
def Block.rollHeld (b : Block) (t : Token) (fromQ : Option Nat) : Bool :=
  match b.cont.roll with
  | none => false
  | some r => r.ctxs.contains t.ctx && t.kind != 8 &&
      (decide (r.step < 5) || !(match fromQ with | some q => r.quarters.contains q | none => false))

end Sys2Proof.Machine
end

