-- ==== Sys2Proof/Machine/Rings.lean ====
section
/-! DEFINITION. What every unit at the Host Gate shares: whether the module runs, host bus access (R349), rings (R353), completion
records (R371 to R373), the end of a job (R369, R370), decrements sent out (R320), and how a ring becomes due (R388). -/

namespace Sys2Proof.Machine

-- Host bus

/-- The module may send requests to host memory (R349, R378). -/
def Block.hostBus (b : Block) : Bool := b.up && b.host.pcie.busMaster && !b.host.pcie.d3 && !b.host.resume

/-- Polling and fetching are on, and records are written (HOST_CTRL.EN). -/
def Block.hostOn (b : Block) : Bool := b.hostBus && b.rf 0x100000 0 0 == 1

-- Rings

/-- Entries of a ring by its CFG; 0 for SIZE 0 (R353). -/
def ringSize (cfg : Nat) : Nat := let n := cfg % 32; if n = 0 then 0 else 2 ^ min (max n 4) 16
/-- A ring is enabled: EN is 1 and SIZE is not 0. -/
def ringOn (cfg : Nat) : Bool := cfg.testBit 31 && ringSize cfg != 0
/-- HOST_SQr_CFG. -/
def sqCfg (r : Nat) : Nat := 0x101008 + 16 * r
/-- HOST_CQc_CFG. -/
def cqCfg (c : Nat) : Nat := 0x102008 + 16 * c
/-- HOST_EQe_CFG. -/
def eqCfg (e : Nat) : Nat := 0x103008 + 16 * e
/-- Host address of a ring, from its CFG's offset. -/
def Block.ringBase (b : Block) (cfg : Nat) : Nat := b.rf (cfg - 8) 31 12 * 4096 + b.reg (cfg - 4) * 2 ^ 32

/-- A submission ring that has never been used. -/
def SQ.empty : SQ :=
  { tail := 0, accepted := 0, gen := 0, hseq := 0, halted := false, cause := 0, fetched := none, keyDone := none, jobs := [], accDue := false }
/-- A completion ring that has never been used. -/
def CQ.empty : CQ := { w := 0, head := 0, halted := false, waiting := [], issued := [] }
/-- An event ring that has never been used. -/
def EQ.empty : EQ := { w := 0, head := 0, halted := false, staged := [], lossMark := false, issued := [] }
/-- A ring the EVC has never signalled. -/
def Ring.empty : Ring := { unsig := 0, oldest := 0, time := 0, due := false, signalled := false, headRead := false }

/-- SQ r. -/
def Block.sq (b : Block) (r : Nat) : SQ := SMap.get b.host.sqs SQ.empty r
/-- Replaces SQ r. -/
def Block.setSq (b : Block) (r : Nat) (x : SQ) : Block := { b with host := { b.host with sqs := SMap.put b.host.sqs r x } }
/-- CQ c. -/
def Block.cq (b : Block) (c : Nat) : CQ := SMap.get b.host.cqs CQ.empty c
/-- Replaces CQ c. -/
def Block.setCq (b : Block) (c : Nat) (x : CQ) : Block := { b with host := { b.host with cqs := SMap.put b.host.cqs c x } }
/-- EQ e. -/
def Block.eq (b : Block) (e : Nat) : EQ := SMap.get b.evc.eqs EQ.empty e
/-- Replaces EQ e. -/
def Block.setEq (b : Block) (e : Nat) (x : EQ) : Block := { b with evc := { b.evc with eqs := SMap.put b.evc.eqs e x } }
/-- Ring k of the EVC: CQ k, or EQ k − 64. -/
def Block.ring (b : Block) (k : Nat) : Ring := SMap.get b.evc.rings Ring.empty k
/-- Replaces ring k. -/
def Block.setRing (b : Block) (k : Nat) (x : Ring) : Block := { b with evc := { b.evc with rings := SMap.put b.evc.rings k x } }

/-- EVC_RINGk_CFG. -/
def ringCfg (k : Nat) : Nat := 0x202000 + 8 * k

/-- A record has been written to ring k (R388): UNSIG rises, and the ring is due once UNSIG reaches COUNT. COUNT and TIME apply from this
record on. -/
def Block.noteRecord (b : Block) (k : Nat) : Block :=
  let r := b.ring k
  let n := r.unsig + 1
  let count := b.rf (ringCfg k) 23 16
  b.setRing k { r with
    unsig := n, oldest := if r.unsig = 0 then b.now else r.oldest, time := b.rf (ringCfg k) 15 0
    due := r.due || (count != 0 && decide (count ≤ n)) }

/-- Makes a ring due (R391, R393 to R395). -/
def Block.makeDue (b : Block) (k : Nat) : Block := b.setRing k { b.ring k with due := true }

/-- PHASE of the record at an index (R372). -/
def phaseBit (index size : Nat) : Nat := (index / size + 1) % 2

-- Decrements sent out (R268, R320, R370)

/-- The payload of a DISP cell (R318). -/
def dispPayload (op src ctx round changed status l x dst : Nat) : BitVec 144 :=
  BitVec.ofNat 144 (field op 3 0 + field src 7 4 + field ctx 27 8 + field round 35 28 + field changed 36 36 + field status 39 37 +
    field l 87 40 + field x 135 88 + field dst 143 140)

/-- Sends a DISP message to another module; none without a route. -/
def Block.sendDisp (b : Block) (op ctx round changed status l x dst : Nat) : Option Block :=
  match b.colirRoute dst with
  | none => none
  | some p =>
    let c := b.cport p
    some (b.setCport p { c with dispQ := c.dispQ ++ [(dispPayload op b.ownId ctx round changed status l x dst, 0)] })

/-- A decrement named by a NOTIFY word goes to its module's Dispatcher (R255, R320). -/
def Block.notify (b : Block) (ctx dev : Nat) : Block :=
  if dev = b.ownId then { b with disp := { b.disp with depQ := b.disp.depQ ++ [ctx] } }
  else match b.sendDisp 0 ctx 0 0 0 0 0 dev with
    | some b => b
    | none => b.bump (colirCnt 3)

-- Jobs

/-- Byte n of a descriptor. -/
def Job.byte (j : Job) (n : Nat) : Nat := (j.desc.getD n 0).toNat
/-- Bytes lo to lo + n − 1 of a descriptor as a number. -/
def Job.arg (j : Job) (lo n : Nat) : Nat := ofBytes ((j.desc.drop lo).take n)
/-- OP of a job (R358). -/
def Job.op (j : Job) : Nat := j.byte 0
/-- HSEQ of a job. -/
def Job.hseq (j : Job) : Nat := j.arg 8 8

/-- Records of a ring are queued in index order (R369): those of its completed jobs that no unfinished job precedes. -/
def Block.queueRecords (b : Block) (r : Nat) : List Job → List Job → Block
  | seen, [] => b.setSq r { b.sq r with jobs := seen }
  | seen, j :: js =>
    if !j.done then b.setSq r { b.sq r with jobs := seen ++ j :: js }
    else if j.queued then b.queueRecords r (seen ++ [j]) js
    else
      let c := b.cq j.cring
      (b.setCq j.cring { c with waiting := c.waiting ++ [.job j.hseq j.status r j.index j.result j.detail] }).queueRecords r
        (seen ++ [{ j with queued := true }]) js

/-- A job completes: its NOTIFY is applied, and its record is queued in its turn (R369, R370). -/
def Block.finishJob (b : Block) (r index status result detail : Nat) : Block :=
  let q := b.sq r
  match q.jobs.find? fun j => j.index = index && !j.done with
  | none => b
  | some j =>
    let jobs := q.jobs.map fun x => if x.index = index then
        { x with begun := true, done := true, status := status, result := result % 2 ^ 64, detail := detail % 2 ^ 32 } else x
    let b := if j.byte 1 % 2 = 1 then b.notify (j.arg 4 4 % 2 ^ 20) (bits (j.arg 4 4) 23 20) else b
    b.queueRecords r [] jobs

/-- The job of a ring that starts next (R369): the first that has not started, unless a FENCE before it has not completed. -/
def SQ.next (q : SQ) : Option Job :=
  match q.jobs.find? fun j => !j.begun with
  | none => none
  | some j => if (q.jobs.takeWhile fun x => x.index != j.index).any fun x => x.op == 1 && !x.done then none else some j

/-- The jobs that are carried out in the grave state (R411, step 5). -/
def graveJob (op : Nat) : Bool := [0, 1, 8, 9, 11, 12].contains op

/-- Starts the next job of a ring if its OP is one asked for; in the grave state jobs of other kinds end BAD_OP. -/
def Block.startJob (b : Block) (r : Nat) (mine : Nat → Bool) (body : Block → Job → Block) : Block :=
  if !b.up || b.host.resume || b.host.reconciling then b
  else match (b.sq r).next with
  | none => b
  | some j =>
    if !mine j.op then b
    else if b.hub.grave && !graveJob j.op then b.finishJob r j.index 11 0 0
    else body b j

/-- Marks a job as started. -/
def Block.beginJob (b : Block) (r index : Nat) : Block :=
  let q := b.sq r
  b.setSq r { q with jobs := q.jobs.map fun j => if j.index = index then { j with begun := true } else j }

/-- A unit that writes to the journal goes on if the record has room, and otherwise waits (R435). -/
def Block.withRoom (b : Block) (x : JBody) (f : Block → Block) : Block := if b.journalRoom x then f b else b.ledgerWait

/-- Time passes to a TIME_NS; where slewing leaves it short, a little more passes. -/
def Block.passToNs (b : Block) (t : Nat) : Block :=
  (List.range 4).foldl (fun b _ => if b.timeNs < t then b.pass (t - b.timeNs) else b) b

/-- The counts of one context that no unit has flushed (R92). -/
def Block.unflushed (b : Block) (ctx : Nat) : Bool :=
  b.live.any fun e => e.1 % 2 ^ 20 == ctx && e.2 != (0, 0)

/-- Every unit's counts of a context go to the Dispatcher (R93). -/
def Block.gather (b : Block) (ctx : Nat) : Block :=
  ((b.live.map fun e => e.1).filter fun k => k % 2 ^ 20 = ctx).foldl (fun b k => b.flushCount (k / 2 ^ 20) ctx) b

end Sys2Proof.Machine
end

