-- ==== Sys2Proof/Machine/Lanes.lean ====
section
/-! DEFINITION. Lanes (R98 to R114) and fire queues (R115 to R117): words entering and leaving the banks, swaps, flushes and
watermarks, the completion of a SEND (R141) and the start of a strand (R122 to R125). -/

namespace Sys2Proof.Machine

/-- What an offer to a class of waiting work comes to: nothing of it can go, one piece of it goes, or the first may not go now and leaves
only what it counts or asks for. -/
inductive Start where
  | none
  | go (b : Block)
  | held (f : Block → Block)

/-- A piece of work goes. -/
def Start.can : Start → Bool
  | .go _ => true
  | _ => false

/-- The block after the offer. -/
def Start.result (b : Block) : Start → Block
  | .none => b
  | .go b => b
  | .held f => f b

/-- The drain bank of a lane. -/
def Lane.drain (l : Lane) : List LaneWord := if l.drainB then l.b else l.a
/-- The fill bank of a lane. -/
def Lane.fill (l : Lane) : List LaneWord := if l.drainB then l.a else l.b
/-- Replaces the drain bank. -/
def Lane.setDrain (l : Lane) (ws : List LaneWord) : Lane := if l.drainB then { l with b := ws } else { l with a := ws }
/-- Puts a word behind the fill bank, and makes its parity bits (R55, R106). -/
def Lane.push (l : Lane) (w : LaneWord) : Lane :=
  let l := { l with prodMid := !w.tok.last }
  let w := { w with par := w.tok.parity }
  if l.drainB then { l with a := l.a ++ [w] } else { l with b := l.b ++ [w] }
/-- LEVEL (R107). -/
def Lane.level (l : Lane) : Nat := l.a.length + l.b.length
/-- PKTS (R107). -/
def Lane.pkts (l : Lane) : Nat := ((l.a ++ l.b).filter fun w => w.tok.last).length
/-- The lane refuses words: its fill bank holds 64 (R105). -/
def Lane.full (l : Lane) : Bool := decide (64 ≤ l.fill.length)

/-- Offset of a register of lane j; the VC1 pair of lane 3 shares lane 3's. -/
def laneReg (q j o : Nat) : Nat := qOff q (0x1000 + 0x40 * (if j = 8 then 3 else j) + o)

/-- Replaces a lane, and compares its level before and after with the watermark (R112, R113). The VC1 pair has none (R100). -/
def Block.putLane (b : Block) (q j : Nat) (l : Lane) : Block :=
  let before := ((b.q q).lane j).level
  let after := l.level
  let b := b.setQ q ((b.q q).setLane j l)
  if j = 8 then b
  else
    let b := if b.rf (laneReg q j 8) 7 0 < after then b.setRf (laneReg q j 8) 7 0 after else b
    let wm := b.rf (laneReg q j 0) 15 8
    let dir := b.rf (laneReg q j 0) 5 4
    let up := decide (before < wm ∧ wm ≤ after)
    let down := decide (wm ≤ before ∧ after < wm)
    if wm ≠ 0 ∧ wm ≤ 128 ∧ ((up && (dir == 1 || dir == 3)) || (down && (dir == 2 || dir == 3))) then
      let b := b.bump (laneReg q j 12)
      if b.rf (laneReg q j 8) 31 31 = 1 then b
      else
        let b := b.setReg (laneReg q j 8) (2 ^ 31 + field after 23 16 + field l.pkts 15 8 + b.rf (laneReg q j 8) 7 0)
        b.raise 9 (q + field j 10 8 + field after 23 16 + field l.pkts 31 24)
    else b

/-- One check of a parity checker (R106, R116, R418): whether it fails. A DRY failure goes to the Fault Hub alone. -/
def Block.parityCheck (b : Block) (checker q sub code : Nat) (upset : Bool) : Block × Bool :=
  let unit := q + (sub <<< 8)
  match b.inject checker q sub with
  | (b, some (true, _)) => if upset then (b.detect code unit, true) else (b.dryDetect code unit 0, false)
  | (b, some (false, _)) => (b.detect code unit 0 true, true)
  | (b, none) => if upset then (b.detect code unit, true) else (b, false)

/-- The parity bits of a word are those its halves ask for (R55). -/
def LaneWord.sound (w : LaneWord) : Bool := w.par == w.tok.parity

/-- The parity check of a word read from a lane (R55, R106). A word that fails is counted and delivered with POISON, with the END of its
copy; where an upset in the lane is met now, it is otherwise a free value. -/
def Block.checkWord (b : Block) (q j : Nat) (upset : Bool) (w : LaneWord) : Block × LaneWord :=
  let (b, bad) := b.parityCheck 1 q (if j = 8 then 3 else j) 8 (upset || !w.sound)
  if bad then
    let b := b.bump (laneReg q j 16)
    if upset then
      let (b, n) := b.fresh
      (b, { w with tok := ((Config.upsetToken n w.tok).setCtrl 7 7 (b2n w.tok.last)).poisoned })
    else (b, { w with tok := w.tok.poisoned })
  else (b, w)

/-- Takes the word at the head of a lane, checking its parity (R106); none while the drain bank is empty. A closing word goes first
(R110). -/
def Block.takeWord (b : Block) (q j : Nat) (upset : Bool) : Block × Option LaneWord :=
  let l := (b.q q).lane j
  match l.closing with
  | some w => (b.setQ q ((b.q q).setLane j { l with closing := none }), some w)
  | none =>
    match l.drain with
    | [] => (b, none)
    | w :: ws =>
      let b := b.putLane q j { l.setDrain ws with consMid := if w.tok.last then none else some w.pt }
      let (b, w) := b.checkWord q j upset w
      (b, some w)

/-- The word at the head of a lane. -/
def Quarter.laneHead (q : Quarter) (j : Nat) : Option LaneWord := match (q.lane j).closing with
  | some w => some w
  | none => (q.lane j).drain.head?

/-- A source point as a sender of R425: the Quarter or Gate at its Crossing. -/
def senderOf (pt : Nat) : Option Nat :=
  let x := (pt / 2) % 16
  let y := (pt / 2) / 16
  if pt % 2 = 1 then none
  else match gateAt x y with
    | some g => some (68 + g)
    | none => quarterAt x y
/-- The point of a Quarter's or a Gate's local port. -/
def pointOf (xy : Nat × Nat) (port : Nat) : Nat := 2 * (16 * xy.2 + xy.1) + port

/-- A VC0 token that reaches an inbound lane or the pen of a Quarter is copied into its channel record while its sender's
MARKER is awaited (R427). -/
def Block.chanCopy (b : Block) (q : Nat) (t : Token) (sender : Option Nat) : Block :=
  match b.cont.close, sender with
  | some c, some u =>
    match SMap.find? c.cuts.quarters q with
    | some cut =>
      if t.kind == 8 || cut.markers.contains u then b
      else
        let cuts := { c.cuts with quarters := SMap.put c.cuts.quarters q { cut with chan := cut.chan ++ [t] } }
        { b with cont := { b.cont with close := some { c with cuts := cuts } } }
    | none => b
  | _, _ => b

/-- A closure Quarter discards arriving tokens until it has a FLUSH from every sender (R439, step 3). -/
def Block.rollDiscards (b : Block) (q : Nat) (t : Token) : Bool :=
  match b.cont.roll with
  | some r => r.step == 3 && r.quarters.contains q && !(t.kind == 8 && bits t.value.toNat 7 0 == 2)
  | none => false

/-- A token that is discarded is consumed, whatever its KIND (R47, R91). -/
def Block.discard (b : Block) (unit : Nat) (t : Token) : Block := b.consume unit t.ctx

/-- LANE_WORD_ARRIVE (R98 to R105, R109, R427): the next word for a lane enters its fill bank, or stays where it is while the
lane refuses it. Lanes 0 to 3 and the VC1 pair (8) are fed by the Crossing, lane 7 by the Quarter's VC1 producers; a SEND enters
lanes 4 to 6 by SEND_COMPLETE. -/
def execLaneWordArrive (q : Fin 68) (lane : Fin 9) (s : State) : Host.Outcome State Fault Refusal :=
  act (fun b =>
    let qq := b.q q
    let j := lane.val
    let l := qq.lane j
    if b.retired.contains q then b
    else if j = 7 then
      match qq.vc1Out with
      | [] => b
      | w :: ws =>
        if l.skip then
          (b.setQ q ({ qq with vc1Out := ws }.setLane j { l with skip := !w.tok.last, prodMid := false })).bump (laneReg q j 20)
        else if l.full then b
        else ({ b with qs := SMap.put b.qs q { qq with vc1Out := ws } }).putLane q j (l.push w)
    else
      match takeFirst (fun a => a.lane == j) qq.arriving with
      | none => b
      | some (a, rest) =>
        if (j ≤ 3 ∧ b.distLevel (distOf q) ≠ 0) ∨ (l.full ∧ !l.skip) then b
        else
          let xy := xyOf q
          let x := SMap.get b.ave.xings Crossing.empty (xk xy.1 xy.2)
          let x := { x with freed := SMap.upd x.freed 0 (4 * 4 + (if j = 8 then 1 else 0)) (· + 1) }
          let b := { b.setQ q { qq with arriving := rest } with ave := { b.ave with xings := SMap.put b.ave.xings (xk xy.1 xy.2) x } }
          if l.skip then
            (b.setQ q ((b.q q).setLane j { l with skip := !a.word.tok.last, prodMid := false })).bump (laneReg q j 20)
          else if decide (j ≤ 3) && b.rollDiscards q.val a.word.tok then b.discard q a.word.tok
          else
            let b := if j ≤ 3 then b.chanCopy q a.word.tok (senderOf a.word.pt) else b
            b.putLane q j (l.push a.word)) s

/-- LANE_SWAP (R104): an empty drain bank and a fill bank that holds a word swap. The drain side of an inbound lane is the
Quarter's, on its District clock. -/
def execLaneSwap (q : Fin 68) (lane : Fin 9) (s : State) : Host.Outcome State Fault Refusal :=
  act (fun b =>
    let l := (b.q q).lane lane
    if (lane.val ≤ 3 ∨ lane.val = 8) ∧ !b.qAwake q then b
    else if l.drain.isEmpty ∧ !l.fill.isEmpty ∧ !b.retired.contains q then b.setQ q ((b.q q).setLane lane { l with drainB := !l.drainB })
    else b) s

/-- A flush is asked for (R108); lane 3's acts on both pairs (R100). -/
def Block.askFlush (b : Block) (q j : Nat) : Block :=
  if b.retired.contains q then b
  else
    let qq := b.q q
    let qq := qq.setLane j { qq.lane j with flush := true }
    b.setQ q (if j = 3 then qq.setLane 8 { qq.lane 8 with flush := true } else qq)

/-- LANE_FLUSH (R108): a write of 1 to FLUSH. -/
def execLaneFlush (q : Fin 68) (lane : Fin 8) (s : State) : Host.Outcome State Fault Refusal :=
  actUp (fun b => b.askFlush q lane) s

/-- Discards the contents of one bank pair (R108 to R111): each token in it counts as consumed. A closing word still owed stays owed. -/
def Block.flushPair (b : Block) (q j : Nat) : Block :=
  let l := (b.q q).lane j
  let ws := l.a ++ l.b
  let b := (b.bump (laneReg q j 20) ws.length)
  let b := if j = 7 ∨ j = 8 then b
    else ws.foldl (fun b w => if w.tok.last then b.discard q w.tok else b) b
  b.putLane q j { l with
    a := []
    b := []
    flush := false
    skip := l.skip || l.prodMid
    prodMid := false
    consMid := none
    closing := match l.consMid with
      | some pt => some { tok := { value := 0, tag := 0, ctrl := mkCtrl 0 0 true true false 0 0 }, pt := pt }
      | none => l.closing }

/-- LANE_FLUSH_EFFECT (R108 to R111). -/
def execLaneFlushEffect (q : Fin 68) (lane : Fin 8) (s : State) : Host.Outcome State Fault Refusal :=
  act (fun b =>
    let l := (b.q q).lane lane
    if !l.flush || b.retired.contains q then b
    else
      let b := b.flushPair q lane
      if lane.val = 3 then b.flushPair q 8 else b) s

/-- An output that repeats an OUT or CROSS record written since the cut is dropped (R438), each record matching once. -/
def Block.suppressOut (b : Block) (t : Token) : Option Block :=
  (takeFirst (fun e => e == (t.tag, t.value)) b.cont.outs).map fun e =>
    ({ b with cont := { b.cont with outs := e.2 } }).bump (contCnt 5)

-- Fire queues and the start of a strand

/-- The lowest free slot of a PE. -/
def PE.freeSlot (p : PE) : Option Nat := (List.range 8).find? fun n => !(p.slot n).busy

/-- A slot as a fire packet sets it up (R122 to R125, R144, R157). -/
def Block.fireSlot (b : Block) (q pe slot : Nat) (p : FirePacket) (poison : Bool) (serial : Nat) : Slot :=
  let cfg := b.reg (qOff q 0x2000)
  let size := bits cfg 31 28
  let bytes := if size = 0 then 0 else 2 ^ (min size 8 + 5)
  let base := bits cfg 19 3 * 8
  let n := 8 * pe + slot
  let budget := b.reg (qOff q 0x2004)
  let tag := tagSet p.tag 3 2 0
  { Slot.free with
    busy := true
    pc := p.code
    v := SMap.put (p.ops.filter fun e => decide (e.1 < (if p.gather then 8 else 3))) (if p.gather then 8 else 3) tag
    sp := if size = 0 then 0 else (base + (n + 1) * bytes) % 2 ^ 24
    slim := if size = 0 then 0 else (base + n * bytes) % 2 ^ 24
    budget := budget
    limited := budget != 0
    epoch := p.epl
    pstate := poison
    mode := SMap.get (b.q q).modes 0 (tagCtx tag)
    tag := tag
    serial := serial }

/-- FIRE_PACKET_TAKE (R115, R116): a PE takes the packet at the head of its fire queue into its lowest free slot. A parity
error starts it with the poison bit set and its fields as free values. -/
def execFirePacketTake (q : Fin 68) (pe : Fin 16) (upset : Bool) (s : State) : Host.Outcome State Fault Refusal :=
  act (fun b =>
    let p := (b.q q).pe pe
    if !b.qRuns q then b
    else match p.fireq, p.freeSlot with
    | f :: fs, some n =>
      let (b, bad) := b.parityCheck 2 q pe 9 upset
      let b := if bad then b.bump (qOff q 0x1440) else b
      let (b, k) := if upset then b.fresh else (b, 0)
      let f := if upset then
          { f with
            code := (Config.upsetWord k (BitVec.ofNat 64 f.code)).toNat % 32768
            tag := Config.upsetWord k f.tag
            ops := SMap.mapVal f.ops fun _ x => Config.upsetWord k x }
        else f
      let sl := b.fireSlot q pe n f (f.poison || bad) (p.fires + 1)
      let b := b.setQ q ((b.q q).setPe pe { (p.setSlot n sl) with fireq := fs, fires := p.fires + 1 })
      b.fired (distOf q)
    | _, _ => b) s

end Sys2Proof.Machine
end

