-- ==== Sys2Proof/Machine/FrameMem.lean ====
section
/-! DEFINITION. Frame memory: the memory strand instructions (R135 to R138, R500), the banks (R197 to R206), SECDED and
presence (R208 to R210) and port B (R199 to R201, R207). -/

namespace Sys2Proof.Machine

-- The banks

/-- A frame word. -/
def Quarter.fw (q : Quarter) (word : Nat) : FrameWord := SMap.get q.frame FrameWord.empty word

/-- Reports an uncorrectable frame word (R209): counted, the first one captured, F1 FRAME_UE. -/
def Block.frameUe (b : Block) (q word : Nat) (portB injected : Bool) : Block :=
  let b := b.bump (frmCnt q 1)
  let b := if b.rf (qOff q 0x3008) 31 31 = 0 then
      b.setReg (qOff q 0x3008) (2 ^ 31 + field (b2n portB) 20 20 + field word 19 3) else b
  b.detect 10 q (8 * word) injected

/-- Reports a corrected frame word (R208): counted, F0 FRAME_CE, and a write-back waits where WB is 1. -/
def Block.frameCe (b : Block) (q word : Nat) (injected : Bool) : Block :=
  let b := (b.bump (frmCnt q 0)).detect 1 q 0 injected
  if b.rf (qOff q 0x3000) 0 0 = 1 then
    let qq := b.q q
    b.setQ q { qq with wb := qq.wb ++ [(word, (qq.fw word).data)] }
  else b

/-- Lists a frame word, or nothing for one that equals an empty word. -/
def putFrame (m : SMap FrameWord) (word : Nat) (w : FrameWord) : SMap FrameWord :=
  if w = FrameWord.empty then SMap.erase m word else SMap.put m word w

/-- An upset of stored bits of a frame word before a read (R208, R209): 1 for one bit, 2 for two. One bit more in a word that has a
bit in error makes it uncorrectable, and its data are then a free value. -/
def Block.frameUpset (b : Block) (q word upset : Nat) : Block :=
  let qq := b.q q
  let w := qq.fw word
  if upset = 0 || w.bad then b
  else if upset = 1 && !w.ce then b.setQ q { qq with frame := putFrame qq.frame word { w with ce := true } }
  else
    let (b, n) := b.fresh
    b.setQ q { qq with frame := putFrame qq.frame word { w with data := Config.upsetWord n w.data, bad := true, ce := false } }

/-- A SECDED-checked read of a frame word (R208, R209): the word as delivered and whether it is uncorrectable. `upset` is 0
for a sound read, 1 for a single-bit and 2 for a double-bit error met now. -/
def Block.frameRead (b : Block) (q word upset : Nat) (portB : Bool) : Block × W64 × Bool :=
  let (b, inj) := b.inject 3 q (word % 8)
  let b := b.frameUpset q word upset
  let w := (b.q q).fw word
  if w.bad then (b.frameUe q word portB false, w.data, true)
  else match inj with
    | some (dry, bitsSel) =>
      if dry then (b.dryDetect (if 2 ≤ bitsSel then 10 else 1) q (if 2 ≤ bitsSel then 8 * word else 0), w.data, false)
      else if 2 ≤ bitsSel then (b.frameUe q word portB true, w.data, true)
      else (b.frameCe q word true, w.data, false)
    | none => if w.ce then (b.frameCe q word false, w.data, false) else (b, w.data, false)

/-- Presence states (R196). -/
inductive Pres where
  | empty | full | broken
deriving DecidableEq, Repr

/-- The state a presence code stands for. -/
def presState (c : BitVec 2) : Pres := if c = 0 then .empty else if c = 3 then .full else .broken

/-- A decode of a word's presence (R210, R418): a BROKEN code is counted and reported. -/
def Block.presence (b : Block) (q word : Nat) : Block × Pres :=
  let (b, inj) := b.inject 4 q (word % 8)
  let c := ((b.q q).fw word).pres
  match inj with
  | some (true, _) =>
    -- DRY: the Fault Hub alone hears of it
    (b.dryDetect 11 q (8 * word), presState c)
  | _ =>
    let c' := if inj.isSome then c ^^^ 1 else c
    let p := presState c'
    (if p = .broken then (b.bump (frmCnt q 2)).detect 11 q (8 * word) inj.isSome else b, p)

/-- Marks the line of a word DIRTY (R212). -/
def Quarter.markDirty (q : Quarter) (word : Nat) : Quarter := { q with dirty := addNew q.dirty (word / 8) }

/-- A write makes every read parked on a word ready for release with the value it stored (R206), poisoned where that value was
already uncorrectable (R199, R209). -/
def Quarter.wakeParked (q : Quarter) (word : Nat) (v : W64) (bad : Bool := false) : Quarter :=
  { q with
    park := q.park.filter fun p => p.word ≠ word
    releases := q.releases ++ (q.park.filter fun p => p.word = word).map fun p => { who := p.who, value := v, bad := bad } }

/-- A write that sets a word FULL (R136, R199, R206): new check bits, DIRTY, parked reads released. -/
def Quarter.writeFull (q : Quarter) (word : Nat) (v : W64) : Quarter :=
  let q := { q with
    frame := putFrame q.frame word { data := v, bad := false, pres := 3 }
    wb := q.wb.filter fun e => e.1 ≠ word }
  (q.markDirty word).wakeParked word v

/-- A write that keeps presence; `dirty` says whether the line is marked (R199, R136). -/
def Quarter.writeKeep (q : Quarter) (word : Nat) (v : W64) (dirty : Bool) : Quarter :=
  let q := { q with
    frame := putFrame q.frame word { q.fw word with data := v, bad := false, ce := false }
    wb := q.wb.filter fun e => e.1 ≠ word }
  if dirty then q.markDirty word else q

/-- Sets a presence code (R136, R199). -/
def Quarter.setPres (q : Quarter) (word : Nat) (c : BitVec 2) : Quarter :=
  { q with frame := putFrame q.frame word { q.fw word with pres := c } }

/-- Entries of the park table in use: parked reads, and reads whose release is still to come (R206, R207). -/
def Quarter.parkOcc (q : Quarter) : Nat := q.park.length + q.releases.length

/-- PARK_PEAK follows PARK_OCC (FRM_STATUS). -/
def Block.parkPeak (b : Block) (q : Nat) : Block :=
  let o := (b.q q).parkOcc
  if b.rf (qOff q 0x3004) 28 16 < o then b.setRf (qOff q 0x3004) 28 16 o else b

-- The strand instructions

/-- A load form (R136): the access is issued; LDD is not while the park table is full (R138). -/
def loadBody (slot : Nat) (ldd : Bool) (_ : Block) (q : Quarter) (p : PE) (s : Slot) (x : SInstr) : Body :=
  match x.f with
  | .i rd ra imm ext =>
    let ea := s.rd ra + immOf imm ext
    match frameFault ea (!ldd), frameWindow ea with
    | some c, _ => .fault c (ea.toNat % 2 ^ 32)
    | none, none => .hold
    | none, some (_, word) =>
      if ldd && decide (4096 ≤ q.parkOcc) then .hold
      else .cont s { p with memq := p.memq ++ [{ slot := slot, kind := if ldd then .ldd else .ld, word := word, ea := ea,
                                                 rd := rd.toNat, data := 0, pc := s.pc, serial := s.serial }] }
  | _ => .hold

/-- A store form (R136, R198): the store takes one of the PE's four places. -/
def storeBody (slot : Nat) (plain : MemKind) (aliasOk : Bool) (_ : Block) (_ : Quarter) (p : PE) (s : Slot) (x : SInstr) : Body :=
  match x.f with
  | .i rd ra imm ext =>
    let ea := s.rd ra + immOf imm ext
    match frameFault ea aliasOk, frameWindow ea with
    | some c, _ => .fault c (ea.toNat % 2 ^ 32)
    | none, none => .hold
    | none, some (k, word) =>
      if p.storesFull then .hold
      else .cont s { p with memq := p.memq ++ [{ slot := slot, kind := if k = 0 then plain else if k = 1 then .stOr else .stAnd,
                                                 word := word, ea := ea, rd := 0, data := s.rd rd, pc := s.pc, serial := s.serial }] }
  | _ => .hold

/-- BSET and BCLR (R136): the word at RA, read and modified at its bank; RD takes the old word. -/
def rmwBody (slot : Nat) (kind : MemKind) (_ : Block) (_ : Quarter) (p : PE) (s : Slot) (x : SInstr) : Body :=
  match x.f with
  | .r rd ra rb _ _ =>
    let ea := s.rd ra
    match frameFault ea false, frameWindow ea with
    | some c, _ => .fault c (ea.toNat % 2 ^ 32)
    | none, none => .hold
    | none, some (_, word) =>
      if p.storesFull then .hold
      else .cont s { p with memq := p.memq ++ [{ slot := slot, kind := kind, word := word, ea := ea, rd := rd.toNat,
                                                 data := s.rd rb, pc := s.pc, serial := s.serial }] }
  | _ => .hold

/-- LD (R136). -/
def execLd (site : Site) (s : State) : Host.Outcome State Fault Refusal := act (issue 0x50 site (loadBody site.slot.val false)) s
/-- LDD (R136, R138). -/
def execLdd (site : Site) (s : State) : Host.Outcome State Fault Refusal := act (issue 0x51 site (loadBody site.slot.val true)) s
/-- ST (R136). -/
def execSt (site : Site) (s : State) : Host.Outcome State Fault Refusal := act (issue 0x52 site (storeBody site.slot.val .st true)) s
/-- STW (R136, R500). -/
def execStw (site : Site) (s : State) : Host.Outcome State Fault Refusal := act (issue 0x53 site (storeBody site.slot.val .stw false)) s
/-- MKE (R136). -/
def execMke (site : Site) (s : State) : Host.Outcome State Fault Refusal := act (issue 0x54 site (storeBody site.slot.val .mke false)) s
/-- BSET (R136). -/
def execBset (site : Site) (s : State) : Host.Outcome State Fault Refusal := act (issue 0x55 site (rmwBody site.slot.val .bset)) s
/-- BCLR (R136). -/
def execBclr (site : Site) (s : State) : Host.Outcome State Fault Refusal := act (issue 0x56 site (rmwBody site.slot.val .bclr)) s

-- Accesses reach their banks

/-- Sets PSTATE of the strand that issued an access, if it still runs (R124, R203). -/
def Quarter.poisonStrand (q : Quarter) (pe : Nat) (m : MemOp) : Quarter :=
  let s := q.slot pe m.slot
  if s.busy && s.serial == m.serial then q.setSlot pe m.slot { s with pstate := true } else q

/-- Delivers a result to the strand that issued the access; a strand that has ended discards it (R121, R500). -/
def Quarter.deliver (q : Quarter) (pe slot rd : Nat) (v : W64) (bad : Bool) : Quarter :=
  let s := q.slot pe slot
  let q := if s.ended then q else q.setSlot pe slot { s with v := SMap.put s.v rd v, pstate := s.pstate || bad }
  q.settle pe slot

/-- The FENCEs of a PE whose stores have all reached their banks let their slots go on (R154). -/
def PE.unfence (p : PE) : PE :=
  { p with slots := SMap.mapVal p.slots fun n s => if s.fence && !p.storing n then { s with fence := false } else s }

/-- Takes an access out of a PE's queue. -/
def Quarter.dropMem (q : Quarter) (pe : Nat) (rest : List MemOp) : Quarter :=
  q.setPe pe ({ q.pe pe with memq := rest }.unfence)

/-- The first load of a slot that may return: no earlier store of the PE to its word still waits (R198). -/
def findLoad (slot : Nat) : List MemOp → List MemOp → Option (MemOp × List MemOp)
  | _, [] => none
  | seen, m :: ms =>
    if m.slot = slot ∧ (m.kind = .ld ∨ m.kind = .ldd ∨ m.kind = .ret ∨ (match m.kind with | .got _ _ => true | _ => false) = true) then
      (if seen.any fun e => e.kind.stores && e.word == m.word then none else some (m, seen ++ ms))
    else findLoad slot (seen ++ [m]) ms

/-- The first store of a PE, if no earlier load to its word is still to be served (R137, R198). -/
def findStore : List MemOp → List MemOp → Option (MemOp × List MemOp × List MemOp)
  | _, [] => none
  | seen, m :: ms =>
    if m.kind.stores then
      (if seen.any fun e => !e.kind.stores && e.word == m.word && !(match e.kind with | .got _ _ => true | _ => false) then none
       else some (m, seen, ms))
    else findStore (seen ++ [m]) ms

-- Port A of a bank (R197)

/-- A PE has an access that port A of a bank could serve: the next load of a slot, or its oldest store unless a PENDING line or a
refused port B write holds it. -/
def Quarter.atBank (q : Quarter) (bank pe : Nat) : Bool :=
  let ms := (q.pe pe).memq
  ((List.range 8).any fun n => match findLoad n [] ms with
    | some (m, _) => m.word % 8 == bank && (match m.kind with | .got _ _ => false | _ => true)
    | none => false) ||
  match findStore [] ms with
  | some (m, _, _) => m.word % 8 == bank && !q.pend.contains (m.word / 8) && !(q.pbq.headD []).any fun w => w.word == m.word
  | none => false

/-- The other PEs that wait at a bank: accesses issued and not served stand at their bank. -/
def Quarter.bankRivals (q : Quarter) (bank pe : Nat) : List Nat := (List.range 16).filter fun n => n ≠ pe && q.atBank bank n

/-- The bank serves a PE next: none that waits comes before it in the order of PE number, starting after the PE served last (R197). -/
def Quarter.bankTurn (q : Quarter) (bank pe : Nat) : Bool :=
  let last := SMap.get q.bankLast 15 bank
  (q.bankRivals bank pe).all fun n => decide ((pe + 15 - last) % 16 ≤ (n + 15 - last) % 16)

/-- The bank has served a PE for some cycles; each other PE that waits loses them, and BANKWAIT counts them (R197, R202). -/
def Block.serveBank (b : Block) (q bank pe cycles : Nat) : Block :=
  let qq := b.q q
  (b.setQ q { qq with bankLast := SMap.put qq.bankLast bank pe }).bump (frmCnt q 4) (cycles * (qq.bankRivals bank pe).length)

/-- LOAD_RETURN (R136, R143, R197, R198, R205): the slot's next load is served by its bank in the PE's turn and its data returns. An
LDD that finds its word EMPTY parks; a RET jumps, or faults on an uncorrectable word. An LDD that issued while the park table had
room and finds it full at its bank waits at the bank: the spec speaks of a full table at the issue alone, and this is the model's
choice (log 120). -/
def execLoadReturn (site : Site) (upset : Fin 3) (s : State) : Host.Outcome State Fault Refusal :=
  act (fun b =>
    let qn := site.q.val
    let pn := site.pe.val
    let sn := site.slot.val
    let q := b.q qn
    if !b.qRuns qn then b
    else match findLoad sn [] (q.pe pn).memq with
    | none => b
    | some (m, rest) =>
      let served (b : Block) : Block := b.serveBank qn (m.word % 8) pn 1
      match m.kind with
      | .got w bad => b.setQ qn ((q.dropMem pn rest).deliver pn sn m.rd w bad)
      | _ => if !q.bankTurn (m.word % 8) pn then b else
      match m.kind with
      | .ret =>
        let (b, w, bad) := (served b).frameRead qn m.word upset false
        let b := b.setQ qn ((b.q qn).dropMem pn rest)
        let sl := (b.q qn).slot pn sn
        if sl.ended then b.setQ qn ((b.q qn).settle pn sn)
        else if bad then b.strandFault qn pn sn 7 m.pc m.ea.toNat
        else b.setQ qn ((b.q qn).setSlot pn sn { sl with pc := w.toNat % 32768 })
      | .ldd =>
        if ((b.q qn).fw m.word).pres = 0 ∧ 4096 ≤ (b.q qn).parkOcc then b
        else
        let (b, p) := (served b).presence qn m.word
        if p = .empty then (b.setQ qn { (b.q qn).dropMem pn rest with park := (b.q qn).park ++ [{ word := m.word, who := .ldd pn sn m.rd }] }).parkPeak qn
        else
          let (b, w, bad) := b.frameRead qn m.word upset false
          b.setQ qn (((b.q qn).dropMem pn rest).deliver pn sn m.rd w (bad || p == .broken))
      | _ =>
        let (b, w, bad) := (served b).frameRead qn m.word upset false
        b.setQ qn (((b.q qn).dropMem pn rest).deliver pn sn m.rd w bad)) s

/-- STORE_REACHES_BANK (R136, R197, R198, R202 to R204, R213, R500): the PE's oldest store writes in the PE's turn. A write to a PENDING
line is held for its copy; one to the word of a refused port B write waits for it (R201). A read-modify-write is never in a collision: a
port B write to its word is held and lands after it (R202). -/
def execStoreReachesBank (q : Fin 68) (pe : Fin 16) (upset : Fin 3) (s : State) : Host.Outcome State Fault Refusal :=
  act (fun b =>
    let qq := b.q q
    if !b.qRuns q then b
    else match findStore [] (qq.pe pe).memq with
    | none => b
    | some (m, before, after) =>
      if (qq.pbq.headD []).any fun w => w.word == m.word then b
      else if qq.pend.contains (m.word / 8) then b.bump (frmCnt q 5)
      else if !qq.bankTurn (m.word % 8) pe then b
      else
        let b := b.serveBank q (m.word % 8) pe (if m.kind.rmw then 2 else 1)
        let drop (b : Block) := b.setQ q ((b.q q).dropMem pe (before ++ after))
        let past (b : Block) := b.setQ q { b.q q with hits := (b.q q).hits.filter fun h => h.word ≠ m.word && h.time == b.now }
        let hit (b : Block) := let b := past b
          b.setQ q { b.q q with hits := { word := m.word, old := qq.fw m.word, time := b.now } :: (b.q q).hits }
        match m.kind with
        | .st =>
          let (b, _) := b.presence q m.word
          hit (drop (b.setQ q ((b.q q).writeFull m.word m.data)))
        | .stw =>
          let (b, p) := b.presence q m.word
          let b := drop b
          if p = .full then
            let sl := (b.q q).slot pe m.slot
            if sl.busy && !sl.ended && sl.serial == m.serial then b.strandFault q pe m.slot 6 m.pc (m.ea.toNat % 2 ^ 32) else b
          else hit (b.setQ q ((b.q q).writeFull m.word m.data))
        | .mke =>
          let (b, _) := b.presence q m.word
          hit (drop (b.setQ q (((b.q q).setPres m.word 0).markDirty m.word)))
        | .stOr | .stAnd =>
          let (b, w, bad) := b.frameRead q m.word upset false
          if bad then drop (b.setQ q ((b.q q).poisonStrand pe m))
          else
            let v := if m.kind = .stOr then w ||| m.data else w &&& ~~~m.data
            let (b, _) := b.presence q m.word
            past (drop (b.setQ q ((b.q q).writeFull m.word v)))
        | _ =>
          -- BSET and BCLR: the old word waits to return
          let (b, w, bad) := b.frameRead q m.word upset false
          let v := if m.kind = .bset then w ||| m.data else w &&& ~~~m.data
          let b := if bad then b.setQ q ((b.q q).poisonStrand pe m)
            else past (b.setQ q ((b.q q).writeKeep m.word v true))
          b.setQ q ((b.q q).dropMem pe (before ++ [{ m with kind := .got w bad }] ++ after))) s

-- Replies and port B

/-- The head of a reply (R199, R200): STATUS, and END where no body follows. R199 returns the TAG unchanged and sets STATUS; of the
head's other VALUE and CTRL bits it says nothing, and the model echoes the request's with POISON cleared, or zeros where the request
was parked (the model's choice, log 122). -/
def replyHead (head : Token) (status : Nat) (last : Bool) : Token :=
  { head with value := BitVec.ofNat 64 (setBits head.value.toNat 63 60 status) }.setCtrl 7 7 (b2n last) |>.setCtrl 8 8 0

/-- A reply parcel to a point, put behind the words that wait for lane 7 (R99, R199). -/
def Block.reply (b : Block) (q dest : Nat) (head : Token) (status : Nat) (body : List (W64 × W64 × Bool)) : Block :=
  let n := body.length
  let ws := replyHead head status (n == 0) ::
    ((List.range n).zip body).map fun e => { value := e.2.1, tag := e.2.2.1, ctrl := mkCtrl 0 0 e.2.2.2 (e.1 + 1 == n) false 0 0 }
  let qq := b.q q
  b.setQ q { qq with vc1Out := qq.vc1Out ++ ws.map fun t => { tok := t, pt := dest } }

/-- PARK_RELEASE (R206): the park table releases its next read; an LDD takes the value, a READ_WAIT is answered. -/
def execParkRelease (q : Fin 68) (s : State) : Host.Outcome State Fault Refusal :=
  act (fun b =>
    let qq := b.q q
    match qq.releases with
    | [] => b
    | r :: rest =>
      if !b.qRuns q then b
      else
        let qq := { qq with releases := rest }
        match r.who with
        | .ldd pe slot rd => b.setQ q (qq.deliver pe slot rd r.value r.bad)
        | .readWait tag dest =>
          (b.setQ q qq).reply q dest { value := 0, tag := tag, ctrl := 0 } 0 [(r.value, 0, r.bad)]) s

/-- Parked reads of a context are ended (R138, R207): a READ_WAIT is answered ABORTED, a strand parked on an LDD ends without
a record and counts once in PARK_ABORT, however many of its LDDs are parked. A retired Quarter's registers keep their values (R32). -/
def Block.abortParks (b : Block) (ctx : Nat) : Block :=
  (List.range 68).foldl (fun b q =>
    let qq := b.q q
    if qq.park.isEmpty || b.retired.contains q then b
    else
      let mine (p : Park) : Bool := match p.who with
        | .ldd pe slot _ => tagCtx (qq.slot pe slot).tag == ctx
        | .readWait tag _ => tagCtx tag == ctx
      let gone := qq.park.filter mine
      let strands := gone.foldl (fun l p => match p.who with
        | .ldd pe slot _ => addNew l (8 * pe + slot)
        | _ => l) []
      let b := b.setQ q { qq with park := qq.park.filter fun p => !mine p }
      let b := strands.foldl (fun b n => (b.endStrand q (n / 8) (n % 8)).bump (qOff q 0x2180)) b
      gone.foldl (fun b p => match p.who with
        | .ldd _ _ _ => b
        | .readWait tag dest => b.reply q dest { value := 0, tag := tag, ctrl := 0 } 3 []) b) b

/-- The parcel port takes words of the VC1 pair up to the end of an item (R100): the words so far, and the lane left. -/
def takeItem : List LaneWord → List LaneWord → List LaneWord × List LaneWord
  | got, [] => (got, [])
  | got, w :: ws => if w.tok.last then (got ++ [w], ws) else takeItem (got ++ [w]) ws

/-- The item at the parcel port (R100): its words so far, how many of them are new from the lane, and the Quarter with them at the
port. A closing word (R110) ends the parcel the port has begun. -/
def Quarter.portItem (q : Quarter) : List LaneWord × Nat × Quarter :=
  let l := q.lane 8
  let asm := match l.closing with
    | some w => q.asm ++ [w]
    | none => q.asm
  let drain := if l.drainB then l.b else l.a
  let done := match asm.getLast? with
    | some w => w.tok.last
    | none => false
  let (item, rest) := if done then (asm, drain) else takeItem asm drain
  let whole := match item.getLast? with
    | some w => w.tok.last
    | none => false
  let l' := { (if l.drainB then { l with b := rest } else { l with a := rest }) with
    closing := none, consMid := if whole then none else item.head?.map (·.pt) }
  (item, item.length - asm.length, { q.setLane 8 l' with asm := item })

/-- An item is a whole parcel whose head carries `op` (R199); a reserved OP is asked for as 6. -/
def parcelOf (op : Nat) (item : List LaneWord) : Bool :=
  match item.head?, item.getLast? with
  | some h, some w => let o := bits h.tok.value.toNat 27 24
                      w.tok.last && (o == op || (op == 6 && decide (6 ≤ o)))
  | _, _ => false

/-- The parity checks of the words of an item that are new from the VC1 pair (R100, R106); `upset` is the number of one of them that
fails. -/
def Block.checkItem (b : Block) (q : Nat) (upset : Option Nat) : Nat → List LaneWord → Block × List LaneWord
  | _, [] => (b, [])
  | old + 1, w :: ws =>
    let (b, ws) := b.checkItem q upset old ws
    (b, w :: ws)
  | 0, w :: ws =>
    let (b, w) := b.checkWord q 8 (upset == some 0) w
    let (b, ws) := b.checkItem q (upset.bind fun n => if n = 0 then none else some (n - 1)) 0 ws
    (b, w :: ws)

/-- The first word number that a request names, its bits [2:0] read as 0. -/
def pbWord (h : Token) : Nat := bits h.value.toNat 19 0 / 8
/-- COUNT of a read request (R199). -/
def pbCount (h : Token) : Nat := let c := bits h.value.toNat 37 28; if c = 0 then 1 else min c 512

/-- The data words of a write parcel in order: bytes 0–7 first (R199). -/
def pbData (body : List LaneWord) : List W64 := body.flatMap fun w => [w.tok.value, w.tok.tag]

/-- The words a request names, each with whether it lies in frame memory; PB_BAD counts a request that reaches past it
(R200). -/
def Block.pbBound (b : Block) (q first n : Nat) : Block :=
  if 131072 < first + n then b.bump (frmCnt q 6) else b

/-- A port B write meets port A's write of the same word in the same cycle, and the data or the resulting presence differs (R201).
Within the model's ns the writes of port A that landed at this moment are those of the cycle. -/
def Quarter.collides (q : Quarter) (w : PbWrite) (now : Nat) : Bool := match q.hits.find? fun h => h.word == w.word && h.time == now with
  | some h => w.data.getD h.old.data != (q.fw w.word).data || w.pres.getD h.old.pres != (q.fw w.word).pres
  | none => false

/-- A frame word's share of a port B write lands (R199, R206, R209, R210). Presence alone set to FULL releases the reads parked on the
word with the value it holds, which the read checks. -/
def Block.landPb (b : Block) (q : Nat) (w : PbWrite) : Block :=
  match w.data, w.pres with
  | some v, some _ =>
    let (b, _) := b.presence q w.word
    b.setQ q ((b.q q).writeFull w.word v)
  | some v, none => b.setQ q ((b.q q).writeKeep w.word v false)
  | none, p =>
    let b := b.setQ q ((b.q q).setPres w.word (p.getD 0))
    if p = some 3 ∧ ((b.q q).park.any fun e => e.word == w.word) then
      let (b, v, bad) := b.frameRead q w.word 0 true
      b.setQ q ((b.q q).wakeParked w.word v bad)
    else b

/-- Port B writes body word by body word (R200, R201): where port A's write of the same cycle refuses a word, the others of its body word
land, the refusal is counted, and the later body words wait behind the retry. -/
def Block.runPb (b : Block) (q : Nat) : List (List PbWrite) → Block
  | [] => b
  | g :: gs =>
    let clash := g.filter fun w => (b.q q).collides w b.now
    let b := (g.filter fun w => !clash.contains w).foldl (fun b w => b.landPb q w) b
    if clash.isEmpty then b.runPb q gs
    else (b.setQ q { b.q q with pbq := clash :: gs }).bump (frmCnt q 3) clash.length

/-- The writes of a WRITE, WRITE_KEEP or PRES_WRITE parcel by body word; words past frame memory are left out (R199, R200). A body word
that carries POISON is written as any other: the spec gives POISON there no effect, and this is the model's choice (log 123). -/
def pbGroups (first : Nat) (per : LaneWord → List (Option W64 × Option (BitVec 2))) (body : List LaneWord) : List (List PbWrite) :=
  match body with
  | [] => []
  | w :: ws =>
    let es := per w
    (((List.range es.length).zip es).filterMap fun e =>
      if 131072 ≤ first + e.1 then none else some { word := first + e.1, data := e.2.1, pres := e.2.2 }) ::
      pbGroups (first + es.length) per ws

/-- A port B write of words (R199 to R201). -/
def Block.pbWrite (b : Block) (q : Nat) (h : Token) (n : Nat) (per : LaneWord → List (Option W64 × Option (BitVec 2)))
    (body : List LaneWord) : Block :=
  (b.pbBound q (pbWord h) n).runPb q (pbGroups (pbWord h) per body)

/-- Whether a port B write of n words touches a PENDING line, which holds it; a read, with n = 0, is never held (R213). -/
def pbHeld (q : Quarter) (first n : Nat) : Bool :=
  n ≠ 0 && q.pend.any fun l => decide (first / 8 ≤ l ∧ l ≤ (first + n - 1) / 8)

/-- Serves one port B operation with a function of the head's point, the head and the body. Port B runs on the District clock (R197), so
it serves only an awake Quarter (R102), and a refused write lands first (R201). -/
def portB (op : Nat) (q : Nat) (upset : Option Nat) (n : List LaneWord → Nat) (f : Block → Nat → Token → List LaneWord → Block)
    (b : Block) : Block :=
  if !b.qAwake q || !(b.q q).pbq.isEmpty then b
  else
    let (item, new, q1) := (b.q q).portItem
    let (b, item) := (b.setQ q q1).checkItem q upset (item.length - new) item
    match item with
    | [] => b
    | h :: body =>
      let b := b.setQ q { b.q q with asm := item }
      if !parcelOf op item then b
      else if pbHeld (b.q q) (pbWord h.tok) (n body) then b.bump (frmCnt q 5)
      else
        let b := f (b.setQ q { b.q q with asm := [] }) h.pt h.tok body
        b.setQ q { b.q q with hits := [] }

/-- PORT_B_WRITE (R199). -/
def execPortBWrite (q : Fin 68) (upset : Option Nat) (s : State) : Host.Outcome State Fault Refusal :=
  act (portB 0 q upset (fun body => 2 * body.length) fun b _ h body =>
    b.pbWrite q h (2 * body.length) (fun w => [(some w.tok.value, some 3), (some w.tok.tag, some 3)]) body) s
/-- PORT_B_WRITE_KEEP (R199). -/
def execPortBWriteKeep (q : Fin 68) (upset : Option Nat) (s : State) : Host.Outcome State Fault Refusal :=
  act (portB 1 q upset (fun body => 2 * body.length) fun b _ h body =>
    b.pbWrite q h (2 * body.length) (fun w => [(some w.tok.value, none), (some w.tok.tag, none)]) body) s

/-- The 64 presence codes of a body word (R199). -/
def presCodes (w : LaneWord) : List (BitVec 2) :=
  (List.range 64).map fun i => BitVec.ofNat 2 ((w.tok.value.toNat + (w.tok.tag.toNat <<< 64)) >>> (2 * i))

/-- PORT_B_PRES_WRITE (R199): codes are written as given; words set FULL release their parked reads. -/
def execPortBPresWrite (q : Fin 68) (upset : Option Nat) (s : State) : Host.Outcome State Fault Refusal :=
  act (portB 2 q upset (fun body => 64 * body.length) fun b _ h body =>
    b.pbWrite q h (64 * body.length) (fun w => (presCodes w).map fun c => (none, some c)) body) s

/-- Reads words for port B: each word with its poison (R200); `ecc` says what errors the words read have, in their order. -/
def Block.pbReadWords (b : Block) (q first : Nat) : List (Fin 3) → Nat → Block × List (W64 × Bool)
  | _, 0 => (b, [])
  | ecc, n + 1 =>
    if 131072 ≤ first then
      let (b, ws) := b.pbReadWords q (first + 1) ecc.tail n
      (b, (0, true) :: ws)
    else
      let (b, w, bad) := b.frameRead q first (ecc.headD 0) true
      let (b, ws) := b.pbReadWords q (first + 1) ecc.tail n
      (b, (w, bad) :: ws)

/-- Every frame word of a Quarter is read for its OFF image, and SECDED checks it (R208, R215, R459). `upsets` are the errors this read
is the first to meet. A sound word is not changed by the read, so the words with an error are those that count, unless the checker is
armed. -/
def Block.frameSave (b : Block) (q : Nat) (upsets : List (Nat × Fin 3)) : Block :=
  let sel := b.reg 0x300040
  let armed := b.rf 0x300044 15 0 != 0 && bits sel 31 28 == 3 && bits sel 27 16 == q
  let b := upsets.foldl (fun b e => b.frameUpset q (e.1 % 131072) e.2) b
  let words := if armed then List.range 131072
    else (b.q q).frame.filterMap fun e => if e.2.bad || e.2.ce then some e.1 else none
  words.foldl (fun b w => (b.frameRead q w 0 true).1) b

/-- Pairs words into body words; an odd last word is paired with zeros. -/
def pairWords : List (W64 × Bool) → List (W64 × W64 × Bool)
  | [] => []
  | [(v, p)] => [(v, 0, p)]
  | (v, p) :: (w, r) :: ws => (v, w, p || r) :: pairWords ws

/-- PORT_B_READ (R199, R200). -/
def execPortBRead (q : Fin 68) (upset : Option Nat) (ecc : List (Fin 3)) (s : State) : Host.Outcome State Fault Refusal :=
  act (portB 3 q upset (fun _ => 0) fun b pt h _ =>
    let n := pbCount h
    let first := pbWord h
    let b := b.pbBound q first n
    let (b, ws) := b.pbReadWords q first ecc n
    let ue := ((List.range n).zip ws).any fun e => e.2.2 && decide (first + e.1 < 131072)
    b.reply q pt h (b2n ue) (pairWords ws)) s

/-- Presence codes packed 64 to a body word. -/
def packPres : Nat → List (BitVec 2) → List (W64 × W64 × Bool)
  | 0, _ => []
  | _, [] => []
  | fuel + 1, cs =>
    let v := ((List.range 64).zip (cs.take 64)).foldl (fun a e => a + (e.2.toNat <<< (2 * e.1))) 0
    (BitVec.ofNat 64 v, BitVec.ofNat 64 (v >>> 64), false) :: packPres fuel (cs.drop 64)

/-- PORT_B_PRES_READ (R199): codes as found, without detection (R210). Codes past frame memory read 0 with POISON. -/
def execPortBPresRead (q : Fin 68) (upset : Option Nat) (s : State) : Host.Outcome State Fault Refusal :=
  act (portB 4 q upset (fun _ => 0) fun b pt h _ =>
    let n := pbCount h
    let first := pbWord h
    let b := b.pbBound q first n
    let cs := (List.range n).map fun i => if first + i < 131072 then ((b.q q).fw (first + i)).pres else 0
    let body := ((List.range 8).zip (packPres 8 cs)).map fun e =>
      (e.2.1, e.2.2.1, decide (131072 < first + min n (64 * (e.1 + 1))))
    b.reply q pt h 0 body) s

/-- PORT_B_READ_WAIT (R199, R207, R210). -/
def execPortBReadWait (q : Fin 68) (upset : Option Nat) (ecc : Fin 3) (s : State) : Host.Outcome State Fault Refusal :=
  act (portB 5 q upset (fun _ => 0) fun b pt h _ =>
    let word := pbWord h
    let (b, p) := b.presence q word
    if p = .empty then
      if 4096 ≤ (b.q q).parkOcc then b.reply q pt h 2 []
      else (b.setQ q { b.q q with park := (b.q q).park ++ [{ word := word, who := .readWait h.tag pt }] }).parkPeak q
    else
      let (b, w, bad) := b.frameRead q word ecc true
      b.reply q pt h (b2n bad) [(w, 0, bad || p == .broken)]) s

/-- PORT_B_BAD_OP (R199): the parcel is consumed and counted. -/
def execPortBBadOp (q : Fin 68) (upset : Option Nat) (s : State) : Host.Outcome State Fault Refusal :=
  act (portB 6 q upset (fun _ => 0) fun b _ _ _ => b.bump (frmCnt q 6)) s

/-- PORT_B_WRITE_RETRY (R201): the refused write lands, ahead of port A, unless its line has become PENDING (R213); a WRITE_KEEP leaves
presence as port A's write made it. The parcel's later body words follow behind it. -/
def execPortBWriteRetry (q : Fin 68) (s : State) : Host.Outcome State Fault Refusal :=
  act (fun b =>
    match (b.q q).pbq with
    | [] => b
    | g :: gs =>
      if !b.qAwake q then b
      else if g.any fun w => (b.q q).pend.contains (w.word / 8) then b.bump (frmCnt q 5)
      else
        let b := b.setQ q { b.q q with pbq := [], hits := [] }
        (g.foldl (fun b w => b.landPb q w) b).runPb q gs) s

/-- FRAME_CE_WRITEBACK (R208): the next corrected word is written back; a word written since has left the list. -/
def execFrameCeWriteback (q : Fin 68) (s : State) : Host.Outcome State Fault Refusal :=
  act (fun b =>
    let qq := b.q q
    match qq.wb with
    | [] => b
    | (word, v) :: rest =>
      if !b.qAwake q then b
      else b.setQ q { qq with frame := putFrame qq.frame word { qq.fw word with data := v, ce := false }, wb := rest }) s

end Sys2Proof.Machine
end

