-- ==== Sys2Proof/Machine/Epoch.lean ====
section
/-! DEFINITION. What an epoch does at a Quarter (R424 to R428): the cut, hardware MARKERs and their arrival. The steps of a
close and of a rollback are in Continuity. -/

namespace Sys2Proof.Machine

/-- The mapped physical Quarters, rising. -/
def Block.mapped (b : Block) : List Nat := (List.range 68).filter fun p => (List.range 64).any fun l => b.phys l == some p

/-- A hardware MARKER for a Quarter (R425). -/
def markerToken (own sender type epoch p : Nat) : Token :=
  { value := BitVec.ofNat 64 (epoch % 2 ^ 48 * 65536 + sender * 256 + type)
    tag := mkTag own 0 p 0 0
    ctrl := mkCtrl 8 0 false true false 0 epoch }

/-- The point a sender's MARKERs start from. -/
def senderPoint (u : Nat) : Nat := if u < 68 then pointOf (xyOf u) 0 else pointOf (gateXY (u - 68)) 0

/-- A sender sends one MARKER to each of some Quarters. -/
def Block.sendMarkers (b : Block) (sender type epoch : Nat) (qs : List Nat) : Block :=
  { b with cont := { b.cont with
      outbox := b.cont.outbox ++ qs.map fun p => (senderPoint sender, markerToken b.ownId sender type epoch p) } }

/-- The counts that a unit has not flushed (R92). -/
def Block.unitCounts (b : Block) (unit : Nat) : SMap (Nat × Nat) := b.live.filter fun e => e.1 / 2 ^ 20 = unit

/-- The Quarter as a snapshot finds it: that of an OFF District stands in its image (R459). -/
def Block.imageOf (b : Block) (q : Nat) : Quarter := SMap.get b.power.images (b.q q) q

/-- The words of a lane bank as a snapshot copies them (R114): a word whose parity check fails is poisoned in the copy alone, and no
counter changes. The check of an armed injection is taken and detected as at any read (R418); the error of a stored word is
reported when its consumer reads it. -/
def Block.copyWords (b : Block) (q j : Nat) (upsets : List Nat) : Nat → List LaneWord → Block × List LaneWord
  | _, [] => (b, [])
  | i, w :: ws =>
    let (b, bad) := b.parityCheck 1 q (if j = 8 then 3 else j) 8 false
    let (b, ws) := b.copyWords q j upsets (i + 1) ws
    let w' := { w with tok := w.tok.poisoned }
    (b, (if bad || !w.sound || upsets.contains i then { w' with par := w'.tok.parity } else w) :: ws)

/-- The lanes of a Quarter as a snapshot copies them (R114, R428); `upsets` are the words, by lane and place counted over bank A and
then bank B, whose check fails. -/
def Block.copyLanes (b : Block) (q : Nat) (upsets : List (Nat × Nat)) (lanes : SMap Lane) : Block × SMap Lane :=
  lanes.foldr (fun e acc =>
    let mine := (upsets.filter fun u => u.1 = e.1).map (·.2)
    let (b, ws) := acc.1.copyWords q e.1 mine 0 e.2.a
    let (b, vs) := b.copyWords q e.1 mine e.2.a.length e.2.b
    (b, (e.1, { e.2 with a := ws, b := vs }) :: acc.2)) (b, [])

/-- A Quarter's cut in the close under way. -/
def Close.cutOf (c : Close) (q : Nat) : Option QCut := SMap.find? c.cuts.quarters q
/-- Replaces a Quarter's cut. -/
def Close.setCut (c : Close) (q : Nat) (x : QCut) : Close := { c with cuts := { c.cuts with quarters := SMap.put c.cuts.quarters q x } }

/-- The snapshot's copy of a frame line (R212): its words as they are now, which is as they stood at the cut (R213), with their check
bits as found, go into the snapshot. -/
def Block.copyLine (b : Block) (q line : Nat) : Block :=
  let words := (List.range 8).map fun i => 8 * line + i
  let put (m : SMap FrameWord) : SMap FrameWord := words.foldl (fun m w => putFrame m w ((b.q q).fw w)) m
  let b1 := b.setQ q { b.q q with saved := put (b.q q).saved }
  match b.cont.close with
  | none => b1
  | some c => match c.cutOf q with
    | none => b1
    | some x =>
      { b1 with cont := { b.cont with close := some (c.setCut q { x with image := { x.image with frame := put x.image.frame } }) } }

/-- A mapped Quarter takes its cut (R424): its state is shadowed, DIRTY becomes PENDING, its sender epoch advances, and it sends a
CLOSE MARKER to every mapped Quarter. The frame in its snapshot is that of the snapshot before, into which the PENDING lines are then
copied (R212, R428, R430), so that what WRITE_KEEP and PRES_WRITE alone have changed is not in it. For an OFF Quarter the frame stands in
its OFF image, which is the snapshot's (R459); its lanes hold what they hold now (R114). -/
def Block.quarterCut (b : Block) (q : Nat) (upsets : List (Nat × Nat) := []) : Block :=
  match b.cont.close with
  | none => b
  | some c =>
    if (SMap.find? c.cuts.quarters q).isSome || !b.mapped.contains q then b
    else
      let qq := b.q q
      let (b, lanes) := b.copyLanes q upsets qq.lanes
      let off := SMap.find? b.power.images q
      let x := b.imageOf q
      let frame := if off.isSome then x.frame else x.saved
      let cut : QCut := { image := { x with lanes := lanes, vc1Out := qq.vc1Out, frame := frame }, lsn := b.cont.lsn, chan := [], markers := [] }
      let b := match off with
        | some y => { b with power := { b.power with images := SMap.put b.power.images q { y with dirty := [], saved := y.frame } } }
        | none => b.setQ q { qq with dirty := [], pend := qq.dirty.foldl addNew qq.pend }
      let cuts := { c.cuts with
        quarters := SMap.put c.cuts.quarters q cut
        counts := (b.unitCounts q).foldl (fun m e => SMap.put m e.1 e.2) c.cuts.counts }
      let b := { b with cont := { b.cont with
        close := some { c with cuts := cuts }
        qEpoch := SMap.put b.cont.qEpoch q (c.epoch + 1) } }
      b.sendMarkers q 1 c.epoch b.mapped

/-- A CLOSE MARKER reaches a Quarter (R424, R427): it may bring the cut, and it ends its sender's part of the channel record. -/
def Block.takeClose (b : Block) (q : Nat) (t : Token) : Block :=
  let sender := bits t.value.toNat 15 8
  match b.cont.close with
  | none => b
  | some c =>
    if t.value.toNat / 65536 ≠ c.epoch % 2 ^ 48 then b
    else
      let b := b.quarterCut q
      match b.cont.close with
      | none => b
      | some c =>
        match c.cutOf q with
        | none => b
        | some cut => { b with cont := { b.cont with close := some (c.setCut q { cut with markers := addNew cut.markers sender }) } }

/-- Every sender of a Quarter: the mapped Quarters and the four Gates (R427). -/
def Block.senders (b : Block) : List Nat := b.mapped ++ [68, 69, 70, 71]

/-- A FLUSH MARKER reaches a closure Quarter (R439, step 3); once every sender's has reached every closure Quarter, step 3 ends. -/
def Block.takeFlush (b : Block) (q : Nat) (t : Token) : Block :=
  match b.cont.roll with
  | none => b
  | some r =>
    if r.step ≠ 3 || !r.quarters.contains q then b
    else
      let f := SMap.put r.flush q (addNew (SMap.get r.flush [] q) (bits t.value.toNat 15 8))
      let all := r.quarters.all fun p => b.senders.all fun u => (SMap.get f [] p).contains u
      { b with cont := { b.cont with roll := some { r with flush := f, step := if all then 4 else 3 } } }

/-- The snapshot logic takes a MARKER by its TYPE, and it counts as consumed (R47, R91, R425); a cut that it brings comes first. -/
def Block.takeMarker (b : Block) (q : Nat) (t : Token) : Block :=
  (match bits t.value.toNat 7 0 with
    | 1 => b.takeClose q t
    | 2 => b.takeFlush q t
    | _ => b).consume q t.ctx

end Sys2Proof.Machine
end

