-- ==== Sys2Proof/Machine/Plaza.lean ====
section
/-! DEFINITION. The Plaza (R64 to R97, R498, R499): keys, waiting operands, eviction and the Backstreet, the pen, lookups and
firing, and the iteration gates as the Plaza meets them (R226, R227). -/

namespace Sys2Proof.Machine

-- Keys (R71, R78, R80)

/-- The pen's positions and counts, which a Plaza's pen keeps while its Quarter is OFF: the writers go on writing the pen (R23, R84). -/
def Plaza.withPen (p pen : Plaza) : Plaza :=
  { p with penWr := pen.penWr, penRd := pen.penRd, penCount := pen.penCount, noted := pen.noted, penRun := pen.penRun }

/-- The set of a key (R71). -/
def setOf (k : Nat) : Nat := (List.range 6).foldl (fun s i => s ^^^ ((k >>> (11 * i)) &&& 0x7ff)) 0
/-- The home line of a key (R78). -/
def homeLine (k nlines : Nat) : Nat := ((k &&& 0xffffffff) ^^^ (k >>> 32)) % nlines
/-- The filter counter of a key (R80). -/
def filterIdx (k : Nat) : Nat := (k &&& 0xffff) ^^^ ((k >>> 16) &&& 0xffff) ^^^ ((k >>> 32) &&& 0xffff) ^^^ (k >>> 48)

/-- Key of a waiting operand. -/
def Operand.key (o : Operand) : Nat := keyOf o.tok.tag

-- Node-table entries (R64 to R67, R498)

/-- A node as the Plaza reads it: entry, control word, sticky value, number of operand positions and sticky position (15 for
none). -/
structure NodeView where
  entry  : Nat
  ctl    : Nat
  sticky : W64
  gather : Bool
  n      : Nat
  sp     : Nat
deriving DecidableEq, Repr

/-- The dynamic positions of a node (R67). -/
def NodeView.dyn (v : NodeView) : List Nat := (List.range v.n).filter fun p => p ≠ v.sp
/-- Operand position of a token (R64). -/
def NodeView.pos (v : NodeView) (t : Token) : Nat := if v.gather then t.gop else tagPort t.tag
/-- MERGE (R64). -/
def NodeView.merge (v : NodeView) : Bool := v.ctl.testBit 31

/-- The node a NODEMAP word names; none where there is no entry for it (R65, R66, R498). -/
def Quarter.node (q : Quarter) (word : Nat) : Option NodeView :=
  let e := word % 2 ^ 13
  if !word.testBit 31 || decide (q.nodesLen ≤ e) then none
  else
    let x := SMap.get q.nodes ⟨0, 0⟩ e
    let c := x.ctl.toNat
    if !c.testBit 32 then none
    else
      let arity := bits c 17 16
      let n := if arity = 3 then min (max (bits c 21 18) 2) 8 else arity + 1
      let sp := bits c 25 22
      some { entry := e, ctl := c, sticky := x.sticky, gather := arity == 3, n := n, sp := if arity = 0 ∨ n ≤ sp then 15 else sp }

/-- The word of a NODE in the Plaza's cache (R498). -/
def Plaza.cached (p : Plaza) (ctx node : Nat) : Option Nat :=
  (p.cache.find? fun w => w.ctx = ctx ∧ w.node = node).map (·.word)
/-- A cache of 256 words takes one more; a full one loses its oldest. -/
def cachePut (c : List CacheWord) (ctx node word : Nat) : List CacheWord :=
  let c := c.filter fun w => !(w.ctx == ctx && w.node == node)
  (if 256 ≤ c.length then c.tail else c) ++ [{ ctx := ctx, node := node, word := word }]

-- Waiting operands, the spill buffer and the filter

/-- The Plaza of Quarter q. -/
def Block.plz (b : Block) (q : Nat) : Plaza := (b.q q).plaza
/-- Replaces a Plaza. -/
def Block.setPlz (b : Block) (q : Nat) (p : Plaza) : Block := b.setQ q { b.q q with plaza := p }

/-- The operands of a key in the Plaza. -/
def Plaza.here (p : Plaza) (k : Nat) : List Operand := p.entries.filter fun o => o.key = k
/-- The operands of a key in the spill buffer that no match has taken. -/
def Plaza.spilt (p : Plaza) (k : Nat) : List Operand := (p.spill.filter fun s => s.key = k).flatMap (·.ops)
/-- The operands of a key that a lookup finds at no extra cost (R77). -/
def Plaza.found (p : Plaza) (k : Nat) : List Operand := match p.here k with
  | [] => p.spilt k
  | os => os
/-- Operands the spill buffer holds: a sent parcel keeps its places until the Stop acknowledges it (R77). -/
def Plaza.spillUsed (p : Plaza) : Nat := (p.spill.map fun s => s.ops.length + s.taken.length).sum
/-- HOLDING: a victim key waits for free slots (R87). -/
def Plaza.holding (p : Plaza) : Bool := p.spill.any fun s => s.failed && !s.sent

/-- A key enters the Backstreet path: its counter rises (R80). -/
def Block.filterUp (b : Block) (q k : Nat) : Block :=
  let p := b.plz q
  let i := filterIdx k
  let n := min (SMap.get p.filter 0 i + 1) 15
  let b := b.setPlz q { p with filter := SMap.put p.filter i n }
  if n = 15 then b.setRf (qOff q 0xC) 2 2 1 else b
/-- A key leaves the Backstreet path: its counter falls, unless it has saturated (R80). -/
def Block.filterDown (b : Block) (q k : Nat) : Block :=
  let p := b.plz q
  let i := filterIdx k
  let n := SMap.get p.filter 0 i
  b.setPlz q { p with filter := if n = 15 then p.filter else if n ≤ 1 then SMap.erase p.filter i else SMap.put p.filter i (n - 1) }
/-- Every counter returns to 0 once nothing is spilt (R80). -/
def Block.filterReset (b : Block) (q : Nat) : Block :=
  let p := b.plz q
  if p.bsOcc = 0 ∧ p.spill.isEmpty then b.setPlz q { p with filter := [] } else b
/-- Where a Quarter's presence filter lies while its District is OFF: the 32 KiB just below its pen (R83); none without a spill area. -/
def Block.filterMa (b : Block) (q : Nat) : Option Nat :=
  if b.areaBytes q = 0 ∨ b.penBase q < 32768 ∨ maEnd < b.penBase q then none else some (b.penBase q - 32768)
/-- The Plaza writes its presence filter to module memory (R83): two counters in a byte, the lower-numbered one in its low half. -/
def Block.saveFilter (b : Block) (q : Nat) : Block :=
  match b.filterMa q with
  | none => b
  | some lo =>
    let b := (b.undoFor (linesOf lo 32768)).zeroMem lo 32768
    { b with mem := (b.plz q).filter.foldl (fun m e =>
        let a := lo + e.1 / 2
        if b.onLost a then m else memPut m a (memGet m a + BitVec.ofNat 8 (e.2 * 16 ^ (e.1 % 2)))) b.mem }
/-- The Plaza reads its presence filter back (R83). -/
def Block.readFilter (b : Block) (q : Nat) : Block :=
  match b.filterMa q with
  | none => b
  | some lo =>
    let (b, _, _) := b.stopRead lo 32768
    let cells := b.mem.filter fun c => decide (lo ≤ c.1) && decide (c.1 < lo + 32768) && !b.onLost c.1
    let counts := cells.flatMap fun c => [(2 * (c.1 - lo), c.2.toNat % 16), (2 * (c.1 - lo) + 1, c.2.toNat / 16)]
    b.setPlz q { b.plz q with filter := counts.filter fun e => e.2 ≠ 0 }
/-- Whether a lookup that finds no partner reads the Backstreet (R80). -/
def Block.filterMaybe (b : Block) (q k : Nat) : Bool :=
  let p := b.plz q
  SMap.get p.filter 0 (filterIdx k) != 0 || (b.rf (qOff q 0) 1 1 == 1 && p.bsOcc != 0)

/-- A victim key moves to the spill buffer (R77, R80). -/
def Block.spillPut (b : Block) (q k : Nat) (ops : List Operand) : Block :=
  let b := b.filterUp q k
  let p := b.plz q
  b.setPlz q { p with spill := p.spill ++ [{ key := k, ops := ops, sent := false, slots := [], taken := [], failed := false }] }

/-- Operands of a key are taken out of the spill buffer; those of a sent parcel are freed after its acknowledgement, and a key
with nothing left leaves (R77). -/
def Block.spillTake (b : Block) (q k : Nat) (gone : List Operand) : Block :=
  let p := b.plz q
  let cut (s : SpillKey) : SpillKey :=
    if s.key ≠ k then s
    else if s.sent then
      let pairs := s.ops.zip s.slots
      { s with
        ops := s.ops.filter fun o => !gone.contains o
        slots := (pairs.filter fun e => !gone.contains e.1).map (·.2)
        taken := s.taken ++ (pairs.filter fun e => gone.contains e.1).map (·.2) }
    else { s with ops := s.ops.filter fun o => !gone.contains o }
  let sp := p.spill.map cut
  let dead (s : SpillKey) : Bool := s.key == k && !s.sent && s.ops.isEmpty
  let n := (sp.filter dead).length
  let b := b.setPlz q { p with spill := sp.filter fun s => !dead s }
  let b := (List.range n).foldl (fun b _ => b.filterDown q k) b
  b.filterReset q

/-- PLZ_OCC.PEAK follows the number of entries. -/
def Block.plzPeak (b : Block) (q : Nat) : Block :=
  let n := (b.plz q).entries.length
  if b.rf (qOff q 0x10) 30 16 < n then b.setRf (qOff q 0x10) 30 16 n else b

/-- Operands of one key are inserted into their set; a full set evicts its oldest key, together with the rest if that is their
own key (R76, R77). -/
def Block.place (b : Block) (q k : Nat) : List Operand → Block
  | [] => b.plzPeak q
  | op :: rest =>
    let p := b.plz q
    let set := setOf k
    let mates := p.entries.filter fun o => setOf o.key = set
    if mates.length < 8 then (((b.setPlz q { p with entries := p.entries ++ [op] }).bump (plzCnt q 2)).plzPeak q).place q k rest
    else
      let victim := match mates with
        | o :: _ => o.key
        | [] => k
      let vs := p.here victim
      let b := (b.setPlz q { p with entries := p.entries.filter fun o => o.key ≠ victim }).bump (plzCnt q 3)
      if victim = k then b.spillPut q k (vs ++ op :: rest)
      else
        let b := b.spillPut q victim vs
        let p := b.plz q
        (((b.setPlz q { p with entries := p.entries ++ [op] }).bump (plzCnt q 2)).plzPeak q).place q k rest

/-- An insertion where the spill buffer has room for what it evicts and no victim waits (R87); none otherwise. -/
def Block.tryPlace (b : Block) (q k : Nat) (ops : List Operand) : Option Block :=
  let held := (b.plz q).holding
  let n := (b.plz q).spill.length
  let b' := b.place q k ops
  if n < (b'.plz q).spill.length && (held || decide (32 < (b'.plz q).spillUsed)) then none else some b'

/-- The spill buffer has no room for an eviction that a set needs: the Plaza remembers the set and the places (R87). -/
def Block.noteShort (q k : Nat) (ops : List Operand) (b : Block) : Block :=
  let p := b.plz q
  let used := ((b.place q k ops).plz q).spillUsed
  if 32 < used then b.setPlz q { p with short := some (setOf k, used - p.spillUsed) } else b

/-- No eviction waits for room in the spill buffer, so that lookups start (R87). -/
def Plaza.opened (p : Plaza) : Bool :=
  match p.short with
  | none => true
  | some (set, need) => decide (p.spillUsed + need ≤ 32) || decide ((p.entries.filter fun o => setOf o.key = set).length < 8)

/-- The next arrival ordinal (R79): a token that brings one keeps it (R233, R238). -/
def Block.ordinal (b : Block) (q ord : Nat) : Block × Nat :=
  if ord ≠ 0 then (b, ord)
  else
    let p := b.plz q
    (b.setPlz q { p with ordinal := p.ordinal + 1 }, p.ordinal + 1)

-- The Backstreet (R78, R79, R81)

/-- The line addresses of a key's window; none without a hash part. -/
def Block.window (b : Block) (q k : Nat) : List Nat :=
  let n := b.hashBytes q / 64
  if n = 0 then [] else (List.range 8).map fun i => b.areaBase q + 64 * ((homeLine k n + i) % n)

/-- A slot's 32 bytes (R79). -/
def slotBytes (o : Operand) : List Byte :=
  o.tok.bytes ++ leBytes 1 o.pos ++ leBytes 1 1 ++ leBytes 4 (o.ord % 2 ^ 32) ++ leBytes 8 0

/-- The operand in a slot; none where USED is 0. The ordinal is the last one with the bits the slot keeps. -/
def slotOperand (last : Nat) (bs : List Byte) : Option Operand :=
  if !((bs.drop 19).headD 0).toNat.testBit 0 then none
  else
    let o := ofBytes ((bs.drop 20).take 4)
    some { tok := Token.ofBytes bs, pos := ((bs.drop 18).headD 0).toNat, ord := last - (last - o) % 2 ^ 32 }

/-- Operands by rising ordinal. -/
def sortOps : List Operand → List Operand
  | [] => []
  | o :: os => insertOp o (sortOps os)
where
  /-- Puts an operand into a sorted list. -/
  insertOp (o : Operand) : List Operand → List Operand
    | [] => [o]
    | x :: xs => if o.ord < x.ord then o :: x :: xs else x :: insertOp o xs

/-- Slots written by parcels that no Stop has acknowledged: their operands are still the spill buffer's, or a match has taken them (R77). -/
def Plaza.unacked (p : Plaza) : List Nat := (p.spill.filter (·.sent)).flatMap fun s => s.slots ++ s.taken

/-- Reads a window: the key's operands with the addresses of their slots, oldest first. An uncorrectable line delivers no slot
(R90), and a slot of a parcel not yet acknowledged holds nothing that the spill buffer does not hold or has not given away (R76, R77). -/
def Block.readWindow (b : Block) (q k : Nat) : Block × List (Operand × Nat) :=
  let last := (b.plz q).ordinal
  let mineYet := (b.plz q).unacked
  let (b, ss) := (b.window q k).foldl (fun (acc : Block × List (Operand × Nat)) l =>
    let (b, bs, bad) := acc.1.stopRead l 64
    if bad then (b, acc.2)
    else
      let two := [(l, bs.take 32), (l + 32, bs.drop 32)].filterMap fun e =>
        match slotOperand last e.2 with
        | some o => if o.key = k ∧ !mineYet.contains e.1 then some (o, e.1) else none
        | none => none
      (b, acc.2 ++ two)) (b, [])
  let order := sortOps (ss.map (·.1))
  (b, order.filterMap fun o => ss.find? fun e => e.1 = o)

/-- Slots of the hash part are freed by a write-back (R81). -/
def Block.freeSlots (b : Block) (q : Nat) (addrs : List Nat) : Block :=
  let b := addrs.foldl (fun b a => b.stopWrite (a + 19) [0]) b
  let p := b.plz q
  b.setPlz q { p with bsOcc := p.bsOcc - addrs.length }

-- Context faults and collection

/-- A token discarded as a context fault at the Plaza (R45, R46, R66, R68). -/
def Block.plazaFault (b : Block) (q reason : Nat) (t : Token) : Block :=
  ((b.bump (plzCnt q 12)).consume q t.ctx).contextFault q reason t.ctx ((b.logical q).getD 0xFFFF) t.tag t.ctrl.toNat

/-- A token of a CLOSING context is collected (R94, R95, R269): counted as consumed, and as an orphan or as a token of a
cancel; orphans are reported up to DISPATCH_ORPHAN_LIMIT. -/
def Block.collectToken (b : Block) (q : Nat) (t : Token) : Block :=
  let b := b.consume q t.ctx
  match b.ctx? t.ctx with
  | none => b
  | some x =>
    if x.cancelled then b.bump (dispCnt 11)
    else
      let b := b.bump (plzCnt q 15)
      let report := decide (x.reported < b.rf 0x400F04 15 0)
      let b := b.setCtx t.ctx { x with orphans := x.orphans + 1, orphaned := true, reported := if report then x.reported + 1 else x.reported }
      if report then
        { b with evc := { b.evc with
          raised := b.evc.raised ++ [{ src := 2, arg := t.ctrl.toNat + (((b.logical q).getD 0) <<< 16), tag := some t.tag }] } }
      else b

-- Iteration gates (R226 to R228)

/-- The bound K_SET stands for (AVENUE_GATE_D2); none where the gate is disabled (R228). -/
def gateBound (stream : Bool) (kset : Nat) : Option Nat :=
  if kset = 0 then (if stream then some 131072 else none)
  else some (min kset (if stream then 131072 else 65536))

/-- The gate whose entry node is a node of a context. -/
def Quarter.gateOf (q : Quarter) (ctx node : Nat) : Option (Nat × GateEntry) :=
  List.find? (fun e : Nat × GateEntry => e.2.valid && e.2.ctx == ctx && e.2.entry == node) q.gates

/-- Index i is admitted by its gate (R226, R228). -/
def GateEntry.admits (g : GateEntry) (i : Nat) : Bool :=
  match gateBound g.stream g.kset with
  | none => true
  | some _ => decide ((i + 2 ^ 18 - g.base) % 2 ^ 18 < g.know)

/-- Whether the entry node may fire for a token's index. -/
def Quarter.admits (q : Quarter) (t : Token) : Bool :=
  match q.gateOf t.ctx (tagNode t.tag) with
  | some (_, g) => g.admits (tagIdx t.tag)
  | none => true

/-- The exit node of a gate fires (R227): a retire word goes to every Quarter whose gate names it. -/
def Block.retires (b : Block) (t : Token) : Block :=
  (List.range 68).foldl (fun b q =>
    let qq := b.q q
    if qq.gates.any fun e => e.2.valid && e.2.ctx == t.ctx && e.2.exit == tagNode t.tag then
      b.setQ q { qq with retireIn := qq.retireIn ++ [t.tag] }
    else b) b

-- Replay at a merge node (R89)

/-- The next journaled firing of the node a token addresses, while a replay feeds its context. -/
def Block.mergeNext (b : Block) (q : Nat) (t : Token) : Option (W64 × Nat) :=
  match b.cont.roll with
  | none => none
  | some r =>
    if r.step < 5 ∨ !r.ctxs.contains t.ctx then none
    else (SMap.get r.merges [] q).find? fun e => tagCtx e.1 == t.ctx && tagNode e.1 == tagNode t.tag

/-- In a replay a merge node fires only for the key its next record names (R89), whichever of the key's operands completes the match. -/
def Block.mergeTurn (b : Block) (q : Nat) (v : NodeView) (t : Token) : Bool :=
  !v.merge || (match b.mergeNext q t with | some e => keyOf e.1 == keyOf t.tag | none => true)

/-- A firing of a merge node in replay takes its record, and the key of the next one is looked up. -/
def Block.mergeTake (b : Block) (q : Nat) (t : Token) : Block :=
  match b.cont.roll, b.mergeNext q t with
  | some r, some e =>
    let l := (SMap.get r.merges [] q).erase e
    let b := { b with cont := { b.cont with roll := some { r with merges := SMap.put r.merges q l } } }
    match b.mergeNext q t with
    | some e => let p := b.plz q
                b.setPlz q { p with internal := p.internal ++ [e.1] }
    | none => b
  | _, _ => b

-- Firing (R69, R88)

/-- Packets waiting for a PE in the fire buffer. -/
def Plaza.buffered (p : Plaza) (pe : Nat) : Bool := p.fireBuf.any fun e => e.1 == pe

/-- A packet enters a PE's fire queue. -/
def Block.queueFire (b : Block) (q pe : Nat) (f : FirePacket) : Block :=
  let p := (b.q q).pe pe
  let b := b.setQ q ((b.q q).setPe pe { p with fireq := p.fireq ++ [f] })
  let off := qOff q (0x1400 + 4 * pe)
  if b.rf off 21 16 < p.fireq.length + 1 then b.setRf off 21 16 (p.fireq.length + 1) else b

/-- The PE of a node's packets (R65): fixed, or the PE with the most free fire-queue entries. -/
def Quarter.firePe (q : Quarter) (pesel : Nat) : Nat :=
  if pesel < 16 then pesel
  else (List.range 16).foldl (fun best n => if (q.pe n).fireq.length < (q.pe best).fireq.length then n else best) 0

/-- A node fires (R69, R88, R89, R91): the completing token, its position and the operands taken. -/
def Block.fire (b : Block) (q : Nat) (v : NodeView) (t : Token) (pos : Nat) (used : List Operand) (ord : Nat) : Block :=
  let hasS := v.sp ≠ 15
  let sGood := v.ctl.testBit 33 && bits v.ctl 36 34 == v.sp
  let b := if hasS ∧ !sGood then b.bump (plzCnt q 10) else b
  let ops : SMap W64 := used.foldl (fun m o => SMap.put m o.pos o.tok.value) [(pos, t.value)]
  let ops := if hasS ∧ sGood then SMap.put ops v.sp v.sticky else ops
  let poison := t.poison || used.any (fun o => o.tok.poison) || (hasS && (!sGood || v.ctl.testBit 40))
  let f : FirePacket := { code := v.ctl % 2 ^ 15, tag := tagSet t.tag 3 2 0, gather := v.gather, ops := ops, poison := poison, epl := t.epl }
  let b := if v.merge then
      (if (b.mergeNext q t).isSome then b.mergeTake q t else (b.journal q (.merge t.tag ord)).bump (plzCnt q 13))
    else b
  let b := b.consume q t.ctx (1 + used.length)
  let b := (b.retires t).countFire t.tag
  let pe := (b.q q).firePe (bits v.ctl 30 26)
  if (b.plz q).buffered pe || decide (32 ≤ ((b.q q).pe pe).fireq.length) then
    let p := b.plz q
    b.setPlz q { p with fireBuf := p.fireBuf ++ [(pe, f)] }
  else b.queueFire q pe f

-- Lookups

/-- What a lookup comes to: it ends; its token waits in the wait table; or it does not start, and leaves only what it counts. -/
inductive Look where
  | done (b : Block)
  | park (why : WaitWhy) (b : Block)
  | stop (f : Block → Block)

/-- The oldest operand of each of some positions; none where one is missing (R70). -/
def pickOps (cur : List Operand) : List Nat → Option (List Operand)
  | [] => some []
  | p :: ps =>
    match (sortOps cur).find? fun o => o.pos = p, pickOps cur ps with
    | some o, some os => some (o :: os)
    | _, _ => none

/-- The lookup of an operand against what the Plaza and the spill buffer hold: a match fires, anything else is inserted (R70,
R76, R77, R87 to R89, R226). `extra` are operands of the key brought back from the Backstreet. A key found in the spill buffer whose match
stays incomplete is taken out of it and goes back into the Plaza with the token, and its filter counter falls: the spec does not say where
the token then waits (R77; DESIGN CHOICE, log 105). -/
def Block.lookLocal (b : Block) (q : Nat) (v : NodeView) (t : Token) (ord : Nat) (extra : List Operand) : Look :=
  let k := keyOf t.tag
  let pos := v.pos t
  let p := b.plz q
  let cur := p.found k ++ extra
  let b1 := if cur.any fun o => o.pos = pos then b.bump (plzCnt q 8) else b
  let (b1, ord) := b1.ordinal q ord
  let admitted := (b.q q).admits t
  let turn := b.mergeTurn q v t
  let insert (b : Block) : Look :=
    let back := if (p.here k).isEmpty then p.spilt k else []
    let b := if back.isEmpty then b else b.spillTake q k back
    match b.tryPlace q k (back ++ extra ++ [{ tok := t, pos := pos, ord := ord }]) with
    | some b => .done b
    | none => .stop (Block.noteShort q k (back ++ extra ++ [{ tok := t, pos := pos, ord := ord }]))
  match pickOps cur (v.dyn.filter fun x => x ≠ pos) with
  | none => insert b1
  | some used =>
    if !admitted then insert (b1.bump (aveCnt 8))
    else if !turn then insert b1
    else if 16 ≤ p.fireBuf.length then .stop fun b => b.bump (plzCnt q 14)
    else if v.merge ∧ (b.mergeNext q t).isNone ∧ !b.journalRoom (.merge t.tag ord) then .stop Block.ledgerWait
    else
      let b1 := if 1 < v.dyn.length then b1.bump (plzCnt q 1) else b1
      let b1 := if (p.here k).isEmpty then (if used.isEmpty then b1 else b1.spillTake q k used)
        else b1.setPlz q { b1.plz q with entries := (b1.plz q).entries.filter fun o => !used.contains o }
      .done (b1.fire q v t pos used ord)

/-- A key has tokens waiting for its window (R81). -/
def Plaza.awaiting (p : Plaza) (k : Nat) : Bool := p.wait.any fun w => match w.why with
  | .window k' _ => k' == k
  | _ => false

/-- The lookup of a token of any KIND with a node (R45 to R47, R64 to R70, R81). A token for the one dynamic position of a node fires
it without reading the Backstreet (R67); one that its gate or a replay holds back waits with its key, wherever that is (R76, R226). A STICKY
token writes the slot whatever its PORT or GOP is: R47 gives it no match, and the spec does not say whether the checks of R45 and R46 reach
it (DESIGN CHOICE, log 23). -/
def Block.lookNode (b : Block) (q : Nat) (v : NodeView) (t : Token) (ord : Nat) : Look :=
  let k := keyOf t.tag
  let p := b.plz q
  let unseen := (p.found k).isEmpty && b.filterMaybe q k
  if t.kind = 1 then
    let c := setBits (setBits (setBits (setBits v.ctl 33 33 1) 36 34 (v.pos t)) 39 37 t.fmt) 40 40 (b2n t.poison)
    let qq := b.q q
    .done ((b.setQ q { qq with nodes := SMap.put qq.nodes v.entry { ctl := BitVec.ofNat 64 c, sticky := t.value } }).consume q t.ctx)
  else if t.kind = 9 then
    if p.awaiting k then .park (.window k true) b
    else if unseen then .park (.window k true) (b.bump (plzCnt q 4))
    else
      let gone := p.here k
      let spilt := p.spilt k
      let b := b.setPlz q { p with entries := p.entries.filter fun o => o.key ≠ k }
      let b := if spilt.isEmpty then b else b.spillTake q k spilt
      .done (b.consume q t.ctx (1 + gone.length + spilt.length))
  else
    let pos := v.pos t
    if v.n ≤ pos then .done (b.plazaFault q (if v.gather then 3 else 2) t)
    else if pos = v.sp then .done (b.plazaFault q 5 t)
    else if v.dyn.length = 1 && (b.q q).admits t && b.mergeTurn q v t then b.lookLocal q v t ord []
    else if p.awaiting k then .park (.window k true) b
    else if unseen then .park (.window k true) (b.bump (plzCnt q 4))
    else b.lookLocal q v t ord []

/-- A source-ordered token, or a MARKER (R426). -/
def ordered (t : Token) : Bool := t.so || t.kind == 8

/-- Whether tokens of a context are matched, collected or stale at a Plaza (R42, R94): 1, 2 or 0. -/
def Block.tokenState (b : Block) (ctx : Nat) : Nat :=
  let s := b.ctxState ctx
  if s = 4 ∨ s = 5 then 1 else if s = 6 then 2 else 0

/-- The first entry of the wait table that may be released (R82, R85): its place, and the entry. A source-ordered token goes on once the
pen is read up to where it stood and no source-ordered token of its lane, or of the pen, waits ahead of it. -/
def Plaza.releasable (p : Plaza) : Option (Nat × WaitEntry) :=
  ((List.range p.wait.length).zip p.wait).find? fun e =>
    match e.2.why with
    | .ready => true
    | .behind => decide (e.2.pen + p.penTokens.length ≤ p.penRd) &&
        !((p.wait.take e.1).any fun w => (w.lane == e.2.lane || w.lane == 4) && ordered w.tok)
    | _ => false

/-- Lookups wait for a pipe slot: released tokens, internal lookups, pen tokens or words at the heads of the inbound lanes (R72). -/
def Quarter.lookupWaits (q : Quarter) : Bool :=
  q.plaza.releasable.isSome || !q.plaza.internal.isEmpty || !q.plaza.penTokens.isEmpty ||
    [0, 1, 2, 3].any fun j => (q.laneHead j).isSome

/-- A lookup starts (R72, R73). While another one waits, the two share a cycle if both pipes run and their sets lie in different banks;
otherwise the second starts a cycle later, which BANK_STALL counts. -/
def Block.startLookup (b : Block) (q k : Nat) : Block :=
  let b := b.bump (plzCnt q 0)
  let p := b.plz q
  let bank := (setOf k).testBit 0
  let next := if b.rf (qOff q 0) 0 0 = 1 ∧ (b.q q).lookupWaits then some bank else none
  match p.pipe with
  | some first =>
    if first = bank then (b.bump (plzCnt q 7)).setPlz q { p with pipe := next, short := none }
    else b.setPlz q { p with pipe := none, short := none }
  | none => b.setPlz q { p with pipe := next, short := none }

/-- The lookup of a token (R42, R72, R94, R498). -/
def Block.look (b : Block) (q : Nat) (t : Token) (ord : Nat) : Look :=
  let b := b.startLookup q (keyOf t.tag)
  if t.kind = 8 then .done (b.takeMarker q t)
  else match b.tokenState t.ctx with
  | 0 => .done ((b.bump (plzCnt q 9)).consume q t.ctx)
  | 2 => .done (b.collectToken q t)
  | _ =>
    match (b.plz q).cached t.ctx (tagNode t.tag) with
    | none => .park (.nodemap true) b
    | some w =>
      match (b.q q).node w with
      | none => .done (b.plazaFault q 4 t)
      | some v => b.lookNode q v t ord

/-- An internal lookup (R227): the node fires if every operand of the key is waiting and the index is admitted. -/
def Block.lookInternal (b : Block) (q : Nat) (tag : W64) (extra : List Operand) : Look :=
  let k := keyOf tag
  let b := b.startLookup q k
  let pseudo : Token := { value := 0, tag := tag, ctrl := 0 }
  if b.tokenState (tagCtx tag) ≠ 1 then .done b
  else match (b.plz q).cached (tagCtx tag) (tagNode tag) with
  | none => .park (.nodemap true) b
  | some w =>
    match (b.q q).node w with
    | none => .done b
    | some v =>
      let p := b.plz q
      let cur := p.found k ++ extra
      if cur.isEmpty && p.awaiting k then .park (.window k true) b
      else if cur.isEmpty && b.filterMaybe q k then .park (.window k true) (b.bump (plzCnt q 4))
      else match pickOps cur v.dyn with
      | none => .done b
      | some used =>
        match (sortOps used).reverse with
        | [] => .done b
        | o :: older =>
          if !((b.q q).admits pseudo) then .done b
          else if !b.mergeTurn q v o.tok then .done b
          else if 16 ≤ p.fireBuf.length then .stop fun b => b.bump (plzCnt q 14)
          else if v.merge ∧ (b.mergeNext q o.tok).isNone ∧ !b.journalRoom (.merge o.tok.tag o.ord) then .stop Block.ledgerWait
          else
            let b := b.bump (plzCnt q 1)
            let b := if (p.here k).isEmpty then b.spillTake q k used
              else b.setPlz q { p with entries := p.entries.filter fun x => !used.contains x }
            -- the completing operand is consumed as the others are
            .done (b.fire q v o.tok o.pos older o.ord)

/-- A token is put into the wait table (R81); WAIT_FULL is set when it fills. -/
def Block.parkToken (b : Block) (q lane : Nat) (t : Token) (ord : Nat) (why : WaitWhy) (pen : Nat := 0) : Block :=
  let p := b.plz q
  let b := b.setPlz q { p with wait := p.wait ++ [{ tok := t, ord := ord, lane := lane, why := why, pen := pen }] }
  if 64 ≤ (b.plz q).wait.length then b.setRf (qOff q 0xC) 4 4 1 else b

/-- The wait table is full (R81). -/
def Plaza.waitFull (p : Plaza) : Bool := decide (64 ≤ p.wait.length)

/-- The pen is not empty: slots are written whose tokens have not been looked up (R85). -/
def Plaza.penBusy (p : Plaza) : Bool := decide (p.penRd < p.penWr) || !p.penTokens.isEmpty

/-- Whether a source-ordered token of a lane is held, and up to which write position the pen has then to be read (R82, R85). The pen is a
lane of its own here (4), whose parked source-ordered tokens hold those that were taken after them (DEDUCED from R59, log 106). -/
def Block.soHold (b : Block) (q lane : Nat) (t : Token) : Option Nat :=
  let p := b.plz q
  let upTo := if lane < 4 ∧ p.penBusy then p.penWr else 0
  if !ordered t || decide (5 ≤ lane) then none
  else if p.wait.any fun w => (w.lane == lane || w.lane == 4) && ordered w.tok then some upTo
  else if upTo = 0 then none else some upTo

/-- The next released token starts its lookup afresh; one that must wait again keeps its place (R72, R81, R82, R85, R498). -/
def Block.releaseStart (b : Block) (q : Nat) : Start :=
  let p := b.plz q
  if !b.qRuns q || !p.opened then .none
  else match p.releasable with
  | .none => .none
  | some (i, w) =>
    let b0 := b.setPlz q { p with wait := p.wait.take i ++ p.wait.drop (i + 1) }
    match (if w.lane = 5 then b0.lookInternal q w.tok.tag [] else b0.look q w.tok w.ord) with
    | .done b2 => .go b2
    | .park why b2 =>
      let p2 := b2.plz q
      .go (b2.setPlz q { p2 with wait := p2.wait.take i ++ [{ w with why := why }] ++ p2.wait.drop i })
    | .stop f => .held f

/-- The next internal lookup (R227). -/
def Block.internalStart (b : Block) (q : Nat) : Start :=
  let p := b.plz q
  match p.internal with
  | [] => .none
  | tag :: rest =>
    if !b.qRuns q || b.ave.recovering || p.waitFull || !p.opened then .none
    else match (b.setPlz q { p with internal := rest }).lookInternal q tag [] with
    | .done b2 => .go b2
    | .park why b2 => .go (b2.parkToken q 5 { value := 0, tag := tag, ctrl := 0 } 0 why)
    | .stop f => .held f

/-- The next pen token (R84). -/
def Block.penStart (b : Block) (q : Nat) : Start :=
  let p := b.plz q
  match p.penTokens with
  | [] => .none
  | (t, ord) :: rest =>
    let b0 := b.setPlz q { p with penTokens := rest }
    if !b.qAwake q || b.ave.recovering || !p.opened then .none
    else if b.rollDiscards q t then .go (b0.discard q t)
    else match b0.soHold q 4 t with
    | some upTo =>
      if p.waitFull then .none
      else .go (((b0.startLookup q (keyOf t.tag)).bump (plzCnt q 11)).parkToken q 4 t ord .behind upTo)
    | .none => match b0.look q t ord with
      | .done b2 => .go b2
      | .park why b2 => if p.waitFull then .none else .go (b2.parkToken q 4 t ord why)
      | .stop f => .held f

/-- The word at the head of an inbound lane (R72, R81, R82, R85). -/
def Block.laneStart (b : Block) (q lane : Nat) (upset : Bool) : Start :=
  if !b.qRuns q || b.ave.recovering || (b.plz q).waitFull || !(b.plz q).opened then .none
  else match b.takeWord q lane upset with
  | (_, .none) => .none
  | (b1, some w) =>
    let b1 := b1.setPlz q { b1.plz q with lastLane := lane }
    match b1.soHold q lane w.tok with
    | some upTo => .go (((b1.startLookup q (keyOf w.tok.tag)).bump (plzCnt q 11)).parkToken q lane w.tok 0 .behind upTo)
    | .none => match b1.look q w.tok 0 with
      | .done b2 => .go b2
      | .park why b2 => .go (b2.parkToken q lane w.tok 0 why)
      | .stop f => .held f

/-- A lookup of an earlier class than the lane words can start (R72). -/
def Block.laneWaits (b : Block) (q : Nat) : Bool :=
  (b.releaseStart q).can || (b.internalStart q).can || (b.penStart q).can

/-- A lane's turn in the round robin of the inbound lanes (R72): no lane between the one served last and it has a word that can start. -/
def Block.laneTurn (b : Block) (q lane : Nat) : Bool :=
  let last := (b.plz q).lastLane
  let before := (List.range ((lane + 3 - last) % 4)).map fun i => (last + 1 + i) % 4
  !(before.any fun j => (b.laneStart q j false).can)

/-- The Plaza takes the word at the head of a lane if it is of the kind asked for, in the lane's turn and when no lookup of an earlier
class can start (R72, R81, R82). -/
def Block.takeLane (b : Block) (q lane : Nat) (upset : Bool) (mine : Token → Bool) : Block :=
  match (b.q q).laneHead lane with
  | none => b
  | some h => if !mine h.tok || b.laneWaits q || !b.laneTurn q lane then b else (b.laneStart q lane upset).result b

/-- TOKEN_LOOKUP (R72): the Plaza takes a lane word that is an operand. -/
def execTokenLookup (q : Fin 68) (lane : Fin 4) (upset : Bool) (s : State) : Host.Outcome State Fault Refusal :=
  act (fun b => b.takeLane q lane upset fun t => t.kind != 1 && t.kind != 8 && t.kind != 9) s
/-- STICKY_TOKEN (R47, R69). -/
def execStickyToken (q : Fin 68) (lane : Fin 4) (upset : Bool) (s : State) : Host.Outcome State Fault Refusal :=
  act (fun b => b.takeLane q lane upset fun t => t.kind == 1) s
/-- FREE_TOKEN (R47, R81). -/
def execFreeToken (q : Fin 68) (lane : Fin 4) (upset : Bool) (s : State) : Host.Outcome State Fault Refusal :=
  act (fun b => b.takeLane q lane upset fun t => t.kind == 9) s
/-- MARKER_ARRIVE (R424, R426, R427): a CLOSE MARKER at the head of a lane; it waits as a source-ordered token does. -/
def execMarkerArrive (q : Fin 68) (x : LaneAt) (s : State) : Host.Outcome State Fault Refusal :=
  act (fun b => b.takeLane q x.lane x.upset fun t => t.kind == 8 && bits t.value.toNat 7 0 != 2) s
/-- FLUSH_MARKER_ARRIVE (R439, step 3): a FLUSH MARKER at the head of a lane of a closure Quarter. -/
def execFlushMarkerArrive (q : Fin 68) (x : LaneAt) (s : State) : Host.Outcome State Fault Refusal :=
  act (fun b =>
    match (b.q q).laneHead x.lane with
    | none => b
    | some h =>
      if h.tok.kind == 8 && bits h.tok.value.toNat 7 0 == 2 && b.qAwake q then
        match b.takeWord q x.lane x.upset with
        | (b1, some w) =>
          if w.tok.kind = 8 ∧ bits w.tok.value.toNat 7 0 = 2 then b1.takeMarker q w.tok else b1.discard q w.tok
        | (_, none) => b
      else b) s

/-- WAIT_TABLE_RELEASE (R72, R82, R85): the next token that may go on starts its lookup afresh. -/
def execWaitTableRelease (q : Fin 68) (s : State) : Host.Outcome State Fault Refusal :=
  act (fun b => (b.releaseStart q).result b) s

/-- INTERNAL_LOOKUP (R72, R227): the next internal lookup takes a pipe slot, after the released tokens. -/
def execInternalLookup (q : Fin 68) (s : State) : Host.Outcome State Fault Refusal :=
  act (fun b => if (b.releaseStart q).can then b else (b.internalStart q).result b) s

-- The pen (R84 to R86)

/-- PEN_READ_RETURN (R84): the next pen line is read, up to the notices received. The tokens of an uncorrectable line cannot be
read. -/
def execPenReadReturn (q : Fin 68) (upset : Fin 3) (s : State) : Host.Outcome State Fault Refusal :=
  act (fun b =>
    let p := b.plz q
    let slots := b.penBytes q / 32
    if p.penCount = 0 ∨ slots = 0 ∨ !b.qAwake q then b
    else
      let at_ := p.penRd % slots
      let n := min p.penCount (2 - at_ % 2)
      let line := b.penBase q + 64 * (at_ / 2)
      let (b, bs, bad) := b.stopRead line 64 upset
      let p := b.plz q
      let got := if bad then [] else (List.range n).filterMap fun i =>
        let s := (bs.drop (32 * (at_ % 2 + i))).take 32
        if ((s.drop 19).headD 0).toNat.testBit 0 then some (Token.ofBytes s, ofBytes ((s.drop 20).take 4)) else none
      b.setPlz q { p with penRd := p.penRd + n, penCount := p.penCount - n, penTokens := p.penTokens ++ got }) s

/-- PEN_TOKEN_LOOKUP (R72, R84): the next pen token is looked up as an arriving token, after the released tokens and the internal
lookups. -/
def execPenTokenLookup (q : Fin 68) (s : State) : Host.Outcome State Fault Refusal :=
  act (fun b => if (b.releaseStart q).can || (b.internalStart q).can then b else (b.penStart q).result b) s

-- The Backstreet steps

/-- Takes the tokens waiting for a key out of the wait table, each with its place in arrival order. -/
def Plaza.takeWaiting (p : Plaza) (k : Nat) : List WaitEntry × Plaza :=
  let mine (w : WaitEntry) : Bool := match w.why with
    | .window k' _ => k' == k
    | _ => false
  (p.wait.filter mine, { p with wait := p.wait.filter fun w => !mine w })

/-- One parked token meets the window's operands of its key (R81): the block and the operands still in the Backstreet, or none
where the key cannot be brought back now. Its node is the one the cache gives, as at its lookup (R498); a word that has left the cache since
is read again. -/
def Block.settleWindow (b : Block) (q k : Nat) (w : WaitEntry) (found : List (Operand × Nat)) : Option (Block × List (Operand × Nat)) :=
  let ops := found.map (·.1)
  let t := w.tok
  let free (b : Block) (gone : List (Operand × Nat)) : Block :=
    let b := b.freeSlots q (gone.map (·.2))
    if gone.isEmpty ∨ gone.length ≠ found.length then b else (b.filterDown q k).filterReset q
  let view := match b.ctx? t.ctx with
    | some x => (b.q q).node (((b.plz q).cached t.ctx (tagNode t.tag)).getD (b.nodemap x.desc.image (tagNode t.tag)))
    | none => none
  match b.tokenState t.ctx, view with
  | 0, _ => if w.lane = 5 then some (b, found) else some ((b.bump (plzCnt q 9)).consume q t.ctx, found)
  | 2, _ => if w.lane = 5 then some (b, found) else some (b.collectToken q t, found)
  | _, none => if w.lane = 5 then some (b, found) else some (b.plazaFault q 4 t, found)
  | _, some v =>
    let used? := pickOps ops (if w.lane = 5 then v.dyn else v.dyn.filter fun x => x ≠ v.pos t)
    if w.lane = 5 then
      match used? with
      | none => some (b, found)
      | some used =>
        if used.isEmpty || !(b.q q).admits t then some (b, found)
        else match (sortOps used).reverse with
        | [] => some (b, found)
        | o :: older =>
          if !b.mergeTurn q v o.tok then some (b, found)
          else if 16 ≤ (b.plz q).fireBuf.length ∨ (v.merge ∧ (b.mergeNext q o.tok).isNone ∧ !b.journalRoom (.merge o.tok.tag o.ord)) then none
          else
            let gone := found.filter fun e => used.contains e.1
            some ((free b gone).fire q v o.tok o.pos older o.ord, found.filter fun e => !used.contains e.1)
    else if t.kind = 9 then
      let here := (b.plz q).here k
      let spilt := (b.plz q).spilt k
      let b := free b found
      let b := b.setPlz q { b.plz q with entries := (b.plz q).entries.filter fun o => o.key ≠ k }
      let b := if spilt.isEmpty then b else b.spillTake q k spilt
      some (b.consume q t.ctx (1 + found.length + here.length + spilt.length), [])
    else if v.n ≤ v.pos t then some (b.plazaFault q (if v.gather then 3 else 2) t, found)
    else if v.pos t = v.sp then some (b.plazaFault q 5 t, found)
    else match used? with
      | some used =>
        let fires := (b.q q).admits t && b.mergeTurn q v t
        if found.isEmpty ∨ !fires then
          match (free b found).lookLocal q v t w.ord ops with
          | .done b => some (b, [])
          | _ => none
        else if 16 ≤ (b.plz q).fireBuf.length ∨ (v.merge ∧ (b.mergeNext q t).isNone ∧ !b.journalRoom (.merge t.tag 0)) then none
        else
          let b := if ops.any fun o => o.pos = v.pos t then b.bump (plzCnt q 8) else b
          let (b, ord) := b.ordinal q w.ord
          let gone := found.filter fun e => used.contains e.1
          some ((free b gone).fire q v t (v.pos t) used ord, found.filter fun e => !used.contains e.1)
      | none =>
        match (free b found).lookLocal q v t w.ord ops with
        | .done b => some (b, [])
        | _ => none

/-- The parked tokens of a key in arrival order; those from the first that cannot go on keep their entries and read again. -/
def Block.settleAll (b : Block) (q k : Nat) : List WaitEntry → List (Operand × Nat) → Block × List WaitEntry
  | [], _ => (b, [])
  | w :: ws, found =>
    match b.settleWindow q k w found with
    | some (b, found) => b.settleAll q k ws found
    | none => (b, (w :: ws).map fun w => { w with why := .window k false })

/-- BACKSTREET_WINDOW_RETURN (R75, R78, R81, R90): the window of the first key that waits for one comes back. A key whose read
was put off reads again once the spill buffer has room and HOLDING is clear. -/
def execBackstreetWindowReturn (q : Fin 68) (cycles : Nat) (s : State) : Host.Outcome State Fault Refusal :=
  act (fun b =>
    let p := b.plz q
    let room := decide (p.spillUsed < 32) && !p.holding
    match p.wait.find? fun w => match w.why with
        | .window _ asked => asked || room
        | _ => false with
    | none => b
    | some w =>
      if !b.qRuns q then b
      else
        let (k, asked) := match w.why with
          | .window k a => (k, a)
          | _ => (0, true)
        let b := if asked then b else b.bump (plzCnt q 4)
        let (b, found) := b.readWindow q k
        let b := b.bump (plzCnt q (if found.isEmpty then 6 else 5))
        let lat := min cycles 65535
        let b := b.setReg (qOff q 0x1C) ((lat <<< 16) + max lat (b.rf (qOff q 0x1C) 15 0))
        let (mine, p) := (b.plz q).takeWaiting k
        let at_ := ((List.range (b.plz q).wait.length).zip (b.plz q).wait).find? fun e => e.2 == w
        let (b, left) := (b.setPlz q p).settleAll q k mine found
        let i := (at_.map (·.1)).getD 0
        let p := b.plz q
        b.setPlz q { p with wait := p.wait.take i ++ left ++ p.wait.drop i }) s

/-- NODEMAP_WORD_RETURN (R498): the word of the first token that waits for one arrives; the tokens that wait for it start afresh.
Tokens of a context that is not resident are stale. -/
def execNodemapWordReturn (q : Fin 68) (s : State) : Host.Outcome State Fault Refusal :=
  act (fun b =>
    let p := b.plz q
    let waits (w : WaitEntry) : Bool := match w.why with
      | .nodemap _ => true
      | _ => false
    match p.wait.find? waits with
    | none => b
    | some w =>
      let c := w.tok.ctx
      let n := tagNode w.tok.tag
      let mine (x : WaitEntry) : Bool := waits x && x.tok.ctx == c && tagNode x.tok.tag == n
      match b.ctx? c with
      | none =>
        let gone := (p.wait.filter mine).filter fun x => x.lane ≠ 5
        gone.foldl (fun b x => (b.bump (plzCnt q 9)).consume q x.tok.ctx) (b.setPlz q { p with wait := p.wait.filter fun x => !mine x })
      | some x =>
        (b.readNodemap x.desc.image n).setPlz q { p with
          cache := cachePut p.cache c n (b.nodemap x.desc.image n)
          wait := p.wait.map fun e => if mine e then { e with why := .ready } else e }) s

/-- The free slots of a key's window. -/
def Block.freeInWindow (b : Block) (q k : Nat) : List Nat :=
  ((b.window q k).flatMap fun l => [l, l + 32]).filter fun a => !((memGet b.mem (a + 19)).toNat.testBit 0)

/-- A spill attempt of a key (R77, R87, R499): its operands are written to free slots of its window as one parcel, or it is held
for want of slots; the first such failure of a victim raises PLZ_BS_FULL. -/
def Block.spillTry (b : Block) (q : Nat) (s : SpillKey) : Block :=
  let free := b.freeInWindow q s.key
  if b.undoFull q then b
  else if free.length < s.ops.length then
    let p := b.plz q
    let b := b.setPlz q { p with spill := p.spill.map fun x => if x = s then { x with failed := true } else x }
    if s.failed then b else (((b.setRf (qOff q 0xC) 0 0 1).raise 8 q).detect 17 q)
  else
    let slots := free.take s.ops.length
    let b := (s.ops.zip slots).foldl (fun b e => b.stopWrite e.2 (slotBytes e.1)) b
    let p := b.plz q
    b.setPlz q { p with
      bsOcc := p.bsOcc + slots.length
      spill := p.spill.map fun x => if x = s then { x with sent := true, slots := slots, failed := false } else x }

/-- SPILL_PARCEL_SEND (R77): the first key not sent and not held is written. -/
def execSpillParcelSend (q : Fin 68) (s : State) : Host.Outcome State Fault Refusal :=
  act (fun b =>
    match (b.plz q).spill.find? fun s => !s.sent && !s.failed with
    | some k => if b.retired.contains q then b else b.spillTry q k
    | none => b) s

/-- HOLDING_RETRY (R87, R499): a held key tries again. -/
def execHoldingRetry (q : Fin 68) (s : State) : Host.Outcome State Fault Refusal :=
  act (fun b =>
    match (b.plz q).spill.find? fun s => !s.sent && s.failed with
    | some k => if b.retired.contains q then b else b.spillTry q k
    | none => b) s

/-- SPILL_WRITE_ACK (R32, R77, R80): the Stop acknowledges the oldest parcel; its entries are freed, and the slots of operands taken
meanwhile are freed in the Backstreet. -/
def execSpillWriteAck (q : Fin 68) (s : State) : Host.Outcome State Fault Refusal :=
  act (fun b =>
    let p := b.plz q
    if b.retired.contains q then b
    else match takeFirst (fun s : SpillKey => s.sent) p.spill with
    | none => b
    | some (k, rest) =>
      let b := (b.setPlz q { p with spill := rest }).freeSlots q k.taken
      let b := if k.ops.isEmpty then b.filterDown q k.key else b
      b.filterReset q) s

/-- FIRE_BUFFER_DRAIN (R88): the first packet whose PE has room moves into its queue. -/
def execFireBufferDrain (q : Fin 68) (s : State) : Host.Outcome State Fault Refusal :=
  act (fun b =>
    let p := b.plz q
    if !b.qRuns q then b
    else match takeFirst (fun e : Nat × FirePacket => decide (((b.q q).pe e.1).fireq.length < 32)) p.fireBuf with
    | some (e, rest) => (b.setPlz q { p with fireBuf := rest }).queueFire q e.1 e.2
    | none => b) s

/-- A write of QTRnn_PLZ_BS_BASE or _SIZE (R97): the occupancies, the pen positions and the filter return to 0, and the filter
then counts the keys not yet sent; parcels already sent change no count. What the spec leaves open here (DESIGN CHOICE, log 107): pen tokens
that have been read already are kept and looked up; a token parked for the pen keeps the write position it waits for; and a key whose
parcel is sent and not acknowledged leaves the spill buffer at once. -/
def Block.bsReconfig (b : Block) (q : Nat) (size : Bool) (value : Nat) : Block :=
  if b.retired.contains q then b
  else
    let b := b.setReg (qOff q (if size then 8 else 4)) (if size then value &&& 0x70F else value &&& 0xFFFFFFF)
    let p := b.plz q
    let keep := p.spill.filter fun s => !s.sent
    let b := b.setPlz q { p with
      bsOcc := 0, penWr := 0, penRd := 0, penCount := 0, noted := 0, filter := [], spill := keep, short := none }
    keep.foldl (fun b s => b.filterUp q s.key) b

end Sys2Proof.Machine
end

