-- ==== Sys2Proof/Machine/Avenue.lean ====
section
/-! DEFINITION. The Avenue (R216 to R223), injection (R41 to R51, R24, R27), the Roundabout (R231 to R234), and the iteration
gates beyond the Plaza (R227 to R230). -/

namespace Sys2Proof.Machine

-- Crossings and routes (R20, R216, R219)

/-- Number of a port, as AVENUE_LINK_DOWN.DIR counts them. -/
def portIdx : Port → Nat
  | .n => 0
  | .e => 1
  | .s => 2
  | .w => 3
  | .l0 => 4
  | .l1 => 5

/-- A Crossing of the mesh. -/
def Block.xing (b : Block) (x y : Nat) : Crossing := SMap.get b.ave.xings Crossing.empty (xk x y)
/-- Replaces a Crossing. -/
def Block.setXing (b : Block) (x y : Nat) (c : Crossing) : Block :=
  { b with ave := { b.ave with xings := SMap.put b.ave.xings (xk x y) c } }

/-- The Crossing a mesh port leads to (R216). -/
def neighbour (x y port : Nat) : Option (Nat × Nat) :=
  match port with
  | 0 => if 0 < y then some (x, y - 1) else none
  | 1 => if x < 8 then some (x + 1, y) else none
  | 2 => if y < 7 then some (x, y + 1) else none
  | 3 => if 0 < x then some (x - 1, y) else none
  | _ => none
/-- The port at the other end of a link. -/
def opposite (port : Nat) : Nat := (port + 2) % 4

/-- Index of an input buffer, or of an output's credits: four places a port, one for each virtual channel. -/
def bufKey (port vc : Nat) : Nat := 4 * port + vc
/-- Places of an input buffer by virtual channel (R217). -/
def vcPlaces (vc : Nat) : Nat := if vc = 2 then 4 else 8

/-- The writer Stop of the Quarter or Gate at a Crossing (R232). -/
def writerStop (x y : Nat) : Nat :=
  match quarterAt x y with
  | some p => p % 8
  | none => match gateAt x y with
    | some g => g
    | none => 0

/-- Where a flit is routed to: a Crossing and the local port it leaves by there (R219). -/
def Flit.target (f : Flit) : Nat × Nat × Nat :=
  if f.vc = 2 ∧ f.dstP = 0 then
    let s := stopXY (writerStop f.dstX f.dstY)
    (s.1, s.2, 5)
  else (f.dstX, f.dstY, 4 + f.dstP)

/-- The output port of a flit at a Crossing (R20). -/
def Flit.exit (f : Flit) (x y : Nat) : Nat :=
  let (dx, dy, lp) := f.target
  if x < dx then 1 else if dx < x then 3 else if y < dy then 2 else if dy < y then 0 else lp

/-- A header that is corrupt though its CRC passes (R57, R223). -/
def Flit.corrupt (f : Flit) (x y : Nat) : Bool :=
  decide (9 ≤ f.dstX) || decide (3 ≤ f.vc) || (f.exit x y == 5 && (stopAt x y).isNone) || (decide (f.exit x y < 4) && decide (15 ≤ f.hops))

/-- The unit whose counts take a token discarded at a Crossing: the Quarter or the Gate there. -/
def unitAt (x y : Nat) : Nat :=
  match quarterAt x y with
  | some p => p
  | none => match gateAt x y with
    | some g => 68 + g
    | none => 68

/-- Bits [191:160] of a flit: its route header without the CRC (R57). -/
def Flit.header (f : Flit) : Nat :=
  field f.dstX 31 28 + field f.dstY 27 25 + field f.dstP 24 24 + field f.vc 23 22 + field f.srcX 21 18 + field f.srcY 17 15 +
    field f.srcP 14 14 + field f.hops 13 10
/-- The CRC-16 that a flit asks for: over its header, then its word (R57). -/
def Flit.check (f : Flit) : Nat :=
  crc16 64 f.word.value.toNat (crc16 64 f.word.tag.toNat (crc16 16 f.word.ctrl.toNat (crc16 32 f.header 0xFFFF)))
/-- The flit with its CRC made afresh. -/
def Flit.seal (f : Flit) : Flit := { f with crc := f.check }
/-- The CRC of a flit passes. -/
def Flit.sound (f : Flit) : Bool := f.crc == f.check

/-- Puts flits behind an input buffer, their CRCs made (R57); a buffer that was empty has a new head. -/
def Crossing.push (c : Crossing) (now k : Nat) (fs : List Flit) : Crossing :=
  let old := SMap.get c.bufs [] k
  { c with bufs := SMap.put c.bufs k (old ++ fs.map Flit.seal), since := if old.isEmpty then SMap.put c.since k now else c.since }

/-- Takes n flits off the front of an input buffer. -/
def Crossing.pop (c : Crossing) (now k n : Nat) : Crossing :=
  { c with bufs := SMap.upd c.bufs [] k (·.drop n), since := SMap.put c.since k now }

/-- A flit goes out on a direction of a link: the number of the next one, modulo 64, and the replay buffer of the last 32 (R221). -/
def Crossing.sends (c : Crossing) (link : Nat) (f : Flit) : Crossing :=
  { c with
    sentNo := SMap.upd c.sentNo 0 link fun n => (n + 1) % 64
    sentLast := SMap.upd c.sentLast [] link fun l => (f.seal :: l).take 32 }

/-- A flit enters a Crossing from the unit on its local port (R57, R221): its link's replays start again. -/
def Block.enter (b : Block) (x y port vc : Nat) (f : Flit) : Block :=
  let c := b.xing x y
  b.setXing x y (({ c with replays := SMap.erase c.replays port }.sends (8 + port) f).push b.now (bufKey port vc) [f])

/-- Credits of a freed place go on their way back to the sender of a mesh link (R217). -/
def Block.freeUpstream (b : Block) (x y port vc n : Nat) : Block :=
  match neighbour x y port with
  | none => b
  | some (ux, uy) =>
    let u := b.xing ux uy
    b.setXing ux uy { u with freed := SMap.upd u.freed 0 (bufKey (opposite port) vc) (· + n) }

/-- An output has a credit for a virtual channel. -/
def Crossing.credit (c : Crossing) (port vc : Nat) : Bool := decide (SMap.get c.spent 0 (bufKey port vc) < vcPlaces vc)

/-- A Crossing holds VC0 tokens for a destination (R60). -/
def Crossing.holds (c : Crossing) (f : Flit) : Bool := c.held.any fun h => h.dst == xk f.dstX f.dstY && decide (0 < h.left)

-- Wakes (R23, R461)

/-- POWER_DISTd_STAT of a District. -/
def distStat (d : Nat) : Nat := 0x1000030 + 4 * d
/-- Time a wake takes from a level (R458). -/
def wakeNs (level : Nat) : Nat := if level = 1 then 40 else if level = 2 then 12000 else 180000

/-- A wake of a District is requested (R461): an entry under way is cancelled, a sleeping District starts to wake. Step 4 of an entry
into OFF and its end are one command. None wakes in SLEEP (R455). -/
def Block.wakeRequest (b : Block) (d : Nat) : Block :=
  if b.power.sleeping then b
  else if b.rf (distStat d) 0 0 = 1 then
    { b.setRf (distStat d) 0 0 0 with power := { b.power with due := SMap.erase b.power.due d } }
  else if b.distLevel d = 0 ∨ b.rf (distStat d) 1 1 = 1 then b
  else
    { b.setRf (distStat d) 1 1 1 with
      power := { b.power with due := SMap.put b.power.due d (b.now + wakeNs (b.distLevel d)) } }

-- Injection (R41, R43, R50)

/-- The rewrites of R50 on a VC0 token: the token, and which of the counted ones were made (bits 0 TAG, 1 KIND, 2 FMT, 3 END). -/
def fixToken (t : Token) (so : Bool) : Token × List Nat :=
  let r := (if t.tag.toNat % 4 ≠ 0 then [0] else []) ++ (if 10 ≤ t.kind then [1] else []) ++ (if t.fmt = 7 then [2] else []) ++
    (if t.last then [] else [3])
  let t := { t with tag := tagSet t.tag 1 0 0 }
  let t := if 10 ≤ t.kind then t.setCtrl 15 12 0 else t
  let t := if t.fmt = 7 then t.setCtrl 11 9 6 else t
  (((t.setCtrl 7 7 1).setCtrl 6 6 (b2n so)), r)

/-- The rewrites are counted, each in its own counter, and TOKEN_FIXED is raised once (R51). -/
def Block.countFixes (b : Block) (x y port : Nat) (rs : List Nat) : Block :=
  if rs.isEmpty then b
  else (rs.foldl (fun b r => b.bump (aveCnt r)) b).raise 3 (x + field y 6 4 + field port 7 7 + field (bitsOf rs) 11 8)

/-- NODEMAP cache of an injection point. -/
def Block.inj (b : Block) (unit : Nat) : Inj := SMap.get b.ave.inj ⟨[], none⟩ unit
/-- Replaces it. -/
def Block.setInj (b : Block) (unit : Nat) (i : Inj) : Block := { b with ave := { b.ave with inj := SMap.put b.ave.inj unit i } }

/-- A Gate's side of the Avenue. -/
def GateBox.empty : GateBox := { inbox := [], starts := [], out := [], vc1In := [], penWr := 0, penRd := 0 }
/-- The Gate box of Gate g. -/
def Block.gate (b : Block) (g : Nat) : GateBox := SMap.get b.ave.gates GateBox.empty g
/-- Replaces it. -/
def Block.setGate (b : Block) (g : Nat) (x : GateBox) : Block := { b with ave := { b.ave with gates := SMap.put b.ave.gates g x } }

/-- What routing a token at its injection point comes to: a Crossing, a wait, or a discard with the block as it then stands. -/
inductive Routed where
  | to (x y : Nat)
  | wait (b : Block)
  | gone (b : Block)

/-- A token addressed to an UNMAPPED logical Quarter, or without a placement in its image, is discarded (R27, R43). -/
def Block.misroute (b : Block) (unit : Nat) (t : Token) (lq : Nat) : Block :=
  ((b.bump 0x144).discard unit t).contextFault unit 1 t.ctx lq t.tag t.ctrl.toNat

/-- A token for a node of this module whose context has no current placement (R43). -/
def Block.unplaced (b : Block) (t : Token) : Bool :=
  nodeKind t.kind && tagDev t.tag == b.ownId && !(match b.ctx? t.ctx with
    | some x => x.placed
    | none => false)

/-- The route of a token (R41, R43, R47). -/
def Block.routeToken (b : Block) (unit : Nat) (t : Token) : Routed :=
  if t.kind = 8 then
    let c := xyOf (tagNode t.tag % 128)
    .to c.1 c.2
  else if tagDev t.tag ≠ b.ownId then .to 8 4
  else if t.kind = 4 then .to 8 2
  else if t.kind = 5 then .to 8 6
  else if t.kind = 7 then .to 8 0
  else match b.ctx? t.ctx with
    | none => .gone ((b.bump (aveCnt 13)).discard unit t)
    | some x =>
      if !x.placed then .gone ((b.bump (aveCnt 13)).discard unit t)
      else
        let i := b.inj unit
        match i.cache.find? fun w => w.ctx = x.desc.image ∧ w.node = tagNode t.tag with
        | none => .wait (b.setInj unit { i with miss := some (x.desc.image, tagNode t.tag) })
        | some w =>
          match (wordGroup w.word).bind fun g => SMap.find? x.groups g with
          | none => .gone (b.misroute unit t 0xFFFF)
          | some lq => match b.phys lq with
            | none => .gone (b.misroute unit t lq)
            | some p => let c := xyOf p
                        .to c.1 c.2

/-- A VC0 token at its injection point: it waits with the block as it stands, or leaves the point, as a flit in the Crossing's L0
buffer or discarded. `fromQ` is the Quarter it comes from, `feed` a token that replay feeds. -/
def Block.injectToken (b : Block) (unit : Nat) (so : Bool) (fromQ : Option Nat) (feed : Bool) (t0 : Token) : Option Block × Block :=
  let xy := if unit < 68 then xyOf unit else gateXY (unit - 68)
  let c := b.xing xy.1 xy.2
  let k := bufKey 4 0
  let (t, rs) := fixToken t0 so
  let t := if 68 ≤ unit ∧ t.kind ≠ 8 then t.setCtrl 2 0 (b.gEpoch (unit - 68)) else t
  if b.migHeld t || (!feed && b.rollHeld t fromQ) || decide (8 ≤ (SMap.get c.bufs [] k).length) || c.down.contains 4 then (none, b)
  else
    let counted (b : Block) : Block :=
      let b := if 68 ≤ unit ∧ t.kind ≠ 8 then b.emit unit t.ctx else b
      b.countFixes xy.1 xy.2 0 rs
    match (counted b).routeToken unit t with
    | .wait _ => match b.routeToken unit t with
      | .wait b => (none, b)
      | _ => (none, b)
    | .gone b => (some b, b)
    | .to dx dy =>
      let f : Flit := { word := t, dstX := dx, dstY := dy, dstP := 0, vc := 0, srcX := xy.1, srcY := xy.2, srcP := 0, hops := 0,
                        ord := 0, esc := 0 }
      let b := (counted b).enter xy.1 xy.2 4 0 f
      (some b, b)

/-- The next token that replay feeds at a unit (R438, R439, step 5), and the block without it. -/
def Block.feedNext (b : Block) (unit : Nat) : Option (Token × Block) :=
  match b.cont.roll with
  | none => none
  | some r =>
    if r.step < 5 then none
    else match SMap.get r.feed [] unit with
    | [] => none
    | t :: ts =>
      if unit == 68 && t.kind == 6 && decide (b.ctxState t.ctx < 4) then none
      else some (t, { b with cont := { b.cont with roll := some { r with
        feed := if ts.isEmpty then SMap.erase r.feed unit else SMap.put r.feed unit ts } } })

/-- Replay feeds the next token of a unit; none where there is none to feed. -/
def Block.feedInject (b : Block) (unit : Nat) : Option Block :=
  match b.feedNext unit with
  | none => none
  | some (t, b1) => some (match b1.injectToken unit t.so (if unit < 68 then some unit else none) true t with
    | (some b2, _) => b2
    | (none, b2) => { b with ave := b2.ave })

/-- The first token of a Gate's list enters the Avenue; while a rollback holds it, the Gate waits (R244, R439), so that one source's
tokens keep their order (R59). The last one of an INJECT job completes it (R358, R360). -/
def Block.gateInject (b : Block) (g : Nat) (so : Bool) (ts : List (Token × Option (Nat × Nat)))
    (put : GateBox → List (Token × Option (Nat × Nat)) → GateBox) : Block :=
  match ts with
  | [] => b
  | (t, job) :: rest =>
    if b.rollHeld t none then b
    else match (b.setGate g (put (b.gate g) rest)).injectToken (68 + g) so none false t with
    | (some b1, _) => match job with
      | some (r, index) =>
        -- at the Colir Gate the pair names the port whose TOKEN buffer has a free place again (R303)
        if g = 2 then b1.setCport r { b1.cport r with retT := (b1.cport r).retT + 1 }
        else match (b1.sq r).jobs.find? fun j => j.index = index with
        | some j => b1.finishJob r index j.status j.result j.detail
        | none => b1
      | none => b1
    | (none, b1) => { b with ave := { b1.ave with gates := b.ave.gates } }

/-- A Gate injects: what replay feeds first, then a CTL_START token, then the tokens of its sources (R264, R360, R439). -/
def Block.gateNext (b : Block) (g : Nat) : Block :=
  match b.feedInject (68 + g) with
  | some b => b
  | none =>
    let x := b.gate g
    if !x.starts.isEmpty then
      b.gateInject g false (x.starts.map fun t => (t, none)) fun y l => { y with starts := l.map (·.1) }
    else b.gateInject g true x.out fun y l => { y with out := l }

/-- The SEND that a slot holds, offered to its PE's outbound lane (R43, R103, R141, R362, R434 kind 9): it repeats an output already
produced; or the lane is full, or a migration or a rollback holds it, or the word of its NODE is awaited; or it goes, with one emission
counted, into the lane, or away as stale. A token sent under another CTX is journaled first. -/
def Block.sendOffer (b : Block) (qn pn sn : Nat) : Start :=
  let q := b.q qn
  let sl := q.slot pn sn
  let j := 4 + pn % 3
  match sl.send with
  | none => .none
  | some (t, nc) =>
    let sent (b : Block) := b.setQ qn ((b.q qn).setSlot pn sn { sl with send := none })
    if !b.qRuns qn then .none
    else match (if nc then b.suppressOut t else none) with
    | some b => .go (sent b)
    | none =>
      if (q.lane j).full || b.migHeld t || b.rollHeld t (some qn) then .none
      else match b.routeToken qn t with
      | .wait b1 => .held fun _ => b1
      | _ =>
        if b.unplaced t then
          .go ((((sent b).emit qn t.ctx).bump (aveCnt 13)).discard qn t)
        else if nc && !b.journalRoom (.cross t (tagCtx sl.tag)) then .held Block.ledgerWait
        else
          let b := (sent (if nc then b.journal qn (.cross t (tagCtx sl.tag)) else b)).emit qn t.ctx
          let l := { (b.q qn).lane j with lastPe := pn }
          if l.skip then .go (((b.setQ qn ((b.q qn).setLane j { l with skip := !t.last, prodMid := false })).bump (laneReg qn j 20)).discard qn t)
          else .go (b.putLane qn j (l.push { tok := t, pt := pointOf (xyOf qn) 0 }))

/-- A PE's turn in the round robin of its outbound lane (R103): no PE of the lane between the one served last and it has a SEND that the
lane can take. -/
def Block.sendTurn (b : Block) (qn pn : Nat) : Bool :=
  let last := ((b.q qn).lane (4 + pn % 3)).lastPe
  let before := ((List.range ((pn + 15 - last) % 16)).map fun i => (last + 1 + i) % 16).filter fun p => p % 3 = pn % 3
  !(before.any fun p => (List.range 8).any fun n => (b.sendOffer qn p n).can)

/-- SEND_COMPLETE (R43, R91, R103, R141, R362). -/
def execSendComplete (site : Site) (s : State) : Host.Outcome State Fault Refusal :=
  act (fun b => if b.sendTurn site.q site.pe then (b.sendOffer site.q site.pe site.slot).result b else b) s

/-- A word of an outbound lane enters the Avenue (R50, R99, R425). -/
def Block.laneInject (b : Block) (q j : Nat) (upset : Bool) : Block :=
  let lane := 4 + j
  match (b.q q).laneHead lane with
  | none => b
  | some h =>
    let xy := xyOf q
    if (b.xing xy.1 xy.2).down.contains 4 then b
    else if j = 3 then
      let k := bufKey 4 1
      if 8 ≤ (SMap.get (b.xing xy.1 xy.2).bufs [] k).length then b
      else match b.takeWord q lane upset with
      | (b1, some w) =>
        let f : Flit := { word := w.tok, dstX := w.pt / 2 % 16, dstY := w.pt / 2 / 16, dstP := w.pt % 2, vc := 1, srcX := xy.1,
                          srcY := xy.2, srcP := 0, hops := 0, ord := 0, esc := 0 }
        b1.enter xy.1 xy.2 4 1 f
      | (_, none) => b
    else if h.tok.kind = 8 then
      match b.takeWord q lane upset with
      | (b1, some w) => (b1.bump (contCnt 8)).consume q w.tok.ctx
      | (_, none) => b
    else match b.takeWord q lane upset with
    | (b1, some w) =>
      match b1.injectToken q false (some q) false w.tok with
      | (some b2, _) => b2
      | (none, b2) => { b with ave := b2.ave }
    | (_, none) => b

/-- The next hardware MARKER enters the Avenue at its sender's Crossing, and its sender counts one emission (R91, R424, R425). -/
def Block.markerInject (b : Block) : Block :=
  match b.cont.outbox with
  | [] => b
  | (pt, t) :: rest =>
    let x := pt / 2 % 16
    let y := pt / 2 / 16
    let c := b.xing x y
    let k := bufKey 4 0
    if 8 ≤ (SMap.get c.bufs [] k).length ∨ c.down.contains 4 then b
    else
      let d := xyOf (tagNode t.tag % 128)
      let f : Flit := { word := t, dstX := d.1, dstY := d.2, dstP := 0, vc := 0, srcX := x, srcY := y, srcP := 0, hops := 0,
                        ord := 0, esc := 0 }
      (({ b with cont := { b.cont with outbox := rest } }).emit (bits t.value.toNat 15 8) t.ctx).enter x y 4 0 f

/-- TOKEN_INJECT (R41, R43, R50, R51, R425). -/
def execTokenInject (point : InjPoint) (s : State) : Host.Outcome State Fault Refusal :=
  actUp (fun b =>
    match point with
    | .lane q j upset =>
      if b.retired.contains q then b
      else match (if j = 0 then b.feedInject q else none) with
      | some b => b
      | none => b.laneInject q j upset
    | .host => b.gateNext 0
    | .conv => b.gateNext 1
    | .colir => b.gateNext 2
    | .marker => b.markerInject) s

/-- The unit of an injection point. -/
def pointUnit : InjPoint → Nat
  | .lane q _ _ => q
  | .host => 68
  | .conv => 69
  | .colir => 70
  | .marker => 68

/-- NODEMAP_MISS_FILL (R362): the word an injection point waits for arrives. -/
def execNodemapMissFill (point : InjPoint) (s : State) : Host.Outcome State Fault Refusal :=
  actUp (fun b =>
    let u := pointUnit point
    let i := b.inj u
    match i.miss with
    | none => b
    | some (image, node) => (b.readNodemap image node).setInj u { cache := cachePut i.cache image node (b.nodemap image node), miss := none }) s

-- Delivery

/-- The lane of an inbound VC0 word, by its injection point (R99). -/
def inLane (sx sy sp : Nat) : Nat :=
  if sp = 1 then 3
  else match gateAt sx sy with
    | some g => if g < 2 then 2 else 3
    | none => (sx + sy) % 2

/-- A token for another module reaches the Colir Gate (R315, R438): it waits for its port, or has no route. -/
def Block.toColir (b : Block) (t : Token) : Block :=
  match b.suppressOut t with
  | some b => b.consume 70 t.ctx
  | none =>
    match b.colirRoute (tagDev t.tag) with
    | some p => let c := b.cport p
                b.setCport p { c with tokQ := c.tokQ ++ [(t, 0, none)] }
    | none => ((b.bump (colirCnt 0)).consume 70 t.ctx).contextFault 70 7 t.ctx 0xFFFF t.tag t.ctrl.toNat

/-- Slots of a Gate's pen. -/
def gatePenSlots : Nat := gatePenBytes / 32

/-- A Gate takes its next token: its pen, as far as it has been told of writes, is read ahead of new VC0 tokens, and a source-ordered VC0
token waits until the pen is read (R85, R234); tokens behind it wait with it (DESIGN CHOICE, log 108). Taking a VC0 word gives its credit
back (R217). -/
def Block.gateTake (b : Block) (g : Nat) : Option (Block × Token) :=
  let x := b.gate g
  if x.penCount ≠ 0 then
    let (b, bs, bad) := b.stopRead (b.gatePenBase g + 32 * (x.penRd % gatePenSlots)) 32
    let t := Token.ofBytes bs
    some (b.setGate g { x with penRd := x.penRd + 1, penCount := x.penCount - 1 }, if bad then t.poisoned else t)
  else match x.inbox with
  | [] => none
  | t :: ts =>
    if t.so && decide (x.penRd < x.penWr) then none
    else
      let xy := gateXY g
      let c := b.xing xy.1 xy.2
      some ((b.setGate g { x with inbox := ts }).setXing xy.1 xy.2 { c with freed := SMap.upd c.freed 0 (bufKey 4 0) (· + 1) }, t)

/-- The Colir Gate routes what it holds; the list's length bounds the number of tokens. -/
def Block.colirDrain (b : Block) : Nat → Block
  | 0 => b
  | n + 1 => match b.gateTake 2 with
    | some (b, t) => (b.toColir t).colirDrain n
    | none => b

/-- A VC0 word reaches the Gate at its destination. -/
def Block.toGate (b : Block) (g : Nat) (t : Token) : Block :=
  let x := b.gate g
  let b := b.setGate g { x with inbox := x.inbox ++ [t] }
  if g = 2 then b.colirDrain (x.inbox.length + 1 + x.penCount) else b

/-- A word leaves a Crossing on L0 (R23, R32, R99, R102, R217). A Gate takes a VC1 word at once (R220). -/
def Block.deliver (b : Block) (x y vc : Nat) (f : Flit) : Block :=
  match quarterAt x y with
  | some p =>
    if b.retired.contains p then if vc = 1 then b else (b.bump (aveCnt 14)).discard p f.word
    else
      let q := b.q p
      let a : Arrival := { lane := if vc = 1 then 8 else inLane f.srcX f.srcY f.srcP,
                           word := { tok := f.word, pt := 2 * xk f.srcX f.srcY + f.srcP } }
      let b := b.setQ p { q with arriving := q.arriving ++ [a] }
      let c := b.xing x y
      b.setXing x y { c with spent := SMap.upd c.spent 0 (bufKey 4 vc) (· + 1) }
  | none => match gateAt x y with
    | some g =>
      if vc = 1 then let w := b.gate g
                     b.setGate g { w with vc1In := w.vc1In ++ [f.word] }
      else
        let c := b.xing x y
        (b.setXing x y { c with spent := SMap.upd c.spent 0 (bufKey 4 0) (· + 1) }).toGate g f.word
    | none => b

/-- A Quarter's inbound lane has room for a word of a flit: its fill bank does not refuse it, or skip-to-END discards it (R105, R109). -/
def Block.laneRoom (b : Block) (p vc : Nat) (f : Flit) : Bool :=
  let q := b.q p
  let j := if vc = 1 then 8 else inLane f.srcX f.srcY f.srcP
  (q.lane j).skip || decide ((q.lane j).fill.length + (q.arriving.filter fun a => a.lane = j).length < 64)

/-- PEN_NOTICE (R84, R234): a notice of a pen write reaches its Quarter or its Gate (68 to 71), and the pen count rises. A sleeping District
leaves it in the lane. -/
def execPenNotice (q : Fin 72) (s : State) : Host.Outcome State Fault Refusal :=
  act (fun b =>
    if 68 ≤ q.val then
      let x := b.gate (q - 68)
      if x.noted = 0 then b
      else
        let b := b.setGate (q - 68) { x with noted := x.noted - 1, penCount := x.penCount + 1 }
        if q.val = 70 then b.colirDrain (x.inbox.length + 1 + x.penCount) else b
    else
      let p := b.plz q
      if p.noted = 0 ∨ !b.qAwake q then b
      else b.setPlz q { p with noted := p.noted - 1, penCount := p.penCount + 1 }) s

/-- The input ports in the order in which a virtual channel at an output serves them (R218). -/
def turns (last : Nat) : List Nat := (List.range 6).map fun i => (last + 1 + i) % 6

/-- Whether an input's head may leave by an output now (R23, R60, R105, R217). -/
def Block.mayLeave (b : Block) (x y out vc i : Nat) : Bool :=
  let c := b.xing x y
  match SMap.get c.bufs [] (bufKey i vc) with
  | [] => false
  | f :: _ =>
    f.exit x y == out && !f.corrupt x y && !(vc == 0 && c.holds f) &&
    (if out < 4 then
        match neighbour x y out with
        | some (nx, ny) => c.credit out vc && !(b.xing nx ny).down.contains (opposite out)
        | none => false
      else if out = 5 then c.credit 5 vc
      else match quarterAt x y with
        | some p => b.retired.contains p || (c.credit 4 vc && b.laneRoom p vc f && (vc == 1 || b.distLevel (distOf p) == 0))
        | none => vc == 1 || c.credit 4 vc)

/-- The input served next on a virtual channel of an output: an output part-way through a parcel serves that parcel's input alone (R56,
R101). Where an output has sent nothing yet, the round robin starts at port N, and VC1 is served before VC0: the spec gives no start
(R218; DESIGN CHOICE, log 109). -/
def Block.chosen (b : Block) (x y out vc : Nat) : Option Nat :=
  match (if vc = 1 then SMap.find? (b.xing x y).vc1Hold out else none) with
  | some i => if b.mayLeave x y out vc i then some i else none
  | none => (turns (SMap.get (b.xing x y).turn 5 (bufKey out vc))).find? fun i => b.mayLeave x y out vc i

/-- The virtual channel an output serves next (R218). -/
def Block.arbitrate (b : Block) (x y out : Nat) : Option Nat :=
  let c := b.xing x y
  let w (v : Nat) : Bool := (b.chosen x y out v).isSome
  if w 2 && (decide (SMap.get c.vcRun 0 out < 3) || !(w 0 || w 1)) then some 2
  else if w 1 && w 0 then some (if SMap.get c.vcLast 0 out = 1 then 0 else 1)
  else if w 1 then some 1
  else if w 0 then some 0
  else none

/-- A replay on the link into a Crossing (R221, R222): it is counted and reported, and after 16 in a row the link is DOWN. -/
def Block.replay (b : Block) (x y port : Nat) (injected : Bool) : Block :=
  let c := b.xing x y
  let unit := x + (y <<< 4) + (port <<< 8)
  let n := SMap.get c.replays 0 port
  if n < 16 then
    ((b.setXing x y { c with replays := SMap.put c.replays port (n + 1) }).bump (aveCnt 4)).detect 2 unit 0 injected
  else
    let b := b.setXing x y { c with down := addNew c.down port }
    let b := if b.rf 0x500020 31 31 = 1 then b else b.setReg 0x500020 (2 ^ 31 + field x 10 7 + field y 6 4 + port)
    b.detect 48 unit 0 injected

/-- A head flit with a corrupt header is discarded (R223); a token in it counts as consumed, and the END of a parcel ends it for its
outputs. -/
def Block.badHeader (b : Block) (x y i vc : Nat) (f : Flit) : Block :=
  let c := (b.xing x y).pop b.now (bufKey i vc) 1
  let c := if vc = 1 ∧ f.word.last then { c with vc1Hold := c.vc1Hold.filter fun e => e.2 ≠ i } else c
  let b := (b.setXing x y c).freeUpstream x y i vc 1
  -- the Crossing the flit came from stands in for detail B, which the record does not show (R402, R409)
  let b := b.bump (aveCnt 5)
  (if vc = 1 then b else b.discard (unitAt x y) f.word).wire
    { code := 32, unit := x + (y <<< 4) + (i <<< 8), detailA := f.word.tag, detailB := BitVec.ofNat 64 (xk f.srcX f.srcY),
      injected := false, dry := false, ctxs := if vc = 1 then [] else [f.word.ctx] }

/-- A flit leaves an input buffer for an output, with HOPS increased on a mesh link (R57, R217, R218). -/
def Block.sendFlit (b : Block) (x y out vc i : Nat) (f : Flit) : Block :=
  let c := b.xing x y
  let c := c.pop b.now (bufKey i vc) 1
  let c := { c with
    turn := SMap.put c.turn (bufKey out vc) i
    vcRun := SMap.put c.vcRun out (if vc = 2 then SMap.get c.vcRun 0 out + 1 else 0)
    vcLast := if vc = 2 then c.vcLast else SMap.put c.vcLast out vc
    vc1Hold := if vc ≠ 1 then c.vc1Hold else if f.word.last then SMap.erase c.vc1Hold out else SMap.put c.vc1Hold out i }
  let c := c.sends out { f with hops := if out < 4 then f.hops + 1 else f.hops }
  let own := vc == 2 && f.esc == xk x y + 1
  let b := b.setXing x y c
  let b := if own then b else b.freeUpstream x y i vc 1
  match neighbour x y out with
  | some (nx, ny) =>
    let c := b.xing x y
    let b := b.setXing x y { c with spent := SMap.upd c.spent 0 (bufKey out vc) (· + 1) }
    let m := (b.xing nx ny).push b.now (bufKey (opposite out) vc) [{ f with hops := f.hops + 1 }]
    b.setXing nx ny { m with replays := SMap.erase m.replays (opposite out) }
  | none =>
    if out = 5 then
      match stopAt x y with
      | some s =>
        -- a Stop takes a VC1 word at once (R220), and its writer a VC2 word
        if vc = 2 then
          let c := b.xing x y
          let b := b.setXing x y { c with spent := SMap.upd c.spent 0 (bufKey 5 vc) (· + 1) }
          { b with ave := { b.ave with writers := SMap.upd b.ave.writers [] s (· ++ [f]) } }
        else b
      | none => b
    else b.deliver x y vc f

/-- FLIT_FORWARD (R20, R23, R32, R57, R60, R217 to R219, R223): an output port of a Crossing sends one flit of a virtual channel, where
arbitration gives it the port. A corrupt header at a head is found first; a word for a sleeping District asks for its wake. -/
def execFlitForward (x : Fin 9) (y : Fin 8) (port : Port) (vc : Fin 3) (s : State) : Host.Outcome State Fault Refusal :=
  actUp (fun b =>
    let out := (portIdx port)
    let c := b.xing x y
    match (List.range 6).find? fun i => match SMap.get c.bufs [] (bufKey i vc) with
        | f :: _ => f.corrupt x y
        | [] => false with
    | some i => match SMap.get c.bufs [] (bufKey i vc) with
      | f :: _ => b.badHeader x y i vc f
      | [] => b
    | none =>
      let b := match quarterAt x y with
        | some p =>
          if out = 4 ∧ vc.val = 0 ∧ b.distLevel (distOf p) ≠ 0 && !b.retired.contains p &&
              ((List.range 6).any fun i => match SMap.get c.bufs [] (bufKey i 0) with
                | f :: _ => f.exit x y == 4
                | [] => false) then b.wakeRequest (distOf p) else b
        | none => b
      if b.arbitrate x y out ≠ some vc.val then b
      else match b.chosen x y out vc with
      | none => b
      | some i =>
        match SMap.get c.bufs [] (bufKey i vc) with
        | [] => b
        | f :: _ =>
          match neighbour x y out with
          | none => b.sendFlit x y out vc i f
          | some (nx, ny) =>
            match b.inject 5 (nx + (ny <<< 4)) (opposite out) with
            | (b, some (false, _)) => b.replay nx ny (opposite out) true
            | (b, some (true, _)) => (b.dryDetect 2 (nx + (ny <<< 4) + (opposite out <<< 8)) 0).sendFlit x y out vc i f
            | (b, none) => if f.sound then b.sendFlit x y out vc i f else b.replay nx ny (opposite out) false) s

/-- CREDIT_RETURN (R217): a credit of an output port and virtual channel is back at its sender. -/
def execCreditReturn (x : Fin 9) (y : Fin 8) (port : Port) (vc : Fin 3) (s : State) : Host.Outcome State Fault Refusal :=
  actUp (fun b =>
    let c := b.xing x y
    let k := bufKey (portIdx port) vc
    let n := SMap.get c.freed 0 k
    if n = 0 then b
    else b.setXing x y { c with freed := SMap.put c.freed k (n - 1), spent := SMap.put c.spent k (SMap.get c.spent 0 k - 1) }) s

/-- LINK_REPLAY (R221, R222): the CRC of a flit that arrives on a port fails, and the sender replays it. It takes a flit under way. -/
def execLinkReplay (x : Fin 9) (y : Fin 8) (port : Port) (s : State) : Host.Outcome State Fault Refusal :=
  actUp (fun b =>
    let c := b.xing x y
    if c.down.contains (portIdx port) then b
    else match neighbour x y (portIdx port) with
    | some (ux, uy) =>
      if [0, 1, 2].any fun v => (b.chosen ux uy (opposite (portIdx port)) v).isSome then b.replay x y (portIdx port) false else b
    | none =>
      if port = .l0 ∨ (port = .l1 ∧ (stopAt x y).isSome) then b.replay x y (portIdx port) false else b) s

-- The Roundabout (R60, R231 to R233)

/-- ROUND_WAIT in ns. -/
def Block.roundWait (b : Block) : Nat := cyclesNs (max (b.rf 0x500004 19 0) 64)

/-- VC0 flits at the front of an input buffer move onto VC2 (R60, R231): they are counted, and the destinations of source-ordered
ones are held until the writer has acknowledged them. -/
def Block.escape (b : Block) (x y port n : Nat) : Block :=
  let c := b.xing x y
  let fs := (SMap.get c.bufs [] (bufKey port 0)).take n
  let ord := fs.any fun f => ordered f.word
  let up (f : Flit) : Flit := { f with vc := 2, hops := 0, esc := xk x y + 1 }
  let hold (hs : List Hold) (f : Flit) : List Hold :=
    let d := xk f.dstX f.dstY
    if hs.any fun h => h.dst == d then hs.map fun h => if h.dst = d then { h with left := h.left + 1 } else h
    else hs ++ [{ dst := d, left := 1 }]
  let c := (c.pop b.now (bufKey port 0) n).push b.now (bufKey port 2) (fs.map up)
  let c := if ord then { c with held := fs.foldl hold c.held } else c
  ((b.setXing x y c).freeUpstream x y port 0 n).bump (aveCnt 6) n

/-- ROUNDABOUT_ESCAPE (R23, R60, R231): the head of a VC0 input buffer has waited for ROUND_WAIT. -/
def execRoundaboutEscape (x : Fin 9) (y : Fin 8) (port : Port) (s : State) : Host.Outcome State Fault Refusal :=
  actUp (fun b =>
    let c := b.xing x y
    let k := bufKey (portIdx port) 0
    match SMap.get c.bufs [] k with
    | [] => b
    | f :: fs =>
      if b.rf 0x500000 0 0 = 0 || c.holds f || f.corrupt x y then b
      else
        let b := b.passTo (SMap.get c.since 0 k + b.roundWait)
        b.escape x y (portIdx port) (if ordered f.word then fs.length + 1 else 1)) s

/-- The writer acknowledges a token to the Crossing at which it left VC0 (R60, R233). A head that was held for the destination starts its
ROUND_WAIT count once the last is acknowledged. -/
def Block.ackEscape (b : Block) (f : Flit) : Block :=
  if f.esc = 0 then b
  else
    let x := (f.esc - 1) % 16
    let y := (f.esc - 1) / 16
    let c := b.xing x y
    let hs := c.held.map fun h => if h.dst = xk f.dstX f.dstY then { h with left := h.left - 1 } else h
    let c1 := { c with held := hs.filter fun h => decide (0 < h.left) }
    let freed (i : Nat) : Bool := match SMap.get c.bufs [] (bufKey i 0) with
      | h :: _ => c.holds h && !c1.holds h
      | [] => false
    b.setXing x y { c1 with since := ((List.range 6).filter freed).foldl (fun m i => SMap.put m (bufKey i 0) b.now) c1.since }

/-- Writes one token of the Roundabout into its destination's pen, or discards it for a retired Quarter; none where the pen
refuses it (R32, R84, R86, R233, R430). -/
def Block.penWrite (b : Block) (f : Flit) : Option Block :=
  match quarterAt f.dstX f.dstY with
  | some p =>
    let z := b.plz p
    let slots := b.penBytes p / 32
    if b.retired.contains p then some ((b.bump (aveCnt 14)).discard p f.word)
    else if b.rollDiscards p f.word then some (b.discard p f.word)
    else if slots ≤ z.penWr - z.penRd ∨ b.undoFull p then none
    else
      let b := b.stopWrite (b.penBase p + 32 * (z.penWr % slots)) (slotBytes { tok := f.word, pos := 0, ord := f.ord })
      let b := b.setPlz p { z with penWr := z.penWr + 1, noted := z.noted + 1, penRun := false }
      some (b.chanCopy p f.word (senderOf (2 * xk f.srcX f.srcY + f.srcP)))
  | none => match gateAt f.dstX f.dstY with
    | some g =>
      let w := b.gate g
      if gatePenSlots ≤ w.penWr - w.penRd then none
      else
        let b := b.stopWrite (b.gatePenBase g + 32 * (w.penWr % gatePenSlots)) (slotBytes { tok := f.word, pos := 0, ord := f.ord })
        some (b.setGate g { w with penWr := w.penWr + 1, noted := w.noted + 1 })
    | none => some b

/-- A pen refuses a write (R86): PEN_FULL, and the event once a run. -/
def Block.penRefuse (b : Block) (f : Flit) : Block :=
  match quarterAt f.dstX f.dstY with
  | some p =>
    let z := b.plz p
    if b.penBytes p / 32 ≤ z.penWr - z.penRd then
      let b := b.setRf (qOff p 0xC) 1 1 1
      if z.penRun then b else (b.setPlz p { z with penRun := true }).raise 7 p
    else b
  | none => b

/-- The writer's first token whose pen takes it is written; tokens behind a refused one for the same pen wait with it. -/
def Block.penScan (b : Block) (stop : Nat) (kept : List Flit) : List Flit → Block
  | [] => b
  | f :: fs =>
    if kept.any fun g => xk g.dstX g.dstY == xk f.dstX f.dstY then b.penScan stop (kept ++ [f]) fs
    else match b.penWrite f with
    | none => (b.penRefuse f).penScan stop (kept ++ [f]) fs
    | some b =>
      let b := { b with ave := { b.ave with writers := SMap.put b.ave.writers stop (kept ++ fs) } }
      let xy := stopXY stop
      let c := b.xing xy.1 xy.2
      (b.setXing xy.1 xy.2 { c with freed := SMap.upd c.freed 0 (bufKey 5 2) (· + 1) }).ackEscape f

/-- PEN_WRITE (R84, R86, R233, R234): a Backstreet writer writes a token into its destination's pen and acknowledges it. -/
def execPenWrite (stop : Fin 8) (s : State) : Host.Outcome State Fault Refusal :=
  actUp (fun b => b.penScan stop [] (SMap.get b.ave.writers [] stop)) s

-- Iteration gates (R227 to R230)

/-- Internal lookups of a Quarter for indices of a gate's entry node. -/
def Block.lookups (b : Block) (q : Nat) (g : GateEntry) (idxs : List Nat) : Block :=
  let p := b.plz q
  b.setPlz q { p with internal := p.internal ++ idxs.map fun i => mkTag b.ownId g.ctx g.entry (i % 2 ^ 18) 0 }

/-- BASE advances over the retired indices (R227); the map's length bounds the advance. -/
def advanceBase : Nat → GateEntry → GateEntry
  | 0, g => g
  | n + 1, g => if g.map.contains g.base then
      advanceBase n { g with map := g.map.filter fun i => i ≠ g.base, base := (g.base + 1) % 2 ^ 18 } else g

/-- A retire word acts on one gate entry (R227, R228). -/
def Block.retireAt (b : Block) (q e i : Nat) (g : GateEntry) : Block :=
  match gateBound g.stream g.kset with
  | none => b
  | some k =>
    if k ≤ (i + 2 ^ 18 - g.base) % 2 ^ 18 then b.bump (aveCnt 9)
    else
      let g1 := { g with map := addNew g.map i, since := g.since + 1 }
      let g2 := advanceBase g1.map.length g1
      let n := (g2.base + 2 ^ 18 - g.base) % 2 ^ 18
      (b.setQ q { b.q q with gates := SMap.put (b.q q).gates e g2 }).lookups q g2
        ((List.range n).map fun d => g.base + g.know + d)

/-- RETIRE_WORD (R227): the next retire word reaches a Quarter. -/
def execRetireWord (q : Fin 68) (s : State) : Host.Outcome State Fault Refusal :=
  actUp (fun b =>
    let qq := b.q q
    match qq.retireIn with
    | [] => b
    | tag :: rest =>
      if !b.qRuns q then b
      else
        let b := b.setQ q { qq with retireIn := rest }
        qq.gates.foldl (fun b e =>
          if e.2.valid && e.2.ctx == tagCtx tag && e.2.exit == tagNode tag then b.retireAt q e.1 (tagIdx tag) e.2 else b) b) s

/-- K_NOW of a gate changes; a wider window looks up the indices it newly admits (R230). -/
def Block.setKnow (b : Block) (q e know : Nat) (g : GateEntry) : Block :=
  (b.setQ q { b.q q with gates := SMap.put (b.q q).gates e { g with know := know } }).lookups q g
    ((List.range (know - g.know)).map fun d => g.base + g.know + d)

/-- The valid entries of every Quarter that is not retired, with the Quarter and the entry number. -/
def Block.allGates (b : Block) : List (Nat × Nat × GateEntry) :=
  b.qs.flatMap fun e => if b.retired.contains e.1 then [] else
    (e.2.gates.filter fun g => g.2.valid).map fun g => (e.1, g.1, g.2)

/-- GATE_REGROW (R230): a REGROW period has passed with no gridlock declared. -/
def execGateRegrow (s : State) : Host.Outcome State Fault Refusal :=
  actUp (fun b =>
    match b.ave.regrow with
    | none => b
    | some (period, due) =>
      if b.ave.recovering then b
      else
        let b := b.passTo due
        let b := b.allGates.foldl (fun b e =>
          match gateBound e.2.2.stream e.2.2.kset with
          | some k => if e.2.2.know < k then b.setKnow e.1 e.2.1 (min k (2 * e.2.2.know)) e.2.2 else b
          | none => b) b
        let more := b.allGates.any fun e => match gateBound e.2.2.stream e.2.2.kset with
          | some k => decide (e.2.2.know < k)
          | none => false
        { b with ave := { b.ave with regrow := if more then some (period, due + period) else none } }) s

/-- A REGROW period starts to run, unless one runs or none is set (R230). -/
def Block.startRegrow (b : Block) : Block :=
  if b.ave.regrow.isSome ∨ b.ave.period = 0 then b else { b with ave := { b.ave with regrow := some (b.ave.period, b.now + b.ave.period) } }

/-- A write of AVENUE_GATE_D2.K_SET (R228, R230): K_NOW falls to the bound it stands for at once; where it stays below a wider bound, it
grows by REGROW periods. A gate that was disabled starts at its bound, and one that becomes disabled admits every index. -/
def Block.writeKset (b : Block) (value : Nat) : Block :=
  let q := b.rf 0x500200 6 0
  let e := b.rf 0x500200 11 8
  if 68 ≤ q || b.retired.contains q then b
  else match SMap.find? (b.q q).gates e with
  | none => b
  | some g =>
    if !g.valid then b
    else
      let k := value % 2 ^ 18
      let g1 := { g with kset := k }
      match gateBound g.stream g.kset, gateBound g.stream k with
      | some _, some n =>
        let b := b.setQ q { b.q q with gates := SMap.put (b.q q).gates e { g1 with know := min g.know n } }
        if g.know < n then b.startRegrow else b
      | none, some n => b.setQ q { b.q q with gates := SMap.put (b.q q).gates e { g1 with know := n } }
      | some _, none =>
        (b.setQ q { b.q q with gates := SMap.put (b.q q).gates e { g1 with know := 0 } }).lookups q g1
          ((List.range (2 ^ 18 - g.know)).map fun d => g.base + g.know + d)
      | none, none => b.setQ q { b.q q with gates := SMap.put (b.q q).gates e g1 }

/-- GATE_K_SET_WRITE (R230). -/
def execGateKSetWrite (value : W32) (s : State) : Host.Outcome State Fault Refusal :=
  actUp (fun b => b.writeKset value.toNat) s

/-- STREAM_GATE_REPORT (R229): a STREAM gate's BASE and K_NOW reach the Converter Gate after 256 retirements or a change of
K_NOW. -/
def execStreamGateReport (q : Fin 68) (entry : Fin 16) (s : State) : Host.Outcome State Fault Refusal :=
  actUp (fun b =>
    match SMap.find? (b.q q).gates entry with
    | none => b
    | some g =>
      let k := 16 * q.val + entry.val
      let due := match SMap.find? b.ave.convGate k with
        | some (_, know) => decide (256 ≤ g.since) || know != g.know
        | none => true
      if g.valid && g.stream && due && !b.retired.contains q then
        let b := b.setQ q { b.q q with gates := SMap.put (b.q q).gates entry { g with since := 0 } }
        { b with ave := { b.ave with convGate := SMap.put b.ave.convGate k (g.base, g.know) } }
      else b) s

-- The progress monitors (R236)

/-- Cycles of a District's clock in ns, at its present frequency (R464). -/
def Block.distCycles (b : Block) (d n : Nat) : Nat :=
  let f := max (b.rf (distStat d) 12 8) 1
  (32 * n + 3 * f - 1) / (3 * f)

/-- STALL_WAIT in ns of a District. -/
def Block.stallWait (b : Block) (d : Nat) : Nat := b.distCycles d (max (b.rf 0x500008 23 0) 1000)

/-- A District FIRED if a slot of it holds a strand now (R236). -/
def Block.distBusy (b : Block) (d : Nat) : Bool :=
  (quartersOf d).any fun q => (b.q q).pes.any fun p => p.2.slots.any fun s => s.2.busy

/-- A District is WAITING: a VC0 word in an inbound lane, a pen count, or a VC0 flit at its Crossing (R236). -/
def Block.distWaiting (b : Block) (d : Nat) : Bool :=
  (quartersOf d).any fun q =>
    let qq := b.q q
    let xy := xyOf q
    let c := b.xing xy.1 xy.2
    ([0, 1, 2, 3].any fun j => !(qq.lane j).a.isEmpty || !(qq.lane j).b.isEmpty) || qq.plaza.penCount != 0 ||
    (qq.arriving.any fun a => decide (a.lane < 4)) ||
    (List.range 6).any fun i => (SMap.get c.bufs [] (bufKey i 0)).any fun f => f.dstX == xy.1 && f.dstY == xy.2

/-- A District whose count has reached STALL_WAIT is SUSPECT while it is WAITING (R236). -/
def Block.suspectNow (b : Block) (d : Nat) : Bool := (b.ave.suspect.contains d || b.ave.quiet.contains d) && b.distWaiting d
/-- A District whose count has reached STALL_WAIT is QUIET while it is IDLE (R236). -/
def Block.quietNow (b : Block) (d : Nat) : Bool := (b.ave.suspect.contains d || b.ave.quiet.contains d) && !b.distWaiting d

/-- A District is neither waking nor being restored by a rollback, and the module is not in SLEEP. -/
def Block.distSteady (b : Block) (d : Nat) : Bool :=
  b.rf (distStat d) 1 1 == 0 && !b.power.sleeping && !b.power.held &&
  !(match b.cont.roll with
    | some r => r.step == 4 && (quartersOf d).any fun q => r.quarters.contains q
    | none => false)

/-- A District is running (R237): awake with its wake finished, and no rollback restores its Quarters. -/
def Block.distRunning (b : Block) (d : Nat) : Bool := b.distLevel d == 0 && b.distSteady d

/-- DIST_SUSPECT (R236): a District's count of cycles without a firing reaches STALL_WAIT: it is SUSPECT while WAITING and QUIET
while IDLE. -/
def execDistSuspect (d : Fin 8) (s : State) : Host.Outcome State Fault Refusal :=
  actUp (fun b =>
    let dn := d.val
    if b.ave.recovering || b.distBusy dn || !b.distRunning dn then b
    else
      let b := b.passTo (SMap.get b.ave.lastFired 0 dn + b.stallWait dn)
      if b.distWaiting dn then
        let b1 := { b with ave := { b.ave with suspect := addNew b.ave.suspect dn, quiet := b.ave.quiet.filter (· ≠ dn) } }
        if b.ave.suspect.contains dn then b1 else b1.raise 5 dn
      else { b with ave := { b.ave with quiet := addNew b.ave.quiet dn, suspect := b.ave.suspect.filter (· ≠ dn) } }) s

end Sys2Proof.Machine
end

