-- ==== Sys2Proof/Machine/Sha.lean ====
section
/-! DEFINITION. SHA-256 and HMAC-SHA-256, which seal the Archive's blocks (R340, R341, R343). The rules name the functions; their
definition is the published one (PRESUMED). The constants are computed from what they stand for, and one compression runs its 64 rounds
and the message schedule side by side, as the seal engine's 64 cycles do (R341). -/

namespace Sys2Proof.Machine.Sha

/-- The largest number whose e-th power is at most n, among those that agree with r above their n low bits. -/
def root (e n : Nat) : Nat → Nat → Nat
  | 0, r => r
  | i + 1, r => root e n i (if (r + 2 ^ i) ^ e ≤ n then r + 2 ^ i else r)

/-- The first 32 bits of the fractional part of the e-th root of p. -/
def fraction (e p : Nat) : W32 := BitVec.ofNat 32 (root e (p * 2 ^ (32 * e)) 40 0)

/-- The primes below 312: there are 64. -/
def primes : List Nat := (List.range 312).filter fun n => decide (2 ≤ n) && (List.range 18).all fun d => decide (d < 2) || n == d || n % d != 0

/-- The engine between two rounds: the eight working words, and the next sixteen words of the schedule. -/
structure Engine where
  work : List W32
  next : List W32

/-- The exclusive-or of a word turned right by some counts. -/
def turns (x : W32) (by_ : List Nat) : W32 := by_.foldl (fun y n => y ^^^ x.rotateRight n) 0

/-- A cycle of the engine with one round constant: the first word of the schedule is used, and one more joins its end. -/
def Engine.cycle (s : Engine) (kc : W32) : Engine :=
  let v := fun i => s.work.getD i 0
  let w := fun i => s.next.getD i 0
  let pick := ((v 5 ^^^ v 6) &&& v 4) ^^^ v 6
  let most := ((v 1 ||| v 2) &&& v 0) ||| (v 1 &&& v 2)
  let mixed := kc + w 0 + v 7 + pick + turns (v 4) [6, 11, 25]
  let joins := (w 1 >>> 3 ^^^ turns (w 1) [7, 18]) + w 9 + (w 14 >>> 10 ^^^ turns (w 14) [17, 19]) + w 0
  { work := (mixed + most + turns (v 0) [2, 13, 22]) :: (s.work.take 3 ++ (v 3 + mixed) :: (s.work.drop 4).take 3)
    next := s.next.tail ++ [joins] }

/-- A big-endian word. -/
def wordOf (bs : List Byte) : W32 := BitVec.ofNat 32 (ofBytes bs.reverse)

/-- One compression of a 64-byte block into the chaining words. -/
def absorb (chain : List W32) (block : List Byte) : List W32 :=
  let start : Engine := { work := chain, next := (chunks 16 4 block).map wordOf }
  let done := (primes.map (fraction 3)).foldl Engine.cycle start
  (chain.zip done.work).map fun e => e.1 + e.2

/-- A message with its end mark, zeros to 8 bytes short of a whole block, and its length in bits. -/
def padded (m : List Byte) : List Byte :=
  let zeros := 63 - (m.length + 8) % 64
  m ++ [0x80] ++ List.replicate zeros 0 ++ (leBytes 8 (8 * m.length)).reverse

/-- SHA-256. -/
def sha256 (m : List Byte) : List Byte :=
  let blocks := chunks ((padded m).length / 64) 64 (padded m)
  let last := blocks.foldl absorb ((primes.take 8).map (fraction 2))
  last.flatMap fun w => (leBytes 4 w.toNat).reverse

/-- HMAC-SHA-256 with a key of at most 64 bytes. -/
def hmac (key m : List Byte) : List Byte :=
  let masked (x : Byte) : List Byte := (List.range 64).map fun i => x ^^^ key.getD i 0
  sha256 (masked 0x5c ++ sha256 (masked 0x36 ++ m))

end Sys2Proof.Machine.Sha
end

