-- ==== Sys2Proof/Machine/Archive.lean ====
section
/-! DEFINITION. Module memory as its Stops and Sweepers serve it (R326 to R338), and the Archive: log records, blocks, seals and
the ring (R339 to R346). -/

namespace Sys2Proof.Machine

-- Stops

/-- STOP_READ (R328): a Stop answers the read of the line at an address. -/
def execStopRead (ma : Nat) (upset : Fin 3) (s : State) : Host.Outcome State Fault Refusal :=
  actUp (fun b =>
    let (b, bs, bad) := b.stopRead (64 * (ma / 64)) 64 upset
    { b with lands := { b.lands with line := bs, lineBad := bad } }) s

/-- The read that merges a write into the first line it covers in part (R328): a single-bit error is corrected and counted; a line that
is found uncorrectable stays so, without a fault. -/
def Block.mergeRead (b : Block) (ma n upset : Nat) : Block :=
  match (linesOf ma n).find? fun l => !(decide (ma ≤ l) && decide (l + 64 ≤ ma + n)) with
  | none => b
  | some l =>
    if maEnd < ma + n || b.onLost l || b.stops.bad.contains l then b
    else if upset = 1 then b.corrected l
    else if upset = 2 then { b.freeLine l with stops := { b.stops with bad := addNew b.stops.bad l } }
    else b

/-- STOP_WRITE (R328). -/
def execStopWrite (ma : Nat) (x : MergeBytes) (s : State) : Host.Outcome State Fault Refusal :=
  actUp (fun b => if x.bytes.isEmpty then b else (b.mergeRead ma x.bytes.length x.upset).stopWrite ma x.bytes) s

-- Sweepers (R334 to R338)

/-- Pages of 4 KiB of MA space per Stop. -/
def stopPages : Nat := 7864320

/-- The error that the read of line i first meets. -/
def upsetAt (upsets : List (Fin 64 × Fin 3)) (i : Nat) : Nat :=
  match upsets.find? fun u => u.1.val = i with
  | some u => u.2
  | none => 0

/-- The Sweeper reads a page line by line (R334, R335). -/
def Block.sweepRead (b : Block) (page : Nat) (upsets : List (Fin 64 × Fin 3)) : Block :=
  (List.range 64).foldl (fun b i => (b.lineCheck (upsetAt upsets i) (4096 * page + 64 * i)).1) b

/-- The Sweeper works on a page: it reads it, and borrows it for the pattern test unless the reading retired it. -/
def Block.sweepPage (b : Block) (stop page : Nat) (upsets : List (Fin 64 × Fin 3)) : Block :=
  let was := SMap.find? b.stops.remap page
  let b := b.sweepRead page upsets
  if b.rf 0xB00100 30 30 = 0 ∨ SMap.find? b.stops.remap page ≠ was then b
  else { b with stops := { b.stops with borrow := SMap.put b.stops.borrow stop { page := page, urgent := b.urgent (4096 * page) } } }

/-- A Sweeper is on, its Stop answers, and it has borrowed nothing. -/
def Block.sweepFree (b : Block) (stop : Nat) : Bool :=
  b.rf 0xB00100 31 31 == 1 && !b.stops.lost.contains stop && (SMap.find? b.stops.borrow stop).isNone

/-- SWEEPER_PAGE (R334, R335): the next page of a Stop, at the interval. -/
def execSweeperPage (stop : Fin 8) (upsets : List (Fin 64 × Fin 3)) (s : State) : Host.Outcome State Fault Refusal :=
  actUp (fun b =>
    if !b.sweepFree stop then b
    else
      let b := b.passTo (SMap.get b.stops.sweepAt 0 stop)
      let n := SMap.get b.stops.sweep 0 stop
      let b := { b with stops := { b.stops with
        sweep := SMap.put b.stops.sweep stop ((n + 1) % stopPages)
        sweepAt := SMap.put b.stops.sweepAt stop (b.now + 1000 * max (b.rf 0xB00100 19 0) 10) } }
      b.sweepPage stop (8 * n + stop) upsets) s

/-- A borrow ends with the page as it was (R335). -/
def Block.endBorrow (b : Block) (stop page : Nat) : Block :=
  { b with stops := { b.stops with borrow := SMap.erase b.stops.borrow stop, aborts := SMap.erase b.stops.aborts page } }

/-- BORROW_RESTORE (R335, R336): the pattern test ends; a mismatch retires the page. -/
def execBorrowRestore (stop : Fin 8) (mismatch : Bool) (s : State) : Host.Outcome State Fault Refusal :=
  actUp (fun b =>
    match SMap.find? b.stops.borrow stop with
    | none => b
    | some w =>
      let b := if mismatch then (b.bump (memCnt 5)).retirePage w.page else b
      b.endBorrow stop w.page) s

/-- SWEEP_REVISIT (R337, R338): 10 ms after an abort the page is swept again; after 16 aborts in a row it is skipped. -/
def execSweepRevisit (x : SweepAt) (s : State) : Host.Outcome State Fault Refusal :=
  actUp (fun b =>
    let stop := x.stop
    match SMap.get b.stops.revisit [] stop with
    | [] => b
    | (page, at_) :: rest =>
      if !b.sweepFree stop then b
      else
        let b := b.passTo at_
        let b := { b with stops := { b.stops with revisit := SMap.put b.stops.revisit stop rest } }
        if 16 ≤ SMap.get b.stops.aborts 0 page then
          ({ b with stops := { b.stops with aborts := SMap.erase b.stops.aborts page } }).bump (memCnt 8)
        else b.sweepPage stop page x.upsets) s

/-- CE_HISTORY_EXPIRE (R331): the oldest history entry of a Stop reaches 24 h of TIME_NS. -/
def execCeHistoryExpire (stop : Fin 8) (s : State) : Host.Outcome State Fault Refusal :=
  actUp (fun b =>
    match SMap.get b.stops.hist [] stop with
    | [] => b
    | (_, t) :: rest =>
      let b := b.passToNs (t + 86400000000000)
      { b with stops := { b.stops with hist := SMap.put b.stops.hist stop rest } }) s

-- The Archive's ring (R344)

/-- Slots of the ring; 0 and 1 leave none free. -/
def Block.archSlots (b : Block) : Nat := let n := b.rf 0xC00008 21 0; if n ≤ 1 then 0 else n
/-- Address of a slot. -/
def Block.slotMa (b : Block) (slot : Nat) : Nat := 65536 * (b.rf 0xC00004 23 0 + slot)
/-- Address of a block: that of its slot, or the one it was opened at before the ring was moved (R346). -/
def Block.blockMa (b : Block) (x : ABlock) : Nat := x.base.getD (b.slotMa x.slot)
/-- The next free slot; none where the ring is full. -/
def Block.freeSlot (b : Block) : Option Nat :=
  let n := b.archSlots
  if n ≤ b.arch.blocks.length then none
  else ((List.range (b.arch.blocks.length + 1)).map fun i => (b.arch.nextSlot + i) % n).find? fun k =>
    b.arch.blocks.all fun x => x.base.isSome || x.slot != k

/-- Opens a block in a free slot; the bytes after its records are 0 (R340). -/
def Block.openBlock (b : Block) (slot : Nat) : Block :=
  let a := b.arch
  let x : ABlock := { slot := slot, bseq := a.bseq, nrec := 0, first := b.timeNs, last := b.timeNs, start := a.chainId.isNone,
                      cut := false, sealed := false, drain := none }
  let a := { a with
    open_ := some x, bseq := a.bseq + 1, nextSlot := (slot + 1) % max b.archSlots 1
    chainId := some (a.chainId.getD b.timeNs) }
  ({ b with arch := a }).zeroMem (b.slotMa slot) 65536

/-- The open block closes (R340, R344). -/
def Block.closeBlock (b : Block) (cut : Bool) : Block :=
  match b.arch.open_ with
  | none => b
  | some x =>
    let n := b.arch.blocks.length
    let b := { b with arch := { b.arch with open_ := none, blocks := b.arch.blocks ++ [{ x with cut := cut }] } }
    let wm := b.rf 0xC00010 21 0
    if n < wm ∧ wm ≤ n + 1 then b.raise 16 (n + 1) else b

-- Records (R339)

/-- The next record number of a stream. -/
def Block.logSeq (b : Block) (stream : Nat) : Nat := SMap.get b.arch.seqs 0 stream

/-- Writes a record into the open block, and its OUT record; a full block closes. -/
def Block.putRecord (b : Block) (time ctrl flags : Nat) (value tag : W64) (stream : Nat) : Block :=
  match b.arch.open_ with
  | none => b
  | some x =>
    let seq := b.logSeq stream
    let bs := leBytes 8 time ++ leBytes 8 value.toNat ++ leBytes 8 tag.toNat ++ leBytes 2 ctrl ++ leBytes 1 flags ++ leBytes 1 0 ++
      leBytes 4 seq
    let b := b.stopWrite (b.blockMa x + 128 + 32 * x.nrec) bs
    let y := { x with nrec := x.nrec + 1, first := if x.nrec = 0 then time else x.first, last := time }
    let b := { b with arch := { b.arch with open_ := some y, seqs := SMap.put b.arch.seqs stream ((seq + 1) % 2 ^ 32) } }
    let b := (b.bump (archCnt 0)).journal (tagCtx tag) (.out tag value seq)
    if y.nrec = 2044 then b.closeBlock false else b

/-- A block to write to: the open one, or a new one in a free slot. -/
def Block.withBlock (b : Block) : Option Block :=
  if b.arch.open_.isSome then some b else b.freeSlot.map fun k => b.openBlock k

/-- The GAP record that is owed (R339, R344). -/
def Block.putGap (b : Block) : Option Block :=
  if b.arch.lost = 0 then some b
  else b.withBlock.map fun b =>
    let n := b.arch.lost
    ({ b with arch := { b.arch with lost := 0 } }).putRecord b.arch.lostAt 0 2 (BitVec.ofNat 64 n) 0 0

/-- A LOG token is lost (R344). -/
def Block.loseRecord (b : Block) : Block :=
  let a := b.arch
  ({ b with arch := { a with lost := a.lost + 1, lostAt := if a.lost = 0 then b.timeNs else a.lostAt } }).bump (archCnt 2)

/-- A GAP record that is owed is written first, where a slot is free and the journal has room for its OUT record (R344, R435). -/
def Block.owedGap (b : Block) : Block :=
  if b.arch.lost = 0 || b.rf 0xC00000 31 31 = 0 || !b.journalRoom (.out 0 0 0) then b else b.putGap.getD b

/-- The Archive Gate takes one LOG token (R339, R344, R435, R438). With EN = 0 and with a full ring under DISCARD the record is lost;
under HOLD the token waits. -/
def Block.logTake (b0 : Block) : Block :=
  let b0 := b0.owedGap
  match b0.gateTake 3 with
  | none => b0
  | some (b, t) =>
    match b.suppressOut t with
    | some b => b.consume 71 t.ctx
    | none =>
      if b.rf 0xC00000 31 31 = 0 then b.loseRecord.consume 71 t.ctx
      else if !b.journalRoom (.out t.tag t.value 0) then b0.ledgerWait
      else match (if b.arch.lost = 0 then b.withBlock else none) with
      | some b =>
        let b := if t.poison then b.bump (archCnt 4) else b
        (b.putRecord b.timeNs t.ctrl.toNat (b2n t.poison) t.value t.tag (tagNode t.tag % 256)).consume 71 t.ctx
      | none => if b.rf 0xC00000 4 4 = 1 then b0 else b.loseRecord.consume 71 t.ctx

/-- LOG_TOKEN (R339, R344). -/
def execLogToken (s : State) : Host.Outcome State Fault Refusal := actUp Block.logTake s

/-- BLOCK_CLOSE_TIMER (R340): the open block's first record is CLOSE_MS old. -/
def execBlockCloseTimer (s : State) : Host.Outcome State Fault Refusal :=
  actUp (fun b =>
    let ms := b.rf 0xC00000 23 8
    match b.arch.open_ with
    | none => b
    | some x => if ms = 0 ∨ x.nrec = 0 then b else (b.passToNs (x.first + 1000000 * ms)).closeBlock false) s

-- Seals (R340 to R343)

/-- The header of a block, with its TAG (R340). -/
def Block.blockHeader (b : Block) (x : ABlock) (key : Nat) (unsealed : Bool) (tag : List Byte) : List Byte :=
  leBytes 4 0x424C5A59 ++ leBytes 2 1 ++ leBytes 1 key ++
    leBytes 1 (b2n x.start + 2 * b2n unsealed + 4 * b2n x.cut) ++ leBytes 8 x.bseq ++ leBytes 8 (b.arch.chainId.getD 0) ++
    leBytes 8 x.first ++ leBytes 8 x.last ++ leBytes 2 x.nrec ++ leBytes 1 b.ownId ++ leBytes 1 0 ++
    leBytes 2 (b.rf 0xE00000 31 16) ++ leBytes 2 0 ++ (if x.start then List.replicate 32 0 else b.arch.lastTag) ++
    List.replicate 16 0 ++ tag

/-- The oldest block that has not been sealed. -/
def Block.unsealed (b : Block) : Option ABlock := b.arch.blocks.find? fun x => !x.sealed

/-- Writes a block's header and marks it sealed. -/
def Block.writeSeal (b : Block) (x : ABlock) (key : Nat) (unsealed : Bool) (tag : List Byte) : Block :=
  let b := b.stopWrite (b.blockMa x) (b.blockHeader x key unsealed tag)
  { b with arch := { b.arch with
      blocks := b.arch.blocks.map fun y => if y.bseq = x.bseq then { y with sealed := true } else y
      lastTag := tag, sealing := none } }

/-- A seal starts: with no valid key in the active slot, the block is written unsealed (R342). -/
def Block.sealStart (b : Block) : Block :=
  match b.arch.sealing, b.unsealed with
  | some _, _ => b
  | none, none => b
  | none, some x =>
    let slot := b.rf 0xC00000 2 0
    match SMap.find? b.arch.keys slot with
    | some key => { b with arch := { b.arch with sealing := some (slot, key, b.now) } }
    | none => ((b.writeSeal x slot true (List.replicate 32 0)).bump (archCnt 3)).raise 15 slot
/-- SEAL_START (R341, R342). -/
def execSealStart (s : State) : Host.Outcome State Fault Refusal := actUp Block.sealStart s

/-- SEAL_DONE (R340, R341): 65,792 cycles after its start the seal ends, and the TAG is written. -/
def execSealDone (s : State) : Host.Outcome State Fault Refusal :=
  actUp (fun b =>
    match b.arch.sealing, b.unsealed with
    | some (slot, key, t0), some x =>
      let b := b.passTo (t0 + cyclesNs 65792)
      let (b, body, _) := b.stopRead (b.blockMa x + 128) (65536 - 128)
      let whole := b.blockHeader x slot false (List.replicate 32 0) ++ body
      (b.writeSeal x slot false (Sha.hmac key whole)).bump (archCnt 1)
    | _, _ => b) s

/-- A key is written into a slot (R343): VALID and the check value show it. -/
def Block.loadKey (b : Block) (slot : Nat) (key : List Byte) : Block × Nat :=
  let kcv := ofBytes ((Sha.hmac key []).take 2)
  (({ b with arch := { b.arch with keys := SMap.put b.arch.keys slot key } }).setReg (0xC00020 + 4 * slot) (2 ^ 31 + kcv), kcv)

/-- Blocks whose drain has ended are freed, and a GAP record that waited for a slot is written (R344, R345). -/
def Block.freeDrained (b : Block) (ring index : Nat) : Block :=
  let gone := b.arch.blocks.filter fun x => x.drain = some (ring, index)
  let b := ({ b with arch := { b.arch with blocks := b.arch.blocks.filter fun x => x.drain ≠ some (ring, index) } }).bump (archCnt 5) gone.length
  if gone.isEmpty then b else b.owedGap

/-- A change of ARCHIVE_RING_BASE or ARCHIVE_RING_SIZE loses the blocks in the ring, unless EN reads 0 and no closed block is left; the
open block then stays where it was opened (R346). -/
def Block.moveRing (b : Block) (off value : Nat) : Block :=
  let c := b.writePlain off value
  if c.reg off = b.reg off then b
  else if b.rf 0xC00000 31 31 = 0 ∧ b.arch.blocks = [] then
    { c with arch := { b.arch with nextSlot := 0, open_ := b.arch.open_.map fun x => { x with base := some (b.blockMa x) } } }
  else { c with arch := { b.arch with open_ := none, blocks := [], sealing := none, nextSlot := 0 } }

end Sys2Proof.Machine
end

