-- ==== Sys2Proof/Machine/ColirLine.lean ====
section
/-! DEFINITION. The line coding of a Colir lane (R301): scrambled 64b/66b blocks with alignment markers, and RS(544,514) codewords. -/

namespace Sys2Proof.Machine

-- FEC off

/-- One bit through the self-synchronous scrambler x^58 + x^39 + 1: the new register and the bit on the line. -/
def scrambleBit (reg : Nat) (x : Bool) : Nat × Bool :=
  let y := x != (reg.testBit 38 != reg.testBit 57)
  ((2 * reg + (if y then 1 else 0)) % 2 ^ 58, y)

/-- A data block: 64 bits, bit 0 first, scrambled above the sync header 0b01. -/
def dataBlock (reg w : Nat) : Nat × Nat :=
  (List.range 64).foldl (fun a i =>
    let r := scrambleBit a.1 (w.testBit i)
    (r.1, if r.2 then a.2 + 2 ^ (i + 2) else a.2)) (reg, 1)

/-- The alignment marker of a lane: a control block with the lane's number. -/
def markerBlock (lane : Nat) : Nat := 2 + 4 * lane

/-- A cell as four data blocks, bits [63:0] first; a marker goes before them where 16,384 blocks have gone since the last. -/
def LaneTx.putBlocks (l : LaneTx) (lane : Nat) (cell : BitVec 256) : LaneTx :=
  let due := decide (16384 ≤ l.blocks)
  let r := (List.range 4).foldl (fun a i =>
    let x := dataBlock a.1 (cell.toNat / 2 ^ (64 * i) % 2 ^ 64)
    (x.1, a.2 ++ [x.2])) (l.scram, if due then [markerBlock lane] else [])
  { l with scram := r.1, blocks := (if due then 0 else l.blocks) + 4, line := r.2 }

-- FEC on

/-- A product in the field of the 10-bit symbols, modulo x^10 + x^3 + 1. -/
def symMul (a b : Nat) : Nat :=
  (List.range 10).foldr (fun i r =>
    let d := if r.testBit 9 then Nat.xor (2 * r % 1024) 9 else 2 * r
    if b.testBit i then Nat.xor d a else d) 0

/-- The generator of RS(544,514), the product of x - 2^i for i = 0 to 29, without its leading 1, highest power first. -/
def rsGenerator : List Nat :=
  ((List.range 30).foldl (fun (a : List Nat × Nat) _ =>
    (List.zipWith Nat.xor (a.1 ++ [0]) (0 :: a.1.map (symMul a.2)), symMul 2 a.2)) ([1], 1)).1.drop 1

/-- The 30 parity symbols of some data symbols, the first of highest power. -/
def rsParity (data : List Nat) : List Nat :=
  data.foldl (fun r d =>
    let f := Nat.xor d (r.headD 0)
    List.zipWith (fun x g => Nat.xor x (symMul f g)) (r.drop 1 ++ [0]) rsGenerator) (List.replicate 30 0)

/-- The number some 10-bit symbols spell, the first in the low bits. -/
def ofSymbols (l : List Nat) : Nat := l.foldr (fun x a => x + 1024 * a) 0

/-- A codeword: the 20-bit header with the codeword count and the lane number, 20 cells, and the parity. -/
def codeword (lane count : Nat) (cells : List (BitVec 256)) : Nat :=
  let x := cells.foldr (fun c a => c.toNat + 2 ^ 256 * a) 0 * 2 ^ 20 + 1024 * lane + count % 1024
  let data := (List.range 514).map fun i => x / 1024 ^ i % 1024
  ofSymbols (data ++ rsParity data)

/-- A cell goes into the codeword being filled; with 20 cells the codeword goes onto the line. -/
def LaneTx.pack (l : LaneTx) (lane : Nat) (cell : BitVec 256) : LaneTx :=
  let cs := l.cells ++ [cell]
  if cs.length < 20 then { l with cells := cs }
  else { l with cells := [], words := (l.words + 1) % 1024, line := [codeword lane l.words cs] }

/-- A lane sends a cell in the coding in use. -/
def LaneTx.put (l : LaneTx) (lane : Nat) (fec : Bool) (cell : BitVec 256) : LaneTx :=
  if fec then l.pack lane cell else l.putBlocks lane cell

end Sys2Proof.Machine
end

