-- ==== Sys2Proof/Machine/Dispatcher.lean ====
section
/-! DEFINITION. Contexts and the Dispatcher (R246 to R272, R501, R502): descriptors, arming, counters, timers, starting, completion
and collection (R93 to R95), and the rounds of contexts that span modules (R317 to R319). -/

namespace Sys2Proof.Machine

-- Descriptors (R246, R249 to R251)

/-- Context numbers below this one may be defined (DISPATCH_DESC_LIMIT). -/
def Block.ctxLimit (b : Block) : Nat := min (b.rf 0x400008 20 0) (2 ^ 20)
/-- Address of a context's descriptor (R246). -/
def Block.descMa (b : Block) (c : Nat) : Nat := b.rf 0x400004 27 0 * 4096 + 128 * c
/-- A context is defined (R246). -/
def Block.defined (b : Block) (c : Nat) : Bool := decide (c < b.ctxLimit) && (memGet b.mem (b.descMa c)).toNat.testBit 0
/-- Resident entries in use, those taken for a descriptor read included (R247, R254). -/
def Block.resident (b : Block) : Nat := b.disp.ctxs.length + b.disp.arming.length

/-- A descriptor from its bytes (R249). -/
def Desc.ofBytes (bs : List Byte) : Desc :=
  let f (lo n : Nat) : Nat := Sys2Proof.ofBytes ((bs.drop lo).take n)
  { ctl := f 0 8, dep := f 8 4, depInit := f 12 4, ticks := f 16 4, due := f 20 4, image := f 24 5, startNode := f 32 4 % 2 ^ 18,
    startTag := f 36 4, startValue := BitVec.ofNat 64 (f 40 8), notify := [f 48 4, f 52 4, f 56 4, f 60 4], place := f 96 5,
    acts := f 76 4, startTime := f 80 8 }

/-- TMODE as it acts: 0 none, 1 DELAY, 2 TIMEOUT (R250). -/
def Desc.tmode (d : Desc) : Nat :=
  let m := bits d.ctl 9 8
  if m = 3 ∨ d.ticks = 0 then 0 else m
/-- TICKS as it acts (R250). -/
def Desc.length (d : Desc) : Nat := min d.ticks (2 ^ 31 - 1)
/-- PRIO of a context. -/
def Desc.prio (d : Desc) : Nat := bits d.ctl 7 4

/-- A tick has been reached (R259). -/
def fallenDue (now due : Nat) : Bool := decide ((now + 2 ^ 32 - due % 2 ^ 32) % 2 ^ 32 < 2 ^ 31)

/-- The DEP of a context in its descriptor, read and written whole (R255). -/
def Block.writeDep (b : Block) (c v : Nat) : Block := b.stopWrite (b.descMa c + 8) (leBytes 4 v)

-- READY and WAITING (R253, R256, R260, R261)

/-- A context enters the ready list of its level; a TIMEOUT timer is disarmed (R261, R263). -/
def Block.makeReady (b : Block) (c : Nat) : Block :=
  match b.ctx? c with
  | none => b
  | some x =>
    let b := b.setCtx c { x with state := 3, readySeq := b.disp.readySeq, timer := false, blocked := false }
    ({ b with disp := { b.disp with readySeq := b.disp.readySeq + 1 } }).decide_ c .ready

/-- A context in WAITING whose DEP is 0 moves on, and one in DELAYED whose DEP is no longer 0 waits again, as the states of R253 say (R256,
R260). -/
def Block.settleDep (b : Block) (c : Nat) : Block :=
  match b.ctx? c with
  | none => b
  | some x =>
    if x.state = 2 ∧ x.desc.dep ≠ 0 then b.setCtx c { x with state := 1 }
    else if x.state ≠ 1 ∨ x.desc.dep ≠ 0 then b
    else if x.desc.tmode = 1 && x.timer && !fallenDue b.disp.tickNow x.desc.due then b.setCtx c { x with state := 2 }
    else b.makeReady c

/-- DEP of a context changes: by a decrement or subtraction of n units, or to a value (R255 to R257). The result is DEP before and
after. -/
def Block.changeDep (b : Block) (c : Nat) (sub : Bool) (n : Nat) : Block × Nat × Nat :=
  let apply (d : Nat) : Nat := if sub then d - n else n
  match b.ctx? c with
  | some x =>
    let d := x.desc.dep
    let b := if sub ∧ d < n then b.bump (dispCnt 5) else b
    let b := b.setCtx c { x with
      desc := { x.desc with dep := apply d }
      decs := if sub && x.started then x.decs + n else x.decs }
    ((b.decide_ c (.dep (apply d) (if sub then n else 0))).settleDep c, d, apply d)
  | none =>
    let (b, bs, _) := b.stopRead (b.descMa c + 8) 4
    let d := ofBytes bs
    let b := if sub ∧ d < n then b.bump (dispCnt 5) else b
    ((b.writeDep c (apply d)).decide_ c (.dep (apply d) (if sub then n else 0)), d, apply d)

/-- A decrement of 1; one that names a context that is not defined is lost (R255). -/
def Block.decrement (b : Block) (c : Nat) : Block :=
  if (b.ctx? c).isSome then (if c < b.ctxLimit then (b.changeDep c true 1).1 else b.bump (dispCnt 6))
  else if b.defined c then (b.changeDep c true 1).1
  else b.bump (dispCnt 6)

/-- Changes to a context's DEP wait: while its descriptor is read for an arming (R502), and while a rollback replays its own. -/
def Block.depWaits (b : Block) (c : Nat) : Bool := (b.disp.arming.any fun a => a.ctx == c) || b.inClosure c

/-- DEP_DECREMENT (R255): the next decrement acts. -/
def execDepDecrement (s : State) : Host.Outcome State Fault Refusal :=
  actUp (fun b =>
    match b.disp.depQ with
    | [] => b
    | c :: rest =>
      if b.depWaits c then b
      else b.withRoom (.disp c (.dep 0 0)) fun b => ({ b with disp := { b.disp with depQ := rest } }).decrement c) s

-- Spanning contexts (R317)

/-- HOME and the members of a spanning context: the lowest enabled entry with its number. -/
def Block.spanEntry (b : Block) (c : Nat) : Option (Nat × List Nat) :=
  ((List.range 64).find? fun s => b.rf (0xE02000 + 8 * s) 31 31 == 1 && b.rf (0xE02000 + 8 * s) 19 0 == c).map fun s =>
    let home := b.rf (0xE02000 + 8 * s) 23 20
    (home, (onesOf 16 (b.reg (0xE02004 + 8 * s))).filter (· ≠ home))
/-- This module is a member of a context's span. -/
def Block.isMember (b : Block) (c : Nat) : Bool := match b.spanEntry c with
  | some (home, _) => home != b.ownId
  | none => false
/-- The members a home asks. -/
def Block.members (b : Block) (c : Nat) : List Nat := match b.spanEntry c with
  | some (home, ms) => if home = b.ownId then ms else []
  | none => []

/-- A span in which nothing has happened. -/
def Span.empty : Span :=
  { round := 0, waiting := false, answered := [], own := 0, live := 0, cross := 0, changed := false, asked := false, askedAt := 0, collected := [],
    gaveUp := false, orphans := 0 }

/-- A DISP message to each of some modules; one without a route is not sent. -/
def Block.tellAll (b : Block) (ms : List Nat) (op ctx round status : Nat) : Block :=
  ms.foldl (fun b m => (b.sendDisp op ctx round 0 status 0 0 m).getD b) b

-- Arming (R254, R262, R502)

/-- A context as it is armed. -/
def Ctx.armed (d : Desc) (seq : Nat) (cring ring index : Nat) : Ctx :=
  { state := 1, desc := d, timer := d.tmode ≠ 0, cring := cring, seq := seq, readySeq := 0, rearm := d.ctl.testBit 10, started := false,
    faulted := false, poisoned := false, orphaned := false, endSeen := false, value := 0, status := 0, cancelled := false,
    startTime := d.startTime, endTime := 0, e := 0, c := 0, decs := 0, okRounds := 0, orphWait := 0, when_ := 0, todo := [], orphans := 0,
    reported := 0, groups := [], held := false, woken := [], modes := [], blocked := false, span := Span.empty, armRing := ring,
    armIndex := index }

/-- A started job that does not complete now. -/
def Block.refuseStart (b : Block) (r index status : Nat) : Block := (b.bump (dispCnt 8)).finishJob r index status 0 0

/-- START_CTX (R254, R363): the rows that need no descriptor decide at once; an IDLE context takes an entry, and its descriptor is
read. -/
def execStartCtx (ring : Fin 64) (s : State) : Host.Outcome State Fault Refusal :=
  act (fun b => b.startJob ring (· == 4) fun b j =>
    let c := j.arg 16 4 % 2 ^ 20
    if (b.disp.arming.any fun a => a.ctx == c) || b.inClosure c then b
    else
      let st := b.ctxState c
      if 1 ≤ st ∧ st ≤ 6 then b.refuseStart ring j.index 2
      else if st = 7 then b.refuseStart ring j.index 3
      else if b.ctxLimit ≤ c then b.refuseStart ring j.index 1
      else if 65536 ≤ b.resident then b.refuseStart ring j.index 4
      else
        let b := b.beginJob ring j.index
        { b with disp := { b.disp with arming := b.disp.arming ++
            [{ ctx := c, cring := j.byte 20 % 64, ring := ring, index := j.index }] } }) s

/-- DESCRIPTOR_READ_DONE (R254): the descriptor of the oldest arming is in. VALID 0 frees the entry; VALID 1 arms the context. -/
def execDescriptorReadDone (s : State) : Host.Outcome State Fault Refusal :=
  actUp (fun b =>
    match b.disp.arming with
    | [] => b
    | a :: rest => if b.inClosure a.ctx then b else b.withRoom (.disp a.ctx .arm) fun b =>
      let (b, bs, _) := b.stopRead (b.descMa a.ctx) 128
      let b := { b with disp := { b.disp with arming := rest } }
      let d := Desc.ofBytes bs
      if !d.ctl.testBit 0 then b.refuseStart a.ring a.index 1
      else
        let d := if d.tmode = 0 then d else { d with due := (b.disp.tickNow + d.length) % 2 ^ 32 }
        let b := b.setCtx a.ctx (Ctx.armed d b.disp.armSeq a.cring a.ring a.index)
        let b := ({ b with disp := { b.disp with armSeq := b.disp.armSeq + 1 } }).bump (dispCnt 0)
        ((b.decide_ a.ctx .arm).settleDep a.ctx).finishJob a.ring a.index 0 d.dep 0) s

-- Completion (R267, R268, R271)

/-- A Quarter holds a gate or mode entry of a context (R225, R264). -/
def Quarter.holdsEntry (q : Quarter) (c : Nat) : Bool :=
  (q.gates.any fun g => g.2.valid && g.2.ctx == c) || (SMap.find? q.modes c).isSome

/-- The gate and mode entries of a context are freed (R225, R264), and blocked heads are tried again where one was (R265). The entries of a
retired Quarter stand as they are (R32). -/
def Block.freeEntries (b : Block) (c : Nat) : Block :=
  let qs := SMap.mapVal b.qs fun n q =>
    if b.retired.contains n then q
    else { q with
      gates := SMap.mapVal q.gates fun _ g => if g.ctx = c then { g with valid := false } else g
      modes := SMap.erase q.modes c }
  let freed := b.qs.any fun e => !b.retired.contains e.1 && e.2.holdsEntry c
  { b with qs := qs, disp := { b.disp with
      ctxs := if freed then SMap.mapVal b.disp.ctxs fun _ x => { x with blocked := false } else b.disp.ctxs } }

/-- The descriptor is written back (R251): DEP, DUE and bytes 64 to 95. -/
def Block.writeBack (b : Block) (c : Nat) (x : Ctx) (status : Nat) (value : W64) : Block :=
  let b := b.stopWrite (b.descMa c + 8) (leBytes 4 x.desc.dep)
  let b := b.stopWrite (b.descMa c + 20) (leBytes 4 x.desc.due)
  b.stopWrite (b.descMa c + 64) (leBytes 8 value.toNat ++
    leBytes 4 (status + field (b2n x.faulted) 4 4 + field (b2n x.poisoned) 5 5 + field (b2n x.orphaned) 6 6) ++
    leBytes 4 x.desc.acts ++ leBytes 8 x.startTime ++ leBytes 8 x.endTime)

/-- The context arms itself again, keeping its entry and its place (R262). -/
def Block.rearm (b : Block) (c : Nat) : Block :=
  match b.ctx? c with
  | none => b
  | some x =>
    let d := x.desc
    let due := if d.tmode = 1 then (d.due + d.length) % 2 ^ 32 else (b.disp.tickNow + d.length) % 2 ^ 32
    let late := d.tmode == 1 && fallenDue b.disp.tickNow due
    let d := if d.tmode = 0 then d else { d with due := due }
    let y := { Ctx.armed { d with startTime := x.startTime } x.seq x.cring x.armRing x.armIndex with timer := d.tmode ≠ 0 && !late }
    let b := if late then b.bump (dispCnt 9) else b
    (((b.setCtx c y).bump (dispCnt 0)).decide_ c .arm).settleDep c

/-- The live count, as the 64-bit number the Dispatcher holds. -/
def Ctx.live (x : Ctx) : Nat := (x.e + 2 ^ 64 - x.c % 2 ^ 64) % 2 ^ 64

/-- The completion is the next decision that a replay has to match (R438). -/
def Block.repeats (b : Block) (c status : Nat) (value : W64) : Bool :=
  match b.cont.roll with
  | some r => r.step == 5 && ((r.decs.find? fun e => e.1 == c) == some (c, .complete status value))
  | none => false

/-- A replay has applied the next decision of a context. -/
def Block.popDec (b : Block) (c : Nat) : Block :=
  match b.cont.roll with
  | some r => match takeFirst (fun e : Nat × Decision => e.1 == c) r.decs with
    | some (_, rest) => { b with cont := { b.cont with roll := some { r with decs := rest } } }
    | none => b
  | none => b

/-- A context leaves the course of its journal: the decisions left are not applied. -/
def Block.diverge (b : Block) (c : Nat) : Block :=
  match b.cont.roll with
  | some r => { b with cont := { b.cont with roll := some { r with decs := r.decs.filter fun e => e.1 != c } } }
  | none => b

/-- The words that the NODEMAP caches hold for a context that has left residency are used no more (R362, R498): the Plazas', tagged by
context, and the injection points', tagged by image, where no resident context names it. -/
def Block.forget (b : Block) (c image : Nat) : Block :=
  let named := b.disp.ctxs.any fun e => e.2.desc.image == image
  { b with
    qs := SMap.mapVal b.qs fun _ q => { q with plaza := { q.plaza with cache := q.plaza.cache.filter fun w => w.ctx ≠ c } }
    ave := { b.ave with
      inj := if named then b.ave.inj
        else SMap.mapVal b.ave.inj fun _ i => { i with cache := i.cache.filter fun w => w.ctx ≠ image } } }

/-- A context leaves residency: the DEP of its resident copy stands in its descriptor (R251, R255: no change is lost). -/
def Block.leave (b : Block) (c : Nat) (x : Ctx) : Block :=
  let b := b.writeDep c x.desc.dep
  ({ b with disp := { b.disp with ctxs := SMap.erase b.disp.ctxs c } }).forget c x.desc.image

/-- A context completes (R267, R268, R271, R438): entries freed, descriptor written back, record queued, successors decremented, and
then quarantine, arming again, or IDLE. A completion that replay repeats makes no second record, decrement or count. -/
def Block.complete (b : Block) (c status : Nat) (value : W64) (unfound : Nat) : Block :=
  match b.ctx? c with
  | none => b
  | some x =>
    let again := b.repeats c status value
    let b := if again then b else b.diverge c
    let b := (((b.freeEntries c).abortParks c).decide_ c (.complete status value))
    let b := if again then b.popDec c else b
    let dep := if x.desc.ctl.testBit 11 then x.desc.depInit - x.decs else x.desc.dep
    let x := { x with
      desc := { x.desc with dep := dep, acts := if again then x.desc.acts else (x.desc.acts + 1) % 2 ^ 32 }
      endTime := b.timeNs
      status := status }
    let b := (b.setCtx c x).writeBack c x status value
    let b := b.bump (dispCnt 2)
    let b := if status = 2 then b.bump (dispCnt 4) else b
    let flags := b2n x.faulted + 2 * b2n x.poisoned + 4 * b2n x.orphaned
    let b := if again then b else
      let q := b.cq x.cring
      b.setCq x.cring { q with waiting := q.waiting ++
        [.ctx x.endTime flags status c value (min x.orphans 0xFFFFFFFF) (min unfound 0xFFFFFFFF) x.armRing x.armIndex] }
    let told := !again && (status == 0 || x.desc.ctl.testBit 12)
    let b := if told then
        x.desc.notify.foldl (fun b w =>
          if !w.testBit 31 then b
          else if bits w 23 20 = b.ownId then
            (if w % 2 ^ 20 ≠ c ∧ b.depWaits (w % 2 ^ 20) then { b with disp := { b.disp with depQ := b.disp.depQ ++ [w % 2 ^ 20] } }
              else b.decrement (w % 2 ^ 20))
          else b.notify (w % 2 ^ 20) (bits w 23 20)) b
      else b
    let wait := min (b.rf 0x400014 9 0) 1000
    let x := match b.ctx? c with
      | some y => y
      | none => x
    if x.started && wait ≠ 0 && (status == 1 || status == 3 || unfound ≠ 0) then
      b.setCtx c { x with state := 7, when_ := b.now + wait * 1000000, timer := false }
    else if x.rearm then b.rearm c
    else b.leave c x

/-- QUARANTINE_END (R262, R271). -/
def execQuarantineEnd (ctx : Nat) (s : State) : Host.Outcome State Fault Refusal :=
  actUp (fun b =>
    match b.ctx? ctx with
    | none => b
    | some x =>
      if x.state ≠ 7 then b
      else
        let b := b.passTo x.when_
        if x.rearm then b.rearm ctx else b.leave ctx x) s

-- Collection and cancel (R94, R269)

/-- The Quarters that can collect. -/
def Block.collectors (b : Block) : List Nat := (List.range 68).filter fun q => !b.retired.contains q

/-- A started context enters CLOSING: every Quarter collects (R94, R269), and its parked strands end (R138). -/
def Block.close (b : Block) (c : Nat) (cancelled : Bool) (status : Nat) : Block :=
  let b := b.modCtx c fun x => { x with
    state := 6, cancelled := cancelled, status := status, todo := b.collectors, held := false,
    span := { x.span with asked := true, askedAt := b.now, collected := [], gaveUp := false, orphans := 0 } }
  let b := b.abortParks c
  b.tellAll (b.members c) (if cancelled then 6 else 4) c 0 0

/-- CANCEL_CTX, or the ending of R239, on a context (R269): the status code of the job. -/
def Block.cancelCtx (b : Block) (c status : Nat) : Block × Nat :=
  match b.ctx? c with
  | none => (b, if b.defined c then 5 else 1)
  | some x =>
    let b := b.decide_ c .cancel
    if x.state ≤ 3 then (((b.setCtx c { x with rearm := false }).complete c status 0 0).tellAll (b.members c) 6 c 0 0, 0)
    else if x.state ≤ 5 then ((b.setCtx c { x with rearm := false }).close c true status, 0)
    else if x.state = 6 then (b.setCtx c { x with rearm := false }, 6)
    else (b.setCtx c { x with rearm := false }, 0)

/-- CANCEL_CTX (R269, R363, R502). -/
def execCancelCtx (ring : Fin 64) (s : State) : Host.Outcome State Fault Refusal :=
  act (fun b => b.startJob ring (· == 5) fun b j =>
    let c := j.arg 16 4 % 2 ^ 20
    if (b.disp.arming.any fun a => a.ctx == c) || b.inClosure c then b
    else b.withRoom (.disp c .cancel) fun b =>
      let found := b.ctxState c
      let (b, st) := b.cancelCtx c 1
      (if st = 0 then b.bump (dispCnt 3) else b).finishJob ring j.index st found 0) s

/-- DEP of a context, where it stands (R255). -/
def Block.readDep (b : Block) (c : Nat) : Block × Nat :=
  match b.ctx? c with
  | some x => (b, x.desc.dep)
  | none =>
    let (b, bs, _) := b.stopRead (b.descMa c + 8) 4
    (b, ofBytes bs)

/-- A SET_COUNTER job (R255, R359, R363): a subtraction of 0 does nothing. -/
def Block.setCounter (b : Block) (ring : Nat) (j : Job) : Block :=
  let c := j.arg 16 4 % 2 ^ 20
  let v := j.arg 24 4
  if 2 ≤ j.byte 20 then b.finishJob ring j.index 12 0 0
  else if b.depWaits c then b
  else if (b.ctx? c).isNone && !b.defined c then b.finishJob ring j.index 1 0 0
  else if j.byte 20 = 1 ∧ v = 0 then
    let (b, d) := b.readDep c
    b.finishJob ring j.index 0 d d
  else b.withRoom (.disp c (.dep 0 0)) fun b =>
    let (b, before, after) := b.changeDep c (j.byte 20 == 1) v
    b.finishJob ring j.index 0 after before

/-- SET_COUNTER_SET (R255, R363): MODE 0, and the codes that end BAD_FIELD. -/
def execSetCounterSet (ring : Fin 64) (s : State) : Host.Outcome State Fault Refusal :=
  act (fun b => b.startJob ring (· == 6) fun b j => if j.byte 20 = 1 then b else b.setCounter ring j) s
/-- SET_COUNTER_SUB (R255, R363): MODE 1. -/
def execSetCounterSub (ring : Fin 64) (s : State) : Host.Outcome State Fault Refusal :=
  act (fun b => b.startJob ring (· == 6) fun b j => if j.byte 20 = 1 then b.setCounter ring j else b) s

-- Ticks and timers (R258 to R261)

/-- PERIOD in ns. -/
def Block.tickPeriod (b : Block) : Nat := min (max (b.rf 0x40000C 9 0) 1) 1000 * 1000

/-- TICK (R258): TIME_NS passes the next multiple of PERIOD. -/
def execTick (s : State) : Host.Outcome State Fault Refusal :=
  actUp (fun b =>
    let b := b.passToNs b.disp.nextTick
    { b with disp := { b.disp with tickNow := (b.disp.tickNow + 1) % 2 ^ 32, nextTick := b.disp.nextTick + b.tickPeriod } }) s

/-- A write of DISPATCH_TICK (R258): the next increase falls at the first multiple of the new PERIOD after the write. -/
def Block.writeTick (b : Block) (value : Nat) : Block :=
  let b := b.setReg 0x40000C (value % 1024)
  { b with disp := { b.disp with nextTick := (b.timeNs / b.tickPeriod + 1) * b.tickPeriod } }
/-- DISPATCH_TICK_WRITE (R258). -/
def execDispatchTickWrite (value : W32) (s : State) : Host.Outcome State Fault Refusal :=
  actUp (fun b => b.writeTick value.toNat) s

/-- The context whose timer is acted on next (R259): fallen due, by DUE and then by the order of arming. -/
def Block.nextTimer (b : Block) : Option (Nat × Ctx) :=
  let due := b.disp.ctxs.filter fun e => e.2.timer && (e.2.state == 1 || e.2.state == 2) && !b.inClosure e.1 && fallenDue b.disp.tickNow e.2.desc.due
  let age (x : Ctx) : Nat := (b.disp.tickNow + 2 ^ 32 - x.desc.due) % 2 ^ 32
  due.foldl (fun best e => match best with
    | none => some e
    | some m => if age m.2 < age e.2 ∨ (age m.2 = age e.2 ∧ e.2.seq < m.2.seq) then some e else some m) none

/-- TIMER_DUE (R259 to R261). -/
def execTimerDue (s : State) : Host.Outcome State Fault Refusal :=
  actUp (fun b =>
    match b.nextTimer with
    | none => b
    | some (c, x) => b.withRoom (.disp c .timerDue) fun b =>
      let b := (b.setCtx c { x with timer := false }).decide_ c .timerDue
      if x.state = 2 ∧ x.desc.dep = 0 then b.makeReady c
      else if x.desc.tmode = 2 then b.complete c 2 0 0
      else b.settleDep c) s

-- Starting (R225, R263 to R266, R448)

/-- Logical Quarters of a group's mask that are mapped. -/
def Block.mappedOf (b : Block) (mask : Nat) : List Nat := (onesOf 64 mask).filter fun l => (b.phys l).isSome

/-- Physical Quarter of a logical one in the factory mapping (R25). -/
def factory (l : Nat) : Nat := l + l / 16

/-- Where a node group is placed at a start (R249, R362, R448). -/
def Block.placeGroup (b : Block) (x : Ctx) (g : Nat) : Option Nat :=
  let mask := b.groupMask x.desc.image g
  let l := (memGet b.mem (x.desc.place + g)).toNat
  if mask = 0 ∨ 64 ≤ l then none
  else if (b.phys l).isSome then some l
  else
    let dist (m : Nat) : Nat := match b.phys m with
      | some p => hopsXY (xyOf (factory l)) (xyOf p)
      | none => 100
    match b.mappedOf mask with
    | [] => some l
    | m :: ms => some (ms.foldl (fun best k => if dist k < dist best then k else best) m)

/-- The placement of a context at its start: each group with its logical Quarter. -/
def Block.placement (b : Block) (x : Ctx) : SMap Nat :=
  (b.groupsOf x.desc.image).filterMap fun g => (b.placeGroup x g).map fun l => (g, l)

/-- Reserves one gate entry in the Quarter of its entry node (R225); none where it has no free entry. A gate whose entry node has no
placement holds nothing. -/
def Block.reserveGate (b : Block) (c : Nat) (x : Ctx) (place : SMap Nat) (g : Nat × Bool × Nat × Nat × Nat) : Option Block :=
  let (entry, stream, exit, kset, base) := g
  match ((wordGroup (b.nodemap x.desc.image entry)).bind fun grp => SMap.find? place grp).bind b.phys with
  | none => some b
  | some p =>
    let q := b.q p
    match (List.range 16).find? fun e => match SMap.find? q.gates e with
        | some y => !y.valid
        | none => true with
    | none => none
    | some e =>
      let y : GateEntry := { valid := true, stream := stream, ctx := c, entry := entry, exit := exit, kset := kset,
                             know := (gateBound stream kset).getD 0, base := base, map := [], since := 0 }
      let b := b.setQ p { q with gates := SMap.put q.gates e y }
      some (if stream then { b with ave := { b.ave with convGate := SMap.put b.ave.convGate (16 * p + e) (base, y.know) } } else b)

/-- Reserves all of a list. -/
def reserveAll {α : Type} (f : Block → α → Option Block) : Block → List α → Option Block
  | b, [] => some b
  | b, x :: xs => match f b x with
    | some b => reserveAll f b xs
    | none => none

/-- Reserves a context-mode entry in a Quarter, out of 1,024 (R264). -/
def Block.reserveMode (c mode : Nat) (b : Block) (p : Nat) : Option Block :=
  let q := b.q p
  if (SMap.find? q.modes c).isSome then some b
  else if 1024 ≤ q.modes.length then none
  else some (b.setQ p { q with modes := SMap.put q.modes c mode })

/-- Step 1 of R264: the gate and mode entries; none where one is missing. -/
def Block.reserve (b : Block) (c : Nat) (x : Ctx) (place : SMap Nat) : Option Block :=
  let mode := bits x.desc.ctl 3 1
  let quarters := (b.groupsOf x.desc.image).flatMap fun g => (b.mappedOf (b.groupMask x.desc.image g)).filterMap b.phys
  match reserveAll (fun b g => b.reserveGate c x place g) b (b.gatesOf x.desc.image) with
  | none => none
  | some b => if mode = 0 then some b else reserveAll (Block.reserveMode c mode) b quarters

/-- The CTL_START token of a context goes to the Host Gate (R264, step 4). -/
def Block.sendStart (b : Block) (c : Nat) (x : Ctx) : Block :=
  let t : Token := { value := x.desc.startValue,
                     tag := mkTag b.ownId c x.desc.startNode (x.desc.startTag % 2 ^ 18) (bits x.desc.startTag 19 18),
                     ctrl := mkCtrl 6 6 false true false 0 0 }
  let g := b.gate 0
  (b.setGate 0 { g with starts := g.starts ++ [t] }).bump (dispCnt 1)

/-- The Districts of a placement (R266). -/
def Block.districts (b : Block) (place : SMap Nat) : List Nat :=
  (place.filterMap fun e => (b.phys e.2).map distOf).foldl addNew []

/-- Steps 2 to 4 of R264 on a context whose entries are reserved. -/
def Block.startNow (b : Block) (c : Nat) (x : Ctx) (place : SMap Nat) : Block :=
  let ds := b.districts place
  let asleep := ds.filter fun d => b.distLevel d ≠ 0 ∨ b.rf (distStat d) 0 0 = 1
  let y := { x with
    state := 4, started := true, e := 0, c := 0, decs := 0, groups := place, startTime := b.timeNs,
    held := x.desc.ctl.testBit 13 && !asleep.isEmpty, woken := asleep }
  let b := (b.setCtx c y).decide_ c .start
  let b := asleep.foldl (fun b d => (b.bump (dispCnt 12)).wakeRequest d) b
  if y.held || b.replaying c then b else b.sendStart c y

/-- The head of a ready list (R263); contexts of a rollback's closure are not started (R439). -/
def Block.headOf (b : Block) (level : Nat) : Option (Nat × Ctx) :=
  let held (c : Nat) : Bool := match b.cont.roll with
    | some r => r.ctxs.contains c
    | none => false
  (b.disp.ctxs.filter fun e => e.2.state == 3 && e.2.desc.prio == level && !held e.1).foldl (fun best e => match best with
    | none => some e
    | some m => if e.2.readySeq < m.2.readySeq then some e else some m) none

/-- The start decision over the levels from the highest: a blocked head is passed over (R264, R265). -/
def Block.startFrom (b : Block) : Nat → Block
  | 0 => b
  | n + 1 =>
    match b.headOf n with
    | none => b.startFrom n
    | some (c, x) =>
      if x.blocked then b.startFrom n
      else
        let b := b.readSections x.desc.image [5, 6]
        let place := b.placement x
        match b.reserve c x place with
        | some b1 => b1.startNow c x place
        | none => ((b.setCtx c { x with blocked := true }).bump (dispCnt 7)).startFrom n

/-- WAKEFIRST_START (R266): the Districts of a context held by WAKEFIRST run, and its CTL_START goes out. -/
def execWakefirstStart (ctx : Nat) (s : State) : Host.Outcome State Fault Refusal :=
  actUp (fun b =>
    match b.ctx? ctx with
    | none => b
    | some x =>
      if x.held && x.state == 4 && !b.hub.grave &&
          x.woken.all fun d => b.distLevel d == 0 && b.rf (distStat d) 1 1 == 0 then
        (b.setCtx ctx { x with held := false }).sendStart ctx x
      else b) s

-- The end of a context (R47, R93 to R95, R501)

/-- CTL_END (R47, R54, R501): the Dispatcher takes the next CTL_END at the Host Gate. -/
def execCtlEnd (s : State) : Host.Outcome State Fault Refusal :=
  actUp (fun b =>
    match b.gateTake 0 with
    | none => b
    | some (b, t) =>
      match b.ctx? t.ctx with
      | none => b.bump (dispCnt 13)
      | some x =>
        let b := b.consume 68 t.ctx
        let first := { x with endSeen := true, value := t.value, poisoned := x.poisoned || t.poison }
        if x.state = 4 then
          let wait := min (max (b.rf 0x400F00 19 0) 1) 1000000 * 1000
          b.setCtx t.ctx { first with state := 5, okRounds := 0, when_ := b.now, orphWait := b.now + wait }
        else if x.state = 5 then b.bump (dispCnt 10)
        else if x.state = 6 then if x.endSeen then b.bump (dispCnt 10) else b.setCtx t.ctx first
        else b.bump (dispCnt 13)) s

/-- COUNT_FLUSH (R92). -/
def execCountFlush (unit : Fin 72) (ctx : Nat) (s : State) : Host.Outcome State Fault Refusal :=
  actUp (fun b => b.flushCount unit ctx) s

/-- X of R318: tokens of a context the Colir Gate has sent, less those it has received. -/
def Block.crossOf (b : Block) (ctx : Nat) : Int := SMap.get b.colir.flow 0 ctx

/-- What a round finds balanced decides (R93, R319): the second balanced round in a row that found nothing unflushed completes the
context; an unbalanced one is followed by the next 10 µs later. -/
def Block.roundEnd (b : Block) (ctx : Nat) (balanced found : Bool) : Block :=
  match b.ctx? ctx with
  | none => b
  | some x =>
    if !balanced then b.setCtx ctx { x with okRounds := 0, when_ := b.now + 10000 }
    else if 1 ≤ x.okRounds ∧ !found then
      (b.complete ctx 0 x.value 0).tellAll (b.members ctx) 3 ctx 0 0
    else b.setCtx ctx { x with okRounds := 1, when_ := b.now }

/-- COMPLETION_ROUND (R93, R319): every unit gives up its counts of the context. A home asks its members too, and the round ends with
their last answer. -/
def execCompletionRound (ctx : Nat) (s : State) : Host.Outcome State Fault Refusal :=
  actUp (fun b =>
    match b.ctx? ctx with
    | none => b
    | some x =>
      if x.state ≠ 5 || b.isMember ctx || x.span.waiting then b
      else
        let b := b.passTo x.when_
        let found := b.unflushed ctx
        let b := b.gather ctx
        match b.ctx? ctx, b.members ctx with
        | none, _ => b
        | some x, [] => b.roundEnd ctx (x.e == x.c) found
        | some x, ms =>
          let n := (x.span.round + 1) % 256
          let b := b.setCtx ctx { x with span := { x.span with
            round := n, waiting := true, answered := [], own := (x.e : Int) - x.c, live := 0, cross := b.crossOf ctx, changed := found } }
          b.tellAll ms 1 ctx n 0) s

/-- ORPHAN_WAIT_EXPIRE (R94, R319): ORPHAN_WAIT has passed since the END node fired. -/
def execOrphanWaitExpire (ctx : Nat) (s : State) : Host.Outcome State Fault Refusal :=
  actUp (fun b =>
    match b.ctx? ctx with
    | none => b
    | some x =>
      if x.state ≠ 5 || b.isMember ctx then b
      else (b.passTo x.orphWait).close ctx false 0) s

/-- The used slots of a Quarter's hash part. -/
def Block.usedSlots (b : Block) (q : Nat) : List Nat :=
  let lo := b.areaBase q
  let hi := lo + b.hashBytes q
  (b.mem.filter fun c => decide (lo ≤ c.1 ∧ c.1 < hi) && (c.1 - lo) % 32 == 19 && c.2.toNat.testBit 0).map fun c => c.1 - 19

/-- Acts on a Quarter's Plaza where it stands: in the OFF image while its District is OFF (R459), with the pen as it is now. -/
def Block.onPlaza (b : Block) (q : Nat) (f : Block → Block) : Block :=
  match SMap.find? b.power.images q with
  | none => f b
  | some y =>
    let now := b.plz q
    let b := (f (b.setPlz q (y.plaza.withPen now))).saveFilter q
    let y := { y with plaza := b.plz q }
    ({ b with power := { b.power with images := SMap.put b.power.images q y } }).setPlz q (now.withPen (b.plz q))

/-- A Quarter removes every operand of a context from its Plaza, its spill buffer and its hash part (R94). -/
def Block.collectAt (b : Block) (q ctx : Nat) : Block :=
  let p := b.plz q
  let here := p.entries.filter fun o => o.tok.ctx = ctx
  let b := b.setPlz q { p with entries := p.entries.filter fun o => o.tok.ctx ≠ ctx }
  let spilt := (p.spill.filter fun k => k.key / 2 ^ 36 = ctx).flatMap fun k => k.ops.map fun o => (k.key, o)
  let b := spilt.foldl (fun b e => b.spillTake q e.1 [e.2]) b
  let busy := ((b.plz q).spill.filter fun k => k.sent).flatMap fun k => k.slots ++ k.taken
  let slots := (b.usedSlots q).filter fun a => !busy.contains a
  let (b, found) := slots.foldl (fun (acc : Block × List (Nat × Operand)) a =>
    let (b, bs, bad) := acc.1.stopRead a 32
    match if bad then none else slotOperand (b.plz q).ordinal bs with
    | some o => if o.tok.ctx = ctx then (b, acc.2 ++ [(a, o)]) else (b, acc.2)
    | none => (b, acc.2)) (b, [])
  let b := b.freeSlots q (found.map (·.1))
  let keys := found.foldl (fun ks e => addNew ks e.2.key) []
  let b := (keys.foldl (fun b k => b.filterDown q k) b).filterReset q
  (here ++ spilt.map (·.2) ++ found.map (·.2)).foldl (fun b o => b.collectToken q o.tok) b

/-- QUARTER_COLLECT (R94, R95, R269): a Quarter collects. It has finished once its pen has been read and its wait table holds no token of the
context: these are collected as they are looked up (log 40). -/
def execQuarterCollect (q : Fin 68) (ctx : Nat) (s : State) : Host.Outcome State Fault Refusal :=
  actUp (fun b =>
    match b.ctx? ctx with
    | none => b
    | some x =>
      if x.state ≠ 6 || !x.todo.contains q || b.retired.contains q then b
      else
        let b := b.onPlaza q fun b => b.collectAt q ctx
        if (b.plz q).penBusy || (b.plz q).wait.any fun w => w.tok.ctx == ctx && w.lane != 5 then b
        else b.modCtx ctx fun x => { x with todo := x.todo.filter (· ≠ q.val) }) s

/-- COLLECTION_DONE (R94, R95, R269, R319): every Quarter has finished, and at a home every member has; the context completes. A
member answers its home and waits for COMPLETE. -/
def execCollectionDone (ctx : Nat) (s : State) : Host.Outcome State Fault Refusal :=
  actUp (fun b =>
    match b.ctx? ctx with
    | none => b
    | some x =>
      if x.state ≠ 6 || (x.todo.any fun q => !b.retired.contains q) ||
          (!x.cancelled && (b.members ctx).any fun m => !x.span.collected.contains m) then b
      else
        let b := b.gather ctx
        match b.ctx? ctx with
        | none => b
        | some x =>
          if b.isMember ctx ∧ !x.cancelled then
            if x.span.waiting then b
            else match b.spanEntry ctx with
            | some (home, _) =>
              let l := ofInt 48 x.orphans
              (((b.sendDisp 5 ctx 0 0 0 l 0 home).getD b).modCtx ctx fun x => { x with span := { x.span with waiting := true } })
            | none => b
          else
            let x := if x.cancelled then x else
              { x with orphaned := true, faulted := x.faulted || x.span.gaveUp, orphans := x.orphans + x.span.orphans }
            let unfound := if x.cancelled ∨ (b.members ctx).isEmpty then x.live else ofInt 64 ((x.e : Int) - x.c + (x.span.lives.map (·.2)).sum - x.span.orphans)
            ((b.setCtx ctx x).complete ctx x.status (if x.endSeen then x.value else 0) unfound).tellAll
              (if x.cancelled then [] else b.members ctx) 3 ctx 0 x.status) s

end Sys2Proof.Machine
end

