-- ==== Sys2Proof/Machine/Events.lean ====
section
/-! DEFINITION. The Event Controller (R381 to R395) and the wake watcher (R396, R397). -/

namespace Sys2Proof.Machine

-- Staging (R382 to R387)

/-- EVC_SRCn. -/
def srcReg (n : Nat) : Nat := 0x201000 + 4 * n
/-- EVC_EQe_STAT. -/
def eqStat (e : Nat) : Nat := 0x203000 + 4 * e
/-- Records an EQ's staging area holds (EVC_STG.SIZE). -/
def Block.stageSize (b : Block) : Nat := 2 ^ (min (b.rf 0x20000C 31 28) 10 + 12)

/-- In D3hot, work left pending sets PME_Status and sends PM_PME (R394). -/
def Block.pmeCheck (b : Block) : Block :=
  let p := b.host.pcie
  let work := (b.evc.eqs.any fun e => !e.2.staged.isEmpty) || b.evc.rings.any fun r => r.2.due || r.2.unsig != 0
  if p.d3 && work && !p.pmeStatus then
    let b := { b with host := { b.host with pcie := { p with pmeStatus := true } } }
    if p.pmeEn then ({ b with lands := { b.lands with pmPme := b.lands.pmPme + 1 } }).bump (evcCnt 6) else b
  else b

/-- A record goes into an EQ's staging area, or is lost (R385, R386). -/
def Block.stage (b : Block) (e : Nat) (r : EqRec) : Block :=
  let q := b.eq e
  if b.stageSize ≤ q.staged.length then
    ((b.setEq e { q with lossMark := true }).bump (evcCnt 3)).setRf (eqStat e) 30 30 1
  else (b.setEq e { q with staged := q.staged ++ [{ r with lost := q.lossMark }], lossMark := false }).pmeCheck

/-- The first eight bytes of an event record but PHASE and SEQ (R383). -/
def EqRec.head (r : EqRec) : Nat :=
  field (b2n r.fwd) 1 1 + field (b2n r.late) 2 2 + field (b2n r.lost) 3 3 + field r.origin 7 4 + field r.src 15 8 + field r.arg 63 32

/-- A record of this module goes to its EQ, or to another module (R322, R387). -/
def Block.stageOwn (b : Block) (e : Nat) (r : EqRec) : Block :=
  let dev := b.rf 0xE0000C 3 0
  if b.rf 0xE0000C 31 31 = 1 ∧ dev ≠ b.ownId then
    match b.colirRoute dev with
    | none => b.bump (colirCnt 4)
    | some p =>
      let c := b.cport p
      let cell : BitVec 144 := BitVec.ofNat 144 (r.head + field r.time 127 64 + field b.ownId 131 128 + field dev 143 140)
      (b.setCport p { c with evQ := c.evQ ++ [(cell, 0)] }).bump (evcCnt 9)
  else b.stage e r

/-- The EVC takes one event (R382, R383); a WAKE record answers for every cause set so far (R396). -/
def Block.intake (b : Block) (v : Event) : Block :=
  let reg := b.reg (srcReg v.src)
  let arg := if v.src = 0 then b.reg 0x1100104 else v.arg
  let b := if v.src = 0 then { b with evc := { b.evc with wake0 := 0 } } else b
  let r : EqRec := { src := v.src, arg := arg, time := match v.tag with | some t => t.toNat | none => b.timeNs,
                     fwd := false, late := false, lost := false, origin := b.ownId }
  if b.rf 0x200000 31 31 = 0 then b.bump (evcCnt 2)
  else if reg.testBit 31 then b.stageOwn (reg % 16) r
  else match SMap.find? b.evc.late v.src with
  | some t =>
    if b.now ≤ t then ({ b with evc := { b.evc with late := SMap.erase b.evc.late v.src } }).stageOwn (reg % 16) { r with late := true }
    else ({ b with evc := { b.evc with late := SMap.erase b.evc.late v.src } }).bump (evcCnt 2)
  | none => b.bump (evcCnt 2)

/-- EVENT_INTAKE (R381 to R387): the event raised first reaches the intake. -/
def execEventIntake (s : State) : Host.Outcome State Fault Refusal :=
  actUp (fun b =>
    match b.evc.raised with
    | [] => b
    | v :: vs => ({ b with evc := { b.evc with raised := vs } }).intake v) s

/-- A write of EVC_SRCn (R382): only a change of EN from 1 to 0 opens the window of one late record. -/
def Block.writeSrc (b : Block) (n value : Nat) : Block :=
  let was := (b.reg (srcReg n)).testBit 31
  let b := b.setReg (srcReg n) (value &&& 0x8000000F)
  let late := if value.testBit 31 then SMap.erase b.evc.late n
    else if was then SMap.put b.evc.late n (b.now + cyclesNs 60) else b.evc.late
  { b with evc := { b.evc with late := late } }

/-- EVC_SRC_MASK (R382). -/
def execEvcSrcMask (src : Fin 256) (value : W32) (s : State) : Host.Outcome State Fault Refusal :=
  actUp (fun b => if value.getLsbD 31 then b else b.writeSrc src value.toNat) s
/-- EVC_SRC_UNMASK (R382). -/
def execEvcSrcUnmask (src : Fin 256) (value : W32) (s : State) : Host.Outcome State Fault Refusal :=
  actUp (fun b => if value.getLsbD 31 then b.writeSrc src value.toNat else b) s

-- Records (R383, R384)

/-- The 16 bytes of a record at an index of its EQ (R383). -/
def EqRec.bytes (r : EqRec) (index size : Nat) : List Byte :=
  leBytes 8 (r.head + phaseBit index size + field index 31 16) ++ leBytes 8 r.time

/-- The EQ can take a record now (R384): none where it must wait; a head past the ring halts it. -/
def Block.eqRoom (b : Block) (e : Nat) : Bool × Bool :=
  let q := b.eq e
  let size := ringSize (b.reg (eqCfg e))
  let n := (q.w + 2 ^ 32 - q.head % 2 ^ 32) % 2 ^ 32
  (ringOn (b.reg (eqCfg e)) && !q.halted && decide (n < size), decide (size < n))

/-- The oldest staged record of an EQ is written (R384, R385). -/
def Block.eqWrite (b : Block) (e : Nat) : Block :=
  let q := b.eq e
  match q.staged with
  | [] => b
  | r :: rs =>
    if !b.hostBus || !ringOn (b.reg (eqCfg e)) || q.halted then b
    else
      let (room, jump) := b.eqRoom e
      if jump then b.setEq e { q with halted := true }
      else if !room then b
      else
        let size := ringSize (b.reg (eqCfg e))
        let b := b.hostWrite (b.ringBase (eqCfg e) + 16 * (q.w % size)) (r.bytes q.w size)
        let b := b.setEq e { q with staged := rs, w := (q.w + 1) % 2 ^ 32, issued := q.issued ++ [(q.w, r)] }
        (b.bump (evcCnt 0)).noteRecord (64 + e)

/-- EQ_RECORD_WRITE (R384, R385). -/
def execEqRecordWrite (eq : Fin 16) (s : State) : Host.Outcome State Fault Refusal := actUp (fun b => b.eqWrite eq) s

-- Interrupts (R388 to R393)

/-- CFG of ring k in the HOST block. -/
def hostCfg (k : Nat) : Nat := if k < 64 then cqCfg k else eqCfg (k - 64)
/-- PRIO of ring k. -/
def Block.ringPrio (b : Block) (k : Nat) : Nat := b.rf (ringCfg k) 31 28
/-- Vector of ring k. -/
def Block.ringVec (b : Block) (k : Nat) : Nat := b.rf (hostCfg k) 13 8

/-- The running priority, one higher, so that 0 stands for an empty stack (R389). -/
def Evc.running (e : Evc) : Nat := match e.stack with
  | [] => 0
  | (_, p) :: _ => p + 1

/-- The due rings, by PRIO from the highest and then by number (R389). A ring whose CFG is off sends nothing (R392). -/
def Block.dueRings (b : Block) : List Nat :=
  let due (k : Nat) : Bool :=
    let r := b.ring k
    r.due && !r.signalled && !r.headRead && ringOn (b.reg (hostCfg k))
  (List.range 16).reverse.flatMap fun p => (List.range 80).filter fun k => due k && b.ringPrio k == p

/-- The vector of a ring is masked, by Function Mask or in the table (R389). -/
def Block.vecMasked (b : Block) (k : Nat) : Bool := b.host.pcie.funcMask || (b.reg (0x10800C + 16 * b.ringVec k)).testBit 0

/-- A ring's message leaves: the ring is pushed and marked signalled (R389). -/
def Block.signal (b : Block) (k : Nat) : Block :=
  let v := b.ringVec k
  let r := b.ring k
  let b := b.setRing k { r with unsig := 0, due := false, signalled := true }
  let pba := 0x109000 + 4 * (v / 32)
  let b := b.setRf pba (v % 32) (v % 32) 0
  let msg := (b.rf (0x108000 + 16 * v) 31 2 * 4 + b.reg (0x108004 + 16 * v) * 2 ^ 32, b.reg (0x108008 + 16 * v))
  ({ b with evc := { b.evc with stack := (k, b.ringPrio k) :: b.evc.stack }, host := { b.host with lastMsix := [msg] } }).bump (evcCnt 1)

/-- One decision of R389 over the due rings: pending bits for those that only a mask holds back, and at most one message. -/
def Block.msix (b : Block) : Block :=
  if !b.hostBus || !b.host.pcie.msixOn then b
  else
    let can := b.dueRings.filter fun k => decide (b.evc.running ≤ b.ringPrio k)
    let b := (can.filter b.vecMasked).foldl (fun b k =>
      let v := b.ringVec k
      b.setRf (0x109000 + 4 * (v / 32)) (v % 32) (v % 32) 1) b
    match can.find? fun k => !b.vecMasked k with
    | none => b
    | some k => b.signal k

/-- MSIX_SEND (R389). -/
def execMsixSend (s : State) : Host.Outcome State Fault Refusal := actUp (fun b => b.msix) s

/-- COALESCE_TIME_DUE (R388): the oldest record counted in UNSIG is TIME µs old; TIME applies from the next record written. -/
def execCoalesceTimeDue (ring : Fin 80) (s : State) : Host.Outcome State Fault Refusal :=
  actUp (fun b =>
    let r := b.ring ring
    let t := r.time
    if t = 0 || r.unsig == 0 || r.signalled || r.headRead then b
    else (b.passTo (r.oldest + t * 1000)).makeDue ring) s

/-- A write of EVC_EOI (R390, R391): the top entry is popped, and the head of its ring is read. -/
def Block.writeEoi (b : Block) (value : Nat) : Block :=
  match b.evc.stack with
  | [] => b.bump (evcCnt 5)
  | (k, _) :: rest =>
    let b := if value % 128 = k then b else b.bump (evcCnt 4)
    let b := { b with evc := { b.evc with stack := rest } }
    b.setRing k { b.ring k with signalled := false, headRead := true }

/-- EVC_EOI (R390). -/
def execEvcEoi (value : W32) (s : State) : Host.Outcome State Fault Refusal := actUp (fun b => b.writeEoi value.toNat) s

/-- Host address of the doorbell page (R354). -/
def Block.doorbell (b : Block) : Nat := b.rf 0x100008 31 12 * 4096 + b.reg 0x10000C * 2 ^ 32
/-- Next write index of ring k. -/
def Block.ringW (b : Block) (k : Nat) : Nat := if k < 64 then (b.cq k).w else (b.eq (k - 64)).w
/-- Head word of ring k in the doorbell page, as host memory holds it. -/
def Block.headWord (b : Block) (k : Nat) : Nat :=
  ofBytes (b.hostRead (b.doorbell + (if k < 64 then 0x200 + 8 * k else 0x400 + 8 * (k - 64))) 4)

/-- HEAD_READ_RETURN (R391): a ring with records not yet consumed is due at once; otherwise it is idle until the next record. -/
def execHeadReadReturn (ring : Fin 80) (hw : List (Nat × Byte)) (s : State) : Host.Outcome State Fault Refusal :=
  actUp (fun b =>
    let r := b.ring ring
    if !r.headRead || !b.hostBus then b
    else
      let b := b.hostStores hw
      b.setRing ring { r with headRead := false, due := b.ringW ring != b.headWord ring }) s

/-- The flush of R393: every ring with UNSIG at least 1 is due. -/
def Block.flushRings (b : Block) : Block :=
  ((List.range 80).foldl (fun b k => if (b.ring k).unsig = 0 then b else b.makeDue k) b).bump (evcCnt 7)

/-- EVC_FLUSH (R393): the flush before a request to enter L1. -/
def execEvcFlush (s : State) : Host.Outcome State Fault Refusal := actUp (fun b => b.flushRings) s

/-- Everything the rings can take is written, and everything R389 allows is sent (R394). -/
def Block.drainEvc (b : Block) : Block :=
  let b := (List.range 16).foldl (fun b e => (List.range (b.eq e).staged.length).foldl (fun b _ => b.eqWrite e) b) b
  let b := b.flushRings
  (List.range 16).foldl (fun b _ => b.msix) b

/-- The function moves to D3hot (R394): after the EVC has written, flushed and signalled, PowerState changes, and work left pending
raises PME. -/
def Block.enterD3 (b : Block) : Block :=
  if b.host.pcie.d3 then b
  else
    let b := b.drainEvc
    ({ b with host := { b.host with pcie := { b.host.pcie with d3 := true } } }).pmeCheck

/-- D3HOT_ENTRY (R394). -/
def execD3hotEntry (s : State) : Host.Outcome State Fault Refusal := actUp (fun b => b.enterD3) s

-- The wake watcher (R396, R397)

/-- Bits of CORNER_WAKE_CAUSE that name an input. -/
def wakeBit (i : Nat) : Bool := i < 22 || (23 ≤ i && i < 26)

/-- One WAKE record is asked for while a wake cause has been set since the last one (R396). -/
def Block.stageWake (b : Block) : Block :=
  if b.evc.wake0 = 0 || b.evc.raised.any (fun v => v.src == 0) then b else b.raise 0 0

/-- A wake input's event (R396): its CAUSE bit is set; an enabled one ends SLEEP, and its change stages a WAKE record once the MGC
runs. -/
def Block.wakeCause (b : Block) (i : Nat) : Block :=
  if !wakeBit i then b
  else
    let was := (b.reg 0x1100104).testBit i
    let b := b.setRf 0x1100104 i i 1
    if !(b.reg 0x1100100).testBit i then b
    else
      let b := if b.power.sleeping then { b with power := { b.power with woken := true } } else b
      if was then b
      else
        let b := { b with evc := { b.evc with wake0 := bitsOf (addNew (onesOf 32 b.evc.wake0) i) } }
        if b.up then b.stageWake else b

/-- WAKE_INPUT (R396). The Corner takes it in every state in which it is powered. -/
def execWakeInput (input : Fin 32) (s : State) : Host.Outcome State Fault Refusal :=
  act (fun b => if b.power.off then b else b.wakeCause input) s

/-- Length of a number of CK_CORNER periods in ns. -/
def cornerNs (n : Nat) : Nat := n * 1000000000 / 32768

/-- A write of CORNER_WAKE_TIMER (R397). -/
def Block.writeTimer (b : Block) (value : Nat) : Block :=
  let n := value % 2 ^ 24
  let b := b.setReg 0x1100108 n
  { b with evc := { b.evc with timer := if n = 0 then none else some (b.now + cornerNs n) } }
/-- CORNER_WAKE_TIMER_WRITE (R397). -/
def execCornerWakeTimerWrite (value : W32) (s : State) : Host.Outcome State Fault Refusal :=
  actUp (fun b => b.writeTimer value.toNat) s

/-- CORNER_TIMER_EXPIRE (R397). -/
def execCornerTimerExpire (s : State) : Host.Outcome State Fault Refusal :=
  act (fun b =>
    match b.evc.timer with
    | none => b
    | some t =>
      if b.power.off then b
      else
        let b := (b.passTo t).setReg 0x1100108 0
        ({ b with evc := { b.evc with timer := none } }).wakeCause 24) s

end Sys2Proof.Machine
end

