-- ==== Sys2Proof/Machine/Time.lean ====
section
/-! DEFINITION. Time discipline (R468): offsets, steps, slewing, and TIME_OUT. -/

namespace Sys2Proof.Machine

/-- A saturated two's-complement field of w bits. -/
def satField (w : Nat) (x : Int) : Nat :=
  let top : Int := ((2 ^ (w - 1) : Nat) : Int) - 1
  ofInt w (if top < x then top else if x < -top - 1 then -top - 1 else x)

/-- TIME_NS is stepped to a value: STEPPED is set. -/
def Block.stepTo (b : Block) (t : Nat) : Block :=
  ({ b with timeNs := t % 2 ^ 64, time := { b.time with slew := 0, slewAcc := 0 } }).setRf 0xF00014 30 30 1

/-- An offset of TIME_NS from its reference is taken (R468): removed by a step where it exceeds STEP_US, otherwise slewed out. -/
def Block.takeOffset (b : Block) (off : Int) : Block :=
  let stat := b.reg 0xF00014
  let b := b.setReg 0xF00014 (setBits (setBits stat 31 31 (b2n (off.natAbs ≤ 100))) 23 0 (satField 24 off))
  let b := { b with time := { b.time with lastOffset := some b.now } }
  let us := b.rf 0xF00000 23 16
  if us = 0 ∨ 1000 * us < off.natAbs then b.stepTo (ofInt 64 ((b.timeNs : Int) - off))
  else { b with time := { b.time with slew := off } }

/-- TIME_IN_EDGE (R468): with SRC = 1 the offset from the nearest multiple of 10^9 is taken. -/
def execTimeInEdge (s : State) : Host.Outcome State Fault Refusal :=
  actUp (fun b =>
    if b.rf 0xF00000 1 0 ≠ 1 then b
    else
      let r := b.timeNs % 1000000000
      b.takeOffset (if r ≤ 500000000 then (r : Int) else (r : Int) - 1000000000)) s

/-- A write of TIME_SET_LO. -/
def Block.writeTimeSet (b : Block) (value : Nat) : Block := b.stepTo (value % 2 ^ 32 + 2 ^ 32 * b.reg 0xF00010)

/-- TIME_SET_LO (R468): TIME_NS steps to TIME_SET_HI:LO. -/
def execTimeSetLo (value : W32) (s : State) : Host.Outcome State Fault Refusal := actUp (fun b => b.writeTimeSet value.toNat) s

/-- TIME_LOCK_TIMEOUT (R468): 2 s without an offset. -/
def execTimeLockTimeout (s : State) : Host.Outcome State Fault Refusal :=
  actUp (fun b =>
    match b.time.lastOffset with
    | none => b
    | some t =>
      let b := b.passTo (t + 2000000000)
      ({ b with time := { b.time with lastOffset := none, slew := 0, slewAcc := 0 } }).setRf 0xF00014 31 31 0) s

/-- Width of the TIME_OUT pulse in ns. -/
def Block.outWidth (b : Block) : Nat := 100000 * 10 ^ min (b.rf 0xF00000 15 12) 3

/-- TIME_OUT_PULSE (R468): TIME_OUT rises at the next multiple of 10^9; while it is high, it falls at the end of OUT_W. -/
def execTimeOutPulse (s : State) : Host.Outcome State Fault Refusal :=
  actUp (fun b =>
    match b.time.outUntil with
    | some t =>
      let b := b.passTo t
      { b with time := { b.time with outUntil := none }, lands := { b.lands with timeOut := false } }
    | none =>
      if b.rf 0xF00000 8 8 = 0 then b
      else
        let b := b.passToNs ((b.timeNs / 1000000000 + 1) * 1000000000)
        { b with time := { b.time with outUntil := some (b.now + b.outWidth) }, lands := { b.lands with timeOut := true } }) s

end Sys2Proof.Machine
end

