-- ==== Sys2Proof/Machine/Colir.lean ====
section
/-! DEFINITION. The Colir Gate (R297 to R325): cells, retry and credits, negotiation, lane loss, tokens between modules, and the DISP
messages of contexts that span modules. -/

namespace Sys2Proof.Machine

-- Cells (R299, R300)

/-- One bit into a CRC-32 that takes the most significant bit first. -/
def crc32Step (c : Nat) (x : Bool) : Nat :=
  let c' := (2 * c) % 2 ^ 32
  if c.testBit 31 != x then Nat.xor c' 0x04C11DB7 else c'
/-- CRC-32 with the polynomial of IEEE 802.3 over the n low bits of a number, most significant first, initial value all ones. -/
def crc32 (n x : Nat) : Nat := (List.range n).foldl (fun c i => crc32Step c (x.testBit (n - 1 - i))) 0xFFFFFFFF

/-- A cell without ACK, credits and CRC. -/
def coreCell (type seq hops : Nat) (payload : BitVec 144) : BitVec 256 :=
  BitVec.ofNat 256 (field type 223 220 + field seq 219 212 + field hops 191 188 + payload.toNat)

/-- A cell with ACK, TCRED, OCRED and CRC. -/
def fullCell (core : BitVec 256) (ack tcred ocred : Nat) : BitVec 256 :=
  let x := core.toNat % 2 ^ 224 + field ack 211 204 + field tcred 203 196 + field ocred 195 192
  BitVec.ofNat 256 (x + 2 ^ 224 * crc32 224 x)

/-- The CRC of a cell is right. -/
def cellSound (c : BitVec 256) : Bool := crc32 224 (c.toNat % 2 ^ 224) == c.toNat / 2 ^ 224
/-- TYPE of a cell. -/
def cellType (c : BitVec 256) : Nat := bits c.toNat 223 220
/-- SEQ of a cell. -/
def cellSeq (c : BitVec 256) : Nat := bits c.toNat 219 212
/-- ACK of a cell. -/
def cellAck (c : BitVec 256) : Nat := bits c.toNat 211 204
/-- HOPS of a cell. -/
def cellHops (c : BitVec 256) : Nat := bits c.toNat 191 188
/-- PAYLOAD of a cell. -/
def cellPayload (c : BitVec 256) : Nat := c.toNat % 2 ^ 144

/-- The token a payload spells (R39). -/
def tokenOfPayload (x : Nat) : Token :=
  { value := BitVec.ofNat 64 x, tag := BitVec.ofNat 64 (x / 2 ^ 64), ctrl := BitVec.ofNat 16 (x / 2 ^ 128) }
/-- The payload of a token. -/
def tokenPayload (t : Token) : BitVec 144 :=
  BitVec.ofNat 144 (t.value.toNat + 2 ^ 64 * t.tag.toNat + 2 ^ 128 * t.ctrl.toNat)

-- Ports

/-- A register of port p. -/
def portReg (p o : Nat) : Nat := 0xE01000 + 0x100 * p + o
/-- STATE of a port: 0 OFF, 1 DETECT, 2 CAPS, 3 TRAIN, 4 ACTIVE, 5 RESTRIPE, 6 FAILED. -/
def Block.portState (b : Block) (p : Nat) : Nat := b.rf (portReg p 4) 2 0
/-- Active lanes. -/
def Block.portLanes (b : Block) (p : Nat) : Nat := b.rf (portReg p 4) 15 12
/-- Rate code in use. -/
def Block.portRate (b : Block) (p : Nat) : Nat := b.rf (portReg p 4) 10 8

/-- A port changes its state: COLIR_LINK is raised, and the time at which ACTIVE is left by itself is kept (R312). -/
def Block.setPortState (b : Block) (p st cause : Nat) : Block :=
  let old := b.portState p
  let b := (b.setRf (portReg p 4) 2 0 st).setRf (portReg p 4) 7 4 cause
  let c := b.cport p
  let b := if old = 4 ∧ st ≠ 4 ∧ c.leftAt.isNone then b.setCport p { c with leftAt := some b.now } else b
  if old = st then b else b.raise 12 (p + field st 6 4 + field cause 11 8)

/-- The lane a cell goes on (R301, R321): cell n of the stream on the n-th active lane, counted cyclically, a TIME cell on the lowest;
a port without active lanes in use sends on lane 0. -/
def Block.laneFor (b : Block) (p type : Nat) : Nat :=
  let lanes := if b.portState p = 4 ∨ b.portState p = 5 then onesOf 4 (b.portLanes p) else [0]
  (lanes[if type = 3 then 0 else (b.cport p).stripe % lanes.length]?).getD 0

/-- FEC is in use on a port's lanes (R301): in ACTIVE and RESTRIPE, as FEC_ON says. -/
def Block.fecInUse (b : Block) (p : Nat) : Bool := (b.portState p == 4 || b.portState p == 5) && b.rf (portReg p 4) 11 11 == 1

/-- A cell goes onto a lane (R301). -/
def Block.onLane (b : Block) (p type : Nat) (cell : BitVec 256) : Block :=
  let c := b.cport p
  let i := b.laneFor p type
  b.setCport p { c with
    lastCell := cell, lastLane := i, stripe := if type = 3 then c.stripe else (c.stripe + 1) % 12
    lanes := c.lanes.modify i fun l => l.put i (b.fecInUse p) cell }

/-- A cell is put on the lanes with the ACK and the credits due (R302, R303); any other cell ends a row of TOKEN cells (R304). -/
def Block.sendCell (b : Block) (p : Nat) (core : BitVec 256) : Block :=
  let c := b.cport p
  let t := min c.retT 255
  let o := min c.retO 15
  let ack := (c.expect + 256 - c.rxHeld.length % 256) % 256
  (b.setCport p { c with retT := c.retT - t, retO := c.retO - o, run := if cellType core = 1 then c.run + 1 else 0 }).onLane p
    (cellType core) (fullCell core ack t o)

/-- The contexts of some tokens. -/
def ctxsOf (ts : List Token) : List Nat := ts.foldl (fun a t => addNew a t.ctx) []

/-- A transit token has left its place in the port it came by, whose credit returns (R303). -/
def Block.freePlace (b : Block) : Option Nat → Block
  | some r => b.setCport r { b.cport r with retT := (b.cport r).retT + 1 }
  | none => b

/-- A port discards its replay buffer and its waiting cells (R305, R312): each discarded token counts as consumed, and one in transit
frees its place in the port it came by. -/
def Block.discardPort (b : Block) (p : Nat) : Block × List Nat :=
  let b := (b.cport p).tokQ.foldl (fun b e => b.freePlace e.2.2) b
  let c := b.cport p
  let toks := ((c.replay.filter fun x => cellType x = 1).map fun x => tokenOfPayload (cellPayload x)) ++ c.tokQ.map (·.1)
  let b := toks.foldl (fun b t => b.consume 70 t.ctx) b
  (b.setCport p { c with replay := [], again := none, tokQ := [], dispQ := [], evQ := [], ledQ := [] }, ctxsOf toks)

/-- RATE_MAX as it acts. -/
def rateMax (ctl : Nat) : Nat := min (bits ctl 6 4) 2
/-- RATE_MIN as it acts. -/
def rateMin (ctl : Nat) : Nat := min (min (bits ctl 10 8) 2) (rateMax ctl)
/-- FECMODE as it acts; the code 3 is 0. -/
def fecMode (x : Nat) : Nat := if x = 3 then 0 else x

/-- The capability word of a port (R306), with its TRAIN result. -/
def Block.capWord (b : Block) (p laneOk : Nat) (errSeen : Bool) : W64 :=
  let c := b.cport p
  let lanes := (List.range 4).filter fun i => c.signal.testBit i && !(b.rf (portReg p 4) 19 16).testBit i
  let rates := (List.range 3).filter fun r => decide (r ≤ rateMax c.ctl) && decide (r ≤ c.rateCap)
  BitVec.ofNat 64 (bitsOf lanes + field (bitsOf rates) 6 4 + field 1 7 7 + field (bits c.ctl 1 1) 8 8 + field b.ownId 12 9 +
    field p 14 13 + field 1 23 16 + field laneOk 27 24 + field (b2n errSeen) 28 28 + field (fecMode (bits c.ctl 13 12)) 30 29 +
    field (b.rf 0xE00000 31 16) 47 32)

/-- The partner's last capability word. -/
def Block.capsIn (b : Block) (p : Nat) : Nat := b.reg (portReg p 8) + 2 ^ 32 * b.reg (portReg p 0xC)

/-- A port sends a CAPS cell with a capability word and the partner's as ECHO (R306). -/
def Block.sendCaps (b : Block) (p : Nat) (w : W64) : Block :=
  (b.setCport p { b.cport p with sentWord := w, said := true }).sendCell p (coreCell 2 0 0 (BitVec.ofNat 144 (w.toNat + 2 ^ 64 * b.capsIn p)))

/-- A port enters DETECT (R305). -/
def Block.enterDetect (b : Block) (p : Nat) : Block :=
  (b.setRf (portReg p 4) 15 8 0).setPortState p 1 0

/-- Software has started negotiation: retired lanes are offered again, and no rate is held down (R310, R311). A port that had left
ACTIVE by itself before is still lost 100 ms after that (R312). -/
def Block.freshStart (b : Block) (p : Nat) : Block :=
  let left := (b.cport p).leftAt
  let b := b.setRf (portReg p 4) 19 16 0
  let b := b.enterDetect p
  b.setCport p { b.cport p with cut := 15, rateCap := 2, leftAt := left }

/-- A write of COLIR_PORTp_CTRL (R305). RENEG enters DETECT from any state, OFF with EN = 0 included; a write that takes EN from 1 to 0
turns the port off whatever RENEG is. -/
def Block.writePortCtrl (b : Block) (p value : Nat) : Block :=
  let was := b.rf (portReg p 0) 0 0
  let b := b.setReg (portReg p 0) (value &&& 0x3773)
  if !value.testBit 0 then
    if was = 0 ∧ value.testBit 2 then b.freshStart p
    else if b.portState p = 0 then b
    else
      let left := (b.cport p).leftAt
      let b := (b.discardPort p).1
      let b := (b.setReg (portReg p 4) (b.rf (portReg p 4) 2 0)).setPortState p 0 0
      b.setCport p { b.cport p with leftAt := left }
  else if was = 0 ∨ value.testBit 2 then b.freshStart p
  else b

/-- COLIR_PORT_ENABLE (R305). -/
def execColirPortEnable (port : Fin 4) (value : W32) (s : State) : Host.Outcome State Fault Refusal :=
  actUp (fun b => b.writePortCtrl port (value.toNat ||| 1)) s
/-- COLIR_PORT_DISABLE (R305). -/
def execColirPortDisable (port : Fin 4) (value : W32) (s : State) : Host.Outcome State Fault Refusal :=
  actUp (fun b => b.writePortCtrl port (value.toNat / 2 * 2)) s
/-- RENEG (R305): a write with RENEG that leaves EN as it is. -/
def execReneg (port : Fin 4) (value : W32) (s : State) : Host.Outcome State Fault Refusal :=
  actUp (fun b => b.writePortCtrl port (value.toNat / 2 * 2 + b.rf (portReg port 0) 0 0 ||| 4)) s

-- Negotiation (R305 to R309)

/-- COLIR_BLOCK_LOCK (R305): lane 0 locks; ROLE, FEC and the rate fields are read; OFFSET reads 0 at a
controller. -/
def execColirBlockLock (port : Fin 4) (signal : BitVec 4) (s : State) : Host.Outcome State Fault Refusal :=
  actUp (fun b =>
    let p := port.val
    if b.portState p ≠ 1 then b
    else
      let c := b.cport p
      let b := b.setCport p { c with ctl := b.reg (portReg p 0), signal := signal.toNat, since := b.now, capsCount := 0, cut := 15, said := false }
      let b := if (b.reg (portReg p 0)).testBit 1 then b.setRf (portReg p 0x10) 15 0 0 else b
      b.setPortState p 2 0) s

/-- CAPS_CELL_SEND (R305, R306). -/
def execCapsCellSend (port : Fin 4) (s : State) : Host.Outcome State Fault Refusal :=
  actUp (fun b => if b.portState port ≠ 2 then b else b.sendCaps port (b.capWord port 0 false)) s

/-- Software's floor is overridden by a rate (R308, R311, R465): the port's OVERRIDE and POWER_OVR2 count it. -/
def Block.rateOverride (b : Block) (p rate : Nat) (fec : Bool) : Block :=
  ((b.bump (portCnt p 6)).bump 0x1000108).raise 13 (p + field rate 6 4 + field (b2n fec) 8 8)

/-- The mode is chosen from the two words (R308), and TRAIN starts; with no common lane or rate the port fails. -/
def Block.chooseMode (b : Block) (p : Nat) : Block :=
  let c := b.cport p
  let mine := (b.capWord p 0 false).toNat
  let theirs := b.capsIn p
  let lanes := bits mine 3 0 &&& bits theirs 3 0 &&& c.cut
  let rates := (List.range 3).filter fun r => (bits mine 6 4).testBit r && (bits theirs 6 4).testBit r
  match lanes, rates.getLast? with
  | 0, _ => b.setPortState p 6 5
  | _, none => b.setPortState p 6 5
  | _, some r =>
    let b := (b.setRf (portReg p 4) 15 12 lanes).setRf (portReg p 4) 10 8 r
    let b := if r < rateMin c.ctl then b.rateOverride p r false else b
    let b := b.setCport p { b.cport p with since := b.now }
    b.setPortState p 3 0

/-- The partner's word is checked (R307). -/
def Block.capsComplete (b : Block) (p : Nat) : Block :=
  let w := b.capsIn p
  let b := (b.setRf (portReg p 4) 24 24 (bits w 8 8)).setRf (portReg p 4) 23 20 (bits w 12 9)
  if bits w 23 16 ≠ 1 then b.setPortState p 6 4
  else if bits w 47 32 ≠ b.rf 0xE00000 31 16 then b.setPortState p 6 3
  else if bits w 12 9 = b.ownId then b.setPortState p 6 2
  else if bits w 8 8 = bits (b.cport p).ctl 1 1 then b.setPortState p 6 1
  else b.chooseMode p

/-- A port goes over to RESTRIPE with some lanes; with none it enters DETECT (R310). -/
def Block.restripe (b : Block) (p lanes : Nat) : Block :=
  let b := b.setRf (portReg p 4) 15 12 lanes
  if lanes = 0 then b.enterDetect p else b.setPortState p 5 0

/-- The word of a partner that has dropped a lane or lowered its rate (R310, R311). -/
def Block.partnerCut (b : Block) (p w : Nat) : Block :=
  let lanes := b.portLanes p &&& bits w 3 0
  let rate := b.portRate p
  let rate' := (((List.range (rate + 1)).filter fun r => (bits w 6 4).testBit r).getLast?).getD rate
  if lanes = b.portLanes p ∧ rate' = rate then b
  else
    let b := if rate' = rate then b else (b.setRf (portReg p 4) 10 8 rate').setRf (portReg p 4) 11 11 1
    b.restripe p lanes

/-- A cell of an unsequenced type that has failed (R302). -/
def Block.failedCell (b : Block) (p : Nat) : Block :=
  let c := b.cport p
  (b.setCport p { c with fails := (c.fails.filter fun t => decide (b.now < t + 1000000000)) ++ [b.now] }).bump (portCnt p 1)

/-- FEC decoding before the CRC check (R301): symbols corrected and uncorrectable codewords are counted, the latter once each; whether
the cell's codeword was sound. -/
def Block.fecCheck (b : Block) (p : Nat) (m : FecMark) : Block × Bool :=
  if !b.fecInUse p then (b, true)
  else match m with
  | .none => (b, true)
  | .corrected n => (b.bump (portCnt p 2) n, true)
  | .uncorrectable first => (if first then b.bump (portCnt p 3) else b, false)

/-- The check of an arriving cell (R300, R301, R302, R418): whether it is sound. -/
def Block.checkCell (b : Block) (p : Nat) (x : RxCell) : Block × Bool :=
  let cell := x.cell
  let (b, decoded) := b.fecCheck p x.fec
  let (b, inj) := (onesOf 4 (b.portLanes p)).foldl (fun (acc : Block × Option (Bool × Nat)) lane =>
    if acc.2.isSome then acc else acc.1.inject 7 p lane) (b, none)
  let b := match inj with
    | some (true, _) => b.dryDetect 4 p 0
    | _ => b
  let hit := match inj with
    | some (false, _) => true
    | _ => false
  let sound := cellSound cell && decoded && !hit
  if sound && decide (8 ≤ cellType cell) then ((b.bump (portCnt p 9)).failedCell p, false)
  else if sound then (b, true) else (b.failedCell p, false)

/-- CAPS_CELL_RECEIVE (R307, R310): two identical cells in a row that echo our word complete CAPS. -/
def execCapsCellReceive (port : Fin 4) (cell : RxCell) (s : State) : Host.Outcome State Fault Refusal :=
  actUp (fun b =>
    let p := port.val
    if b.portState p = 0 then b
    else match b.checkCell p cell with
    | (b, false) => b
    | (b, true) =>
      let cell := cell.cell
      if cellType cell ≠ 2 then b
      else
        let c := b.cport p
        let w := cellPayload cell % 2 ^ 64
        let same := decide (w = b.capsIn p)
        let echo := c.said && decide (bits (cellPayload cell) 127 64 = c.sentWord.toNat)
        let b := (b.setReg (portReg p 8) (w % 2 ^ 32)).setReg (portReg p 0xC) (w / 2 ^ 32)
        if b.portState p = 2 then
          let n := if !echo then 0 else if same && c.capsCount != 0 then c.capsCount + 1 else 1
          let b := b.setCport p { c with capsCount := n }
          if n < 2 then b else b.capsComplete p
        else if b.portState p = 4 ∨ b.portState p = 5 then b.partnerCut p w
        else b) s

/-- CAPS_TIMEOUT (R305). -/
def execCapsTimeout (port : Fin 4) (s : State) : Host.Outcome State Fault Refusal :=
  actUp (fun b =>
    if b.portState port ≠ 2 then b
    else ((b.passTo ((b.cport port).since + 10000000)).bump (portCnt port 4)).enterDetect port) s

/-- A replay starts (R302). -/
def Block.startReplay (b : Block) (p : Nat) : Block :=
  let c := b.cport p
  if c.replay.isEmpty then b
  else ((b.setCport p { c with again := some 0 }).bump (portCnt p 0)).detect 4 p

/-- No token that came by a port still holds a place there: its receive buffer has emptied into the Colir Gate (R303). -/
def Block.emptyPlaces (b : Block) (p : Nat) : Block :=
  let g := b.gate 2
  let b := b.setGate 2 { g with out := g.out.map fun e => if e.2 == some (p, 0) then (e.1, none) else e }
  (List.range 4).foldl (fun b o =>
    let c := b.cport o
    b.setCport o { c with tokQ := c.tokQ.map fun e => if e.2.2 == some p then (e.1, e.2.1, none) else e }) b

/-- A port enters ACTIVE (R303, R305): both ends hold full credits, the stream starts on the lowest lane, and what is unacknowledged is
replayed. -/
def Block.enterActive (b : Block) (p : Nat) : Block :=
  let b := b.emptyPlaces p
  let c := b.cport p
  let b := b.setCport p { c with
    tcred := 512, ocred := 32, retT := 0, retO := 0, again := none, nakDue := false, nakking := false, ackAt := b.now, leftAt := none
    lost := false, timeAt := b.now + 1000000, meas := none, fails := [], run := 0, stripe := 0
    lanes := c.lanes.map fun l => { l with cells := [] } }
  (b.setPortState p 4 0).startReplay p

-- Lane loss and fallback (R310 to R312)

/-- COLIR_LANE_RETIRE (R310). -/
def execColirLaneRetire (port lane : Fin 4) (s : State) : Host.Outcome State Fault Refusal :=
  actUp (fun b =>
    let p := port.val
    let lanes := b.portLanes p
    if b.portState p ≠ 4 ∨ !lanes.testBit lane then b
    else
      let b := b.setRf (portReg p 4) 19 16 (bitsOf (addNew (onesOf 4 (b.rf (portReg p 4) 19 16)) lane))
      let b := (b.bump (portCnt p 5)).detect 27 (p + 16 * lane.val)
      (b.sendCaps p (b.capWord p 0 false)).restripe p (lanes - 2 ^ lane.val)) s

/-- COLIR_RATE_FALLBACK (R311): more than 1,000 cells have failed CRC within 1 s. -/
def execColirRateFallback (port : Fin 4) (s : State) : Host.Outcome State Fault Refusal :=
  actUp (fun b =>
    let p := port.val
    let c := b.cport p
    let rate := b.portRate p
    if b.portState p ≠ 4 ∨ rate = 0 ∨ (c.fails.filter fun t => decide (b.now < t + 1000000000)).length ≤ 1000 then b
    else
      let b := b.setCport p { c with rateCap := rate - 1, fails := [] }
      let b := (b.setRf (portReg p 4) 10 8 (rate - 1)).setRf (portReg p 4) 11 11 1
      let b := b.rateOverride p (rate - 1) true
      (b.sendCaps p (b.capWord p 0 false)).restripe p (b.portLanes p)) s

/-- A port is lost (R312): its cells are discarded and its routes have no port; the contexts of the discarded tokens are answered. -/
def Block.losePort (b : Block) (p : Nat) : Block × List Nat :=
  let (b, ctxs) := b.discardPort p
  let b := if b.portState p = 4 ∨ b.portState p = 5 then b.enterDetect p else b
  (b.setCport p { b.cport p with lost := true, leftAt := none }, ctxs)

/-- COLIR_PORT_LOST (R312): 100 ms after ACTIVE was left. -/
def execColirPortLost (port : Fin 4) (s : State) : Host.Outcome State Fault Refusal :=
  actUp (fun b =>
    match (b.cport port).leftAt with
    | none => b
    | some t =>
      if b.portState port = 4 then b
      else
        let b := b.passTo (t + 100000000)
        let (b, ctxs) := b.losePort port
        b.detect 35 port 0 false ctxs) s

-- Sending (R302 to R304)

/-- Tokens of a context that the Gate has sent, less those it has received (R318). -/
def Block.moveFlow (b : Block) (ctx : Nat) (d : Int) : Block :=
  { b with colir := { b.colir with flow := SMap.upd b.colir.flow 0 ctx (· + d) } }

/-- A sequenced cell is sent for the first time: it gets its SEQ and goes into the replay buffer. -/
def Block.sendNew (b : Block) (p type hops : Nat) (payload : BitVec 144) : Block :=
  let c := b.cport p
  let core := coreCell type c.seq hops payload
  let b := b.setCport p { c with
    seq := (c.seq + 1) % 256, replay := c.replay ++ [core], ackAt := if c.replay.isEmpty then b.now else c.ackAt }
  (b.sendCell p core).bump (portCnt p 7)

/-- A TIME cell leaves (R321). -/
def Block.sendTime (b : Block) (p : Nat) : Block :=
  let c := b.cport p
  b.sendCell p (coreCell 3 0 0 (BitVec.ofNat 144 (b.timeNs + 2 ^ 64 * c.tArrive)))

/-- The controller's TIME cell, every 1 ms. -/
def Block.controllerTime (b : Block) (p : Nat) : Block :=
  (b.setCport p { b.cport p with timeAt := b.now + 1000000 }).sendTime p

/-- The next DISP cell. -/
def Block.sendDispCell (b : Block) (p : Nat) : Option Block :=
  let c := b.cport p
  match c.dispQ with
  | [] => none
  | (x, h) :: rest => if c.ocred = 0 then none else
    some ((b.setCport p { c with dispQ := rest, ocred := c.ocred - 1 }).sendNew p 6 h x)

/-- The next TOKEN cell; a transit token frees its place in the port it came by. -/
def Block.sendTokCell (b : Block) (p : Nat) : Option Block :=
  let c := b.cport p
  match c.tokQ with
  | [] => none
  | (t, h, from_) :: rest => if c.tcred = 0 then none else
    let b := (b.setCport p { c with tokQ := rest, tcred := c.tcred - 1 }).sendNew p 1 h (tokenPayload t)
    some (b.freePlace from_)

/-- The next EVENT or LEDGER cell; the two take turns. -/
def Block.sendEvCell (b : Block) (p : Nat) : Option Block :=
  let c := b.cport p
  if c.ocred = 0 then none
  else
    let c' := { c with ocred := c.ocred - 1 }
    match c.evQ, c.ledQ with
    | [], [] => none
    | (x, h) :: rest, [] => some ((b.setCport p { c' with evQ := rest, evNext := false }).sendNew p 4 h x)
    | [], (x, h, _) :: rest => some ((b.setCport p { c' with ledQ := rest, evNext := true }).sendNew p 5 h x)
    | (x, h) :: er, (y, g, _) :: lr =>
      if c.evNext then some ((b.setCport p { c' with evQ := er, evNext := false }).sendNew p 4 h x)
      else some ((b.setCport p { c' with ledQ := lr, evNext := true }).sendNew p 5 g y)

/-- The first of some choices that sends. -/
def Block.firstOf (b : Block) (p : Nat) : List (Block → Nat → Option Block) → Block
  | [] => b.sendCell p (coreCell 0 0 0 0)
  | f :: fs => match f b p with
    | some b => b
    | none => b.firstOf p fs

/-- The cell an ACTIVE port sends next (R304); a replay goes before new sequenced cells. -/
def Block.nextCell (b : Block) (p : Nat) : Block :=
  let c := b.cport p
  if bits c.ctl 1 1 = 1 ∧ c.timeAt ≤ b.now then b.controllerTime p
  else if c.nakDue then
    (b.setCport p { c with nakDue := false, nakking := true }).sendCell p (coreCell 7 0 0 0)
  else match c.again.bind fun i => c.replay[i]?.map fun x => (i, x) with
  | some (i, x) =>
    let b := b.setCport p { c with again := if i + 1 < c.replay.length then some (i + 1) else none }
    (b.sendCell p x).bump (portCnt p 7)
  | none =>
    if 128 ≤ c.replay.length then b.sendCell p (coreCell 0 0 0 0)
    else if 15 ≤ c.run then b.firstOf p [Block.sendEvCell, Block.sendDispCell, Block.sendTokCell]
    else b.firstOf p [Block.sendDispCell, Block.sendTokCell, Block.sendEvCell]

-- Receiving (R302, R303, R314)

/-- The partner has acknowledged every cell before ACK: tokens among them have left the module (R91, R434). -/
def Block.takeAck (b : Block) (p ack : Nat) : Block :=
  let c := b.cport p
  match c.replay with
  | [] => b.setCport p { c with seq := ack }
  | first :: _ =>
    let n := (ack + 256 - cellSeq first) % 256
    if n = 0 ∨ c.replay.length < n then b
    else
      let gone := c.replay.take n
      let again := match c.again with
        | some i => if n < c.replay.length then some (i - n) else none
        | none => none
      let b := b.setCport p { c with replay := c.replay.drop n, again := again, ackAt := b.now }
      gone.foldl (fun b x =>
        if cellType x ≠ 1 then b
        else
          let t := tokenOfPayload (cellPayload x)
          ((b.journal t.ctx (.out t.tag t.value (cellSeq x))).consume 70 t.ctx).moveFlow t.ctx 1) b

/-- ACK and credits of a sound cell (R302, R303). -/
def Block.takeCounts (b : Block) (p : Nat) (cell : BitVec 256) : Block :=
  let b := b.takeAck p (cellAck cell)
  let c := b.cport p
  b.setCport p { c with
    tcred := min (c.tcred + bits cell.toNat 203 196) 512, ocred := min (c.ocred + bits cell.toNat 195 192) 32 }

/-- A free place in the shared buffer goes back. -/
def Block.freeOther (b : Block) (p : Nat) : Block := b.setCport p { b.cport p with retO := (b.cport p).retO + 1 }

/-- A TOKEN cell is delivered (R314, R315): injected here, or passed on. -/
def Block.tokenIn (b : Block) (p : Nat) (cell : BitVec 256) : Block :=
  let t := tokenOfPayload (cellPayload cell)
  let b := (b.journal p (.colirIn t)).moveFlow t.ctx (-1)
  let back (b : Block) : Block := b.setCport p { b.cport p with retT := (b.cport p).retT + 1 }
  if tagDev t.tag = b.ownId then
    let g := b.gate 2
    b.setGate 2 { g with out := g.out ++ [(t, some (p, 0))] }
  else
    let b := b.emit 70 t.ctx
    let r := b.rf (if tagDev t.tag < 8 then 0xE00004 else 0xE00008) (4 * (tagDev t.tag % 8) + 3) (4 * (tagDev t.tag % 8))
    if 14 ≤ cellHops cell ∨ r = p then back ((b.bump (colirCnt 1)).consume 70 t.ctx)
    else match b.colirRoute (tagDev t.tag) with
    | none => back (((b.bump (colirCnt 0)).consume 70 t.ctx).contextFault 70 7 t.ctx 0xFFFF t.tag t.ctrl.toNat)
    | some o =>
      let c := b.cport o
      (b.setCport o { c with tokQ := c.tokQ ++ [(t, cellHops cell + 1, some p)] }).bump (colirCnt 2)

/-- A cell of another sequenced type for another module is passed on (R314); `none_` counts one without a route. -/
def Block.transit (b : Block) (p type dev : Nat) (cell : BitVec 256) (none_ : Option Nat) : Block :=
  let b := b.freeOther p
  let r := b.rf (if dev < 8 then 0xE00004 else 0xE00008) (4 * (dev % 8) + 3) (4 * (dev % 8))
  if 14 ≤ cellHops cell ∨ r = p then b.bump (colirCnt 1)
  else match b.colirRoute dev with
  | none => match none_ with
    | some k => b.bump (colirCnt k)
    | none => b
  | some o =>
    let c := b.cport o
    let x := BitVec.ofNat 144 (cellPayload cell)
    let h := cellHops cell + 1
    (b.setCport o (if type = 6 then { c with dispQ := c.dispQ ++ [(x, h)] }
      else if type = 4 then { c with evQ := c.evQ ++ [(x, h)] }
      else { c with ledQ := c.ledQ ++ [(x, h, b.now)] })).bump (colirCnt 2)

/-- An EVENT cell is delivered (R322, R387); with EVC_CTRL.EN = 0 nothing is staged, and the event counts in MASKED. -/
def Block.eventIn (b : Block) (p : Nat) (cell : BitVec 256) : Block :=
  let x := cellPayload cell
  if bits x 143 140 ≠ b.ownId then b.transit p 4 (bits x 143 140) cell (some 4)
  else
    let r : EqRec := { src := bits x 15 8, arg := bits x 63 32, time := bits x 127 64, fwd := true, late := x.testBit 2, lost := false,
                       origin := bits x 131 128 }
    let b := (b.freeOther p).bump (evcCnt 8)
    if b.rf 0x200000 31 31 = 0 then b.bump (evcCnt 2) else b.stage (b.rf 0x200000 3 0) r

/-- A LEDGER cell is delivered (R323): the spec gives the record no effect at its destination. -/
def Block.ledgerIn (b : Block) (p : Nat) (cell : BitVec 256) : Block :=
  let x := cellPayload cell
  if bits x 143 140 ≠ b.ownId then b.transit p 5 (bits x 143 140) cell none else b.freeOther p

-- DISP messages (R317 to R320)

/-- A ROUND_REQ (R319): the member runs its round and answers; a context that is not resident answers zeros. -/
def Block.answerRound (b : Block) (ctx src round : Nat) : Block :=
  let found := b.unflushed ctx
  let b := b.gather ctx
  let (l, x) : Int × Int := match b.ctx? ctx with
    | some y => ((y.e : Int) - y.c, b.crossOf ctx)
    | none => (0, 0)
  (b.sendDisp 2 ctx round (b2n found) 0 (ofInt 48 l) (ofInt 48 x) src).getD b

/-- A ROUND_REP (R319): with the last member's answer the home's round ends. -/
def Block.takeAnswer (b : Block) (ctx src round : Nat) (changed : Bool) (l x : Int) : Block :=
  match b.ctx? ctx with
  | none => b
  | some y =>
    let ms := b.members ctx
    if !y.span.waiting || y.state != 5 || y.span.round != round || !ms.contains src || y.span.answered.contains src then b
    else
      let sp := { y.span with
        lives := SMap.put y.span.lives src l
        answered := addNew y.span.answered src, live := y.span.live + l, cross := y.span.cross + x, changed := y.span.changed || changed }
      if ms.any fun m => !sp.answered.contains m then b.setCtx ctx { y with span := sp }
      else
        (b.setCtx ctx { y with span := { sp with waiting := false } }).roundEnd ctx (sp.own + sp.live == 0 && sp.cross == 0) sp.changed

/-- A member completes with its home's status and its own flags (R319). -/
def Block.memberComplete (b : Block) (ctx src status : Nat) : Block :=
  match b.ctx? ctx, b.spanEntry ctx with
  | some x, some (home, _) =>
    if home = src ∧ home ≠ b.ownId ∧ 1 ≤ x.state ∧ x.state ≤ 6 then b.complete ctx status x.value 0 else b
  | _, _ => b

/-- A member collects (R94, R319); one where the context does not run, or ends by a cancel of its own, has nothing to report. -/
def Block.memberCollect (b : Block) (ctx src : Nat) : Block :=
  match b.ctx? ctx, b.spanEntry ctx with
  | some x, some (home, _) =>
    if home ≠ src ∨ home = b.ownId then b
    else if x.state = 4 ∨ x.state = 5 then
      (b.close ctx false 0).modCtx ctx fun y => { y with span := { y.span with waiting := false } }
    else if x.state = 6 ∧ !x.cancelled then b
    else (b.sendDisp 5 ctx 0 0 0 0 0 src).getD b
  | _, _ => (b.sendDisp 5 ctx 0 0 0 0 0 src).getD b

/-- A member's orphans reach the home (R319). -/
def Block.takeOrphans (b : Block) (ctx src : Nat) (n : Int) : Block :=
  b.modCtx ctx fun x =>
    if x.state = 6 ∧ !x.span.collected.contains src then
      { x with span := { x.span with collected := addNew x.span.collected src, orphans := x.span.orphans + n.toNat } }
    else x

/-- A DISP message at its module (R318). -/
def Block.dispAt (b : Block) (x : Nat) : Block :=
  let ctx := bits x 27 8
  let src := bits x 7 4
  match bits x 3 0 with
  | 0 => { b with disp := { b.disp with depQ := b.disp.depQ ++ [ctx] } }
  | 1 => b.answerRound ctx src (bits x 35 28)
  | 2 => b.takeAnswer ctx src (bits x 35 28) (x.testBit 36) (toInt 48 (bits x 87 40)) (toInt 48 (bits x 135 88))
  | 3 => b.memberComplete ctx src (bits x 39 37)
  | 4 => b.memberCollect ctx src
  | 5 => b.takeOrphans ctx src (toInt 48 (bits x 87 40))
  | 6 => match b.spanEntry ctx with
    | some (home, _) => if home = src ∧ home ≠ b.ownId then (b.cancelCtx ctx 1).1 else b
    | none => b
  | _ => b.bump (colirCnt 6)

/-- A DISP cell is delivered (R314, R318). -/
def Block.dispIn (b : Block) (p : Nat) (cell : BitVec 256) : Block :=
  let x := cellPayload cell
  if bits x 143 140 ≠ b.ownId then b.transit p 6 (bits x 143 140) cell (if bits x 3 0 = 0 then some 3 else none)
  else (b.freeOther p).dispAt x

/-- A sequenced cell in its turn is delivered, or waits for room in the journal; none where it must wait (R435). -/
def Block.deliverCell (b : Block) (p : Nat) (cell : BitVec 256) : Option Block :=
  match cellType cell with
  | 1 => if b.journalRoom (.colirIn (tokenOfPayload (cellPayload cell))) then some (b.tokenIn p cell) else none
  | 4 => some (b.eventIn p cell)
  | 5 => some (b.ledgerIn p cell)
  | _ => some (b.dispIn p cell)

/-- Delivers the cells that have waited for the journal, in order. -/
def Block.drainHeld (b : Block) (p : Nat) : List (BitVec 256) → Block
  | [] => b
  | x :: xs => match b.deliverCell p x with
    | some b' => (b'.setCport p { b'.cport p with rxHeld := xs }).drainHeld p xs
    | none => b.ledgerWait

/-- The receiver discards a sequenced cell and owes the sender a NAK (R302): one for a cell that failed; later cells that are out of
order only for that get no further one. -/
def Block.refuseCell (b : Block) (p : Nat) (failed : Bool) : Block :=
  let c := b.cport p
  if c.nakking && !failed then b else b.setCport p { c with nakDue := true }

/-- A sequenced cell arrives (R302, R314). `mine` says whether it is of the command's kind. -/
def Block.sequencedIn (b : Block) (p : Nat) (x : RxCell) (mine : Bool) : Block :=
  if b.portState p ≠ 4 then b
  else match b.checkCell p x with
  | (b, false) => b.refuseCell p true
  | (b, true) =>
    if !mine then b
    else
      let cell := x.cell
      let b := b.takeCounts p cell
      let c := b.cport p
      if cellSeq cell ≠ c.expect then b.refuseCell p false
      else
        let held := c.rxHeld ++ [cell]
        let b := (b.setCport p { c with expect := (c.expect + 1) % 256, nakking := false, nakDue := false, rxHeld := held }).bump (portCnt p 8)
        b.drainHeld p held

/-- An unsequenced cell of a kind arrives at an ACTIVE port; a failed one is counted only (R302). -/
def Block.unsequencedIn (b : Block) (p type : Nat) (x : RxCell) (f : Block → Block) : Block :=
  if b.portState p ≠ 4 then b
  else match b.checkCell p x with
  | (b, false) => b
  | (b, true) => if cellType x.cell ≠ type then b else f (b.takeCounts p x.cell)

/-- A cell is a DISP message with an OP. -/
def isDisp (op : Nat) (cell : BitVec 256) : Bool := cellType cell == 6 && bits (cellPayload cell) 3 0 == op

/-- COLIR_CELL_SEND (R303 to R305): an ACTIVE port sends its next cell; DETECT, RESTRIPE and FAILED send IDLE; in CAPS the cells are
those of CAPS_CELL_SEND, and in TRAIN the lanes carry PRBS31. -/
def execColirCellSend (port : Fin 4) (s : State) : Host.Outcome State Fault Refusal :=
  actUp (fun b =>
    let p := port.val
    if b.portState p = 0 then b
    else
      let b := b.drainHeld p (b.cport p).rxHeld
      if b.portState p = 4 then b.nextCell p
      else if b.portState p = 2 ∨ b.portState p = 3 then b
      else b.sendCell p (coreCell 0 0 0 0)) s

/-- TOKEN_CELL_RECEIVE (R314, R315). -/
def execTokenCellReceive (port : Fin 4) (cell : RxCell) (s : State) : Host.Outcome State Fault Refusal :=
  actUp (fun b => b.sequencedIn port cell (cellType cell.cell == 1)) s
/-- EVENT_CELL_RECEIVE (R322, R387). -/
def execEventCellReceive (port : Fin 4) (cell : RxCell) (s : State) : Host.Outcome State Fault Refusal :=
  actUp (fun b => b.sequencedIn port cell (cellType cell.cell == 4)) s
/-- LEDGER_CELL_RECEIVE (R323). -/
def execLedgerCellReceive (port : Fin 4) (cell : RxCell) (s : State) : Host.Outcome State Fault Refusal :=
  actUp (fun b => b.sequencedIn port cell (cellType cell.cell == 5)) s
/-- NOTIFY (R255, R320). -/
def execDispNotify (port : Fin 4) (cell : RxCell) (s : State) : Host.Outcome State Fault Refusal :=
  actUp (fun b => b.sequencedIn port cell (isDisp 0 cell.cell)) s
/-- ROUND_REQ (R319). -/
def execRoundReq (port : Fin 4) (cell : RxCell) (s : State) : Host.Outcome State Fault Refusal :=
  actUp (fun b => b.sequencedIn port cell (isDisp 1 cell.cell)) s
/-- ROUND_REP (R319). -/
def execRoundRep (port : Fin 4) (cell : RxCell) (s : State) : Host.Outcome State Fault Refusal :=
  actUp (fun b => b.sequencedIn port cell (isDisp 2 cell.cell)) s
/-- COMPLETE (R319). -/
def execDispComplete (port : Fin 4) (cell : RxCell) (s : State) : Host.Outcome State Fault Refusal :=
  actUp (fun b => b.sequencedIn port cell (isDisp 3 cell.cell)) s
/-- COLLECT (R319). -/
def execCollect (port : Fin 4) (cell : RxCell) (s : State) : Host.Outcome State Fault Refusal :=
  actUp (fun b => b.sequencedIn port cell (isDisp 4 cell.cell)) s
/-- COLLECT_DONE (R319). -/
def execCollectDone (port : Fin 4) (cell : RxCell) (s : State) : Host.Outcome State Fault Refusal :=
  actUp (fun b => b.sequencedIn port cell (isDisp 5 cell.cell)) s
/-- CANCEL (R319). -/
def execDispCancel (port : Fin 4) (cell : RxCell) (s : State) : Host.Outcome State Fault Refusal :=
  actUp (fun b => b.sequencedIn port cell (isDisp 6 cell.cell)) s
/-- DISP_BAD (R318): OP 7 to 15. -/
def execDispBad (port : Fin 4) (cell : RxCell) (s : State) : Host.Outcome State Fault Refusal :=
  actUp (fun b => b.sequencedIn port cell (cellType cell.cell == 6 && decide (7 ≤ bits (cellPayload cell.cell) 3 0))) s
/-- IDLE_CELL_RECEIVE (R303). -/
def execIdleCellReceive (port : Fin 4) (cell : RxCell) (s : State) : Host.Outcome State Fault Refusal :=
  actUp (fun b => b.unsequencedIn port 0 cell id) s
/-- NAK_RECEIVE (R302). -/
def execNakReceive (port : Fin 4) (cell : RxCell) (s : State) : Host.Outcome State Fault Refusal :=
  actUp (fun b => b.unsequencedIn port 7 cell fun b => b.startReplay port) s

/-- ACK_TIMEOUT (R302): no ACK has advanced for 2 µs. -/
def execAckTimeout (port : Fin 4) (s : State) : Host.Outcome State Fault Refusal :=
  actUp (fun b =>
    let p := port.val
    let c := b.cport p
    if b.portState p ≠ 4 ∨ c.replay.isEmpty then b
    else
      let b := b.passTo (c.ackAt + 2000)
      (b.setCport p { b.cport p with ackAt := b.now }).startReplay p) s

-- Entering ACTIVE (R303, R309, R310)

/-- A port may enter ACTIVE once its receive buffers have emptied into the Colir Gate (R303); cells held for the journal are delivered
first, and where one must still be held the command waits. -/
def Block.whenReceived (b : Block) (p : Nat) (f : Block → Block) : Block :=
  let b := b.drainHeld p (b.cport p).rxHeld
  if (b.cport p).rxHeld.isEmpty then f b else b

/-- A TRAIN dwell of 10^10 bits in ns. -/
def trainNs (rate : Nat) : Nat := if rate = 0 then 969696969 else if rate = 1 then 775757575 else 387878787

/-- TRAIN_DWELL_END (R308, R309): `laneOk` are the RX lanes that passed here, `partner` the partner's word with its result. -/
def execTrainDwellEnd (port : Fin 4) (laneOk : BitVec 4) (errSeen : Bool) (partner : W64) (s : State) :
    Host.Outcome State Fault Refusal :=
  actUp (fun b =>
    let p := port.val
    let c := b.cport p
    if b.portState p ≠ 3 then b
    else b.whenReceived p fun b =>
      let lanes := b.portLanes p
      let rate := b.portRate p
      let b := b.passTo (c.since + trainNs rate)
      let mine := laneOk.toNat &&& lanes
      let w := partner.toNat
      let b := (b.setReg (portReg p 8) (w % 2 ^ 32)).setReg (portReg p 0xC) (w / 2 ^ 32)
      let b := b.sendCaps p (b.capWord p mine errSeen)
      let both := mine &&& bits w 27 24
      let c := b.cport p
      if both = 0 then
        if rate = 0 then b.setPortState p 6 5
        else
          let b := b.setCport p { c with rateCap := rate - 1, since := b.now }
          let b := b.setRf (portReg p 4) 10 8 (rate - 1)
          if rate - 1 < rateMin c.ctl then b.rateOverride p (rate - 1) false else b
      else if both ≠ lanes then (b.setCport p { c with cut := both }).chooseMode p
      else
        let m := fecMode (bits c.ctl 13 12)
        let n := fecMode (bits w 30 29)
        let fec := m == 1 || n == 1 || (m != 2 && n != 2 && (errSeen || w.testBit 28))
        (b.setRf (portReg p 4) 11 11 (b2n fec)).enterActive p) s

/-- RESTRIPE_DONE (R310): the port is ACTIVE again and replays from the oldest unacknowledged cell. -/
def execRestripeDone (port : Fin 4) (s : State) : Host.Outcome State Fault Refusal :=
  actUp (fun b => if b.portState port ≠ 5 then b else b.whenReceived port fun b => b.enterActive port) s

-- Time over the link (R321)

/-- TIME_CELL_SEND (R321). -/
def execTimeCellSend (port : Fin 4) (s : State) : Host.Outcome State Fault Refusal :=
  actUp (fun b =>
    let c := b.cport port
    if b.portState port = 4 ∧ bits c.ctl 1 1 = 1 then (b.passTo c.timeAt).controllerTime port else b) s

/-- The target takes a TIME cell that carries t4 of the exchange before, and answers it (R321). -/
def Block.targetTime (b : Block) (p t1' t4 : Nat) : Block :=
  let c := b.cport p
  let t2' := b.timeNs
  let b := match c.meas with
    | none => b
    | some (t1, t2, t3) =>
      let d (x y : Nat) : Int := toInt 64 (ofInt 64 ((x : Int) - y))
      let delay := (d t4 t1 - d t3 t2).tdiv 2
      let off := d t2 t1 - delay - (toInt 16 (b.rf (portReg p 0x14) 15 0)).tdiv 1000
      let b := b.setReg (portReg p 0x10) (field (min delay.toNat 65535) 31 16 + satField 16 off)
      if b.rf 0xF00000 1 0 = 2 ∧ b.rf 0xF00000 5 4 = p then b.takeOffset off else b
  (b.setCport p { b.cport p with tArrive := t2', meas := some (t1', t2', b.timeNs) }).sendTime p

/-- TIME_CELL_RECEIVE (R321). -/
def execTimeCellReceive (port : Fin 4) (cell : RxCell) (s : State) : Host.Outcome State Fault Refusal :=
  actUp (fun b => b.unsequencedIn port 3 cell fun b =>
    let c := b.cport port
    if bits c.ctl 1 1 = 1 then b.setCport port { c with tArrive := b.timeNs }
    else b.targetTime port (cellPayload cell.cell % 2 ^ 64) (bits (cellPayload cell.cell) 127 64)) s

-- Spans and the mirror

/-- SPAN_GIVEUP (R319): a member has not answered COLLECT within 10 ms. -/
def execSpanGiveup (ctx : Nat) (member : Fin 16) (s : State) : Host.Outcome State Fault Refusal :=
  actUp (fun b =>
    match b.ctx? ctx with
    | none => b
    | some x =>
      if x.state ≠ 6 || x.cancelled || !(b.members ctx).contains member.val || x.span.collected.contains member.val then b
      else
        let b := b.passTo (x.span.askedAt + 10000000)
        (b.setCtx ctx { x with span := { x.span with collected := addNew x.span.collected member, gaveUp := true } }).bump (colirCnt 7)) s

/-- MIRROR_GAP (R323): a record finds the cells of the mirror stream held for more than 1 ms, and is dropped from the mirror. Where no
cell of the stream is held no record does. -/
def execMirrorGap (s : State) : Host.Outcome State Fault Refusal :=
  actUp (fun b =>
    match (List.range 4).findSome? b.mirrorHeld with
    | none => b
    | some t => (b.passTo (t + 1000001)).mirrorGap) s

end Sys2Proof.Machine
end

