-- ==== Sys2Proof/Machine/Gridlock.lean ====
section
/-! DEFINITION. Gridlock and its recovery (R237 to R240), and migrations of node groups (R244). -/

namespace Sys2Proof.Machine

/-- The running Districts (R237). -/
def Block.running (b : Block) : List Nat := (List.range 8).filter b.distRunning

/-- A migration is abandoned (R240, R244). -/
def Block.abandon (b : Block) : Block :=
  if b.ave.mig.isNone then b else ({ b with ave := { b.ave with mig := none } }).bump (aveCnt 12)

/-- The dump (R238, step 3): every VC0 flit in a Crossing moves onto VC2; the contexts of the tokens moved. -/
def Block.dump (b : Block) : Block × List Nat :=
  b.ave.xings.foldl (fun acc e =>
    (List.range 6).foldl (fun (acc : Block × List Nat) i =>
      let x := e.1 % 16
      let y := e.1 / 16
      let fs := SMap.get (acc.1.xing x y).bufs [] (bufKey i 0)
      if fs.isEmpty then acc
      else (acc.1.escape x y i fs.length, (fs.filter fun f => f.word.kind ≠ 8).foldl (fun cs f => addNew cs f.word.ctx) acc.2)) acc) (b, [])

/-- The drain of one Plaza (R238, step 4): the oldest keys leave, to the spill buffer or as VC2 flits to the Quarter's own pen, until
DRAIN_TARGET entries are left or the pen is full. The number of entries bounds the victims. -/
def Block.drainQ (b : Block) (q target : Nat) : Nat → List Nat → Block × List Nat
  | 0, cs => (b, cs)
  | n + 1, cs =>
    let p := b.plz q
    match p.entries with
    | [] => (b, cs)
    | o :: _ =>
      if p.entries.length ≤ target then (b, cs)
      else
        let k := o.key
        let ops := p.here k
        if p.spillUsed + ops.length ≤ 32 ∧ ops.length ≤ (b.freeInWindow q k).length then
          let b := (b.setPlz q { p with entries := p.entries.filter fun o => o.key ≠ k }).bump (plzCnt q 3)
          (b.spillPut q k ops).drainQ q target n (addNew cs o.tok.ctx)
        else
          let xy := xyOf q
          let c := b.xing xy.1 xy.2
          let coming := (SMap.get c.bufs [] (bufKey 4 2)).length
          if b.penBytes q / 32 < p.penWr - p.penRd + coming + ops.length then (b.setRf (qOff q 0xC) 1 1 1, cs)
          else
            let fs := ops.map fun o => ({ word := o.tok, dstX := xy.1, dstY := xy.2, dstP := 0, vc := 2, srcX := xy.1, srcY := xy.2,
                                          srcP := 0, hops := 0, ord := o.ord, esc := 0 } : Flit)
            let b := b.setPlz q { p with entries := p.entries.filter fun o => o.key ≠ k }
            let b := (b.setXing xy.1 xy.2 (c.push b.now (bufKey 4 2) fs)).bump (aveCnt 7) ops.length
            b.drainQ q target n (addNew cs o.tok.ctx)

/-- A context is charged (R239): a charge within 1 s of the charge two before it flags the context and ends it with status GRIDLOCK, as its
state gives (R269); one that is CLOSING keeps its status (R270). -/
def Block.charge (b : Block) (c : Nat) : Block :=
  let ts := SMap.get b.disp.charges [] c
  let b := { b with disp := { b.disp with charges := SMap.put b.disp.charges c ((ts ++ [b.timeNs]).drop (ts.length - 1)) } }
  match ts with
  | [t, _] => if b.timeNs ≤ t + 1000000000 then ((b.contextFault 68 6 c 0xFFFF 0 0).cancelCtx c 3).1 else b
  | _ => b

/-- A District that is SUSPECT and was not found so yet raises its event (R236). -/
def Block.noteSuspects (b : Block) : Block :=
  (((List.range 8).filter b.suspectNow).filter fun d => !b.ave.suspect.contains d).foldl (fun b d => b.raise 5 d) b

/-- GRIDLOCK (R237 to R240): declaration, freeze, dump and drain. -/
def execGridlock (s : State) : Host.Outcome State Fault Refusal :=
  actUp (fun b =>
    let run := b.running
    if b.rf 0x500000 1 1 = 0 || b.ave.recovering || !(run.all fun d => b.suspectNow d || b.quietNow d) || !(run.any b.suspectNow) then b
    else
      let regrow := b.rf 0x50000C 23 16
      let b := b.noteSuspects
      let b := b.raise 4 (bitsOf (run.filter b.suspectNow) + 2 ^ 8 * bitsOf (run.filter b.quietNow) + 2 ^ 16 * bitsOf run)
      let b := (b.bump 0x500014).abandon
      let b := { b with ave := { b.ave with
        recovering := true, declared := b.now, suspect := [], quiet := [], regrow := none, period := regrow * 100000000 } }
      let target := min (b.rf 0x50000C 14 0) 16384
      let (b, cs) := b.dump
      let (b, cs) := b.qs.foldl (fun (acc : Block × List Nat) e =>
        if acc.1.retired.contains e.1 then acc else acc.1.drainQ e.1 target (e.2.plaza.entries.length) acc.2) (b, cs)
      cs.foldl (fun b c => b.charge c) b) s

/-- CK_AVE cycles in a time of ns (1.5 GHz, R21). -/
def nsCycles (n : Nat) : Nat := 3 * n / 2

/-- GRIDLOCK_RELEASE (R230, R238, steps 5 and 6): K_NOW is halved in every gate, and the Plazas resume. The recovery has lasted `cycles`, or
longer where more time has passed since the declaration. The REGROW period is counted from the release: the spec does not say from when
(DESIGN CHOICE, log 110). -/
def execGridlockRelease (cycles : Nat) (s : State) : Host.Outcome State Fault Refusal :=
  actUp (fun b =>
    if !b.ave.recovering then b
    else
      let b := b.passTo (b.ave.declared + cyclesNs cycles)
      let cycles := max cycles (nsCycles (b.now - b.ave.declared))
      let b := b.allGates.foldl (fun b e =>
        if (gateBound e.2.2.stream e.2.2.kset).isNone then b
        else
          let q := b.q e.1
          b.setQ e.1 { q with gates := SMap.put q.gates e.2.1 { e.2.2 with know := max 1 (e.2.2.know / 2) } }) b
      let b := b.setReg 0x500018 cycles
      let b := b.setReg 0x50001C (max cycles (b.reg 0x50001C))
      { b with ave := { b.ave with
          recovering := false
          lastFired := (List.range 8).map fun d => (d, b.now)
          suspect := []
          quiet := []
          regrow := if b.ave.period = 0 then none else some (b.ave.period, b.now + b.ave.period) } }) s

-- Migration (R244)

/-- MIGRATION_START (R240, R244, step 1): the migration chosen at the last close begins, in the epoch after that close, and its group's
tokens are held. -/
def execMigrationStart (s : State) : Host.Outcome State Fault Refusal :=
  actUp (fun b =>
    match b.ave.chosen with
    | none => b
    | some m =>
      if b.ave.recovering || b.ave.mig.isSome || b.cont.roll.isSome then b
      else
        let ok := match b.ctx? m.ctx with
          | some x => x.placed && SMap.find? x.groups m.group == some m.old
          | none => false
        { b with ave := { b.ave with chosen := none, mig := if ok then some { m with start := b.now } else none } }) s

/-- A flit carries a token of a migrating group to a node. -/
def Block.flitInGroup (b : Block) (m : Migration) (f : Flit) : Bool :=
  nodeKind f.word.kind && f.vc != 1 && b.inGroup m.ctx m.group f.word.tag

/-- The pen slots of a Quarter that have not been read. -/
def Block.penUnread (b : Block) (q : Nat) : List Token :=
  let p := b.plz q
  let slots := b.penBytes q / 32
  (List.range (p.penWr - p.penRd)).map fun i => Token.ofBytes (memRead b.mem (b.penBase q + 32 * ((p.penRd + i) % slots)) 32)

/-- The group of a migration is idle (R244, step 2): nothing of it is under way, waits in its old Quarter, or runs there. -/
def Block.groupIdle (b : Block) (m : Migration) : Bool :=
  match b.phys m.old with
  | none => true
  | some q =>
    let qq := b.q q
    let p := qq.plaza
    let mine (t : Token) : Bool := nodeKind t.kind && b.inGroup m.ctx m.group t.tag
    !((b.ave.xings.any fun e => e.2.bufs.any fun f => f.2.any (b.flitInGroup m)) ||
      (b.ave.writers.any fun w => w.2.any (b.flitInGroup m)) ||
      (qq.arriving.any fun a => decide (a.lane < 4) && mine a.word.tok) ||
      ([0, 1, 2, 3].any fun j => ((qq.lane j).a ++ (qq.lane j).b).any fun w => mine w.tok) ||
      (p.entries.any fun o => mine o.tok) || (p.spill.any fun s => s.ops.any fun o => mine o.tok) ||
      ((b.usedSlots q).any fun a => mine (Token.ofBytes (memRead b.mem a 32))) ||
      ((b.penUnread q).any mine) || (p.penTokens.any fun t => mine t.1) || (p.wait.any fun w => mine w.tok) ||
      (p.fireBuf.any fun f => b.inGroup m.ctx m.group f.2.tag) ||
      (qq.pes.any fun e => (e.2.fireq.any fun f => b.inGroup m.ctx m.group f.tag) ||
        e.2.slots.any fun s => s.2.busy && b.inGroup m.ctx m.group s.2.tag))

/-- The moment until which a migration may wait for its group to be idle (R244). -/
def Block.migDeadline (b : Block) (m : Migration) : Nat := m.start + min (max (b.rf 0x500300 23 16) 1) 12 * 1000

/-- MIGRATION_SWITCH (R244, step 3): the group is idle within WAIT; its placement switches and its tokens are released. -/
def execMigrationSwitch (s : State) : Host.Outcome State Fault Refusal :=
  actUp (fun b =>
    match b.ave.mig with
    | none => b
    | some m =>
      if !b.groupIdle m || decide (b.migDeadline m < b.now) then b
      else
        let b := b.modCtx m.ctx fun x => { x with groups := SMap.put x.groups m.group m.target }
        ({ b with ave := { b.ave with mig := none } }).bump (aveCnt 10)) s

/-- MIGRATION_ABANDON (R244): the group has not become idle within WAIT. -/
def execMigrationAbandon (s : State) : Host.Outcome State Fault Refusal :=
  actUp (fun b =>
    match b.ave.mig with
    | none => b
    | some m => if b.groupIdle m && decide (b.now ≤ b.migDeadline m) then b else (b.passTo (b.migDeadline m)).abandon) s

end Sys2Proof.Machine
end

