-- ==== Sys2Proof/Machine/Rollback.lean ====
section
/-! DEFINITION. Retirement of a Quarter and the QMAP (R26, R27, R32, R447, R460), and rollback and replay (R436 to R443): the closure,
the stop, the restore, and the journal that replay feeds. -/

namespace Sys2Proof.Machine

-- Retirement (R26, R447)

/-- The logical Quarters whose QMAP field names a physical Quarter. -/
def Block.namedBy (b : Block) (p : Nat) : List Nat := (List.range 64).filter fun l => b.qmap l = p

/-- The free spare with the fewest hops from a Quarter, the lower number on a tie (R26). -/
def Block.nearSpare (b : Block) (p : Nat) : Option Nat :=
  match b.spares.filter (· ≠ p) with
  | [] => none
  | s :: ss => some (ss.foldl (fun best k => if hopsXY (xyOf p) (xyOf k) < hopsXY (xyOf p) (xyOf best) then k else best) s)

/-- Writes the QMAP field of a logical Quarter. -/
def Block.setQmap (b : Block) (l v : Nat) : Block := b.setRf (0x100 + 4 * (l / 4)) (8 * (l % 4) + 6) (8 * (l % 4)) v

/-- The instruction store of a Quarter is loaded from the shadow of a logical Quarter (R460). -/
def Block.loadShadow (b : Block) (p l : Nat) : Block :=
  let (nodes, len, code) := SMap.get b.cont.shadows ([], 0, []) l
  let q := b.q p
  b.setQ p { q with
    nodes := nodes.foldl (fun m e => SMap.put m e.1 e.2) q.nodes
    nodesLen := max len q.nodesLen
    code := code.foldl (fun m e => SMap.put m e.1 e.2) q.code }

/-- The counts of a unit under another unit's number. -/
def renameCounts (p s : Nat) (m : SMap (Nat × Nat)) : SMap (Nat × Nat) :=
  m.foldl (fun acc e => if e.1 / 2 ^ 20 = p then SMap.put acc (liveKey s (e.1 % 2 ^ 20)) e.2 else SMap.put acc e.1 e.2) []

/-- A journal record of a Quarter under another Quarter's number. -/
def JRec.rename (p s : Nat) (r : JRec) : JRec :=
  match r.body with
  | .merge _ _ => if r.src = p then { r with src := s } else r
  | .cross _ _ => if r.src = p then { r with src := s } else r
  | _ => r

/-- A spare takes the place of a retired Quarter: it is initialised (R214) and loaded from the shadows (R460), in ascending order of the
logical Quarters that named it (DESIGN CHOICE: the rule gives none), it takes over the spill area, and what the store and the journal hold
of the retired Quarter is the spare's. -/
def Block.mapIn (b : Block) (p s : Nat) (ls : List Nat) : Block :=
  let b := b.setQ s { Quarter.empty with arriving := (b.q s).arriving }
  let b := ls.foldl (fun b l => b.loadShadow s l) b
  let b := (b.setReg (qOff s 4) (b.reg (qOff p 4))).setReg (qOff s 8) (b.reg (qOff p 8))
  let bank := b.cont.bank.map fun k =>
    { k with cuts := { k.cuts with
        quarters := match SMap.find? k.cuts.quarters p with
          | some c => SMap.put (SMap.erase k.cuts.quarters p) s c
          | none => k.cuts.quarters
        counts := renameCounts p s k.cuts.counts } }
  { b with cont := { b.cont with
      bank := bank
      journal := b.cont.journal.map (JRec.rename p s)
      undo := b.cont.undo.map fun u => if u.unit = p then { u with unit := s } else u } }

/-- Retires a physical Quarter (R26, R447): the QMAP fields that name it take the nearest free spare, or 127, in one change. The
logical Quarters that named it are answered, with whether a spare took them. -/
def Block.retire (b : Block) (p : Nat) : Block × List Nat × Bool :=
  if b.retired.contains p then (b, [], true)
  else
    let ls := b.namedBy p
    let spare := if ls.isEmpty then none else b.nearSpare p
    let b := { b with retired := addNew b.retired p }
    let b := ls.foldl (fun b l => b.setQmap l (spare.getD 127)) b
    let b := if ls.isEmpty then b else b.setRf 0x140 15 0 (b.rf 0x140 15 0 + 1)
    match spare with
    | some s => (b.mapIn p s ls, ls, true)
    | none => (b, ls, ls.isEmpty)

-- The closure (R437)

/-- The logical Quarters that share a physical Quarter with one of a list. -/
def Block.sharing (b : Block) (ls : List Nat) : List Nat :=
  let ps := ls.filterMap b.phys
  (List.range 64).filter fun l => ls.contains l || (match b.phys l with | some p => ps.contains p | none => false)

/-- The contexts with a placement, now or at the last complete epoch, and the logical Quarters of their groups. -/
def Block.placements (b : Block) : List (Nat × List Nat) :=
  let at_ (d : Disp) : List (Nat × List Nat) :=
    d.ctxs.filterMap fun e => if e.2.placed then some (e.1, e.2.groups.map (·.2)) else none
  at_ b.disp ++ (match b.cont.bank with
    | some k => match k.cuts.disp with | some d => at_ d | none => []
    | none => [])

/-- The closure of a seed of logical Quarters and contexts; n bounds the rounds. -/
def Block.closureOf (b : Block) : Nat → List Nat → List Nat → List Nat × List Nat
  | 0, ls, cs => (ls, cs)
  | n + 1, ls, cs =>
    let ls := b.sharing ls
    let here := b.placements.filter fun e => cs.contains e.1 || e.2.any ls.contains
    let cs' := here.foldl (fun a e => addNew a e.1) cs
    let ls' := here.foldl (fun a e => e.2.foldl addNew a) ls
    if ls'.length = ls.length ∧ cs'.length = cs.length then (ls', cs') else b.closureOf n ls' cs'

-- Steps 1 to 3 (R439)

/-- A close under way is abandoned: its bank is not used, and every sender is in the current epoch. -/
def Block.abandonClose (b : Block) : Block :=
  match b.cont.close with
  | none => b
  | some _ =>
    let qs := SMap.mapVal b.qs fun n q => if b.retired.contains n then q else { q with pend := [], dirty := q.pend.foldl addNew q.dirty }
    ({ b with
      qs := qs
      cont := { b.cont with
        close := none
        qEpoch := []
        gEpoch := (List.range 4).map fun g => (g, b.cont.epoch)
        outbox := b.cont.outbox.filter fun m => bits m.2.value.toNat 7 0 ≠ 1 } }).setRf 0x1100210 0 0 0

/-- A closure Quarter stops (R439, step 3): its strands end without a record and its lanes are flushed. -/
def Block.stopQuarter (b : Block) (q : Nat) : Block :=
  let b := [0, 1, 2, 3, 4, 5, 6, 7, 8].foldl (fun (b : Block) j => b.flushPair q j) b
  let x := b.q q
  b.setQ q { x with
    pes := SMap.mapVal x.pes fun _ p => { p with slots := [], memq := [], div := none, fireq := [] }
    releases := [], asm := [], vc1Out := [], pbq := [], wb := [],
    lanes := SMap.put x.lanes 7 { x.lane 7 with skip := false }
    plaza := { x.plaza with wait := [], internal := [], fireBuf := [], penTokens := [] } }

/-- Steps 2 and 3 begin for a closure (R439): contexts of it move nowhere, its Quarters stop, and every sender sends each of them a
FLUSH MARKER. -/
def Block.holdClosure (b : Block) (ls cs lost : List Nat) (start : Nat) (slow : Bool) : Block :=
  let qs := (ls.filterMap b.phys).foldl addNew []
  let b := b.abandonClose
  let gone (m : Option Migration) : Option Migration := match m with
    | some x => if cs.contains x.ctx then none else m
    | none => none
  let roll : Rollback := { logicals := ls, quarters := qs, ctxs := cs, start := start, step := if qs.isEmpty then 4 else 3, flush := [],
                           feed := [], merges := [], decs := [], slow := slow, lost := lost }
  let b := { b with
    ave := { b.ave with mig := gone b.ave.mig, chosen := gone b.ave.chosen }
    cont := { b.cont with roll := some roll, outs := [] } }
  let b := qs.foldl (fun b q => b.stopQuarter q) b
  b.senders.foldl (fun b u => b.sendMarkers u 2 b.cont.epoch qs) b

/-- A seed ends the contexts of its closure instead of rolling back (R442). -/
def Block.endClosure (b : Block) (cs : List Nat) : Block :=
  cs.foldl (fun b c => if (b.ctx? c).isSome then ((b.flagFaulted c).cancelCtx c 1).1 else b) b

/-- A seed (R436 to R440, R442, R450): the closure rolls back, or joins the rollback that runs, or is ended. -/
def Block.seed (b : Block) (ls cs lost : List Nat) : Block :=
  if ls.isEmpty && cs.isEmpty then b
  else if b.rf 0x1100200 1 1 = 0 || b.cont.bank.isNone || b.cont.fresh_ then b.endClosure (b.closureOf 65 ls cs).2
  else match b.cont.roll with
    | some r =>
      let (ls, cs) := b.closureOf 65 (ls.foldl addNew r.logicals) (cs.foldl addNew r.ctxs)
      b.holdClosure ls cs (lost.foldl addNew r.lost) r.start r.slow
    | none =>
      let (ls, cs) := b.closureOf 65 ls cs
      let b := (b.setRf 0x1100210 1 1 1).bump (contCnt 2)
      let nq := ((ls.filterMap b.phys).foldl addNew []).length
      let b := b.raise 25 (min nq 127 + 256 * min cs.length (2 ^ 19 - 1))
      b.holdClosure ls cs lost b.now false

-- Step 4: restore (R428, R430, R439)

/-- A Quarter at its cut, over the instruction store it holds now: only the sticky slots come from the snapshot (R69, R428). The channel
record, then the words of the inbound lanes, are queued to be looked up. The lanes themselves stay as the flush left them, with what is
owed to a parcel cut short (R109, R110); `outbound` gives what goes back into them. The record limiter is no part of a snapshot (R159,
R428). -/
def QCut.restore (c : QCut) (now : Quarter) : Quarter :=
  let img := c.image
  let nodes := SMap.mapVal now.nodes fun k n =>
    match SMap.find? img.nodes k with
    | some m => { ctl := BitVec.ofNat 64 (setBits n.ctl.toNat 40 33 (bits m.ctl.toNat 40 33)), sticky := m.sticky }
    | none => n
  let words := [0, 1, 2, 3].flatMap fun j =>
    let l := SMap.get img.lanes Lane.empty j
    (if l.drainB then l.b ++ l.a else l.a ++ l.b).map (·.tok)
  let toks := (c.chan ++ words).filter fun t => t.kind ≠ 8
  { img with
    code := now.code, nodes := nodes, nodesLen := now.nodesLen, dirty := [], pend := [], saved := img.frame
    lanes := now.lanes, sfLimit := now.sfLimit
    arriving := now.arriving
    plaza := { img.plaza with cache := [], penTokens := img.plaza.penTokens ++ toks.map fun t => (t, 0) } }

/-- The words of an outbound lane at the cut, over the lane as it is now (R114, R428): the rest of a parcel whose head had left before the
cut is not sent again. -/
def QCut.outbound (c : QCut) (j : Nat) (now : Lane) : Lane :=
  let l := SMap.get c.image.lanes Lane.empty j
  let rest (ws : List LaneWord) : List LaneWord := (ws.dropWhile fun w => !w.tok.last).tail
  let ws := if l.drainB then l.b ++ l.a else l.a ++ l.b
  let ws := if l.consMid.isSome then rest ws else ws
  if now.drainB then { now with b := ws.take 64, a := ws.drop 64 } else { now with a := ws.take 64, b := ws.drop 64 }

/-- The undo entries written since a cut are applied to some units' areas, newest first (R430). -/
def Block.applyUndo (b : Block) (epoch : Nat) (units : List Nat) : Block :=
  let us := b.cont.undo.filter fun u => decide (epoch < u.epoch) && units.contains u.unit
  { b with mem := us.foldl (fun m u => memWrite m u.line u.old) b.mem }

/-- Every closure Quarter stands as at the cut, and the words put back into its outbound lanes change their levels (R112, R113); one that
the bank does not hold is as initialised. -/
def Block.restoreQuarters (b : Block) (k : Bank) (qs : List Nat) : Block :=
  qs.foldl (fun b q =>
    let now := b.q q
    let x := match SMap.find? k.cuts.quarters q with
      | some c => c.restore now
      | none => { Quarter.empty with code := now.code, nodes := now.nodes, nodesLen := now.nodesLen, arriving := now.arriving
                                     lanes := now.lanes, sfLimit := now.sfLimit }
    let b := b.setQ q x
    let b := match SMap.find? k.cuts.quarters q with
      | some c => [4, 5, 6, 7].foldl (fun (b : Block) j => b.putLane q j (c.outbound j ((b.q q).lane j))) b
      | none => b
    b.bump (contCnt 3)) b

/-- The Dispatcher and the counts of some contexts stand as at the cut. -/
def Block.restoreContexts (b : Block) (k : Bank) (cs : List Nat) : Block :=
  let old := match k.cuts.disp with | some d => d.ctxs | none => []
  let ctxs := cs.foldl (fun m c => match SMap.find? old c with
    | some x => SMap.put m c (if x.state = 5 then { x with span := { x.span with waiting := false } } else x)
    | none => SMap.erase m c) b.disp.ctxs
  let b := cs.foldl (fun (b : Block) c => match b.ctx? c with
    | some x => b.forget c x.desc.image
    | none => b) b
  let live := (k.cuts.counts.filter fun e => cs.contains (e.1 % 2 ^ 20)).foldl (fun m e => SMap.put m e.1 e.2)
    (b.live.filter fun e => !cs.contains (e.1 % 2 ^ 20))
  { b with disp := { b.disp with ctxs := ctxs }, live := live }

-- Step 5: what replay feeds (R438)

/-- The tokens of a list less those that still wait to be injected: each of these takes the last equal one away. -/
def lessWaiting (toks waiting : List Token) : List Token :=
  (waiting.foldl (fun l t => l.erase t) toks.reverse).reverse

/-- The journal's records from an LSN on. -/
def Block.since (b : Block) (lsn : Nat) : List JRec := b.cont.journal.filter fun r => decide (lsn ≤ r.lsn)

/-- The second token of a pair, if CONT_PAIR names the context (R444). -/
def Block.twinOf (b : Block) (c : Nat) : Option Nat :=
  ((List.range 64).find? fun p => b.rf (0x1100400 + 8 * p) 31 31 == 1 && b.rf (0x1100400 + 8 * p) 19 0 == c).map fun p =>
    b.rf (0x1100404 + 8 * p) 19 0

/-- A token and its twin. -/
def Block.withTwin (b : Block) (t : Token) : List Token :=
  t :: (match b.twinOf t.ctx with
    | some c => [{ t with tag := tagSet t.tag 59 40 c }]
    | none => [])

/-- The CTL_START token of a context, from its descriptor (R264). -/
def Block.startToken (b : Block) (c : Nat) : Token :=
  let d := Desc.ofBytes (memRead b.mem (b.descMa c) 128)
  { value := d.startValue, tag := mkTag b.ownId c d.startNode (d.startTag % 2 ^ 18) (bits d.startTag 19 18),
    ctrl := mkCtrl 6 6 false true false 0 0 }

/-- The tokens of a list as their source made them: with SO set (R50), so that replay keeps their order as well (R59, R61). -/
def ofSource (ts : List Token) : List Token := ts.map fun t => t.setCtrl 6 6 1

/-- The tokens a Gate held at its MARK, and the LSN of the MARK. -/
def Bank.markOf (k : Bank) (g : Nat) : Nat × List Token := SMap.get k.cuts.marks (0, []) g

/-- The staged tokens of the Converter Gate that wait to be injected. -/
def Block.stagedTokens (b : Block) : List Token :=
  b.conv.links.flatMap fun l => l.2.staging.flatMap fun f => f.ts ++ f.toks

/-- The journaled inputs of a closure that replay feeds, by unit. -/
def Block.feedOf (b : Block) (k : Bank) (qs cs : List Nat) : SMap (List Token) :=
  let mine (t : Token) : Bool := cs.contains t.ctx
  let g (n : Nat) : List Token := ofSource ((b.gate n).out.map (·.1))
  let (l0, t0) := k.markOf 0
  let host := t0 ++ (b.since l0).flatMap fun r => match r.body with
    | .inject t => ofSource [t]
    | .disp c .start => [b.startToken c]
    | _ => []
  let (l1, t1) := k.markOf 1
  let conv := t1 ++ (b.since l1).flatMap fun r => match r.body with
    | .samples _ _ _ ts toks => ofSource ((ts ++ toks).flatMap b.withTwin)
    | _ => []
  let (l2, t2) := k.markOf 2
  let colir := t2 ++ (b.since l2).flatMap fun r => match r.body with
    | .colirIn t => ofSource [t]
    | _ => []
  let gates := [(68, lessWaiting (host.filter mine) ((g 0).filter mine)),
                (69, lessWaiting (conv.filter mine) ((ofSource b.stagedTokens).filter mine)),
                (70, lessWaiting (colir.filter mine) ((g 2).filter mine))]
  let quarters := (k.cuts.quarters.filter fun e => !qs.contains e.1).map fun e =>
    let lanes (q : Quarter) : List Token := [4, 5, 6].flatMap fun j =>
      let l := SMap.get q.lanes Lane.empty j
      ((if l.drainB then l.b ++ l.a else l.a ++ l.b).map (·.tok)).filter mine
    let sent := (b.since e.2.lsn).flatMap fun r => match r.body with
      | .cross t c => if r.src = e.1 ∧ !cs.contains c then [t] else []
      | _ => []
    (e.1, lessWaiting (lanes e.2.image ++ sent.filter mine) (lanes (b.q e.1)))
  (quarters ++ gates).filter fun e => !e.2.isEmpty

/-- The firing order that the journal holds for the merge nodes of a closure Quarter (R89). -/
def Block.mergesOf (b : Block) (k : Bank) (qs : List Nat) : SMap (List (W64 × Nat)) :=
  (qs.map fun q =>
    let lsn := match SMap.find? k.cuts.quarters q with | some c => c.lsn | none => 0
    (q, (b.since lsn).filterMap fun r => match r.body with
      | .merge t o => if r.src = q then some (t, o) else none
      | _ => none)).filter fun e => !e.2.isEmpty

/-- The Dispatcher's decisions about closure contexts since its cut. -/
def Block.decsOf (b : Block) (k : Bank) (cs : List Nat) : List (Nat × Decision) :=
  (b.since (k.markOf 0).1).filterMap fun r => match r.body with
    | .disp c d => if cs.contains c then some (c, d) else none
    | _ => none

/-- The outputs of a closure written since the cut, which replay must not repeat. -/
def Block.outsOf (b : Block) (k : Bank) (cs : List Nat) : List (W64 × W64) :=
  let first := (k.cuts.marks.map fun e => e.2.1).foldl min (k.markOf 0).1
  (b.since first).filterMap fun r => match r.body with
    | .out t v _ => if cs.contains (tagCtx t) then some (t, v) else none
    | .cross t c =>
      let lsn := match SMap.find? k.cuts.quarters r.src with | some x => x.lsn | none => first
      if cs.contains c ∧ !cs.contains t.ctx ∧ lsn ≤ r.lsn then some (t.tag, t.value) else none
    | _ => none

-- Decisions in replay

/-- The START_CTX job that armed a context, by its JOB record: CRING, ring and index. -/
def Block.armingJob (b : Block) (c : Nat) : Nat × Nat × Nat :=
  let f (bs : List Byte) (lo n : Nat) : Nat := ofBytes ((bs.drop lo).take n)
  match (b.cont.journal.filterMap fun r => match r.body with
      | .job i d => if f d 0 1 = 4 ∧ f d 16 4 % 2 ^ 20 = c then some (f d 20 1 % 64, r.src, i) else none
      | _ => none).getLast? with
  | some x => x
  | none => (0, 0, 0)

/-- Applies the next journaled decision of a context and takes it off; none where it has to wait for the context. -/
def Block.applyDec (b : Block) (c : Nat) : Decision → Option Block
  | .arm => match b.ctx? c with
    | some _ => some (b.popDec c)
    | none =>
      let d := Desc.ofBytes (memRead b.mem (b.descMa c) 128)
      let (cring, ring, index) := b.armingJob c
      let b := b.setCtx c (Ctx.armed d b.disp.armSeq cring ring index)
      some (({ b with disp := { b.disp with armSeq := b.disp.armSeq + 1 } }).popDec c)
  | .ready => match b.ctx? c with
    | some x => if x.state = 1 ∨ x.state = 2 then some ((b.makeReady c).popDec c) else some (b.popDec c)
    | none => some (b.popDec c)
  | .timerDue => some ((b.modCtx c fun x => { x with timer := false }).popDec c)
  | .dep v n => match b.ctx? c with
    | some x => some ((b.setCtx c { x with desc := { x.desc with dep := v }, decs := if x.started then x.decs + n else x.decs }).popDec c)
    | none => some ((b.writeDep c v).popDec c)
  | .cancel => some ((b.popDec c).cancelCtx c 1).1
  | .start => match b.ctx? c with
    | some x =>
      if x.state < 3 then none
      else if x.state = 3 then
        let b := b.readSections x.desc.image [5, 6]
        let place := b.placement x
        (b.reserve c x place).map fun b => ((b.startNow c x place).modCtx c fun x => { x with held := false }).popDec c
      else some (b.popDec c)
    | none => some (b.popDec c)
  | .complete st v => match b.ctx? c with
    | some x => if x.state ≤ 3 then some (b.complete c st v 0) else none
    | none => some (b.popDec c)

/-- Replay applies every decision that can be applied, in journal order (R438). -/
def Block.applyDecs (b : Block) : Block :=
  match b.cont.roll with
  | none => b
  | some r =>
    if r.step ≠ 5 then b
    else (r.decs.foldl (fun (acc : Block × List Nat) e =>
      if acc.2.contains e.1 then acc
      else match acc.1.applyDec e.1 e.2 with
        | some b => (b, acc.2)
        | none => (acc.1, acc.2 ++ [e.1])) (b, [])).1

/-- CONTEXT_START (R225, R263 to R266, R438): the Dispatcher starts one context; in a replay it first applies what its journal holds. -/
def execContextStart (s : State) : Host.Outcome State Fault Refusal :=
  actUp (fun b =>
    if b.rf 0x400000 0 0 = 0 ∨ b.hub.grave then b else b.applyDecs.withRoom (.disp 0 .start) fun b => b.startFrom 16) s

/-- Step 4 of a rollback and the start of step 5 (R438, R439, R447): contexts with a group on a lost logical Quarter are ended, the
rest of the closure is restored, and its journal is ready to be fed. -/
def Block.restoreClosure (b : Block) : Block :=
  match b.cont.roll, b.cont.bank with
  | some r, some k =>
    let dead := r.ctxs.filter fun c => match b.ctx? c with
      | some x => x.groups.any fun e => r.lost.contains e.2
      | none => false
    let cs := r.ctxs.filter fun c => !dead.contains c
    let feed := b.feedOf k r.quarters cs
    let merges := b.mergesOf k r.quarters
    let decs := b.decsOf k cs
    let outs := b.outsOf k cs
    let b := (b.applyUndo k.epoch r.quarters).restoreQuarters k r.quarters
    let b := b.restoreContexts k cs
    let g := b.gate 0
    let b := b.setGate 0 { g with starts := g.starts.filter fun t => !cs.contains t.ctx }
    let n := decs.length + (feed.map fun e => e.2.length).sum + (merges.map fun e => e.2.length).sum
    let roll := { r with step := 5, feed := feed, merges := merges, decs := decs }
    let b := ({ b with cont := { b.cont with roll := some roll, outs := outs } }).bump (contCnt 4) n
    (b.endClosure dead).applyDecs
  | _, _ => b

/-- ROLLBACK_RESTORE_DONE (R439, step 4). -/
def execRollbackRestoreDone (s : State) : Host.Outcome State Fault Refusal :=
  actUp (fun b => match b.cont.roll with
    | some r => if r.step = 4 then b.restoreClosure else b
    | none => b) s

/-- The shadow window of a reaction closes FAULT_SHADOW µs after the reaction completes (R409). -/
def Block.windowDone (b : Block) (kind : Shadow) : Block :=
  { b with hub := { b.hub with windows := b.hub.windows.map fun w =>
      if w.kind = kind ∧ w.until_.isNone then { w with until_ := some (b.now + 1000 * b.rf 0x300008 15 0) } else w } }

/-- ROLLBACK_REJOIN (R439, step 6): every journal stream of the closure has reached live input. -/
def execRollbackRejoin (s : State) : Host.Outcome State Fault Refusal :=
  actUp (fun b =>
    match b.cont.roll with
    | none => b
    | some r =>
      if r.step ≠ 5 || !r.feed.isEmpty || !r.decs.isEmpty || r.merges.any fun e => !e.2.isEmpty then b
      else
        let b := { b with cont := { b.cont with roll := none, freeAt := b.now } }
        ((b.setRf 0x1100210 1 1 0).setReg 0x1100228 ((b.now - r.start) / 1000)).windowDone .rollback) s

/-- LEN of CONT_EPOCH_CFG in ns (R423). -/
def Block.epochNs (b : Block) : Nat := 1000 * max (b.rf 0x1100204 15 0) 250

/-- RECOVERY_SLOW (R441): a rollback has not reached step 6 by 3 × LEN. -/
def execRecoverySlow (s : State) : Host.Outcome State Fault Refusal :=
  actUp (fun b =>
    match b.cont.roll with
    | none => b
    | some r =>
      if r.slow then b
      else
        let b := b.passTo (r.start + 3 * b.epochNs)
        let b := { b with cont := { b.cont with roll := some { r with slow := true } } }
        (b.bump (contCnt 7)).raise 27 ((b.now - r.start) / 1000)) s

end Sys2Proof.Machine
end

