-- ==== Sys2Proof/Machine/Continuity.lean ====
section
/-! DEFINITION. Epochs and the Ledger (R422 to R435): the close, the cuts and marks, its end, the snapshot engine, room in the journal, and
the placement decision made at a close (R242, R243). -/

namespace Sys2Proof.Machine

-- The placement engine (R242, R243)

/-- Load of a logical Quarter over an epoch, as the instructions issued times 100 and 16 times the epoch's CK_AVE cycles (R242). -/
def Block.loadOf (b : Block) (l ns : Nat) : Nat × Nat :=
  match b.phys l with
  | none => (0, 1)
  | some p => (100 * SMap.get b.ave.issued 0 p, 16 * nsCycles ns)

/-- The load is at least a percentage. -/
def hotAt (l : Nat × Nat) (pct : Nat) : Bool := decide (pct * l.2 ≤ l.1)
/-- The load is at most a percentage. -/
def coolAt (l : Nat × Nat) (pct : Nat) : Bool := decide (l.1 ≤ pct * l.2)

/-- The other context of a pair (R242, R445). -/
def Block.pairOf (b : Block) (c : Nat) : Option Nat :=
  let a (p : Nat) : Nat := b.reg (0x1100400 + 8 * p)
  let z (p : Nat) : Nat := b.rf (0x1100404 + 8 * p) 19 0
  match (List.range 64).find? fun p => (a p).testBit 31 && (bits (a p) 19 0 == c || z p == c) with
  | none => none
  | some p => some (if bits (a p) 19 0 = c then z p else bits (a p) 19 0)

/-- The logical Quarters that the twin of a context uses. -/
def Block.twinQuarters (b : Block) (c : Nat) : List Nat :=
  match (b.pairOf c).bind b.ctx? with
  | some x => if x.placed then x.groups.map (·.2) else []
  | none => []

/-- The cool Quarters to which a group of a context may move. -/
def Block.coolTargets (b : Block) (c : Nat) (x : Ctx) (g : Nat) (cool : Nat → Bool) : List Nat :=
  let mask := onesOf 64 (b.groupMask x.desc.image g)
  if mask.length ≤ 1 then []
  else mask.filter fun l => (b.phys l).isSome && cool l && !(b.twinQuarters c).contains l

/-- The candidates on a Quarter: context, group, firings and targets. -/
def Block.movable (b : Block) (l : Nat) (cool : Nat → Bool) : List (Nat × Nat × Nat × List Nat) :=
  b.disp.ctxs.flatMap fun e => if !e.2.placed then [] else
    e.2.groups.filterMap fun g =>
      let ts := (b.coolTargets e.1 e.2 g.1 cool).filter (· ≠ l)
      if g.2 = l ∧ !ts.isEmpty then some (e.1, g.1, SMap.get b.ave.fires 0 (e.1 * 256 + g.1), ts) else none

/-- The placement engine decides at a close (R242, R243). A migration chosen at the close before and not begun is dropped: it runs in the
epoch after its close (R244). -/
def Block.placementDecision (b : Block) (ns : Nat) : Block :=
  let b := { b with ave := { b.ave with chosen := none } }
  let hot := min (b.rf 0x500300 6 0) 100
  let cool := min (b.rf 0x500300 14 8) 100
  let ls := (List.range 64).filter fun l => (b.phys l).isSome
  if b.rf 0x500000 2 2 = 0 || decide (hot ≤ cool) || b.ave.mig.isSome then b
  else match ls with
  | [] => b
  | l0 :: rest =>
    let load (l : Nat) : Nat × Nat := b.loadOf l ns
    let top := rest.foldl (fun best l => if (load best).1 * (load l).2 < (load l).1 * (load best).2 then l else best) l0
    if !hotAt (load top) hot then b
    else match b.movable top fun l => coolAt (load l) cool with
    | [] => (if b.rf 0x500000 3 3 = 1 then b.raise 6 top else b).bump (aveCnt 11)
    | m :: ms =>
      let b := b.disp.ctxs.foldl (fun (b : Block) e => if e.2.placed then b.readSections e.2.desc.image [6] else b) b
      let (c, g, _, ts) := ms.foldl (fun best k => if best.2.2.1 < k.2.2.1 then k else best) m
      let here := (b.phys top).getD 0
      let d (l : Nat) : Nat := hopsXY (xyOf here) (xyOf ((b.phys l).getD 0))
      let target := ts.tail.foldl (fun best l => if d l < d best then l else best) (ts.headD 0)
      { b with ave := { b.ave with chosen := some { ctx := c, group := g, old := top, target := target, start := 0 } } }

-- The close (R423, R424)

/-- A Quarter's undo ring is more than three quarters full (R423). -/
def Block.undoHigh (b : Block) : Bool := (List.range 68).any fun q => decide (3 * b.undoSpace < 4 * b.undoUsed q)

/-- The close of the current epoch starts (R242, R423, R424), when it is due or when an EPOCH_NOW or a full undo ring asks for it; late
where a close or a rollback held it back. -/
def Block.closeStart (b : Block) : Block :=
  if b.rf 0x1100200 0 0 = 0 || b.cont.close.isSome || b.cont.roll.isSome then b
  else
    let due := b.cont.lastClose + b.epochNs
    let b := if b.cont.epochAsked.isEmpty && !b.undoHigh then b.passTo due else b
    let e := b.cont.epoch
    let late := b.cont.lateWait || decide (due < b.cont.freeAt)
    let ns := b.now - b.cont.lastClose
    let cuts : Cuts := { quarters := [], marks := [], counts := [], disp := none }
    let b := { b with cont := { b.cont with
      epoch := e + 1, lastClose := b.now, lateWait := false
      journal := if b.cont.fresh_ then [] else b.cont.journal
      close := some { epoch := e, start := b.now, cuts := cuts } } }
    let b := b.setRf 0x1100210 0 0 1
    let b := if late then ((b.bump (contCnt 1)).setRf 0x1100210 4 4 1).raise 24 (e % 2 ^ 32) else b
    let b := b.placementDecision ns
    { b with ave := { b.ave with issued := [], fires := [] } }
/-- EPOCH_CLOSE_START (R423). -/
def execEpochCloseStart (s : State) : Host.Outcome State Fault Refusal := actUp Block.closeStart s

/-- QUARTER_CUT (R114, R424): CLOSE reaches a Quarter; `upsets` are the lane words, by lane and place, whose parity check fails in the copy. -/
def execQuarterCut (x : CutAt) (s : State) : Host.Outcome State Fault Refusal :=
  actUp (fun b => b.quarterCut x.q x.upsets) s

/-- The tokens that a Gate has journaled and not injected, those of its sources with SO set (R50). -/
def Block.gateTokens (b : Block) (g : Nat) : List Token :=
  if g = 1 then ofSource b.stagedTokens else (b.gate g).starts ++ ofSource ((b.gate g).out.map (·.1))

/-- GATE_MARK (R424, R434): CLOSE reaches a Gate: it writes its MARK, its sender epoch advances, and it sends a CLOSE MARKER to every
mapped Quarter; the Host Gate's cut is also the Dispatcher's. -/
def execGateMark (gate : Fin 4) (s : State) : Host.Outcome State Fault Refusal :=
  actUp (fun b =>
    let g := gate.val
    match b.cont.close with
    | none => b
    | some c =>
      if (SMap.find? c.cuts.marks g).isSome then b
      else b.withRoom (.mark c.epoch) fun b =>
        let cuts := { c.cuts with
          marks := SMap.put c.cuts.marks g (b.cont.lsn, b.gateTokens g)
          counts := (b.unitCounts (68 + g)).foldl (fun m e => SMap.put m e.1 e.2) c.cuts.counts
          disp := if g = 0 then some b.disp else c.cuts.disp }
        let b := b.journal g (.mark c.epoch)
        let b := { b with cont := { b.cont with
          close := some { c with cuts := cuts }
          gEpoch := SMap.put b.cont.gEpoch g (c.epoch + 1) } }
        b.sendMarkers (68 + g) 1 c.epoch b.mapped) s

/-- Every mapped Quarter has its whole part of the snapshot in the store: cut, every line copied and the channel record complete; and
every Gate has written its MARK (R427, R428). -/
def Block.closeComplete (b : Block) (c : Close) : Bool :=
  (b.mapped.all fun q => (b.q q).pend.isEmpty && match SMap.find? c.cuts.quarters q with
    | some cut => b.senders.all fun u => cut.markers.contains u
    | none => false) &&
  [0, 1, 2, 3].all fun g => (SMap.find? c.cuts.marks g).isSome

/-- EPOCH_DONE (R428, R435, R367): the epoch is complete. Its bank is the one a rollback restores, the anchor moves to its MARK, and
older records and undo entries are free. -/
def execEpochDone (s : State) : Host.Outcome State Fault Refusal :=
  actUp (fun b =>
    match b.cont.close with
    | none => b
    | some c =>
      if !b.closeComplete c then b
      else b.withRoom (.epochDone c.epoch) fun b =>
        let b := b.journal 0 (.epochDone c.epoch)
        let first := (c.cuts.marks.map fun e => e.2.1).foldl min b.cont.lsn
        let asked := b.cont.epochAsked
        let b := { b with cont := { b.cont with
          bank := some { epoch := c.epoch, cuts := c.cuts }
          close := none
          journal := b.cont.journal.filter fun r => decide (first ≤ r.lsn)
          undo := b.cont.undo.filter fun u => decide (c.epoch < u.epoch)
          outs := [], freeAt := b.now, fresh_ := false, epochAsked := [] } }
        let b := (b.setRf 0x1100210 0 0 0).bump (contCnt 0)
        asked.foldl (fun b j => b.finishJob j.1 j.2 0 c.epoch 0) b) s

/-- The lines that a write waiting at port B names (R213): those of the parcel at the parcel port, and of refused words. -/
def Quarter.portBLines (q : Quarter) : List Nat :=
  ((q.pbq.headD []).map fun w => w.word / 8) ++
  match q.asm with
  | [] => []
  | h :: body =>
    let op := bits h.tok.value.toNat 27 24
    let n := (if op = 2 then 64 else 2) * body.length
    if (parcelOf 0 q.asm || parcelOf 1 q.asm || parcelOf 2 q.asm) && n ≠ 0 then
      q.pend.filter fun l => decide (pbWord h.tok / 8 ≤ l ∧ l ≤ (pbWord h.tok + n - 1) / 8)
    else []

/-- An access held by a PENDING line (R213): the line of a store that waits at a PE, or of a write at port B. -/
def Quarter.heldLine (q : Quarter) : Option Nat :=
  let stores := q.pes.flatMap fun e => e.2.memq.filterMap fun m => match m.kind with
    | .ld => none
    | .ldd => none
    | .ret => none
    | .got _ _ => none
    | _ => some (m.word / 8)
  (stores ++ q.portBLines).find? fun l => q.pend.contains l

/-- SNAPSHOT_LINE_COPY (R208, R212, R213): the snapshot engine copies the next PENDING line, a line that holds a write first; SECDED
checks its words as at port B. -/
def execSnapshotLineCopy (q : Fin 68) (ecc : List (Fin 3)) (s : State) : Host.Outcome State Fault Refusal :=
  actUp (fun b =>
    let x := b.q q
    match x.pend with
    | [] => b
    | l0 :: ls =>
      if !b.qAwake q then b else
      let next := match x.heldLine with
        | some l => l
        | none => ls.foldl min l0
      let b := (b.pbReadWords q (8 * next) ecc 8).1
      let b := b.copyLine q next
      b.setQ q { b.q q with pend := x.pend.filter (· ≠ next) }) s

/-- LEDGER_ROOM_FREED (R435): the journal has room again; the time waited is counted. -/
def execLedgerRoomFreed (s : State) : Host.Outcome State Fault Refusal :=
  actUp (fun b =>
    match b.cont.fullSince with
    | none => b
    | some t =>
      if b.journalSpace ≤ b.journalUsed then b
      else
        let b := { b with cont := { b.cont with fullSince := none } }
        (b.setRf 0x1100210 2 2 0).bump (contCnt 6) ((b.now - t) / 1000)) s

/-- A write that sets SNAP_EN starts LEN (R423). -/
def Block.writeContCtrl (b : Block) (value : Nat) : Block :=
  let was := b.rf 0x1100200 0 0
  let b := b.setReg 0x1100200 (value % 4)
  if was = 0 ∧ value % 2 = 1 then { b with cont := { b.cont with lastClose := b.now } } else b

/-- A change of the journal's or the store's place (R450): until a close completes nothing can be restored. -/
def Block.moveStore (b : Block) (off value : Nat) : Block :=
  let c := b.writePlain off value
  if c.reg off = b.reg off then b else { c with cont := { b.cont with fresh_ := true } }

end Sys2Proof.Machine
end

