-- ==== Sys2Proof/Machine/Control.lean ====
section
/-! DEFINITION. Control, loop, special-register and SEND strand instructions (R126, R139 to R157). -/

namespace Sys2Proof.Machine

/-- A branch (R142): the condition on RA and RB; the target is the branch's own address plus OFF. -/
def branchBody (c : W64 → W64 → Bool) (_ : Block) (_ : Quarter) (p : PE) (s : Slot) (x : SInstr) : Body :=
  match x.f with
  | .b ra rb off => if c (s.rd ra) (s.rd rb) then .jump s p (ofInt 15 ((s.pc : Int) + off.toInt)) else .cont s p
  | _ => .hold

/-- A call (R143): STACK below SLIM; the return address is stored at the new SP as an ST does; then the jump. -/
def callTo (slot target : Nat) (s : Slot) (p : PE) : Body :=
  if s.sp < s.slim + 8 then .fault 2 s.sp
  else
    let sp := (s.sp + 2 ^ 24 - 8) % 2 ^ 24
    let ea : W64 := BitVec.ofNat 64 sp
    match frameFault ea true, frameWindow ea with
    | some c, _ => .fault c sp
    | none, none => .hold
    | none, some (k, word) =>
      if p.storesFull then .hold
      else .jump { s with sp := sp }
        { p with memq := p.memq ++ [{ slot := slot, kind := if k = 0 then .st else if k = 1 then .stOr else .stAnd, word := word, ea := ea, rd := 0,
                                      data := BitVec.ofNat 64 ((s.pc + 1) % 32768), pc := s.pc, serial := s.serial }] } target

/-- A return (R143): the word at SP is loaded, SP rises, and the jump follows when the word is in. -/
def retBody (slot : Nat) (_ : Block) (_ : Quarter) (p : PE) (s : Slot) (_ : SInstr) : Body :=
  let ea : W64 := BitVec.ofNat 64 s.sp
  match frameFault ea true, frameWindow ea with
  | some c, _ => .fault c s.sp
  | none, none => .hold
  | none, some (_, word) =>
    .jump { s with sp := (s.sp + 8) % 2 ^ 24 }
      { p with memq := p.memq ++ [{ slot := slot, kind := .ret, word := word, ea := ea, rd := 0, data := 0, pc := s.pc, serial := s.serial }] } s.pc

/-- Enters a hardware loop (R145): a count of 0 skips the body. -/
def enterLoop (n count len : Nat) (q : Quarter) (p : PE) (s : Slot) : Body :=
  let stop := (s.pc + len) % 32768
  let s1 := s.setLoop n { start := (s.pc + 1) % 32768, stop := stop, count := count, active := decide (count ≠ 0) }
  if count = 0 then .jump s1 p (q.exitAddr stop) else .cont s1 p

/-- The token of a SEND (R139, R140, R49). -/
def sendToken (s : Slot) (x : SInstr) : Option Token :=
  match x.f with
  | .send rv rt kind fmt gop port sp ext =>
    let t := s.rd rt
    let t1 := tagSet t 59 40 (tagCtx s.tag)
    let t2 := match ext with
      | none => t1
      | some e =>
        let e := e.toNat
        let t2 := if e.testBit 6 then tagSet t1 59 40 (tagCtx t) else t1
        let t2 := tagSet t2 39 22 (bits e 31 14)
        let k := bits e 5 0
        let t2 := if bits e 13 12 = 1 then tagSet t2 21 4 ((tagIdx t2 + k) % 262144)
          else if bits e 13 12 = 2 then tagSet t2 21 4 ((tagIdx t2 + 262144 - k) % 262144) else t2
        if e.testBit 11 then tagSet t2 63 60 (bits e 10 7) else t2
    let t3 := if sp = 1 then tagSet t2 3 2 port.toNat else t2
    some { value := s.rd rv, tag := t3, ctrl := mkCtrl kind.toNat fmt.toNat s.pstate true false gop.toNat s.epoch }
  | _ => none

/-- NC of a SEND: it names a new CTX (R140). -/
def sendsNc (x : SInstr) : Bool :=
  match x.f with
  | .send _ _ _ _ _ _ _ (some e) => e.toNat.testBit 6
  | _ => false

/-- SEND (R141): the token waits for its outbound lane, and the slot with it. -/
def sendBody (_ : Block) (_ : Quarter) (p : PE) (s : Slot) (x : SInstr) : Body :=
  match sendToken s x with
  | some t => .cont { s with send := some (t, sendsNc x) } p
  | none => .hold

/-- SEND (R139). -/
def execSend (site : Site) (s : State) : Host.Outcome State Fault Refusal :=
  act (issue 0x60 site (sendBody)) s

/-- BEQ (R142). -/
def execBeq (site : Site) (s : State) : Host.Outcome State Fault Refusal :=
  act (issue 0x70 site (branchBody fun a b => a == b)) s

/-- BNE (R142). -/
def execBne (site : Site) (s : State) : Host.Outcome State Fault Refusal :=
  act (issue 0x71 site (branchBody fun a b => a != b)) s

/-- BLT (R142). -/
def execBlt (site : Site) (s : State) : Host.Outcome State Fault Refusal :=
  act (issue 0x72 site (branchBody fun a b => a.slt b)) s

/-- BGE (R142). -/
def execBge (site : Site) (s : State) : Host.Outcome State Fault Refusal :=
  act (issue 0x73 site (branchBody fun a b => !a.slt b)) s

/-- BLTU (R142). -/
def execBltu (site : Site) (s : State) : Host.Outcome State Fault Refusal :=
  act (issue 0x74 site (branchBody fun a b => a.ult b)) s

/-- BGEU (R142). -/
def execBgeu (site : Site) (s : State) : Host.Outcome State Fault Refusal :=
  act (issue 0x75 site (branchBody fun a b => !a.ult b)) s

/-- BEQZ (R142). -/
def execBeqz (site : Site) (s : State) : Host.Outcome State Fault Refusal :=
  act (issue 0x76 site (branchBody fun a _ => a == 0)) s

/-- BNEZ (R142). -/
def execBnez (site : Site) (s : State) : Host.Outcome State Fault Refusal :=
  act (issue 0x77 site (branchBody fun a _ => a != 0)) s

/-- BLTZ (R142). -/
def execBltz (site : Site) (s : State) : Host.Outcome State Fault Refusal :=
  act (issue 0x78 site (branchBody fun a _ => a.slt 0)) s

/-- BGEZ (R142). -/
def execBgez (site : Site) (s : State) : Host.Outcome State Fault Refusal :=
  act (issue 0x79 site (branchBody fun a _ => !a.slt 0)) s

/-- JMP (R142). -/
def execJmp (site : Site) (s : State) : Host.Outcome State Fault Refusal :=
  act (issue 0x7A site (fun _ _ p sl x => match x.f with
    | .j t => .jump sl p t.toNat
    | _ => .hold)) s

/-- JR (R142). -/
def execJr (site : Site) (s : State) : Host.Outcome State Fault Refusal :=
  act (issue 0x7B site (fun _ _ p sl x => match x.f with
    | .b ra _ _ => .jump sl p ((sl.rd ra).toNat % 32768)
    | _ => .hold)) s

/-- CALL (R143). -/
def execCall (site : Site) (s : State) : Host.Outcome State Fault Refusal :=
  act (issue 0x7C site (fun _ _ p sl x => match x.f with
    | .j t => callTo site.slot.val t.toNat sl p
    | _ => .hold)) s

/-- CALLR (R143). -/
def execCallr (site : Site) (s : State) : Host.Outcome State Fault Refusal :=
  act (issue 0x7D site (fun _ _ p sl x => match x.f with
    | .b ra _ _ => callTo site.slot.val ((sl.rd ra).toNat % 32768) sl p
    | _ => .hold)) s

/-- RET (R143). -/
def execRet (site : Site) (s : State) : Host.Outcome State Fault Refusal :=
  act (issue 0x7E site (retBody site.slot.val)) s

/-- LOOP (R145). -/
def execLoop (site : Site) (s : State) : Host.Outcome State Fault Refusal :=
  act (issue 0x80 site (fun _ q p sl x => match x.f with
    | .loop n rc len => enterLoop n.toNat ((sl.rd rc).toNat % 2 ^ 32) len.toNat q p sl
    | _ => .hold)) s

/-- LOOPI (R145). -/
def execLoopi (site : Site) (s : State) : Host.Outcome State Fault Refusal :=
  act (issue 0x81 site (fun _ q p sl x => match x.f with
    | .loopi n cnt len => enterLoop n.toNat cnt.toNat len.toNat q p sl
    | _ => .hold)) s

/-- LBRK (R149). -/
def execLbrk (site : Site) (s : State) : Host.Outcome State Fault Refusal :=
  act (issue 0x82 site (fun _ q p sl x => match x.f with
    | .lbrk n => .jump (sl.setLoop n.toNat { sl.loop n.toNat with active := false }) p (q.exitAddr (sl.loop n.toNat).stop)
    | _ => .hold)) s

/-- REP (R150). -/
def execRep (site : Site) (s : State) : Host.Outcome State Fault Refusal :=
  act (issue 0x83 site (fun _ q p sl x => match x.f with
    | .rep c => .jump (latchRep q c.toNat sl) p (latchRep q c.toNat sl).pc
    | _ => .hold)) s

/-- REPR (R150). -/
def execRepr (site : Site) (s : State) : Host.Outcome State Fault Refusal :=
  act (issue 0x84 site (fun _ q p sl _ => .jump (latchRep q sl.rcnt sl) p (latchRep q sl.rcnt sl).pc)) s

/-- MFS (R126). -/
def execMfs (site : Site) (s : State) : Host.Outcome State Fault Refusal :=
  act (issue 0x85 site (fun b _ p sl x => match x.f with
    | .mfs rd sr => .cont (sl.wr rd (BitVec.ofNat 64 (sl.special (selfWord b site.q.val site.pe.val site.slot.val) sr.toNat))) p
    | _ => .hold)) s

/-- MTS (R126). -/
def execMts (site : Site) (s : State) : Host.Outcome State Fault Refusal :=
  act (issue 0x86 site (fun _ _ p sl x => match x.f with
    | .mts sr ra => .cont (sl.setSpecial sr.toNat (sl.rd ra).toNat) p
    | _ => .hold)) s

/-- FENCE (R154). -/
def execFence (site : Site) (s : State) : Host.Outcome State Fault Refusal :=
  act (issue 0x87 site (fun _ _ p sl _ => .cont { sl with fence := p.storing site.slot.val } p)) s

/-- TRAP (R156). -/
def execTrap (site : Site) (s : State) : Host.Outcome State Fault Refusal :=
  act (issue 0x88 site (fun _ _ _ _ x => match x.f with
    | .trap c => .fault 8 c.toNat
    | _ => .hold)) s

/-- HALT (R155). -/
def execHalt (site : Site) (s : State) : Host.Outcome State Fault Refusal :=
  act (issue 0x89 site (fun _ _ _ _ _ => .halt)) s

/-- NOP (R130). -/
def execNop (site : Site) (s : State) : Host.Outcome State Fault Refusal :=
  act (issue 0x8A site (fun _ _ p sl _ => .cont sl p)) s

/-- UNDEFINED_OPCODE (R131, R132): the word at the slot's PC has an undefined opcode, so it issues as an illegal
instruction. -/
def execUndefinedOpcode (site : Site) (s : State) : Host.Outcome State Fault Refusal :=
  act (fun b =>
    let q := b.q site.q.val
    let w := q.word (q.slot site.pe.val site.slot.val).pc
    if (shapeOf (opOf w).toNat).isNone then issue (opOf w).toNat site (fun _ _ _ _ _ => .hold) b else b) s

end Sys2Proof.Machine
end

