-- ==== Sys2Proof/Machine/Converter.lean ====
section
/-! DEFINITION. The Converter Gate (R273 to R296): links and settling, scripts, SYSREF and realignment, samples in, drive out. -/

namespace Sys2Proof.Machine

-- Links and their registers

/-- A link that is OFF and has never been used. -/
def ConvLink.empty : ConvLink :=
  { todo := [], entry := 0, p0 := 0, p1 := 0, rate := 0, lat := 0, eyeMin := 0, slots := [], subclass := 0, dwellAt := none, edge := false,
    alignAt := 0, dataAt := 0, frames := 0, lockLost := none, realigns := [], staging := [], lastOut := [] }
/-- A drive channel that has not started. -/
def Drive.empty : Drive := { start := none, next := 0, buffer := [], queue := [], play := none, last := none }

/-- Link k. -/
def Block.link (b : Block) (k : Nat) : ConvLink := SMap.get b.conv.links ConvLink.empty k
/-- Replaces link k. -/
def Block.setLink (b : Block) (k : Nat) (l : ConvLink) : Block := { b with conv := { b.conv with links := SMap.put b.conv.links k l } }
/-- Drive channel d. -/
def Block.drive (b : Block) (d : Nat) : Drive := SMap.get b.conv.drives Drive.empty d
/-- Replaces drive channel d. -/
def Block.setDrive (b : Block) (d : Nat) (x : Drive) : Block := { b with conv := { b.conv with drives := SMap.put b.conv.drives d x } }

/-- A register of link k. -/
def linkReg (k o : Nat) : Nat := 0xD01000 + 0x100 * k + o
/-- STATE of a link: 0 OFF, 1 SETTLING, 2 ALIGNING, 3 DATA, 4 SAFE, 5 FAILED. -/
def Block.linkState (b : Block) (k : Nat) : Nat := b.rf (linkReg k 8) 2 0

/-- A link changes its state and its cause; a change of STATE raises CONV_LINK. -/
def Block.setLinkState (b : Block) (k st cause : Nat) : Block :=
  let old := b.linkState k
  let b := (b.setRf (linkReg k 8) 2 0 st).setRf (linkReg k 8) 7 4 cause
  if old = st then b else b.raise 11 (k + field st 6 4 + field cause 11 8)

/-- M, F, N′ and N of a link, from PARAM0. -/
def ConvLink.cM (l : ConvLink) : Nat := bits l.p0 6 0
/-- Octets per frame. -/
def ConvLink.cF (l : ConvLink) : Nat := bits l.p0 15 8
/-- Bits of a sample word. -/
def ConvLink.cNP (l : ConvLink) : Nat := bits l.p0 21 16
/-- Sample resolution. -/
def ConvLink.cN (l : ConvLink) : Nat := bits l.p0 27 22
/-- Lanes. -/
def ConvLink.cL (l : ConvLink) : Nat := bits l.p1 3 0
/-- Samples per converter and frame. -/
def ConvLink.cS (l : ConvLink) : Nat := bits l.p1 7 4
/-- TDM phases. -/
def ConvLink.cT (l : ConvLink) : Nat := bits l.p1 11 8
/-- 64B/66B. -/
def ConvLink.cEnc (l : ConvLink) : Bool := l.p1.testBit 12
/-- Hold factor. -/
def ConvLink.cH (l : ConvLink) : Nat := max (bits l.p1 31 16) 1

/-- A link's direction is that of slot FIRST as it stood at SETTLE: true is transmit (R273, R274). -/
def Block.linkTx (b : Block) (k : Nat) : Bool := (b.link k).tx

/-- Time from entry to DATA to the boundary of frame f, in ns, rounded down: a lane carries 10 bits an octet in 8B/10B and 66 for
each 64 in 64B/66B. -/
def ConvLink.frameNs (l : ConvLink) (f : Nat) : Nat :=
  if l.cEnc then f * l.cF * 8 * 66 * 1000000 / (64 * max l.rate 1) else f * l.cF * 10 * 1000000 / max l.rate 1

/-- Octets per lane of an LMFC or LEMC period: K frames in 8B/10B, E multiblocks of 32 blocks of 8 octets in 64B/66B. -/
def ConvLink.periodOctets (l : ConvLink) : Nat := if l.cEnc then 256 * l.ke else l.cF * l.ke
/-- The LMFC or LEMC boundary m after the edge that set it, in ns, rounded down. -/
def ConvLink.boundary (l : ConvLink) (m : Nat) : Nat :=
  if l.cEnc then l.lmfc + m * l.periodOctets * 8 * 66 * 1000000 / (64 * max l.rate 1) else l.lmfc + m * l.periodOctets * 10 * 1000000 / max l.rate 1
/-- The number of the first boundary at or after a time. -/
def ConvLink.boundaryFrom (l : ConvLink) (t : Nat) : Nat :=
  let n := if l.cEnc then l.periodOctets * 8 * 66 * 1000000 else l.periodOctets * 10 * 1000000
  ((t - l.lmfc) * (if l.cEnc then 64 * max l.rate 1 else max l.rate 1) + n - 1) / max n 1
/-- A time falls on a boundary of the link (R283). -/
def ConvLink.onBoundary (l : ConvLink) (t : Nat) : Bool := l.boundary (l.boundaryFrom t) == t
/-- When a receive link releases frame f: RBD frames after its boundary (R284). -/
def ConvLink.releaseAt (l : ConvLink) (f : Nat) : Nat := l.dataAt + l.frameNs (f + l.rbd)
/-- The multiblocks that frame f reaches into (R287). -/
def ConvLink.inBlock (l : ConvLink) (f m : Nat) : Bool := decide (f * l.cF / 256 ≤ m) && decide (m ≤ ((f + 1) * l.cF - 1) / 256)

/-- The first of the valid slots of frame f on, counted as v (R286). -/
def ConvLink.validAt (l : ConvLink) (f : Nat) : Nat := (f * l.cS + l.cH - 1) / l.cH
/-- Frames from f0 up to f that hold a valid slot (R290). -/
def ConvLink.validFrames (l : ConvLink) (f0 f : Nat) : Nat := if l.cH ≤ l.cS then f - f0 else l.validAt f - l.validAt f0
/-- Frame f holds a valid slot. -/
def ConvLink.hasValid (l : ConvLink) (f : Nat) : Bool := decide (l.validAt f < l.validAt (f + 1))

/-- LO of the binding of an input channel, or of a timestamp stream as 4096 + link. -/
def bindReg (c : Nat) : Nat := if c < 4096 then 0xD10000 + 8 * c else linkReg (c - 4096) 0x20
/-- A binding is enabled. -/
def Block.bound (b : Block) (c : Nat) : Bool := b.rf (bindReg c) 31 31 == 1

/-- The contexts bound to a link, and their twins (R436). -/
def Block.boundCtxs (b : Block) (k : Nat) : List Nat :=
  (((List.range 512).map fun i => 512 * k + i) ++ [4096 + k]).foldl (fun a c =>
    if b.bound c then
      let x := b.rf (bindReg c) 19 0
      (b.twinOf x).toList.foldl addNew (addNew a x)
    else a) []

/-- The channels of a link start again (R279). -/
def Block.restartChannels (b : Block) (k : Nat) : Block :=
  { b with conv := { b.conv with
      starts := b.conv.starts.filter fun e => !(decide (e.1 / 512 = k) || e.1 == 4096 + k)
      drives := b.conv.drives.filter fun e => decide (e.1 / 64 ≠ k) } }

-- Scripts (R278)

/-- What a script came to: RESULT, the index of its last operation, and the bytes its READs returned. -/
structure Script where
  res   : Nat
  op    : Nat
  reads : List Byte

/-- A transfer goes out on the side SPI: the fields of an operation (R278). -/
def Block.transfer (b : Block) (w : Nat) (read : Bool) : Block :=
  { b with lands := { b.lands with spi := b.lands.spi ++
      [{ cs := bits w 58 56, read := read, addr := bits w 54 40, data := if read then 0 else bits w 7 0 }] } }

/-- Runs a script from its i-th operation; `spi` are the bytes the converters return, taken in order. -/
def Block.runScript (b0 : Block) (ma : Nat) (spi : List Byte) (reads : List Byte) : Nat → Block × List Byte × Script
  | 0 => (b0, spi, { res := 0, op := 4095, reads := reads })
  | n + 1 =>
    let i := 4096 - (n + 1)
    let (b, bs, _) := b0.stopRead (ma + 8 * i) 8
    let w := ofBytes bs
    let op := bits w 63 60
    let x := spi.headD 0
    if op = 0 then (b, spi, { res := 0, op := i, reads := reads })
    else if op = 1 then (b.transfer w false).runScript ma spi reads n
    else if op = 2 then ((b.transfer w true).stopWrite (ma + 8 * i) [x]).runScript ma spi.tail (reads ++ [x]) n
    else if op = 3 then
      if x.toNat &&& bits w 15 8 = bits w 7 0 &&& bits w 15 8 then (b.transfer w true).runScript ma spi.tail reads n
      else (b.transfer w true, spi.tail, { res := 1, op := i, reads := reads })
    else if op = 4 then (b.pass (1000 * bits w 39 16)).runScript ma spi reads n
    else (b, spi, { res := 2, op := i, reads := reads })

/-- Runs a whole script. -/
def Block.script (b : Block) (ma : Nat) (spi : List Byte) : Block × List Byte × Script :=
  ({ b with lands := { b.lands with spi := [] } }).runScript (ma % 2 ^ 40) spi [] 4096

-- The ILAS (R282)

/-- The configuration octets of the ILAS on lane i, as the JESD204B standard lays them out (PRESUMED); device, bank and adjustment
fields, of which the entry says nothing, are 0. -/
def ConvLink.ilas (l : ConvLink) (i : Nat) : List Byte :=
  let body := [0, 0, i, 128 * bits l.p1 13 13 + (l.cL - 1), l.cF - 1, l.ke - 1, l.cM - 1, l.cN - 1, 32 * l.subclass + (l.cNP - 1),
    32 + (l.cS - 1), 128 * bits l.p1 14 14, 0, 0]
  let sum := i + bits l.p1 13 13 + (l.cL - 1) + (l.cF - 1) + (l.ke - 1) + (l.cM - 1) + (l.cN - 1) + l.subclass + (l.cNP - 1) + 1 +
    (l.cS - 1) + bits l.p1 14 14
  (body ++ [sum]).map (BitVec.ofNat 8)

/-- The octets received on lane i agree with the entry, in the fields that the entry gives: L, F, K, M, N, N′, S, scrambling, HD, CF and
the subclass. CS and the rest are not the entry's. -/
def ConvLink.ilasAgrees (l : ConvLink) (i : Nat) (got : List Byte) : Bool :=
  let mask : List Byte := [0, 0, 0, 0x9f, 0xff, 0x1f, 0xff, 0x1f, 0xff, 0x1f, 0x9f]
  (List.range 11).all fun j => (got.getD j 0 &&& mask.getD j 0) == ((l.ilas i).getD j 0 &&& mask.getD j 0)

-- Settling (R276 to R281)

/-- A field of the profile that a link read at SETTLE: n bytes at an offset (R277). -/
def ConvLink.field (l : ConvLink) (off n : Nat) : Nat := ofBytes ((l.prof.drop off).take n)
/-- A field of entry e. -/
def ConvLink.entryField (l : ConvLink) (e off n : Nat) : Nat := l.field (64 + 32 * e + off) n

/-- An entry's fields with H and T normalised. -/
def normP1 (p1 : Nat) : Nat :=
  let h := bits p1 31 16
  let t := bits p1 11 8
  setBits (setBits p1 31 16 (min (max h 1) 4096)) 11 8 (min (max t 1) 8)

/-- The largest RBD of a link: K × F − 1 frames in 8B/10B, in 64B/66B the frames of a multiblock (R277). -/
def ConvLink.maxRbd (l : ConvLink) : Nat := if l.cEnc then 256 / max l.cF 1 else l.ke * l.cF - 1

/-- A link under an entry of its profile (R277). -/
def ConvLink.withEntry (l : ConvLink) (e : Nat) : ConvLink :=
  let p0 := l.entryField e 0 4
  let p1 := normP1 (l.entryField e 4 4)
  let l := { l with
    entry := e, p0 := p0 % 2 ^ 28 - (if p0.testBit 7 then 128 else 0), p1 := p1 - (if p1.testBit 15 then 2 ^ 15 else 0)
    rate := l.entryField e 8 4, eyeMin := l.entryField e 12 1, ke := l.entryField e 14 1, lat := l.entryField e 16 4 }
  { l with rbd := min (l.entryField e 13 1) l.maxRbd }

/-- F by the standard, for L, M, S, N′ and HD: with HD the samples may straddle lanes, without it each lane holds whole ones. -/
def ConvLink.stdF (l : ConvLink) : Nat :=
  let n := l.cM * l.cS
  if l.p1.testBit 14 then (n * l.cNP + 8 * l.cL - 1) / (8 * l.cL)
  else ((n + l.cL - 1) / l.cL * l.cNP + 7) / 8

/-- The slots of a link under an entry (R274). -/
def ConvLink.slotsFor (l : ConvLink) : List Nat := (List.range l.cL).map (l.first + ·)

/-- The outcome that rejects an entry; 0 where it is not rejected (R281). -/
def Block.rejects (b : Block) (k e : Nat) : Nat :=
  let l := (b.link k).withEntry e
  let ke := l.ke
  let okShape := [1, 2, 4, 8].contains l.cL && decide (1 ≤ l.cM ∧ l.cM ≤ 64) && [8, 12, 16, 24, 32].contains l.cNP &&
    decide (1 ≤ l.cN ∧ l.cN ≤ l.cNP) && decide (1 ≤ l.cS ∧ l.cS ≤ 8)
  let okK := if l.cEnc then l.p1.testBit 13 && decide (1 ≤ ke ∧ ke ≤ 4)
    else decide (1 ≤ ke ∧ ke ≤ 32 ∧ 17 ≤ l.cF * ke ∧ l.cF * ke ≤ 1024)
  let okSlots := l.slotsFor.all fun s => decide (s < 16) && ((b.reg 0xD00004).testBit s == l.tx) &&
    (List.range 8).all fun j => j == k || b.linkState j == 0 || b.linkState j == 5 || !(b.link j).slots.contains s
  if !(okShape && okK && l.cF == l.stdF) then 2
  else if l.rate < 1000000 ∨ (if l.cEnc then 24750000 else 12500000) < l.rate then 4
  else if !okSlots then 3
  else 0

/-- Records the outcome of an entry in TRY. -/
def Block.setTry (b : Block) (k e v : Nat) : Block := b.setRf (linkReg k 0xC) (4 * e + 3) (4 * e) v

/-- A link fails: PARAM0 and PARAM1 read 0 again. -/
def Block.linkFailed (b : Block) (k cause : Nat) : Block :=
  let b := b.setLink k { b.link k with todo := [], slots := [], dwellAt := none, lockLost := none }
  (((b.setReg (linkReg k 0x10) 0).setReg (linkReg k 0x14) 0).setLinkState k 5 cause)

/-- Settling goes on with the next entry that is not rejected and whose scripts do not fail, up to the start of its PRBS dwell. -/
def Block.tryEntries (b : Block) (k : Nat) (spi : List Byte) : List Nat → Block
  | [] => b.linkFailed k 1
  | e :: es =>
    let r := b.rejects k e
    if r ≠ 0 then (b.setTry k e r).tryEntries k spi es
    else
      let l := (b.link k).withEntry e
      let (b, spi, s1) := b.script (l.entryField e 24 8) spi
      if s1.res ≠ 0 then (b.setTry k e 5).tryEntries k spi es
      else
        let (b, spi, s2) := b.script (l.field 8 8) spi
        if s2.res ≠ 0 then (b.setTry k e 5).tryEntries k spi es
        else b.setLink k { l with slots := l.slotsFor, todo := es, dwellAt := some b.now }

/-- The entries of a profile by RATE, highest first, equal rates in entry order (R279). -/
def ConvLink.entryOrder (l : ConvLink) : List Nat :=
  let n := min (l.field 32 1) 8
  let rate (e : Nat) : Nat := l.entryField e 8 4
  (List.range n).foldl (fun (acc : List Nat) e =>
    acc.filter (fun x => decide (rate e ≤ rate x)) ++ e :: acc.filter fun x => decide (rate x < rate e)) []

/-- A link leaves its state and enters SETTLING (R279): SUBCLASS, FIRST and the profile are read. Frames already staged stay. -/
def Block.enterSettling (b : Block) (k : Nat) : Block :=
  let b := b.restartChannels k
  let first := b.rf (linkReg k 0) 7 4
  let (b, prof, _) := b.stopRead (b.reg (linkReg k 4) * 256) 320
  let b := b.setLink k { ConvLink.empty with
    staging := (b.link k).staging, subclass := b.rf (linkReg k 0) 8 8, first := first, tx := (b.reg 0xD00004).testBit first, prof := prof }
  let b := [0xC, 0x10, 0x14, 0x18, 0x28].foldl (fun b o => b.setReg (linkReg k o) 0) b
  (b.setRf (linkReg k 8) 10 8 0).setLinkState k 1 0

/-- The MGC runs settling up to its first dwell (R279). -/
def Block.settle (b : Block) (k : Nat) (spi : List Byte) : Block :=
  let b := { b with conv := { b.conv with settleWait := b.conv.settleWait.filter (· ≠ k) } }
  let l := b.link k
  let (b, spi, s) := b.script (l.field 0 8) spi
  if s.res ≠ 0 then b.linkFailed k 2 else b.tryEntries k spi l.entryOrder

/-- A link goes OFF: its slots idle and are released (CONV_LINKk_CTRL.STOP). -/
def Block.linkStop (b : Block) (k : Nat) : Block :=
  let b := { b with conv := { b.conv with settleWait := b.conv.settleWait.filter (· ≠ k) } }
  let b := b.restartChannels k
  let b := b.setLink k { ConvLink.empty with staging := (b.link k).staging }
  let b := [0x10, 0x14, 0x28].foldl (fun b o => b.setReg (linkReg k o) 0) b
  (b.setRf (linkReg k 8) 10 8 0).setLinkState k 0 0

/-- A write of CONV_LINKk_CTRL stores SUBCLASS and FIRST. A STOP stops the link; a SETTLE alone makes it wait for the MGC, in
SETTLING unless a host script runs. -/
def Block.writeLinkCtrl (b : Block) (k value : Nat) : Block :=
  let b := b.setReg (linkReg k 0) (value &&& 0x1F0)
  if value.testBit 1 then b.linkStop k
  else if !value.testBit 0 then b
  else
    let b := { b with conv := { b.conv with settleWait := addNew b.conv.settleWait k } }
    if b.conv.script.isSome then b else b.enterSettling k

/-- CONV_SETTLE (R279, R281): with a host script running the link waits, and so it does while a lower-numbered link waits for the MGC. -/
def execConvSettle (link : Fin 8) (value : W32) (spi : List Byte) (s : State) : Host.Outcome State Fault Refusal :=
  actUp (fun b =>
    let b := b.writeLinkCtrl link (value.toNat ||| 1)
    if b.conv.script.isSome || !b.conv.settleWait.contains link.val || b.conv.settleWait.any fun j => decide (j < link.val) then b
    else b.settle link spi) s

/-- Time of a PRBS dwell of 10^9 bits in ns. -/
def dwellNs (rate : Nat) : Nat := 10 ^ 15 / max rate 1

/-- The outcome of the dwell of a receive link's lanes, each with its eye opening and whether it saw a bit error (R280). -/
def rxOutcome (eyeMin : Nat) (eyes : List (Nat × Bool)) : Nat :=
  if eyes.any (·.2) then 7 else if eyes.any fun e => decide (e.1 < eyeMin) then 6 else 1

/-- PRBS_DWELL_END (R279, R280). -/
def execPrbsDwellEnd (link : Fin 8) (eyes : List (Nat × Bool)) (spi : List Byte) (s : State) : Host.Outcome State Fault Refusal :=
  actUp (fun b =>
    let k := link.val
    let l := b.link k
    match l.dwellAt with
    | none => b
    | some t0 =>
      if b.linkState k ≠ 1 then b
      else
        let b := b.passTo (t0 + dwellNs l.rate)
        let tx := b.linkTx k
        let lanes := (List.range l.cL).map fun i => eyes.getD i (0, false)
        let (b, spi, s1) := b.script (l.field 16 8) spi
        let (b, spi, s2) := if tx ∧ s1.res = 0 then b.script (l.field 24 8) spi
          else (b, spi, { res := 0, op := 0, reads := [] })
        let out := if s1.res ≠ 0 ∨ s2.res ≠ 0 then 5
          else if tx then (if s2.reads.all (· == 0) then 1 else 7)
          else rxOutcome l.eyeMin lanes
        let b := b.setTry k l.entry out
        if out ≠ 1 then
          (b.setLink k { l with slots := [], dwellAt := none }).tryEntries k spi l.todo
        else
          let least := (lanes.map (·.1)).foldl min 63
          let worst := ((List.range l.cL).find? fun i => decide ((lanes.getD i (0, false)).1 ≤ least)).getD 0
          let b := b.setReg (linkReg k 0x18) (if tx then 0 else least + field (l.slots.headD 0 + worst) 11 8)
          let b := (b.setReg (linkReg k 0x10) l.p0).setReg (linkReg k 0x14) l.p1
          let b := b.setLink k { l with
            todo := [], dwellAt := none, edge := false, alignAt := b.now
            ilasOut := if tx && !l.cEnc then (List.range l.cL).map l.ilas else [] }
          (b.setRf (linkReg k 8) 10 8 l.entry).setLinkState k 2 0) s

/-- CONV_STOP (R279): a write of CONV_LINKk_CTRL with STOP. -/
def execConvStop (link : Fin 8) (value : W32) (s : State) : Host.Outcome State Fault Refusal :=
  actUp (fun b => b.writeLinkCtrl link (value.toNat ||| 2)) s

-- Alignment and SYSREF (R282, R283)

/-- SYSREF_MODE; the reserved code is CHECK. -/
def Block.sysrefMode (b : Block) : Nat := let m := b.rf 0xD00000 1 0; if m = 3 then 1 else m

/-- A link's slots all have its direction (R273). -/
def Block.slotsTurned (b : Block) (k : Nat) : Bool := (b.link k).slots.all fun s => (b.reg 0xD00004).testBit s == b.linkTx k

/-- SYNC~ of a lane slot (R276): a JESD204B receive link drives it on slot FIRST, active (low, false) from ALIGNING until its lanes are
aligned; none where no link drives it. -/
def Block.convSync (b : Block) (slot : Nat) : Option Bool :=
  ((List.range 8).find? fun k => (b.link k).first == slot && !b.linkTx k && !(b.link k).cEnc && decide (2 ≤ b.linkState k) &&
    decide (b.linkState k ≤ 3)).map fun k => b.linkState k == 3 && (b.link k).lockLost.isNone

/-- ALIGN_COMPLETE (R282, R283, R287): a link in ALIGNING enters DATA, at its next LMFC or LEMC boundary if it is a subclass 1 link, or
fails the ILAS check; one in DATA has its lock again. `ilas` are the configuration octets received on each lane. -/
def execAlignComplete (link : Fin 8) (ilas : List (List Byte)) (s : State) : Host.Outcome State Fault Refusal :=
  actUp (fun b =>
    let k := link.val
    let l := b.link k
    let ilasBad := !l.cEnc && !b.linkTx k && (List.range l.cL).any fun i => !l.ilasAgrees i (ilas.getD i [])
    if !b.slotsTurned k then b
    else if b.linkState k = 2 then
      if l.subclass = 1 ∧ !l.edge then b
      else if ilasBad then b.linkFailed k 3
      else
        let l := if l.subclass = 1 then { l with dataAt := l.boundary (l.boundaryFrom b.now) } else { l with lmfc := b.now, dataAt := b.now }
        (b.setLink k { l with frames := 0 }).setLinkState k 3 0
    else if b.linkState k = 3 ∧ l.lockLost.isSome ∧ !ilasBad then b.setLink k { l with lockLost := none }
    else b) s

/-- ALIGN_TIMEOUT (R282): 100 ms in ALIGNING. -/
def execAlignTimeout (link : Fin 8) (s : State) : Host.Outcome State Fault Refusal :=
  actUp (fun b =>
    if b.linkState link ≠ 2 then b else (b.passTo ((b.link link).alignAt + 100000000)).linkFailed link 3) s

/-- A link enters SAFE with cause LANE_DEAD (R287). -/
def Block.linkSafe (b : Block) (k : Nat) : Block :=
  (b.setLink k { b.link k with lockLost := none }).setLinkState k 4 4

/-- The lanes of a link are dead: SAFE, and F2 CONV_LANE_DEAD (R287). -/
def Block.laneDead (b : Block) (k : Nat) : Block := (b.linkSafe k).detect 26 k 0 false (b.boundCtxs k)

/-- A link in DATA realigns (R287). More than REALIGN_LIMIT realigns within 1 s end in SAFE. -/
def Block.realign (b : Block) (k : Nat) : Block :=
  if b.linkState k ≠ 3 then b
  else
    let l := b.link k
    let times := l.realigns.filter (fun t => decide (b.now ≤ t + 1000000000)) ++ [b.now]
    let b := b.setLink k { l with lockLost := some (l.lockLost.getD b.now), realigns := times }
    let b := (b.bump (convCnt k 1)).detect 13 k
    if max b.conv.limit 1 < times.length then b.laneDead k else b

/-- SYSREF_EDGE (R283): an edge comes after a wait in ns. The first one after ALIGNING sets a subclass 1 link's LMFC or LEMC; a later one
that falls off its boundary is counted. REALIGN_LIMIT applies from the edge. -/
def execSysrefEdge (wait : Nat) (s : State) : Host.Outcome State Fault Refusal :=
  actUp (fun b =>
    let b := b.pass wait
    let b := ({ b with conv := { b.conv with sysref := b.timeNs, limit := b.rf 0xD00000 15 8 } }).setReg 0xD00008 (b.timeNs % 2 ^ 32)
    if b.sysrefMode = 0 then b
    else (List.range 8).foldl (fun b k =>
      let l := b.link k
      let st := b.linkState k
      if l.subclass ≠ 1 ∨ (st ≠ 2 ∧ st ≠ 3) then b
      else if st = 2 ∧ !l.edge then b.setLink k { l with edge := true, lmfc := b.now }
      else if !l.onBoundary b.now then
        let b := (b.bump (convCnt k 2)).detect 3 k
        if b.sysrefMode = 2 then b.realign k else b
      else b) b) s

-- Samples in (R286 to R291)

/-- VALUE and FMT of a sample word (R288). -/
def sampleValue (n np fmt word : Nat) : W64 × Nat :=
  let raw := (word % 2 ^ np) >>> (np - n)
  let x := toInt n raw
  if fmt = 1 ∨ fmt = 6 then (BitVec.ofNat 64 raw, fmt)
  else if fmt = 2 then
    (BitVec.ofNat 64 (if x = 0 then 0 else (f64.deliver .rne false (x < 0) x.natAbs (1 - (n : Int))).1), 2)
  else (BitVec.ofInt 64 x, 0)

/-- A SAMPLE token of a binding (R288). -/
def Block.sampleToken (b : Block) (c idx fmt : Nat) (value : W64) (poison : Bool) : Token :=
  let lo := b.reg (bindReg c)
  { value := value, tag := mkTag b.ownId (bits lo 19 0) (b.rf (bindReg c + 4) 17 0) (idx % 2 ^ 18) (bits lo 27 26)
    ctrl := mkCtrl 3 fmt poison true false 0 0 }

/-- IDX of valid slot v as phase p of a channel that started at frame f0 (R286). -/
def ConvLink.sampleIdx (l : ConvLink) (f0 p v : Nat) : Nat := v / l.cT - (l.validAt f0 - p + l.cT - 1) / l.cT

/-- The input channels of a receive link that carry something under its parameters: converter and phase. -/
def ConvLink.channels (l : ConvLink) : List (Nat × Nat) :=
  (List.range l.cM).flatMap fun m => (List.range l.cT).map fun p => (m, p)

/-- The enabled channels that have not started start at frame n (R291). -/
def Block.startChannels (b : Block) (k n : Nat) : Block :=
  let l := b.link k
  let cs := (if b.linkTx k then [] else l.channels.map fun e => 512 * k + 8 * e.1 + e.2) ++ [4096 + k]
  { b with conv := { b.conv with
      starts := cs.foldl (fun m c => if b.bound c && (SMap.find? m c).isNone then SMap.put m c n else m) b.conv.starts } }

/-- The sample tokens of frame n, in ascending channel number; without words they are placeholders (R287). -/
def Block.frameTokens (b : Block) (k n : Nat) (words : Option (List W32)) (poison : Bool) : List Token :=
  let l := b.link k
  l.channels.flatMap fun e =>
    let c := 512 * k + 8 * e.1 + e.2
    match b.bound c, SMap.find? b.conv.starts c with
    | true, some f0 =>
      (List.range l.cS).filterMap fun i =>
        let j := n * l.cS + i
        let v := j / l.cH
        if j % l.cH = 0 ∧ v % l.cT = e.2 then
          let (value, fmt) := match words with
            | some ws => sampleValue l.cN l.cNP (b.rf (bindReg c) 30 28) (ws.getD (e.1 * l.cS + i) 0).toNat
            | none => (0, (sampleValue l.cN l.cNP (b.rf (bindReg c) 30 28) 0).2)
          some (b.sampleToken c (l.sampleIdx f0 e.2 v) fmt value (poison || words.isNone))
        else none
    | _, _ => []

/-- The timestamp token of frame n, its VALUE still open (R290). -/
def Block.stampToken (b : Block) (k n : Nat) : List Token :=
  let l := b.link k
  match b.bound (4096 + k), SMap.find? b.conv.starts (4096 + k) with
  | true, some f0 => if l.hasValid n then [b.sampleToken (4096 + k) (l.validFrames f0 n) 1 0 false] else []
  | _, _ => []

/-- Bytes of a link's staging area. -/
def Block.stgBytes (b : Block) (k : Nat) : Nat := 2 ^ (b.rf (linkReg k 0x1C) 31 28 + 16)

/-- The placeholder for a token. -/
def Token.placeholder (t : Token) : Token := { t.poisoned with value := 0 }

/-- Stages a gap in place of frame n (R287, R289). -/
def Block.stageGap (b : Block) (k n : Nat) (ts toks : List Token) : Block :=
  let l := b.link k
  let f : StgFrame := { frame := n, gap := true, released := false, ready := 0, lsn := none, ts := ts.flatMap b.withTwin,
                        toks := (toks.map Token.placeholder).flatMap b.withTwin, bytes := 0, held := false, due := l.releaseAt n }
  b.setLink k { l with staging := l.staging ++ [f] }

/-- Frame n is journaled and staged, or finds no room and leaves a gap (R289, R435). -/
def Block.stageFrame (b : Block) (k n : Nat) (ts toks : List Token) : Block :=
  let l := b.link k
  let w := if l.cNP ≤ 16 then 2 else 4
  let bytes := 16 + w * (ts.length + toks.length)
  let used := (l.staging.map (·.bytes)).sum
  let body : JBody := .samples n 0 w ts toks
  let room := b.journalRoom body
  if used + bytes ≤ b.stgBytes k ∧ room then
    let f : StgFrame := { frame := n, gap := false, released := false, ready := 0, lsn := some b.cont.lsn, ts := ts.flatMap b.withTwin,
                          toks := toks.flatMap b.withTwin, bytes := bytes, held := false, due := l.releaseAt n }
    (b.journal k body).setLink k { l with staging := l.staging ++ [f] }
  else
    let b := if room then b else b.ledgerWait
    ((b.bump (convCnt k 3)).detect 14 k).stageGap k n ts toks

/-- The samples of a multiblock that are already staged are delivered with POISON, and stand so in the journal (R287). -/
def Block.poisonBlock (b : Block) (k m : Nat) : Block :=
  let l := b.link k
  let mine (f : StgFrame) : Bool := !f.released && l.inBlock f.frame m
  let lsns := (l.staging.filter mine).filterMap (·.lsn)
  let bad (f : StgFrame) : StgFrame := if mine f then { f with toks := f.toks.map Token.poisoned } else f
  let b := b.setLink k { l with crcBad := some m, staging := l.staging.map bad }
  { b with cont := { b.cont with journal := b.cont.journal.map fun r =>
      match r.body with
      | .samples f st w ts toks => if lsns.contains r.lsn then { r with body := .samples f st w ts (toks.map Token.poisoned) } else r
      | _ => r } }

/-- The checks of the lanes of frame n (R287, R418): whether its samples are delivered with POISON. A CRC-12 failure reaches every frame
of its multiblock, and is counted once. -/
def Block.frameCheck (b : Block) (k n : Nat) (err : LaneErr) : Block × Bool :=
  let l := b.link k
  let (b, bad, inj) := l.slots.foldl (fun (acc : Block × Bool × Bool) s =>
    match acc.1.inject 6 k s with
    | (b, some (true, _)) => (b.dryDetect 12 k 0, acc.2)
    | (b, some (false, _)) => (b, true, true)
    | (b, none) => (b, acc.2)) (b, err != .none, false)
  let b := if bad then (b.bump (convCnt k 0)).detect 12 k 0 inj else b
  let b := if err = .crc then b.poisonBlock k (n * l.cF / 256) else b
  (b, bad || (match (b.link k).crcBad with | some m => l.inBlock n m | none => false))

/-- Frame n of a receive link goes to staging: as it came, or lost (R286 to R290). -/
def Block.rxFrame (b : Block) (k : Nat) (words : List W32) (err : LaneErr) (lost : Bool) : Block :=
  let l := b.link k
  let n := l.frames
  let b := b.passTo (l.dataAt + l.frameNs n)
  let b := b.startChannels k n
  let b := b.setLink k { b.link k with frames := n + 1 }
  let b := b.setReg (linkReg k 0x28) ((n + 1) % 2 ^ 32)
  let gone := lost || b.linkState k == 4 || l.lockLost.isSome
  let (b, bad) := if gone then (b, false) else b.frameCheck k n err
  let ts := b.stampToken k n
  let toks := b.frameTokens k n (if gone then none else some words) bad
  if b.hub.grave || (ts.isEmpty && toks.isEmpty) then b
  else if gone then b.stageGap k n ts toks
  else b.stageFrame k n ts toks

/-- RX_FRAME_ARRIVE (R287, R289): `words` holds the sample words of a converter's slots in order, converter after converter. -/
def execRxFrameArrive (link : Fin 8) (words : List W32) (err : LaneErr) (s : State) : Host.Outcome State Fault Refusal :=
  actUp (fun b =>
    let st := b.linkState link
    if (st = 3 ∨ st = 4) ∧ !b.linkTx link then b.rxFrame link words err false else b) s

/-- The timestamp of a released or built frame, the i-th in staging, goes into its tokens and its journal record. -/
def Block.stampFrame (b : Block) (k i stamp : Nat) : Block :=
  let l := b.link k
  let put (t : Token) : Token := { t with value := BitVec.ofNat 64 stamp }
  let out (f : StgFrame) : StgFrame := { f with released := true, ready := b.now + cyclesNs 16, ts := f.ts.map put }
  let b := b.setLink k { l with staging := l.staging.modify i out }
  match (l.staging[i]?).bind (·.lsn) with
  | none => b
  | some lsn =>
    { b with cont := { b.cont with journal := b.cont.journal.map fun r =>
        match r.body with
        | .samples f _ w ts toks => if r.lsn = lsn then { r with body := .samples f stamp w (ts.map put) toks } else r
        | _ => r } }

/-- FRAME_RELEASE (R284): the oldest frame not yet released leaves the elastic buffers, RBD frames after its boundary. -/
def execFrameRelease (link : Fin 8) (s : State) : Host.Outcome State Fault Refusal :=
  actUp (fun b =>
    let l := b.link link
    match l.staging.find? fun f => !f.released with
    | none => b
    | some f =>
      let b := b.passTo f.due
      b.stampFrame link (l.staging.takeWhile (·.released)).length ((b.timeNs + 2 ^ 64 - l.lat) % 2 ^ 64)) s

/-- The STREAM gate of a token's node does not yet admit its index (R229). -/
def Block.notAdmitted (b : Block) (t : Token) : Bool :=
  b.allGates.any fun e =>
    e.2.2.stream && e.2.2.ctx == t.ctx && e.2.2.entry == tagNode t.tag &&
      (match SMap.find? b.ave.convGate (16 * e.1 + e.2.1) with
      | some (base, know) => decide (know ≤ (tagIdx t.tag + 2 ^ 18 - base % 2 ^ 18) % 2 ^ 18)
      | none => false)

/-- The first token of a frame that no rollback holds enters the Avenue; an emptied frame is taken off. -/
def Block.injectStaged (b : Block) (k : Nat) (before : List StgFrame) (f : StgFrame) (after : List StgFrame) : Option Block :=
  let free (t : Token) : Bool := !b.rollHeld t none
  let go (f' : StgFrame) (t : Token) (sample : Bool) : Block :=
    let rest := if f'.ts.isEmpty && f'.toks.isEmpty then [] else [f']
    let b0 := (b.passTo f.ready)
    let b1 := b0.setLink k { b0.link k with staging := before ++ rest ++ after }
    match b1.injectToken 69 true none false t with
    | (some b2, _) => if f.gap && sample then b2.bump (convCnt k 4) else b2
    | (none, b2) => { b0 with ave := b2.ave }
  match takeFirst free f.ts with
  | some (t, ts) => some (go { f with ts := ts } t false)
  | none => match takeFirst free f.toks with
    | some (t, toks) => some (go { f with toks := toks } t true)
    | none => none

/-- The Converter Gate looks through a link's staging for the token it injects next: frames leave in order, and the first one that is
not released, or whose STREAM gate does not admit it, stops the link (R285, R289). -/
def Block.injectFrames (b : Block) (k : Nat) (before : List StgFrame) : List StgFrame → Block
  | [] => b
  | f :: fs =>
    if !f.released then b
    else if (f.ts ++ f.toks).any b.notAdmitted then
      if f.held then b
      else (b.setLink k { b.link k with staging := before ++ { f with held := true } :: fs }).bump (convCnt k 14)
    else match b.injectStaged k before f fs with
    | some b => b
    | none => b.injectFrames k (before ++ [f]) fs

/-- STAGING_INJECT (R285, R288 to R290, R444): one token enters the Avenue. -/
def execStagingInject (link : Fin 8) (s : State) : Host.Outcome State Fault Refusal :=
  actUp (fun b => b.injectFrames link [] (b.link link).staging) s

-- Loss of lock (R287)

/-- LANE_LOCK_LOSS (R287): the link realigns, and the frames lost so far leave placeholders. -/
def execLaneLockLoss (link : Fin 8) (frames : Nat) (s : State) : Host.Outcome State Fault Refusal :=
  actUp (fun b =>
    let k := link.val
    if b.linkState k ≠ 3 ∨ b.linkTx k then b
    else (List.range frames).foldl (fun b _ => b.rxFrame k [] .none true) (b.realign k)) s

/-- LANE_DEAD_TIMEOUT (R287): 10 ms without a lock. -/
def execLaneDeadTimeout (link : Fin 8) (s : State) : Host.Outcome State Fault Refusal :=
  actUp (fun b =>
    match (b.link link).lockLost with
    | none => b
    | some t => if b.linkState link ≠ 3 then b else (b.passTo (t + 10000000)).laneDead link) s

/-- A write of CONV_SLOT_DIR acts at once; a link in DATA whose slot changes direction loses its lock (R273). -/
def Block.writeSlotDir (b : Block) (value : Nat) : Block :=
  let old := b.reg 0xD00004
  let b := b.setReg 0xD00004 (value % 65536)
  (List.range 8).foldl (fun b k =>
    if (b.link k).slots.any fun s => old.testBit s != value.testBit s then b.realign k else b) b

/-- CONV_SLOT_DIR_WRITE (R273). -/
def execConvSlotDirWrite (value : W32) (s : State) : Host.Outcome State Fault Refusal :=
  actUp (fun b => b.writeSlotDir value.toNat) s

-- Bindings (R291)

/-- A write of the LO word of an input binding or a timestamp binding. -/
def Block.writeBind (b : Block) (c value : Nat) : Block :=
  let was := b.bound c
  let b := b.setReg (bindReg c) (value &&& 0xFC0FFFFF)
  if !was && b.bound c then { b with conv := { b.conv with starts := SMap.erase b.conv.starts c } } else b

/-- CHANNEL_BIND_ENABLE (R291). -/
def execChannelBindEnable (ch : Fin 4104) (value : W32) (s : State) : Host.Outcome State Fault Refusal :=
  actUp (fun b => b.writeBind ch (value.toNat ||| 0x80000000)) s

/-- CHANNEL_BIND_DISABLE (R291). -/
def execChannelBindDisable (ch : Fin 4104) (value : W32) (s : State) : Host.Outcome State Fault Refusal :=
  actUp (fun b => b.writeBind ch (value.toNat % 2 ^ 31)) s

-- Drive out (R292 to R295)

/-- CONV_OUTBd_CTRL. -/
def outReg (d : Nat) : Nat := 0xD20000 + 8 * d

/-- A drive channel plays: it is enabled, and its link transmits in DATA and has its converter (R275, R292). -/
def Block.driveOn (b : Block) (d : Nat) : Bool :=
  b.rf (outReg d) 31 31 == 1 && b.linkState (d / 64) == 3 && b.linkTx (d / 64) && decide (d % 64 < (b.link (d / 64)).cM)

/-- Build time of drive index i of a channel (R292); a channel that has not started starts at the next frame. -/
def Block.buildAt (b : Block) (d i : Nat) : Nat :=
  let l := b.link (d / 64)
  let f0 := (b.drive d).start.getD l.frames
  l.dataAt + l.frameNs (f0 + i * l.cH / max l.cS 1)

/-- Deadline of a drive index (R292). -/
def Block.deadline (b : Block) (d i : Nat) : Nat := b.buildAt d i - max (b.rf 0xD00000 31 16) 20

/-- An integer as an N-bit sample, saturated; and whether it saturated. -/
def saturate (n : Nat) (x : Int) : Nat × Bool :=
  let top : Int := ((2 ^ (n - 1) : Nat) : Int) - 1
  if top < x then (ofInt n top, true) else if x < -top - 1 then (ofInt n (-top - 1), true) else (ofInt n x, false)

/-- The N bits that a token plays (R294). -/
def playValue (n : Nat) (t : Token) : Nat × Bool :=
  if t.fmt = 0 then saturate n t.value.toInt
  else if t.fmt = 2 then
    match f64.val t.value.toNat with
    | .nan _ => (0, false)
    | .inf neg => saturate n (if neg then -((2 ^ n : Nat) : Int) else ((2 ^ n : Nat) : Int))
    | .fin neg m e =>
      let r := (roundAt .rne neg m (e + ((n - 1 : Nat) : Int)) 0).1
      saturate n (if neg then -(r : Int) else (r : Int))
  else (t.value.toNat % 2 ^ n, false)

/-- SAFE_VALUE of a drive channel as N bits. -/
def Block.safeValue (b : Block) (d n : Nat) : Nat := b.reg (outReg d + 4) % 2 ^ n

/-- D(NEXT) passes: NEXT advances, and the closed index plays its token or the late policy (R293 to R295). -/
def Block.closeIndex (b : Block) (d : Nat) : Block :=
  let k := d / 64
  let n := (b.link k).cN
  let x := b.drive d
  let i := x.next
  let done (b : Block) (v : Nat) : Block :=
    b.setDrive d { x with
      next := i + 1, buffer := SMap.erase x.buffer i, queue := x.queue ++ [(i, v)], last := some v, paired := none }
  match SMap.find? x.buffer i with
  | some t =>
    let (v, clip) := playValue n t
    done (if clip then b.bump (convCnt k 11) else b) v
  | none =>
    let pol := b.rf (outReg d) 29 28
    let v := if pol = 0 then 0 else if pol = 1 then x.last.getD (b.safeValue d n) else b.safeValue d n
    ((done b v).bump (convCnt k 5)).raise 10 (d + field i 26 9)

/-- The deadlines of a channel that have passed take effect. -/
def Block.overdue (b : Block) (d : Nat) : Nat → Block
  | 0 => b
  | n + 1 => if b.now < b.deadline d (b.drive d).next then b else (b.closeIndex d).overdue d n

/-- A bound on the deadlines of a channel that can have passed: one for each slot of the frames so far and to come. -/
def Block.overdueFuel (b : Block) (d : Nat) : Nat :=
  let l := b.link (d / 64)
  ((b.now - l.dataAt + 65535) / max (l.frameNs 1) 1 + 2) * max l.cS 1

/-- Applies what is overdue on a channel that plays. -/
def Block.catchUp (b : Block) (d : Nat) : Block := if b.driveOn d then b.overdue d (b.overdueFuel d) else b

/-- Indices a drive buffer holds (CONV_DRV.DEPTH). -/
def Block.drvDepth (b : Block) : Nat := 2 ^ (min (b.rf 0xD00010 31 28) 10 + 6)

/-- A DRIVE token is not a number it could play: FMT 2 with a NaN. -/
def badDrive (t : Token) : Bool := t.fmt == 2 && (f64.val t.value.toNat).isNan

/-- The compare of R400, when the second token of an index of a PAIRED channel is discarded. -/
def Block.pairCompare (b : Block) (d : Nat) (first t : Token) : Block :=
  let (b, inj) := b.inject 9 d 0
  let mk (injected dry : Bool) : Detection :=
    { code := 18, unit := d, detailA := BitVec.ofNat 64 (tagIdx t.tag), detailB := t.value, injected := injected, dry := dry, ctxs := [] }
  match inj with
  | some (dry, _) => b.wire (mk true dry)
  | none => if !first.poison && !t.poison && first.value != t.value then b.wire (mk false false) else b

/-- One DRIVE token at the Converter Gate (R293). -/
def Block.driveTake (b : Block) (t : Token) : Block :=
  let d := tagNode t.tag % 512
  let cnt (b : Block) (j : Nat) : Block := b.bump (convCnt (d / 64) j)
  if !b.driveOn d then cnt b 13
  else
    let b := b.catchUp d
    let x := b.drive d
    let off := (tagIdx t.tag + 2 ^ 18 - x.next % 2 ^ 18) % 2 ^ 18
    if 131072 ≤ off then cnt b 6
    else if b.drvDepth ≤ off then cnt b 7
    else
      let paired := x.paired.getD (b.rf (outReg d) 30 30 == 1)
      match SMap.find? x.buffer (x.next + off) with
      | some first =>
        if t.poison then cnt b 9
        else if badDrive t then cnt b 12
        else if paired then cnt (b.pairCompare d first t) 8
        else cnt b 10
      | none =>
        if t.poison then cnt b 9
        else if badDrive t then cnt b 12
        else b.setDrive d { x with buffer := SMap.put x.buffer (x.next + off) t }

/-- DRIVE_TOKEN (R293): every token taken counts as consumed (R47). -/
def execDriveToken (s : State) : Host.Outcome State Fault Refusal :=
  actUp (fun b => match b.gateTake 1 with
    | none => b
    | some (b, t) => (b.driveTake t).consume 69 t.ctx) s

/-- DRIVE_DEADLINE (R293, R295). -/
def execDriveDeadline (ch : Fin 512) (s : State) : Host.Outcome State Fault Refusal :=
  actUp (fun b => if b.driveOn ch then (b.passTo (b.deadline ch (b.drive ch).next)).closeIndex ch else b) s

/-- The enabled drive channels of a link that have not started start at frame n. -/
def Block.startDrives (b : Block) (k n : Nat) : Block :=
  (List.range (b.link k).cM).foldl (fun b m =>
    let d := 64 * k + m
    let x := b.drive d
    if b.driveOn d && x.start.isNone then b.setDrive d { x with start := some n } else b) b

/-- The N bits that a channel puts into slot j: what has been decided for its index, or SAFE_VALUE (R287, R292). -/
def Block.slotValue (b : Block) (d j : Nat) : Nat :=
  let l := b.link (d / 64)
  let x := b.drive d
  match b.driveOn d && !b.hub.grave, x.start with
  | true, some f0 =>
    let i := (j - f0 * l.cS) / l.cH
    match x.queue.find? fun e => e.1 = i with
    | some e => e.2
    | none => x.play.getD (b.safeValue d l.cN)
  | _, _ => b.safeValue d l.cN

/-- After frame n the values it has played are taken off; the last is the one that plays. -/
def Block.played (b : Block) (d n : Nat) : Block :=
  let l := b.link (d / 64)
  let x := b.drive d
  match x.start with
  | none => b
  | some f0 =>
    let i := ((n + 1) * l.cS - 1 - f0 * l.cS) / l.cH
    b.setDrive d { x with
      play := match (x.queue.filter fun e => decide (e.1 ≤ i)).getLast? with | some e => some e.2 | none => x.play
      queue := x.queue.filter fun e => decide (i < e.1) }

/-- TX_FRAME_BUILD (R284, R287, R290, R292, R294): the next frame of a transmit link is built at its boundary. -/
def execTxFrameBuild (link : Fin 8) (s : State) : Host.Outcome State Fault Refusal :=
  actUp (fun b =>
    let k := link.val
    let st := b.linkState k
    if !((st = 3 ∨ st = 4) ∧ b.linkTx k) then b
    else
      let l := b.link k
      let n := l.frames
      let ds := (List.range l.cM).map fun m => 64 * k + m
      let b := b.passTo (l.dataAt + l.frameNs n)
      let b := (b.startChannels k n).startDrives k n
      let b := ds.foldl Block.catchUp b
      let out := ds.flatMap fun d => (List.range l.cS).map fun i => b.slotValue d (n * l.cS + i) <<< (l.cNP - l.cN)
      let b := ds.foldl (fun b d => b.played d n) b
      let b := b.setLink k { b.link k with frames := n + 1, lastOut := out }
      let b := b.setReg (linkReg k 0x28) ((n + 1) % 2 ^ 32)
      let ts := b.stampToken k n
      if ts.isEmpty || b.hub.grave then b
      else
        let b := b.stageFrame k n ts []
        b.stampFrame k ((b.link k).staging.length - 1) ((b.timeNs + l.lat) % 2 ^ 64)) s

/-- A write of CONV_OUTBd_CTRL: a change of EN starts the channel again; a change of PAIRED applies from the next deadline. -/
def Block.writeOutCtrl (b : Block) (d value : Nat) : Block :=
  let was := b.rf (outReg d) 31 31
  let paired := (b.drive d).paired.getD (b.rf (outReg d) 30 30 == 1)
  let b := b.setReg (outReg d) (value &&& 0xF0000000)
  if b.rf (outReg d) 31 31 = was then (if was = 1 then b.setDrive d { b.drive d with paired := some paired } else b)
  else { b with conv := { b.conv with drives := SMap.erase b.conv.drives d } }

/-- DRIVE_CHANNEL_DISABLE (R292). -/
def execDriveChannelDisable (ch : Fin 512) (value : W32) (s : State) : Host.Outcome State Fault Refusal :=
  actUp (fun b => b.writeOutCtrl ch (value.toNat % 2 ^ 31)) s

/-- A change of CONV_DRV while a channel is enabled loses the buffered tokens. -/
def Block.writeDrv (b : Block) (value : Nat) : Block :=
  let on := (List.range 512).any fun d => b.rf (outReg d) 31 31 == 1
  let changed := b.reg 0xD00010 != value
  let b := b.setReg 0xD00010 value
  if on && changed then
    { b with conv := { b.conv with drives := SMap.mapVal b.conv.drives fun _ x => { x with buffer := [] } } }
  else b

/-- A change of CONV_LINKk_STG outside OFF loses the staged frames. -/
def Block.writeStg (b : Block) (k value : Nat) : Block :=
  let changed := b.reg (linkReg k 0x1C) != value
  let b := b.setReg (linkReg k 0x1C) value
  if changed && b.linkState k != 0 then b.setLink k { b.link k with staging := [] } else b

-- Host scripts

/-- A write of CONV_SPI_RUN. -/
def Block.writeSpiRun (b : Block) (value : Nat) : Block :=
  if b.conv.script.isSome || (List.range 8).any fun k => b.linkState k == 1 then b.setRf 0xD00028 29 29 1
  else ({ b with conv := { b.conv with script := some (256 * value) } }).setRf 0xD00028 31 31 1

/-- CONV_SPI_RUN (R278). -/
def execConvSpiRun (value : W32) (s : State) : Host.Outcome State Fault Refusal :=
  actUp (fun b => b.writeSpiRun value.toNat) s

/-- SPI_SCRIPT_END (R278): the links whose SETTLE waited enter SETTLING. -/
def execSpiScriptEnd (spi : List Byte) (s : State) : Host.Outcome State Fault Refusal :=
  actUp (fun b =>
    match b.conv.script with
    | none => b
    | some ma =>
      let (b, _, r) := b.script ma spi
      let keep := b.rf 0xD00028 29 29
      let b := b.setReg 0xD00028 (2 ^ 30 + field keep 29 29 + field r.res 25 24 + r.op)
      let b := { b with conv := { b.conv with script := none } }
      ((List.range 8).filter b.conv.settleWait.contains).foldl (fun b k => b.enterSettling k) b) s

end Sys2Proof.Machine
end

