-- ==== Sys2Proof/Machine/Faults.lean ====
section
/-! DEFINITION. The Fault Hub (R398 to R412), the Kerb outputs and inputs (R413 to R417) and fault injection (R418). -/

namespace Sys2Proof.Machine

-- Kerb outputs (R413, R414)

/-- KERB_OUTn_CFG. -/
def kerbCfg (n : Nat) : Nat := 0x1200000 + 0x10 * n
/-- State of an output: 0 OFF, 1 RUN, 2 FORCED, 3 SAFE_SW, 4 SAFE_FAULT, 5 SAFE_GRAVE. -/
def Block.kerbState (b : Block) (n : Nat) : Nat := SMap.get b.kerb.state 0 n
/-- An output changes its state, and KERB_CHANGE is raised. -/
def Block.setKerb (b : Block) (n st : Nat) : Block :=
  if b.kerbState n = st then b
  else ({ b with kerb := { b.kerb with state := SMap.put b.kerb.state n st } }).raise 18 (n + field st 6 4)
/-- EN of an output. -/
def Block.kerbOn (b : Block) (n : Nat) : Bool := b.rf (kerbCfg n) 31 31 == 1
/-- The sources bound to an output, as bits. -/
def Block.kerbBind (b : Block) (n : Nat) : Nat := b.reg (kerbCfg n + 4) + 2 ^ 32 * b.reg (kerbCfg n + 8)

/-- STAT of the cause record of a source. -/
def srcStat (s : Nat) : Nat := 0x301000 + 0x20 * s

/-- A source bound to an output reads NOW = 1; ANY_F3 binds every source whose applied class is F3. -/
def Block.boundNow (b : Block) (n : Nat) : Bool :=
  (List.range 64).any fun s => b.rf (srcStat s) 31 31 == 1 &&
    ((b.kerbBind n).testBit s || (b.rf (kerbCfg n) 26 26 == 1 && b.rf (srcStat s) 18 16 == 3))

/-- The level an output drives; none where it is high-impedance (R413). -/
def Block.kerbDrive (b : Block) (n : Nat) : Option Bool :=
  let cfg := b.reg (kerbCfg n)
  let st := b.kerbState n
  if st = 0 ∨ !b.kerb.configured.contains n ∨ b.power.off then none
  else
    let v := if st = 1 then cfg.testBit 28 else if st = 2 then SMap.get b.kerb.level 0 n == 1 else cfg.testBit 29
    if v && cfg.testBit 30 then none else some v
/-- The level at an output's land; an undriven one takes the level of its external pull. -/
def Block.kerbLand (b : Block) (n : Nat) : Bool := (b.kerbDrive n).getD (Config.floatLevel n)

/-- Any F4: every enabled output is SAFE_GRAVE. -/
def Block.kerbsGrave (b : Block) : Block :=
  (List.range 16).foldl (fun b n => if b.kerbOn n then b.setKerb n 5 else b) b
/-- An applied F3 of a source: its bound outputs are SAFE_FAULT. -/
def Block.kerbsFault (b : Block) (code : Nat) : Block :=
  (List.range 16).foldl (fun b n =>
    if b.kerbOn n && b.kerbState n != 5 && ((b.kerbBind n).testBit code || b.rf (kerbCfg n) 26 26 == 1) then b.setKerb n 4 else b) b
/-- KERB_FORCE MODE 2 on some outputs. -/
def Block.kerbsSafe (b : Block) (outs : Nat) : Block :=
  (onesOf 16 outs).foldl (fun b n => if b.kerbOn n && decide (b.kerbState n < 4) then b.setKerb n 3 else b) b
/-- KERB_FORCE MODE 1 on some outputs. -/
def Block.kerbsLevel (b : Block) (outs levels : Nat) : Block :=
  (onesOf 16 outs).foldl (fun b n =>
    if b.kerbOn n && decide (b.kerbState n < 3) then
      { b with kerb := { b.kerb with level := SMap.put b.kerb.level n (b2n (levels.testBit n)) } }.setKerb n 2
    else b) b
/-- KERB_FORCE MODE 0 on some outputs: a SAFE_FAULT output with a live bound source stays, and sets HELD. -/
def Block.kerbsRelease (b : Block) (outs : Nat) : Block :=
  (onesOf 16 outs).foldl (fun b n =>
    if !b.kerbOn n || decide (5 ≤ b.kerbState n) then b
    else if b.kerbState n = 4 ∧ b.boundNow n then b.setRf (kerbCfg n + 0xC) 4 4 1
    else b.setKerb n 1) b
/-- Outputs whose last bound fault has cleared go back to RUN with AUTO = 1. -/
def Block.kerbsAuto (b : Block) : Block :=
  (List.range 16).foldl (fun b n =>
    if b.kerbOn n && b.kerbState n == 4 && b.rf (kerbCfg n) 27 27 == 1 && !b.boundNow n then b.setKerb n 1 else b) b

/-- A write of KERB_OUTn_CFG. In the grave state EN stays set. -/
def Block.writeKerbCfg (b : Block) (n value : Nat) : Block :=
  let was := b.kerbOn n
  let grave := b.kerbState n == 5
  let v := value &&& 0xFC000000
  let b := b.setReg (kerbCfg n) (if grave && !v.testBit 31 then v + 2 ^ 31 else v)
  let b := { b with kerb := { b.kerb with configured := addNew b.kerb.configured n } }
  if v.testBit 31 then (if was then b else b.setKerb n (if b.hub.grave then 5 else 3))
  else if grave then b else b.setKerb n 0

/-- KERB_OUT_ENABLE (R414). -/
def execKerbOutEnable (out : Fin 16) (value : W32) (s : State) : Host.Outcome State Fault Refusal :=
  actUp (fun b => b.writeKerbCfg out (value.toNat ||| 0x80000000)) s
/-- KERB_OUT_DISABLE (R414). -/
def execKerbOutDisable (out : Fin 16) (value : W32) (s : State) : Host.Outcome State Fault Refusal :=
  actUp (fun b => b.writeKerbCfg out (value.toNat % 2 ^ 31)) s

-- Sources (R399)

/-- Detected class of a source; none for a code never raised and for an input with CLASS 0 (R399, R417). -/
def Block.classOf (b : Block) (code : Nat) : Option Nat :=
  if 1 ≤ code ∧ code ≤ 5 then some 0
  else if 8 ≤ code ∧ code ≤ 18 then some 1
  else if 24 ≤ code ∧ code ≤ 28 then some 2
  else if 32 ≤ code ∧ code ≤ 36 then some 3
  else if 40 ≤ code ∧ code ≤ 47 then
    let c := b.rf (0x1200100 + 4 * (code - 40)) 6 4
    if c = 0 then none else if c = 1 then some 1 else if c ≤ 3 then some 3 else some 4
  else if 48 ≤ code ∧ code ≤ 51 then some 4
  else none

/-- A source whose faults escalate (R399). -/
def escalates (code : Nat) : Bool :=
  [8, 9, 10, 11, 12, 13, 15, 24, 25, 26, 27, 28, 32, 33, 34, 35, 36].contains code

/-- The physical Quarter in a UNIT. -/
def unitQuarter (unit : Nat) : Nat := unit % 128

/-- A detection is in the shadow set of a reaction (R409). -/
def Block.inShadow (b : Block) (d : Detection) : Shadow → Bool
  | .quarter p =>
    ([8, 9, 10, 11, 17, 24, 25].contains d.code && unitQuarter d.unit == p) ||
    (d.code == 32 && d.detailB.toNat == xk (xyOf p).1 (xyOf p).2) ||
    (d.code == 33 && decide (b.areaBase p ≤ d.detailA.toNat) && decide (d.detailA.toNat < b.areaBase p + b.areaBytes p)) || d.code == 18
  | .page n => (d.code == 5 || d.code == 15) && d.detailA.toNat / 4096 == n
  | .convLink k => [3, 12, 13, 14].contains d.code && d.unit == k
  | .colirLane p => d.code == 4 && d.unit % 4 == p
  | .colirPort p => (d.code == 4 || d.code == 27) && d.unit % 4 == p
  | .stop s => ([5, 15, 16, 33].contains d.code && d.unit == s) || d.code == 17
  | .district n => [8, 9, 10, 11, 17, 24, 25].contains d.code && distOf (unitQuarter d.unit) == n
  | .rollback => d.code == 18

/-- The open window that makes a detection consequential; none for a detected F4. -/
def Block.shadowOf (b : Block) (d : Detection) (cls : Nat) : Option Window :=
  if cls = 4 then none
  else b.hub.windows.find? fun w => (match w.until_ with | some t => decide (b.now ≤ t) | none => true) && b.inShadow d w.kind

/-- FAULT_QUIET in ns. -/
def Block.quietNs (b : Block) : Nat := 1000000 * min (max (b.rf 0x300004 13 0) 1) 10000

-- Cause records (R408)

/-- A detection in its cause record: SEEN, COUNT, UNIT, FIRST and LAST. -/
def Block.causeSeen (b : Block) (d : Detection) : Block :=
  let s := d.code
  let first := match b.rf (srcStat s) 30 30, SMap.find? b.hub.times s with
    | 1, some t => t.1
    | _, _ => b.timeNs
  let b := ((b.setRf (srcStat s) 30 30 1).setRf (srcStat s) 15 0 d.unit).bump (srcStat s + 4)
  { b with hub := { b.hub with times := SMap.put b.hub.times s (first, b.timeNs) } }

/-- A fault applied in a class: NOW and CLASS of its source, the class's quiet period, and the pending fault (R405 to R408). -/
def Block.applyFault (b : Block) (d : Detection) (cls fseq : Nat) : Block :=
  let b := (b.setRf (srcStat d.code) 31 31 1).setRf (srcStat d.code) 18 16 cls
  if cls = 0 then { b with hub := { b.hub with f0Due := SMap.put b.hub.f0Due d.code (b.now + b.quietNs) } }
  else if cls = 4 then { b with hub := { b.hub with active := addNew b.hub.active 4, graveUnacked := b.hub.graveUnacked ++ [fseq] } }
  else { b with hub := { b.hub with
    active := addNew b.hub.active cls
    quietDue := SMap.put b.hub.quietDue cls (b.now + b.quietNs)
    pend := b.hub.pend ++ [{ fseq := fseq, cls := cls, src := d.code, unit := d.unit }] } }

-- Reactions

/-- Opens a shadow window; a reaction that is complete at once has the time at which it closes. -/
def Block.openWindow (b : Block) (kind : Shadow) (fseq : Nat) (complete : Bool) : Block :=
  let w : Window := { kind := kind, fseq := fseq, until_ := if complete then some (b.now + 1000 * b.rf 0x300008 15 0) else none }
  { b with hub := { b.hub with windows := b.hub.windows ++ [w] } }

/-- A seed and its window (R409, R436). -/
def Block.seedFault (b : Block) (fseq : Nat) (ls cs lost : List Nat) : Block :=
  let b := b.seed ls cs lost
  b.openWindow .rollback fseq b.cont.roll.isNone

/-- A Quarter is retired (R26, R399, R436, R447). -/
def Block.retireFault (b : Block) (fseq p : Nat) : Block :=
  let (b, ls, mapped) := b.retire p
  let b := b.openWindow (.quarter p) fseq true
  if ls.isEmpty then b else b.seedFault fseq ls [] (if mapped then [] else ls)

/-- The logical Quarters that are mapped. -/
def Block.mappedLogicals (b : Block) : List Nat := (List.range 64).filter fun l => (b.phys l).isSome

/-- Lost memory at an address seeds by what lies there (R436). -/
def Block.seedMemory (b : Block) (fseq ma : Nat) : Block :=
  match b.areaOf ma with
  | some u => if u < 68 then b.seedFault fseq (b.namedBy u) [] [] else b.seedFault fseq b.mappedLogicals [] []
  | none => b

/-- Steps 2 to 5 of R411 that happen at once; the rest holds while the grave state does. -/
def Block.graveSteps (b : Block) : Block :=
  let b := b.closeBlock true
  (b.host.sqs.map (·.1)).foldl (fun b r =>
    ((b.sq r).jobs.filter fun j => !j.done && !graveJob j.op).foldl (fun b j => b.finishJob r j.index 11 0 0) b) b

/-- The grave state (R411): after AVE_CLOCK, THERM_TRIP and POWER_STAGE only what the Corner does is sure to happen. -/
def Block.enterGrave (b : Block) (code : Nat) : Block :=
  let b := ({ b with hub := { b.hub with grave := true, active := addNew b.hub.active 4 } }).kerbsGrave
  if 49 ≤ code ∧ code ≤ 51 then b else b.graveSteps

/-- The F2 reaction of a source. -/
def Block.reactF2 (b : Block) (d : Detection) (fseq : Nat) : Block :=
  if [8, 9, 10, 11, 24, 25].contains d.code then b.retireFault fseq (unitQuarter d.unit)
  else if d.code = 12 ∨ d.code = 13 then (b.linkSafe d.unit).openWindow (.convLink d.unit) fseq true
  else if d.code = 26 then b.openWindow (.convLink d.unit) fseq true
  else if d.code = 27 then b.openWindow (.colirLane (d.unit % 4)) fseq true
  else if d.code = 28 then b.openWindow (.page (d.detailA.toNat / 4096)) fseq true
  else if d.code = 15 then
    (b.retirePage (d.detailA.toNat / 4096) d.injected).openWindow (.page (d.detailA.toNat / 4096)) fseq true
  else b

/-- The F3 reaction of a source, beside the Kerb outputs. -/
def Block.reactF3 (b : Block) (d : Detection) (fseq : Nat) : Block :=
  match d.code with
  | 24 => b.retireFault fseq (unitQuarter d.unit)
  | 25 => b.retireFault fseq (unitQuarter d.unit)
  | 26 => (b.openWindow (.convLink d.unit) fseq true).seedFault fseq [] d.ctxs []
  | 27 =>
    let (b, ctxs) := b.losePort (d.unit % 4)
    (b.openWindow (.colirPort (d.unit % 4)) fseq true).seedFault fseq [] ctxs []
  | 28 => b.seedMemory fseq d.detailA.toNat
  | 32 => b.seedFault fseq [] d.ctxs []
  | 33 => b.seedMemory fseq d.detailA.toNat
  | 34 => (b.openWindow (.stop d.unit) fseq true).seedFault fseq b.mappedLogicals [] []
  | 35 => (b.openWindow (.colirPort (d.unit % 4)) fseq true).seedFault fseq [] d.ctxs []
  | 36 =>
    let ls := (quartersOf d.unit).flatMap b.namedBy
    (b.openWindow (.district d.unit) fseq true).seedFault fseq ls [] []
  | _ => b

/-- What a detection says about the hardware itself: a lost Stop takes the continuity store into parity (R431), and a District whose PLL
is out of lock stops (R401). -/
def Block.hardwareState (b : Block) (d : Detection) : Block :=
  if d.code = 34 then
    ({ b with stops := { b.stops with lost := addNew b.stops.lost d.unit } }).setRf 0x1100210 3 3 1
  else if d.code = 36 then { b with hub := { b.hub with pllLost := addNew b.hub.pllLost d.unit } }
  else b

/-- The record of a unit fault (R402). -/
def Block.unitRecord (b : Block) (d : Detection) (dcls acls flags link : Nat) : Block :=
  if dcls = 0 then b
  else b.faultRecord 0 dcls acls flags d.code d.unit link 0 0 d.detailA (if d.code = 18 then d.detailB else 0)

/-- One detection at the Fault Hub (R398, R405 to R410), without QTR_FAIL. -/
def Block.faultCore (b : Block) (d : Detection) : Block :=
  match b.classOf d.code with
  | none => b
  | some cls =>
    let inj := if d.injected then 4 else 0
    if d.dry then (b.causeSeen d).unitRecord d cls cls (inj + 8) 0
    else match b.shadowOf d cls with
    | some w => ((b.hardwareState d).causeSeen d).unitRecord d cls cls (inj + 2) w.fseq
    | none =>
      let esc := escalates d.code && b.hub.pend.any fun p => p.cls == cls
      let acls := if esc then cls + 1 else cls
      let retires := (decide (acls = 2) && [8, 9, 10, 11, 24, 25].contains d.code) || (decide (acls = 3) && (d.code == 24 || d.code == 25))
      let degraded := retires && !b.retired.contains (unitQuarter d.unit) && b.spares.isEmpty
      let fseq := b.hub.fseq
      let b := (b.hardwareState d).causeSeen d
      let b := b.unitRecord d cls acls (inj + b2n esc + (if degraded then 16 else 0)) 0
      let b := { b with hub := { b.hub with degraded := b.hub.degraded || degraded } }
      let b := b.applyFault d acls fseq
      if acls = 2 then b.reactF2 d fseq
      else if acls = 3 then (b.kerbsFault d.code).reactF3 d fseq
      else if acls = 4 then b.enterGrave d.code
      else b

/-- A detection that counts towards QTR_FAIL (R401): the Quarter's count, and whether it reaches QTR_LIMIT. -/
def Block.qtrCount (b : Block) (d : Detection) : Block × Bool :=
  let limit := b.rf 0x300000 15 8
  let p := unitQuarter d.unit
  if limit = 0 ∨ d.dry ∨ !([8, 9, 10, 11].contains d.code) ∨ (b.shadowOf d 1).isSome then (b, false)
  else
    let ts := ((SMap.get b.hub.qtrTimes [] p).filter fun t => decide (b.now ≤ t + 1000000000)) ++ [b.now]
    let full := decide (limit ≤ ts.length)
    ({ b with hub := { b.hub with qtrTimes := SMap.put b.hub.qtrTimes p (if full then [] else ts) } }, full)

/-- One detection while the module runs, with the QTR_FAIL it may lead to (R401). -/
def Block.faultTake (b : Block) (d : Detection) : Block :=
  let (b, fail) := b.qtrCount d
  let b := b.faultCore d
  if fail then
    b.faultCore { code := 24, unit := unitQuarter d.unit, detailA := 0, detailB := 0, injected := d.injected, dry := false, ctxs := [] }
  else b

/-- An F4 that reaches the Corner while the module does not run: step 1 of R411 needs nothing else. -/
def Block.cornerFault (b : Block) (d : Detection) : Block :=
  if b.power.off ∨ d.dry ∨ b.classOf d.code ≠ some 4 then b
  else ({ b with hub := { b.hub with grave := true, active := addNew b.hub.active 4 } }).kerbsGrave

/-- FAULT_DETECT (R398): the detection leaves the fault wires, if a unit of this model put it there. -/
def execFaultDetect (det : Detection) (s : State) : Host.Outcome State Fault Refusal :=
  act (fun b =>
    let b := { b with hub := { b.hub with wires := b.hub.wires.erase det } }
    if b.up then b.faultTake det else b.cornerFault det) s

-- Clears (R407 to R409)

/-- A source holds a persisting condition (R407). -/
def Block.persists (b : Block) (code : Nat) : Bool :=
  if code = 12 ∨ code = 13 ∨ code = 26 then (List.range 8).any fun k => b.linkState k == 4
  else if code = 27 ∨ code = 35 then (List.range 4).any fun p => (b.cport p).lost
  else if code = 34 then !b.stops.lost.isEmpty
  else if code = 36 then !b.hub.pllLost.isEmpty
  else if 40 ≤ code ∧ code ≤ 47 then
    let cfg := b.reg (0x1200100 + 4 * (code - 40))
    bits cfg 6 4 != 0 && b.kerb.inputs.testBit (code - 40) != cfg.testBit 7
  else false

/-- CLASS_CLEAR (R407): class F(cls + 1) clears once its quiet period has passed and no source of it holds a persisting condition. -/
def execClassClear (cls : Fin 3) (s : State) : Host.Outcome State Fault Refusal :=
  actUp (fun b =>
    let k := cls.val + 1
    let mine (s : Nat) : Bool := b.rf (srcStat s) 31 31 == 1 && b.rf (srcStat s) 18 16 == k
    match SMap.find? b.hub.quietDue k with
    | none => b
    | some t =>
      let srcs := (List.range 64).filter mine
      if srcs.any b.persists then b
      else
        let b := b.passTo t
        let b := srcs.foldl (fun b s => b.setRf (srcStat s) 31 31 0) b
        let b := { b with hub := { b.hub with
          pend := b.hub.pend.filter fun p => p.cls ≠ k
          active := b.hub.active.filter (· ≠ k)
          quietDue := SMap.erase b.hub.quietDue k } }
        let n := (b.reg (0x300020 + 4 * cls.val) + 1) % 2 ^ 32
        ((b.setReg (0x300020 + 4 * cls.val) n).raise 17 (k + field n 31 8)).kerbsAuto) s

/-- F0_NOW_CLEAR (R408). -/
def execF0NowClear (src : Fin 8) (s : State) : Host.Outcome State Fault Refusal :=
  actUp (fun b =>
    match SMap.find? b.hub.f0Due src with
    | none => b
    | some t =>
      let b := (b.passTo t).setRf (srcStat src) 31 31 0
      { b with hub := { b.hub with f0Due := SMap.erase b.hub.f0Due src } }) s

/-- SHADOW_WINDOW_END (R409): the window that closes first closes. -/
def execShadowWindowEnd (s : State) : Host.Outcome State Fault Refusal :=
  actUp (fun b =>
    match b.hub.windows.filterMap (·.until_) with
    | [] => b
    | t :: ts =>
      let first := ts.foldl min t
      let b := b.passTo first
      { b with hub := { b.hub with windows := b.hub.windows.filter fun w => w.until_ ≠ some first } }) s

-- Heartbeats (R401)

/-- The Quarters the heartbeat polls: mapped ones of running Districts. -/
def Block.polled (b : Block) : List Nat :=
  (List.range 68).filter fun p => !b.retired.contains p && (b.logical p).isSome && b.distRunning (distOf p)

/-- HEARTBEAT_SEND (R401): `answers` are the Quarters that answer within 100 µs. -/
def execHeartbeatSend (answers : List (Fin 68)) (s : State) : Host.Outcome State Fault Refusal :=
  actUp (fun b =>
    let b := b.passTo b.hub.beatAt
    let wait := b.polled.filter fun p => !(answers.any fun a => a.val == p)
    { b with hub := { b.hub with beatAt := b.now + 100000, beatWait := wait } }) s

/-- HEARTBEAT_TIMEOUT (R401): a Quarter has not answered. -/
def execHeartbeatTimeout (q : Fin 68) (s : State) : Host.Outcome State Fault Refusal :=
  actUp (fun b =>
    if !b.hub.beatWait.contains q.val || b.retired.contains q then b
    else
      let b := b.passTo b.hub.beatAt
      ({ b with hub := { b.hub with beatWait := b.hub.beatWait.filter (· ≠ q.val) } }).detect 25 q) s

-- Kerb inputs (R416, R417)

/-- KERB_IN_EDGE (R396, R416, R417): a change of level has passed an input's filter. The Corner takes it whenever it is powered. -/
def execKerbInEdge (input : Fin 8) (level : Bool) (s : State) : Host.Outcome State Fault Refusal :=
  act (fun b =>
    let i := input.val
    if b.power.off || b.kerb.inputs.testBit i == level then b
    else
      let b := { b with kerb := { b.kerb with inputs := setBits b.kerb.inputs i i (b2n level) } }
      let b := b.wakeCause (if level then i else 8 + i)
      let cfg := b.reg (0x1200100 + 4 * i)
      if bits cfg 6 4 ≠ 0 ∧ level ≠ cfg.testBit 7 then b.detect (40 + i) i else b) s

-- Fault injection (R418)

/-- FAULT_INJ_N_WRITE (R418). -/
def execFaultInjNWrite (value : W32) (s : State) : Host.Outcome State Fault Refusal :=
  actUp (fun b => b.setReg 0x300044 (value.toNat % 65536)) s
/-- FAULT_INJ_SEL_WRITE (R418). -/
def execFaultInjSelWrite (value : W32) (s : State) : Host.Outcome State Fault Refusal :=
  actUp (fun b => b.setReg 0x300040 (value.toNat &&& 0xFFFFFC01)) s

end Sys2Proof.Machine
end

