-- ==== Sys2Proof/Machine/Fp.lean ====
section
/-! DEFINITION. The floating-point strand instructions (R130, R133, R134, R162 to R182). -/

namespace Sys2Proof.Machine

/-- A floating-point instruction on lanes: `f` takes the format, the mode and FTZ, and the three operands of a lane; DAZ
flushes the operands first where `daz` says so (R173). The third operand is RD. -/
def fpBody (daz : Bool) (f : Fmt → RMode → Bool → Nat → Nat → Nat → Nat × Nat) (_ : Block) (_ : Quarter) (p : PE)
    (s : Slot) (x : SInstr) : Body :=
  match x.f with
  | .r rd ra rb rm w =>
    let fm := laneFmt w.toNat
    let z := fm.daz (daz && s.daz)
    let r := onLanes w.toNat (fun a b c => f fm (s.round rm) s.ftz (z a) (z b) (z c)) (s.rd ra) (s.rd rb) (s.rd rd)
    .cont ((s.wr rd r.1).flag r.2) p
  | _ => .hold

/-- FDIV and FSQRT, delivered when the divider finishes (R190); the mode is that of the issue (R164). -/
def fpDivBody (slot : Nat) (f : Fmt → RMode → Bool → Nat → Nat → Nat × Nat) (_ : Block) (_ : Quarter) (p : PE) (s : Slot)
    (x : SInstr) : Body :=
  match x.f with
  | .r rd ra rb rm w =>
    let fm := laneFmt w.toNat
    let z := fm.daz s.daz
    let r := onLanes w.toNat (fun a b _ => f fm (s.round rm) s.ftz (z a) (z b)) (s.rd ra) (s.rd rb) 0
    .cont s { p with div := some { slot := slot, rd := rd.toNat, result := r.1, flags := r.2 } }
  | _ => .hold

/-- A comparison (R133, R176): 1 or 0 with W = 0, all ones or zeros in each lane otherwise. -/
def fcmpBody (k : Nat) (_ : Block) (_ : Quarter) (p : PE) (s : Slot) (x : SInstr) : Body :=
  match x.f with
  | .r rd ra rb _ w =>
    let fm := laneFmt w.toNat
    let z := fm.daz s.daz
    let r := onLanes w.toNat (fun a b _ =>
      let c := fcmp k (fm.val (z a)) (fm.val (z b))
      (if c.1 then (if w = 0 then 1 else 2 ^ laneBits w.toNat - 1) else 0, c.2)) (s.rd ra) (s.rd rb) 0
    .cont ((s.wr rd r.1).flag r.2) p
  | _ => .hold

/-- FCVT (R134, R179 to R181): the conversion that the RB field selects, from the low bits of RA. -/
def fcvt (mode : RMode) (ftz daz : Bool) (code : Nat) (x : Nat) : Nat × Nat :=
  let z (f : Fmt) := f.daz daz (x % 2 ^ f.width)
  match code with
  | 0 => cvtFF f64 f32 mode ftz (z f64)
  | 1 => cvtFF f32 f64 mode false (z f32)
  | 2 => cvtFF f64 f16 mode ftz (z f64)
  | 3 => cvtFF f16 f64 mode false (z f16)
  | 4 => cvtFF f32 f16 mode ftz (z f32)
  | 5 => cvtFF f16 f32 mode false (z f16)
  | 6 => cvtFI f64 mode 64 true (z f64)
  | 7 => cvtFI f64 mode 64 false (z f64)
  | 8 => cvtIF f64 mode 64 true x
  | 9 => cvtIF f64 mode 64 false x
  | 10 => cvtFI f32 mode 32 true (z f32)
  | _ => cvtIF f32 mode 32 true x

/-- FCVT: RB is the conversion code. -/
def fcvtBody (_ : Block) (_ : Quarter) (p : PE) (s : Slot) (x : SInstr) : Body :=
  match x.f with
  | .r rd ra rb rm _ =>
    let r := fcvt (s.round rm) s.ftz s.daz rb.toNat (s.rd ra).toNat
    .cont ((s.wr rd (BitVec.ofNat 64 r.1)).flag r.2) p
  | _ => .hold

/-- FADD (R174). -/
def execFadd (site : Site) (s : State) : Host.Outcome State Fault Refusal :=
  act (issue 0x30 site (fpBody true fun f m z a b _ => f.add m z (f.val a) (f.val b))) s

/-- FSUB (R174). -/
def execFsub (site : Site) (s : State) : Host.Outcome State Fault Refusal :=
  act (issue 0x31 site (fpBody true fun f m z a b _ => f.add m z (f.val a) (f.val b).neg)) s

/-- FMUL (R174). -/
def execFmul (site : Site) (s : State) : Host.Outcome State Fault Refusal :=
  act (issue 0x32 site (fpBody true fun f m z a b _ => f.mul m z (f.val a) (f.val b))) s

/-- FDIV (R174). -/
def execFdiv (site : Site) (s : State) : Host.Outcome State Fault Refusal :=
  act (issue 0x33 site (fpDivBody site.slot.val fun f m z a b => f.div m z (f.val a) (f.val b))) s

/-- FSQRT (R174). -/
def execFsqrt (site : Site) (s : State) : Host.Outcome State Fault Refusal :=
  act (issue 0x34 site (fpDivBody site.slot.val fun f m z a _ => f.sqrt m z (f.val a))) s

/-- FMA (R174). -/
def execFma (site : Site) (s : State) : Host.Outcome State Fault Refusal :=
  act (issue 0x35 site (fpBody true fun f m z a b c => f.fma m z (f.val a) (f.val b) (f.val c) false)) s

/-- FMS (R174). -/
def execFms (site : Site) (s : State) : Host.Outcome State Fault Refusal :=
  act (issue 0x36 site (fpBody true fun f m z a b c => f.fma m z (f.val a) (f.val b) (f.val c).neg false)) s

/-- FNMA (R174). -/
def execFnma (site : Site) (s : State) : Host.Outcome State Fault Refusal :=
  act (issue 0x37 site (fpBody true fun f m z a b c => f.fma m z (f.val a) (f.val b) (f.val c) true)) s

/-- FNMS (R174). -/
def execFnms (site : Site) (s : State) : Host.Outcome State Fault Refusal :=
  act (issue 0x38 site (fpBody true fun f m z a b c => f.fma m z (f.val a) (f.val b) (f.val c).neg true)) s

/-- FMIN (R175). -/
def execFmin (site : Site) (s : State) : Host.Outcome State Fault Refusal :=
  act (issue 0x39 site (fpBody true fun f _ _ a b _ => f.minmax false a b)) s

/-- FMAX (R175). -/
def execFmax (site : Site) (s : State) : Host.Outcome State Fault Refusal :=
  act (issue 0x3A site (fpBody true fun f _ _ a b _ => f.minmax true a b)) s

/-- FCMPEQ (R176). -/
def execFcmpeq (site : Site) (s : State) : Host.Outcome State Fault Refusal :=
  act (issue 0x3B site (fcmpBody 0)) s

/-- FCMPLT (R176). -/
def execFcmplt (site : Site) (s : State) : Host.Outcome State Fault Refusal :=
  act (issue 0x3C site (fcmpBody 1)) s

/-- FCMPLE (R176). -/
def execFcmple (site : Site) (s : State) : Host.Outcome State Fault Refusal :=
  act (issue 0x3D site (fcmpBody 2)) s

/-- FCMPUN (R176). -/
def execFcmpun (site : Site) (s : State) : Host.Outcome State Fault Refusal :=
  act (issue 0x3E site (fcmpBody 3)) s

/-- FABS (R178). -/
def execFabs (site : Site) (s : State) : Host.Outcome State Fault Refusal :=
  act (issue 0x3F site (fpBody false fun f _ _ a _ _ => (a % 2 ^ (f.width - 1), 0))) s

/-- FNEG (R178). -/
def execFneg (site : Site) (s : State) : Host.Outcome State Fault Refusal :=
  act (issue 0x40 site (fpBody false fun f _ _ a _ _ => (a ^^^ 2 ^ (f.width - 1), 0))) s

/-- FCLASS (R177). -/
def execFclass (site : Site) (s : State) : Host.Outcome State Fault Refusal :=
  act (issue 0x41 site (fpBody false fun f _ _ a _ _ => (f.classify a, 0))) s

/-- FCVT (R134). -/
def execFcvt (site : Site) (s : State) : Host.Outcome State Fault Refusal :=
  act (issue 0x42 site (fcvtBody)) s

/-- FRINT (R182). -/
def execFrint (site : Site) (s : State) : Host.Outcome State Fault Refusal :=
  act (issue 0x43 site (fpBody true fun f m z a _ _ => f.rint m z a)) s

end Sys2Proof.Machine
end

