-- ==== Sys2Proof/Machine/Power.lean ====
section
/-! DEFINITION. Power states and District levels (R451 to R461), clocks and adaptive loops (R462 to R467), resets and boot (R469 to
R476). -/

namespace Sys2Proof.Machine

-- Power states (R455, R456)

/-- SLEEP_PENDING. -/
def Block.sleepPending (b : Block) : Bool := b.rf 0x1000004 8 8 == 1

/-- The module's power state changes, and POWER_STATE is raised. -/
def Block.setPowerState (b : Block) (st : Nat) : Block :=
  if b.rf 0x1000004 2 0 = st then b else (b.setRf 0x1000004 2 0 st).raise 22 st

/-- A write of POWER_CTRL (R455, R456): RUN, LOGKEEP and NAP take effect at once and clear SLEEP_PENDING, SLEEP sets it. -/
def Block.writePowerCtrl (b : Block) (value : Nat) : Block :=
  let b := b.setReg 0x1000000 (value &&& 0x177)
  let t := value % 8
  if t = 3 then b.setRf 0x1000004 8 8 1
  else (b.setRf 0x1000004 8 8 0).setPowerState (if 3 < t then 0 else t)

/-- POWER_TARGET_RUN (R455). -/
def execPowerTargetRun (value : W32) (s : State) : Host.Outcome State Fault Refusal :=
  actUp (fun b => b.writePowerCtrl (setBits value.toNat 2 0 0)) s
/-- POWER_TARGET_LOGKEEP (R455). -/
def execPowerTargetLogkeep (value : W32) (s : State) : Host.Outcome State Fault Refusal :=
  actUp (fun b => b.writePowerCtrl (setBits value.toNat 2 0 1)) s
/-- POWER_TARGET_NAP (R455). -/
def execPowerTargetNap (value : W32) (s : State) : Host.Outcome State Fault Refusal :=
  actUp (fun b => b.writePowerCtrl (setBits value.toNat 2 0 2)) s
/-- POWER_TARGET_SLEEP (R456). -/
def execPowerTargetSleep (value : W32) (s : State) : Host.Outcome State Fault Refusal :=
  actUp (fun b => b.writePowerCtrl (setBits value.toNat 2 0 3)) s

-- District levels (R455, R458 to R461)

/-- POWER_DISTd_CFG. -/
def distCfg (d : Nat) : Nat := 0x1000010 + 4 * d

/-- The rest level of a District (R455, R456): 0 none, 1 GATED, 2 STOPPED, 3 OFF. -/
def Block.restLevel (b : Block) (d : Nat) : Nat :=
  let rest := b.rf (distCfg d) 1 0
  let st := b.rf 0x1000004 2 0
  if b.sleepPending then 3
  else if st = 0 then rest
  else if st = 1 then (if b.rf 0x1000000 6 4 = d then rest else 3)
  else if st = 2 then max rest 2
  else 3

/-- The rest level that the module's power state alone asks of a District (R455, R456). -/
def Block.stateLevel (b : Block) (d : Nat) : Nat :=
  let st := b.rf 0x1000004 2 0
  if b.sleepPending then 3
  else if st = 0 then 0
  else if st = 1 then (if b.rf 0x1000000 6 4 = d then 0 else 3)
  else if st = 2 then 2
  else 3

/-- The level an idle District goes to: a running one its rest level, a resting one that of a deeper power state, which takes effect at
once (R455, R456); a new REST waits for the next entry into rest. -/
def Block.restGoal (b : Block) (d : Nat) : Nat := if b.distLevel d = 0 then b.restLevel d else b.stateLevel d

/-- The Quarters of a District that are not retired. -/
def Block.liveQuarters (b : Block) (d : Nat) : List Nat := (quartersOf d).filter fun q => !b.retired.contains q

/-- Every fire queue of a District is empty (R117). -/
def Block.queuesEmpty (b : Block) (d : Nat) : Bool :=
  (b.liveQuarters d).all fun q => ((b.q q).pes.all fun p => p.2.fireq.isEmpty) && (b.q q).plaza.fireBuf.isEmpty

/-- A District is IDLE now and may enter a level (R117, R455). -/
def Block.mayRest (b : Block) (d level : Nat) : Bool :=
  !b.distBusy d && !b.distWaiting d && (decide (level < 2) || b.queuesEmpty d)

/-- Parked READ_WAIT requests of a Quarter are answered ABORTED (R215). -/
def Block.abortWaits (b : Block) (q : Nat) : Block :=
  let qq := b.q q
  let gone := qq.park
  gone.foldl (fun b p => match p.who with
    | .readWait tag dest => b.reply q dest { value := 0, tag := tag, ctrl := 0 } 3 []
    | .ldd _ _ _ => b) (b.setQ q { qq with park := [] })

/-- A key leaves its set for the spill buffer (R83). -/
def Block.evictKey (b : Block) (q k : Nat) : Block :=
  let p := b.plz q
  ((b.setPlz q { p with entries := p.entries.filter fun o => o.key ≠ k }).bump (plzCnt q 3)).spillPut q k (p.here k)

/-- Every key in the spill buffer is written and acknowledged; one whose window has no room stays (R83, R87). -/
def Block.landSpills (b : Block) (q : Nat) : Block :=
  let b := ((b.plz q).spill.filter fun s => !s.sent).foldl (fun b s => b.spillTry q s) b
  let p := b.plz q
  let sent := p.spill.filter fun s => s.sent
  let b := b.setPlz q { p with spill := p.spill.filter fun s => !s.sent }
  let b := sent.foldl (fun b s =>
    let b := b.freeSlots q s.taken
    if s.ops.isEmpty then b.filterDown q s.key else b) b
  b.filterReset q

/-- A Plaza evicts every key (R83, R459 step 2). -/
def Block.evictAll (b : Block) (q : Nat) : Block :=
  let keys := (b.plz q).entries.foldl (fun l o => addNew l o.key) []
  (keys.foldl (fun b k => b.evictKey q k) b).landSpills q

/-- A District that has been idle long enough enters its rest level. GATED and STOPPED are reached within this step; an entry into OFF
does its steps 1 and 2 on a running District and goes on (R459). -/
def Block.enterRest (b : Block) (d : Nat) : Block :=
  let level := b.restGoal d
  if decide (level ≤ b.distLevel d) || !b.distSteady d || b.rf (distStat d) 0 0 == 1 || !b.mayRest d level then b
  else
    let b := b.passTo (SMap.get b.ave.lastFired 0 d + 1000 * max (b.rf (distCfg d) 15 8) 1)
    if level < 3 then b.setRf (distStat d) 5 4 level
    else
      let b := (b.liveQuarters d).foldl (fun b q => (b.abortWaits q).evictAll q) b
      { (b.setRf (distStat d) 5 4 0).setRf (distStat d) 0 0 1 with power := { b.power with due := SMap.put b.power.due d (b.now + 400000) } }
/-- DISTRICT_REST_ENTRY (R455, R458, R459). -/
def execDistrictRestEntry (d : Fin 8) (s : State) : Host.Outcome State Fault Refusal := actUp (fun b => b.enterRest d) s

/-- A Quarter's power switch opens: what it holds becomes its OFF image, read through port B (R208, R215), with the lines still PENDING
copied for the snapshot first (R212) and its presence filter in module memory (R83); lanes, words on their way to them and the pen stay
outside its power domain (R84, R98, R459). -/
def Block.saveImage (b : Block) (q : Nat) (upsets : List (Nat × Fin 3)) : Block :=
  let b := b.frameSave q upsets
  let b := ((b.q q).pend.foldl (fun b l => b.copyLine q l) b).saveFilter q
  let x := { b.q q with pend := [] }
  ({ b with power := { b.power with images := SMap.put b.power.images q x } }).setQ q
    { Quarter.empty with lanes := x.lanes, arriving := x.arriving, asm := x.asm, vc1Out := x.vc1Out
                         plaza := Plaza.empty.withPen x.plaza }

/-- Entry into OFF ends (R459 steps 3 and 4); work that has come meanwhile cancels it (R461). `upsets` are the frame words, by Quarter,
in which the save reads first meet an error (R208). A READ_WAIT parked since the entry began is ABORTED as well (R215). -/
def Block.finishOff (b : Block) (d : Nat) (upsets : List (Fin 68 × Nat × Fin 3)) : Block :=
  if b.rf (distStat d) 0 0 = 0 then b
  else
    let b := b.passTo (SMap.get b.power.due 0 d)
    let b := { b.setRf (distStat d) 0 0 0 with power := { b.power with due := SMap.erase b.power.due d } }
    if !b.mayRest d 3 then b
    else ((b.liveQuarters d).foldl (fun b q =>
      (b.abortWaits q).saveImage q ((upsets.filter fun u => u.1.val = q).map (·.2))) b).setRf (distStat d) 5 4 3
/-- OFF_ENTRY_DONE (R459). -/
def execOffEntryDone (x : SaveAt) (s : State) : Host.Outcome State Fault Refusal :=
  actUp (fun b => b.finishOff x.d x.upsets) s

/-- DISTRICT_WAKE_REQUEST (R461). -/
def execDistrictWakeRequest (d : Fin 8) (s : State) : Host.Outcome State Fault Refusal := actUp (fun b => b.wakeRequest d) s

/-- A Quarter's OFF image is restored, with the presence filter from module memory (R83); its strand code comes from the instruction
shadows (R459, R460). Where several logical Quarters name one physical Quarter, their shadows are loaded in ascending order, and the
higher number overlays the lower (DESIGN CHOICE: the rule gives no order; log 86). -/
def Block.loadImage (b : Block) (q : Nat) : Block :=
  match SMap.find? b.power.images q with
  | none => b
  | some x =>
    let now := b.q q
    let b := { b with power := { b.power with images := SMap.erase b.power.images q } }
    let b := b.setQ q { x with code := [], lanes := now.lanes, arriving := now.arriving, asm := now.asm, vc1Out := now.vc1Out
                               plaza := x.plaza.withPen now.plaza }
    let b := b.readFilter q
    (b.namedBy q).foldl (fun b l =>
      let (_, _, code) := SMap.get b.cont.shadows ([], 0, []) l
      let y := b.q q
      b.setQ q { y with code := code.foldl (fun m e => SMap.put m e.1 e.2) y.code }) b

-- Frequencies (R464, R466, R467)

/-- FREQ of a District. -/
def Block.freq (b : Block) (d : Nat) : Nat := b.rf (distStat d) 12 8
/-- The frequency of R466. -/
def Block.goalOf (b : Block) (d : Nat) : Nat := SMap.get b.power.goal 16 d
/-- A bound as it behaves: 4 to 16. -/
def freqBound (x : Nat) : Nat := min (max x 4) 16
/-- FMAX of a District. -/
def Block.fmax (b : Block) (d : Nat) : Nat := freqBound (b.rf (distCfg d) 28 24)
/-- FMIN of a District; above FMAX it behaves as FMAX. -/
def Block.fmin (b : Block) (d : Nat) : Nat := min (freqBound (b.rf (distCfg d) 20 16)) (b.fmax d)

/-- A step of one sixteenth towards a frequency: 2 µs at the lower of the two (R464). -/
def Block.stepFreq (b : Block) (d f : Nat) : Block :=
  let now := b.freq d
  if now = f then b
  else
    let tgt := if now < f then now + 1 else now - 1
    let b := if tgt < now then b.setRf (distStat d) 12 8 tgt else b
    { b with power := { b.power with fstep := SMap.put b.power.fstep d (tgt, b.now + 2000) } }

/-- LIMITED of a District. -/
def Block.limited (b : Block) (d : Nat) : Bool := b.rf (distStat d) 2 2 == 1

/-- A step of frequency ends, and the next towards the goal of R466 begins. -/
def Block.finishStep (b : Block) (d : Nat) : Block :=
  match SMap.find? b.power.fstep d with
  | none => b
  | some (f, t) =>
    let b := b.passTo t
    let b := { b.setRf (distStat d) 12 8 f with power := { b.power with fstep := SMap.erase b.power.fstep d } }
    if b.limited d then b else b.stepFreq d (b.goalOf d)
/-- FREQ_STEP_DONE (R464). -/
def execFreqStepDone (d : Fin 8) (s : State) : Host.Outcome State Fault Refusal := actUp (fun b => b.finishStep d) s

/-- FREQ_DECISION (R466): the load of the closed epoch, or of the LEN µs since the last decision, moves the frequency by one step. -/
def execFreqDecision (d : Fin 8) (loadPct : Nat) (s : State) : Host.Outcome State Fault Refusal :=
  actUp (fun b =>
    let dn := d.val
    let b := if b.rf 0x1100200 0 0 = 1 then b else b.passTo (SMap.get b.power.fAt b.cont.lastClose dn + b.epochNs)
    let g := b.goalOf dn
    let g := if loadPct < 25 then g - 1 else if 75 < loadPct then g + 1 else g
    let g := min (max g (b.fmin dn)) (b.fmax dn)
    let b := { b with power := { b.power with goal := SMap.put b.power.goal dn g, fAt := SMap.put b.power.fAt dn b.now } }
    if b.limited dn || (SMap.find? b.power.fstep dn).isSome then b else b.stepFreq dn g) s

-- PMBus status (R494)

/-- STATUS_WORD: CML, TEMPERATURE and VIN_UV. -/
def Block.pmbStatus (b : Block) : Nat :=
  2 * b2n b.pmb.cml + 4 * b2n ((List.range 8).any b.limited) + 8 * b2n b.power.vinLow
/-- PMB_ALERT_N goes low when a STATUS_WORD bit sets. -/
def Block.pmbCheck (b : Block) : Block :=
  let st := b.pmbStatus
  let new := bitsOf ((onesOf 4 st).filter fun i => !b.pmb.seen.testBit i)
  { b with pmb := { b.pmb with seen := st, alert := b.pmb.alert ||| new } }

-- The thermal limiter (R467)

/-- POWER_THERMs. -/
def thermReg (sensor : Nat) : Nat := 0x1000060 + 4 * sensor
/-- Reading of a sensor, in °C. -/
def Block.tempOf (b : Block) (sensor : Nat) : Int := toInt 8 (b.rf (thermReg sensor) 7 0)
/-- A sensor reads: TEMP, and MAX where it is higher. -/
def Block.sense (b : Block) (sensor : Nat) (celsius : BitVec 8) : Block :=
  let b := b.setRf (thermReg sensor) 7 0 celsius.toNat
  let b := if toInt 8 (b.rf (thermReg sensor) 15 8) < toInt 8 celsius.toNat then b.setRf (thermReg sensor) 15 8 celsius.toNat else b
  if 125 < toInt 8 celsius.toNat then b
  else { b with power := { b.power with hotAt := SMap.erase b.power.hotAt sensor } }
/-- The Districts that a sensor limits. -/
def sensorDists (sensor : Nat) : List Nat := if sensor < 8 then [sensor] else List.range 8
/-- Every sensor that limits a District reads 108 °C or less. -/
def Block.coolDist (b : Block) (d : Nat) : Bool := [d, 8, 9].all fun k => decide (b.tempOf k ≤ 108)

/-- A District is limited by one more step (R465, R467). -/
def Block.limitDist (b : Block) (sensor : Nat) (celsius : BitVec 8) (d : Nat) : Block :=
  let f := b.freq d
  let b := if b.limited d then b else (b.setRf (distStat d) 2 2 1).raise 20 (sensor + 256 * celsius.toNat)
  let b := { b with power := { b.power with therm := SMap.put b.power.therm d b.now } }
  if f ≤ 4 then b
  else
    let b := b.stepFreq d (f - 1)
    if f = b.fmin d then (b.bump 0x1000100).raise 21 (256 * d) else b

/-- A sensor reads above 125 °C: after 100 µs of it THERM_TRIP is detected. -/
def Block.tripCheck (b : Block) (sensor : Nat) : Block :=
  match SMap.find? b.power.hotAt sensor with
  | none => { b with power := { b.power with hotAt := SMap.put b.power.hotAt sensor b.now } }
  | some t => if t + 100000 ≤ b.now then b.detect 50 sensor else b

/-- THERMAL_STEP_DOWN (R467). -/
def execThermalStepDown (sensor : Fin 10) (celsius : BitVec 8) (s : State) : Host.Outcome State Fault Refusal :=
  actUp (fun b =>
    let n := sensor.val
    let t := toInt 8 celsius.toNat
    if t ≤ 110 then b.sense n celsius
    else
      let ds := sensorDists n
      let due (b : Block) (d : Nat) : Nat := if b.limited d then SMap.get b.power.therm 0 d + 100000 else b.now
      let b := b.passTo (ds.foldl (fun m d => min m (due b d)) (due b (ds.headD 0)))
      let b := b.sense n celsius
      let b := (ds.filter fun d => decide (due b d ≤ b.now)).foldl (fun b d => b.limitDist n celsius d) b
      (if 125 < t then b.tripCheck n else b).pmbCheck) s

/-- THERMAL_STEP_UP (R467). -/
def execThermalStepUp (sensor : Fin 10) (celsius : BitVec 8) (s : State) : Host.Outcome State Fault Refusal :=
  actUp (fun b =>
    let n := sensor.val
    if 110 < toInt 8 celsius.toNat then b.sense n celsius
    else
      let b := b.sense n celsius
      let ds := (sensorDists n).filter fun d => b.limited d && b.coolDist d
      let due (d : Nat) : Nat := SMap.get b.power.therm 0 d + 10000000
      match ds with
      | [] => b
      | d0 :: _ =>
        let b := b.passTo (ds.foldl (fun m d => min m (due d)) (due d0))
        ((ds.filter fun d => decide (due d ≤ b.now)).foldl (fun b d =>
          let f := b.freq d
          let b := { b with power := { b.power with therm := SMap.put b.power.therm d b.now } }
          let b := if f < b.goalOf d then b.stepFreq d (f + 1) else b
          if b.goalOf d ≤ f + 1 then b.setRf (distStat d) 2 2 0 else b) b).pmbCheck) s

-- AVS and the reference clock (R463, R465, R466)

/-- A bound of POWER_AVS as it behaves. -/
def avsBound (mv : Nat) : Nat := min (max mv 550) 850

/-- AVS_STEP (R465, R466): the timing monitors of the running Districts pass at needMv and above; d is the District they belong to. -/
def execAvsStep (needMv : Nat) (d : Fin 8) (s : State) : Host.Outcome State Fault Refusal :=
  actUp (fun b =>
    let hi := avsBound (b.rf 0x1000050 25 16)
    let lo := min (avsBound (b.rf 0x1000050 9 0)) hi
    let v := b.rf 0x1000054 9 0
    if needMv ≤ hi then b.setReg 0x1000054 (max needMv lo)
    else if v < hi then b.setReg 0x1000054 hi
    else if v < min needMv 850 then
      let b := b.setReg 0x1000054 (min (v + 5) 850)
      if v = hi then (b.bump 0x1000104).raise 21 1 else b
    else if needMv ≤ 850 then b
    else if b.freq d ≤ 4 then b
    else b.stepFreq d (b.freq d - 1)) s

/-- REFCLK_SWITCH (R463, R465): a CLKREF_IN in use fails. -/
def execRefclkSwitch (s : State) : Host.Outcome State Fault Refusal :=
  act (fun b =>
    if b.power.off || b.power.sleeping || b.rf 0x1000200 4 4 == 0 then b
    else ((b.setRf 0x1000200 4 4 0).bump 0x100010C).raise 21 3) s

-- The supply (R451 to R453)

/-- VIN_WARN's level in mV; 0 is off. -/
def Block.vinLevel (b : Block) : Nat := let mv := b.rf 0x1100010 15 0; if mv = 0 then 0 else min (max mv 4200) 17000

/-- VIN_WARN (R453). -/
def execVinWarn (mv : Fin 65536) (s : State) : Host.Outcome State Fault Refusal :=
  act (fun b =>
    if b.power.off || b.power.vinLow || b.vinLevel = 0 || decide (b.vinLevel ≤ mv.val) then b
    else
      let b := { b.setRf 0x1000058 15 0 mv with power := { b.power with vinLow := true } }
      let b := (b.wakeCause 23).raise 19 mv
      let b := if b.rf 0x1100010 31 31 = 1 then b.kerbsSafe 0xFFFF else b
      let b := if b.rf 0x1100010 30 30 = 1 && b.up then b.closeBlock false else b
      b.pmbCheck) s

/-- VIN_WARN_REARM (R453): VIN has risen 200 mV above the level. -/
def execVinWarnRearm (mv : Fin 65536) (s : State) : Host.Outcome State Fault Refusal :=
  act (fun b =>
    if b.power.off || !b.power.vinLow || decide (mv.val < b.vinLevel + 200) then b
    else ({ b.setRf 0x1000058 15 0 mv with power := { b.power with vinLow := false } }).pmbCheck) s

/-- What every loss of power keeps: the time that passes outside, the host, and what the NOR records (R452, R474). -/
def Block.lost (b : Block) : Block :=
  let x := Block.initial
  { x with
    now := b.now, free := b.free, hostMem := b.hostMem, retired := b.retired
    stops := { x.stops with remap := b.stops.remap }
    power := { x.power with nor := b.power.nor } }

/-- The boot NOR at a reset (R476): an update cut short leaves its slot invalid. -/
def Nor.cut (n : Nor) : Nor :=
  let n := if n.upd ≠ 1 then n
    else if n.bootB then { n with slotA := { n.slotA with sound := false } } else { n with slotB := { n.slotB with sound := false } }
  { n with upd := 0, image := none, chosen := false }

/-- The module loses its supply (R452). -/
def Block.powerLoss (b : Block) : Block :=
  let b := b.lost
  { b with power := { b.power with off := true, released := false, nor := b.power.nor.cut } }

/-- UVLO (R451, R452): VIN falls below 4.0 V. -/
def execUvlo (mv : Fin 65536) (s : State) : Host.Outcome State Fault Refusal :=
  act (fun b => if b.power.off || decide (4000 ≤ mv.val) then b else b.powerLoss) s
/-- OVERVOLTAGE_SHUTDOWN (R451, R452): VIN has been above 19.5 V for 10 µs. -/
def execOvervoltageShutdown (mv : Fin 65536) (s : State) : Host.Outcome State Fault Refusal :=
  act (fun b => if b.power.off || decide (mv.val ≤ 19500) then b else b.powerLoss) s

-- Resets (R469 to R473)

/-- A slot holds a valid image (R474). -/
def NorSlot.valid (x : NorSlot) : Bool := x.sound && decide (x.fails < 3)

/-- The slot that boot chooses (R474): that of NEXT if it is valid, else the valid one with the higher sequence number. -/
def Block.pickSlot (b : Block) : Option Bool :=
  let n := b.power.nor
  let next := b.rf 0x1000300 5 4
  if next = 1 ∧ n.slotA.valid then some false
  else if next = 2 ∧ n.slotB.valid then some true
  else if n.slotA.valid && (!n.slotB.valid || decide (n.slotB.seq ≤ n.slotA.seq)) then some false
  else if n.slotB.valid then some true
  else none

/-- Boot starts: the MGC chooses its slot, and NEXT returns to 0 where it named that slot (R474). -/
def Block.bootStart (b : Block) : Block :=
  if !b.power.released then b
  else match b.pickSlot with
    | none => b
    | some second =>
      let b := if b.rf 0x1000300 5 4 = 1 + b2n second then b.setRf 0x1000300 5 4 0 else b
      { b with power := { b.power with nor := { b.power.nor with bootB := second, chosen := true } } }

/-- The stronger of two resets since the last READY (R472): POR, RST_LONG, then the latest warm one. -/
def stronger (was : Option Nat) (kind : Nat) : Nat := match was with
  | some k => if k ≤ 1 ∨ kind ≤ 1 then min k kind else kind
  | none => kind

/-- The boot-failure count of the booted slot (R474). -/
def Nor.failed (n : Nor) : Nor :=
  if n.bootB then { n with slotB := { n.slotB with fails := if n.slotB.valid then n.slotB.fails + 1 else n.slotB.fails } }
  else { n with slotA := { n.slotA with fails := if n.slotA.valid then n.slotA.fails + 1 else n.slotA.fails } }

/-- Registers of the CORNER and KERB blocks, which every reset but a POR keeps (R470). -/
def cornerOff (off : Nat) : Bool := decide (0x1100000 ≤ off) && decide (off < 0x1300000)

/-- Registers a warm reset keeps whole: the Corner's, the HOST block (R378), the cause records (R404), the page pools and the key slots
(R332, R343). -/
def warmKeeps (off : Nat) : Bool :=
  cornerOff off || (decide (0x100000 ≤ off) && decide (off < 0x200000)) || (decide (0x301000 ≤ off) && decide (off < 0x302000)) ||
  (decide (0xB00110 ≤ off) && decide (off < 0xB00130)) || (decide (0xC00020 ≤ off) && decide (off < 0xC00040))

/-- The registers after a warm reset (R471): RW fields as they were, the others at their reset values. -/
def warmRegs (m : SMap Nat) : SMap Nat :=
  m.map fun e =>
    if warmKeeps e.1 then e
    else match regRow e.1 with
      | some r => (e.1, r.reset - (r.reset &&& r.rw) + (e.2 &&& r.rw))
      | none => e

/-- A cause record keeps NOW only for an F4 (R408, R412). -/
def Block.clearNow (b : Block) : Block :=
  (List.range 64).foldl (fun b s => if b.rf (srcStat s) 31 31 = 1 ∧ b.rf (srcStat s) 18 16 ≠ 4 then b.setRf (srcStat s) 31 31 0 else b) b

/-- A ring of the host at a warm reset (R377, R378): accepted jobs that have not completed start again. A KEY_LOAD whose slot has been
written keeps its descriptor, whose key bytes the host no longer has (R366). -/
def SQ.warm (q : SQ) : SQ :=
  { q with fetched := if q.keyDone.isSome then q.fetched else none, accDue := false,
           jobs := q.jobs.map fun j => { j with begun := j.done } }

/-- What a warm reset keeps (R470, R449): module memory and what stands for structures kept in it. A LOG_DRAIN copies its blocks and
completes in one step, so that no reset interrupts one: its blocks stay taken until its record is written (R345, R378). -/
def Block.warmReset (b : Block) : Block :=
  let x := Block.initial
  let p := b.power
  let wasUp := (List.range 8).foldl (fun l k => if b.linkState k = 0 ∨ b.linkState k = 5 then l else addNew l k) p.wasUp
  let b1 : Block := { x with
    now := b.now, timeNs := b.timeNs, free := b.free, regs := warmRegs b.regs, retired := b.retired
    ave := { x.ave with gatePen := b.ave.gatePen }
    disp := { x.disp with tickNow := b.disp.tickNow, nextTick := b.disp.nextTick, armSeq := b.disp.armSeq, readySeq := b.disp.readySeq }
    host := { x.host with sqs := SMap.mapVal b.host.sqs fun _ q => q.warm, cqs := b.host.cqs, resume := b.host.resume }
    evc := { x.evc with eqs := b.evc.eqs, wake0 := b.evc.wake0, timer := b.evc.timer }
    hub := { x.hub with fseq := b.hub.fseq, times := b.hub.times, grave := b.hub.grave, graveUnacked := b.hub.graveUnacked,
                        active := if b.hub.grave then [4] else [], degraded := b.hub.degraded }
    kerb := b.kerb
    stops := { x.stops with bad := b.stops.bad, lost := b.stops.lost, remap := b.stops.remap, hist := b.stops.hist }
    arch := { b.arch with sealing := none }
    cont := { x.cont with
      epoch := b.cont.epoch, gEpoch := (List.range 4).map fun g => (g, b.cont.epoch), lsn := b.cont.lsn, journal := b.cont.journal
      bank := b.cont.bank, undo := b.cont.undo, fresh_ := b.cont.fresh_, shadows := b.cont.shadows }
    colir := { ports := [], flow := b.colir.flow }
    power := { x.power with vinLow := p.vinLow, since := p.since, wasUp := wasUp, nor := p.nor, held := p.held, released := p.released }
    lands := { b.lands with timeOut := false }
    mem := b.mem, hostMem := b.hostMem }
  (b1.setRf 0x1100210 2 0 0).clearNow

/-- What RST_LONG keeps (R470): the Corner's registers and records, the Kerb outputs and the grave state. -/
def Block.longReset (b : Block) : Block :=
  let x := b.lost
  let y : Block := { x with
    regs := b.regs.filter fun e => cornerOff e.1
    kerb := b.kerb
    evc := { x.evc with wake0 := b.evc.wake0, timer := b.evc.timer }
    hub := { x.hub with grave := b.hub.grave, graveUnacked := b.hub.graveUnacked, active := if b.hub.grave then [4] else [] }
    power := { x.power with vinLow := b.power.vinLow, since := b.power.since, held := b.power.held, released := b.power.released } }
  y.setRf 0x1100210 2 0 0

/-- A reset of a kind of R469. `lines` tells a reset made by RST_N or PERST_N, whose release starts the boot. -/
def Block.doReset (b : Block) (kind : Nat) (lines clkOk : Bool) : Block :=
  let p := b.power
  let since := stronger p.since kind
  let count := if kind = 0 then 0 else min (b.rf 0x1100000 31 16 + 1) 65535
  let released := !lines && (!p.held || p.released || kind == 0)
  let nor := if kind = 6 && p.held && p.nor.chosen then p.nor.failed else p.nor
  let b := if kind = 0 then b.lost else if kind = 1 then b.longReset else b.warmReset
  let b := { b with power := { b.power with off := false, held := true, sleeping := false, since := some since, released := released,
                                            nor := nor.cut } }
  let b := b.setReg 0x1100000 (since + 65536 * count)
  let b := b.setRf 0x1000200 4 4 (b2n (clkOk && b.rf 0x1000200 1 0 != 1))
  b.bootStart

/-- POR (R451, R452, R463, R469): VIN leaves UVLO or over-voltage shutdown. -/
def execPor (mv : Fin 65536) (clkrefOk : Bool) (s : State) : Host.Outcome State Fault Refusal :=
  act (fun b =>
    if !b.power.off || decide (mv.val ≤ 4300) || decide (19000 ≤ mv.val) then b
    else (b.doReset 0 false clkrefOk).setRf 0x1000058 15 0 mv) s
/-- RST_LONG (R469). -/
def execRstLong (clkrefOk : Bool) (s : State) : Host.Outcome State Fault Refusal :=
  act (fun b => if b.power.off then b else b.doReset 1 true clkrefOk) s
/-- RST_SHORT (R469). -/
def execRstShort (clkrefOk : Bool) (s : State) : Host.Outcome State Fault Refusal :=
  act (fun b => if b.power.off then b else b.doReset 2 true clkrefOk) s

/-- A PERST_N assertion enters SLEEP (R456). -/
def Block.maySleep (b : Block) : Bool :=
  b.up && b.sleepPending && b.resident == 0 && ((List.range 8).all fun k => b.linkState k == 0 || b.linkState k == 5) &&
  ((List.range 4).all fun p => b.portState p == 0) && (List.range 8).all fun d => b.distLevel d == 3

/-- The module enters SLEEP. -/
def Block.enterSleep (b : Block) : Block :=
  let b := (b.setRf 0x1000004 8 8 0).setPowerState 3
  { b with power := { b.power with sleeping := true, woken := false } }

/-- PERST (R456, R469). In SLEEP the endpoint is down, and PERST_N changes nothing. -/
def execPerst (clkrefOk : Bool) (s : State) : Host.Outcome State Fault Refusal :=
  act (fun b =>
    if b.power.off || b.power.sleeping then b
    else if b.maySleep then b.enterSleep
    else (b.doReset 3 true clkrefOk).setRf 0x1000004 8 8 0) s
/-- HOT (R469): a PCIe hot reset; there is none while the endpoint is down. -/
def execHot (clkrefOk : Bool) (s : State) : Host.Outcome State Fault Refusal :=
  act (fun b => if b.power.off || b.power.sleeping then b else b.doReset 4 false clkrefOk) s
/-- FLR (R469): a function level reset, by a configuration write. -/
def execFlr (clkrefOk : Bool) (s : State) : Host.Outcome State Fault Refusal :=
  act (fun b => if b.up then b.doReset 5 false clkrefOk else b) s
/-- WDOG (R469, R474): the MGC's watchdog. -/
def execWdog (clkrefOk : Bool) (s : State) : Host.Outcome State Fault Refusal :=
  act (fun b => if b.power.off || b.power.sleeping || (b.power.held && !b.power.released) then b else b.doReset 6 false clkrefOk) s

/-- RESET_RELEASE (R469): the later of RST_N and PERST_N rises, and boot starts. -/
def execResetRelease (s : State) : Host.Outcome State Fault Refusal :=
  act (fun b =>
    if b.power.off || !b.power.held || b.power.released then b
    else ({ b with power := { b.power with released := true } }).bootStart) s

-- SLEEP (R457)

/-- Registers that keep their value through SLEEP beside those of `warmKeeps`: those of the Quarters, whose Districts stay OFF (R459), and
the state of the supply, of the Districts and of the module. -/
def sleepKeeps (off : Nat) : Bool :=
  warmKeeps off || (decide (0x600000 ≤ off) && decide (off < 0xA40000)) || off == 0x1000004 || off == 0x1000058 ||
  (decide (0x1000030 ≤ off) && decide (off < 0x1000050))

/-- The registers after SLEEP (R457), restored as R471 does after a warm reset. -/
def sleepRegs (m : SMap Nat) : SMap Nat :=
  m.flatMap fun e => if sleepKeeps e.1 then [e] else warmRegs [e]

/-- SLEEP_WAKE (R457): an enabled wake event ends SLEEP. -/
def execSleepWake (s : State) : Host.Outcome State Fault Refusal :=
  act (fun b =>
    if !b.power.sleeping || !b.power.woken then b
    else
      let b := b.passTo (b.now + 25000000)
      let (b, n) := b.fresh
      let err : Int := ((Config.sleepError n).val : Int) - 31000
      let b := { b with
        regs := sleepRegs b.regs
        timeNs := ofInt 64 ((b.timeNs : Int) + err)
        time := TimeUnit.initial
        host := { b.host with pcie := Pcie.initial }
        power := { b.power with sleeping := false, woken := false } }
      ((b.setRf 0xF00014 31 31 0).setPowerState (if b.rf 0x1000000 8 8 = 1 then 0 else 2)).stageWake) s

-- Boot (R474 to R476)

/-- The default region table (R330): BASE and SIZE in MiB, TYPE and URGENT of entries 0 to 6. -/
def defaultRegions : List (Nat × Nat × Nat × Nat) :=
  [(0, 128, 5, 0), (128, 17472, 1, 0), (17600, 16384, 2, 1), (33984, 1024, 4, 0), (35008, 64, 7, 1), (35072, 4096, 6, 1),
   (39168, 40960, 3, 0)]

/-- A place in MiB as MA[39:12]. -/
def mib (n : Nat) : Nat := 256 * n

/-- The MGC places the defaults after a cold reset (R330, R404). The order within the STAGING region is the model's own. -/
def Block.placeDefaults (b : Block) : Block :=
  let b := ((List.range 7).zip defaultRegions).foldl (fun b e =>
    let (base, size, type, urgent) := e.2
    (b.setReg (0xB00000 + 8 * e.1) (base + 2 ^ 24 * type + 2 ^ 31 * urgent)).setReg (0xB00004 + 8 * e.1) size) b
  let b := (List.range 68).foldl (fun b q => b.setReg (qOff q 4) (mib (128 + 256 * q))) b
  let b := (b.setReg 0x400004 0).setReg 0x400008 1048576
  let b := b.setReg 0x20000C (6 * 2 ^ 28 + mib 35008)
  let b := b.setReg 0x300010 (2 * 2 ^ 28 + mib 35072)
  let b := b.setReg 0xD00010 (4 * 2 ^ 28 + mib 35088)
  let b := (List.range 8).foldl (fun b k => b.setReg (linkReg k 0x1C) (8 * 2 ^ 28 + mib (35104 + 16 * k))) b
  let b := (b.setReg 0xC00004 (16 * 39168)).setReg 0xC00008 655360
  (List.range 8).foldl (fun b k =>
    b.setReg (0xB00110 + 4 * k) (39321 - (b.stops.remap.filter fun e => e.1 % 8 = k).length)) b

/-- The places of the journal and the store, which the Corner keeps through every reset but a POR (R435). -/
def Block.placeLedger (b : Block) : Block :=
  ((b.setReg 0x1100214 (mib 17600)).setReg 0x1100218 12288).setReg 0x110021C (mib 29888) |>.setReg 0x1100220 4096

/-- The QMAP rebuilt from the factory mapping and the retirements of the NOR, in their order (R29). -/
def Block.rebuildQmap (b : Block) : Block :=
  let b1 := b.retired.foldl (fun b p => (b.retire p).1) { b with retired := [] }
  (b1.setRf 0x140 15 0 0)

/-- After a cold reset: the defaults, the QMAP, the first epoch (R449, R471). -/
def Block.coldReady (b : Block) (kind : Nat) : Block :=
  let b := b.placeDefaults.readTypes.rebuildQmap
  let b := if kind = 0 then b.placeLedger else b
  { b with disp := { b.disp with nextTick := (b.timeNs / b.tickPeriod + 1) * b.tickPeriod } }

/-- The contexts that the bank or the journal knows. -/
def Block.knownCtxs (b : Block) : List Nat :=
  let bank := match b.cont.bank with
    | some k => (match k.cuts.disp with | some d => d.ctxs.map (·.1) | none => [])
    | none => []
  b.cont.journal.foldl (fun l r => match r.body with
    | .disp c _ => addNew l c
    | _ => l) bank

/-- Every mapped Quarter and the Dispatcher are restored from the last complete epoch, all of them the closure (R449). -/
def Block.restoreAll (b : Block) : Block :=
  if b.hub.grave || b.cont.bank.isNone || b.cont.fresh_ then b
  else
    let ls := (List.range 64).filter fun l => (b.phys l).isSome
    let qs := (ls.filterMap b.phys).foldl addNew []
    let roll : Rollback := { logicals := ls, quarters := qs, ctxs := b.knownCtxs, start := b.now, step := 4, flush := [], feed := [],
                             merges := [], decs := [], slow := false, lost := [] }
    let b := (b.setRf 0x1100210 1 1 1).bump (contCnt 2)
    let b := b.raise 25 (min qs.length 127 + 256 * min b.knownCtxs.length (2 ^ 19 - 1))
    ({ b with cont := { b.cont with roll := some roll } }).restoreClosure

/-- Every mapped Quarter's instruction store is loaded from its shadow (R460), in ascending logical order (DESIGN CHOICE, as at mapIn). -/
def Block.loadShadows (b : Block) : Block :=
  (List.range 64).foldl (fun b l => match b.phys l with
    | some p => b.loadShadow p l
    | none => b) b

/-- The links that were up start SETTLE, and enabled Colir ports negotiate (R471). -/
def Block.bringUp (b : Block) : Block :=
  let up := b.power.wasUp
  let b := { b with power := { b.power with wasUp := [] }, conv := { b.conv with settleWait := up } }
  let b := up.foldl (fun b k => b.enterSettling k) b
  (List.range 4).foldl (fun b p => if b.rf (portReg p 0) 0 0 = 1 then b.freshStart p else b) b

/-- POWER_CTRL is written as it was: LOGKEEP and NAP hold again; SLEEP is no longer asked for (R456, R471). -/
def Block.restoreTarget (b : Block) : Block :=
  let t := b.rf 0x1000000 2 0
  if t = 1 ∨ t = 2 then b.setPowerState t else b

/-- After a warm reset (R345, R378, R449, R460, R471). -/
def Block.warmReady (b : Block) : Block :=
  let b := { b with host := { b.host with resume := true } }
  ((b.loadShadows.readTypes.closeBlock true).bringUp.restoreTarget).restoreAll

/-- The failure count of the booted slot returns to 0 (R474). -/
def Nor.bootedWell (n : Nor) : Nor :=
  if n.bootB then { n with slotB := { n.slotB with fails := if n.slotB.valid then 0 else n.slotB.fails } }
  else { n with slotA := { n.slotA with fails := if n.slotA.valid then 0 else n.slotA.fails } }

/-- The timers that start at READY: the close, the heartbeat, polling, the Sweepers and the progress monitors. -/
def Block.startTimers (b : Block) : Block :=
  { b with
    cont := { b.cont with lastClose := b.now, freeAt := b.now }
    hub := { b.hub with beatAt := b.now + 100000 }
    host := { b.host with lastChange := b.now, lastPoll := b.now }
    stops := { b.stops with sweepAt := (List.range 8).map fun k => (k, b.now + 1000 * max (b.rf 0xB00100 19 0) 10) }
    ave := { b.ave with lastFired := (List.range 8).map fun d => (d, b.now) } }

/-- Whether the MGC can report READY: powered, reset released, an image chosen. -/
def Block.bootable (b : Block) : Bool := !b.power.off && b.power.held && b.power.released && b.power.nor.chosen

/-- READY (R412, R449, R471, R474, R475): the MGC reports READY. -/
def Block.makeUp (b : Block) : Block :=
  let p := b.power
  let kind := p.since.getD 0
  let b1 := ({ b with power := { p with held := false, since := none, nor := p.nor.bootedWell } }).startTimers
  let b2 := if kind ≤ 1 then b1.coldReady kind else b1.warmReady
  (if b2.hub.grave then b2.graveSteps else b2).stageWake
/-- READY. -/
def execReady (s : State) : Host.Outcome State Fault Refusal := act (fun b => if b.bootable then b.makeUp else b) s

/-- BOOT_ROM_IMAGE_LOAD (R474): with no valid slot the boot ROM accepts an image over the UART. -/
def execBootRomImageLoad (image : List Byte) (s : State) : Host.Outcome State Fault Refusal :=
  act (fun b =>
    let p := b.power
    if p.off || !p.held || !p.released || p.nor.chosen || p.nor.slotA.valid || p.nor.slotB.valid then b
    else match Config.bootImage (((List.range image.length).zip image).filter fun e => e.2 ≠ 0) with
      | some _ => { b with power := { p with nor := { p.nor with chosen := true } } }
      | none => b) s

/-- The non-zero bytes of an image of up to 16 MiB in module memory, with their offsets. -/
def Block.imageCells (b : Block) (ma : Nat) : List (Nat × Byte) :=
  b.mem.filterMap fun c => if ma ≤ c.1 ∧ c.1 < ma + 2 ^ 24 then some (c.1 - ma, c.2) else none

/-- A write of POWER_NOR_UPD (R476): the image is verified and its writing starts. One made while UPD reads 1 is ignored. -/
def Block.writeNorUpd (b : Block) (value : Nat) : Block :=
  let n := b.power.nor
  if n.upd = 1 then b
  else { b with power := { b.power with nor := { n with upd := 1, image := Config.bootImage (b.imageCells (256 * value)) } } }
/-- POWER_NOR_UPD (R476). -/
def execPowerNorUpd (value : W32) (s : State) : Host.Outcome State Fault Refusal := actUp (fun b => b.writeNorUpd value.toNat) s

/-- NOR_UPDATE_DONE (R476): the slot not booted holds the new image, or the update has failed. -/
def execNorUpdateDone (s : State) : Host.Outcome State Fault Refusal :=
  actUp (fun b =>
    let n := b.power.nor
    if n.upd ≠ 1 then b
    else
      let n := match n.image with
        | none => { n with upd := 3 }
        | some q =>
          let x : NorSlot := { sound := true, seq := q, fails := 0 }
          if n.bootB then { n with upd := 2, image := none, slotA := x } else { n with upd := 2, image := none, slotB := x }
      { b with power := { b.power with nor := n } }) s

end Sys2Proof.Machine
end

