-- ==== Sys2Proof/Machine/Jobs.lean ====
section
/-! DEFINITION. The host interface (R347 to R380): polling, acceptance, the jobs of R358 that no other chapter carries out, completion
records, resume, ring set-up, configuration requests and BAR2. -/

namespace Sys2Proof.Machine

-- Polling (R354, R355)

/-- The doorbell words of the enabled rings, by 8-byte word of the doorbell page, lowest first. -/
def Block.polledWords (b : Block) : List Nat :=
  ((List.range 64).filter fun r => ringOn (b.reg (sqCfg r))) ++
  (((List.range 64).filter fun c => ringOn (b.reg (cqCfg c))).map (64 + ·)) ++
  (((List.range 16).filter fun e => ringOn (b.reg (eqCfg e))).map (128 + ·))

/-- A difference of two ring counts. -/
def ringDiff (a c : Nat) : Nat := (a + 2 ^ 32 - c % 2 ^ 32) % 2 ^ 32

/-- An SQ takes the TAIL polled (R374); a jump halts it. -/
def Block.takeTail (b : Block) (r v : Nat) : Block :=
  let q := b.sq r
  if !q.halted && decide (ringSize (b.reg (sqCfg r)) < ringDiff v q.accepted) then
    (b.setSq r { q with tail := v, halted := true, cause := 1 }).bump (hostCnt 6)
  else b.setSq r { q with tail := v }

/-- A CQ takes the HEAD polled (R373); a jump halts it. Records below HEAD are consumed. -/
def Block.takeHead (b : Block) (c v : Nat) : Block :=
  let q := b.cq c
  let q := { q with head := v, issued := q.issued.filter fun e => decide (ringDiff q.w e.1 ≤ ringDiff q.w v) }
  if !q.halted && decide (ringSize (b.reg (cqCfg c)) < ringDiff q.w v) then (b.setCq c { q with halted := true }).bump (hostCnt 6)
  else b.setCq c q

/-- An EQ takes the HEAD polled (R384); a jump halts it. -/
def Block.takeEqHead (b : Block) (e v : Nat) : Block :=
  let q := b.eq e
  let jump := decide (ringSize (b.reg (eqCfg e)) < ringDiff q.w v)
  b.setEq e { q with
    head := v, halted := q.halted || jump
    issued := q.issued.filter fun x => decide (ringDiff q.w x.1 ≤ ringDiff q.w v) }

/-- One doorbell word of a poll. -/
def Block.pollWord (b : Block) (k : Nat) : Block :=
  let v := ofBytes (b.hostRead (b.doorbell + 8 * k) 4)
  let fresh := SMap.get b.host.seen 0 k != v
  let b := { b with host := { b.host with
    seen := SMap.put b.host.seen k v
    active := b.host.active || fresh
    lastChange := if fresh then b.now else b.host.lastChange } }
  if k < 64 then b.takeTail k v else if k < 128 then b.takeHead (k - 64) v else b.takeEqHead (k - 128) v

/-- Interval between polls in ns (R355). -/
def Block.pollNs (b : Block) : Nat := if b.host.active then 200 else 1000 * min (max (b.rf 0x100018 13 0) 1) 10000

/-- A poll of the doorbell words but for some whose read has failed (R348, R355). -/
def Block.poll (b : Block) (failed : Nat → Bool) : Block :=
  let b := { b.bump (hostCnt 7) with host := { b.host with lastPoll := b.now } }
  (b.polledWords.filter fun k => !failed k).foldl (fun b k => b.pollWord k) b

/-- DOORBELL_POLL (R354, R355). -/
def execDoorbellPoll (hw : List (Nat × Byte)) (s : State) : Host.Outcome State Fault Refusal :=
  act (fun b =>
    if !b.hostOn then b
    else ((b.passTo (b.host.lastPoll + b.pollNs)).hostStores hw).poll fun _ => false) s

/-- POLL_MODE_IDLE (R355). -/
def execPollModeIdle (s : State) : Host.Outcome State Fault Refusal :=
  act (fun b =>
    if !b.hostOn || !b.host.active then b
    else
      let b := b.passTo (b.host.lastChange + 1000000)
      { b with host := { b.host with active := false } }) s

/-- Polling starts again in ACTIVE (R349, R378). -/
def Block.pollActive (b : Block) : Block :=
  { b with host := { b.host with active := true, lastChange := b.now, lastPoll := b.now } }

-- Acceptance (R356, R366, R374 to R376)

/-- The module may fetch the next descriptor of an SQ. -/
def Block.mayFetch (b : Block) (r : Nat) : Bool :=
  let q := b.sq r
  b.hostOn && ringOn (b.reg (sqCfg r)) && !q.halted && q.fetched.isNone && q.tail != q.accepted && decide (q.jobs.length < 4096)

/-- Host address of a descriptor. -/
def Block.descAddr (b : Block) (r index : Nat) : Nat := b.ringBase (sqCfg r) + 64 * (index % max (ringSize (b.reg (sqCfg r))) 1)

/-- DESCRIPTOR_FETCH (R356, R374). -/
def execDescriptorFetch (ring : Fin 64) (hw : List (Nat × Byte)) (s : State) : Host.Outcome State Fault Refusal :=
  act (fun b =>
    if !b.mayFetch ring then b
    else
      let b := b.hostStores hw
      let q := b.sq ring
      b.setSq ring { q with fetched := some (b.hostRead (b.descAddr ring q.accepted) 64), keyDone := none }) s

/-- Byte n of a descriptor. -/
def descByte (d : List Byte) (n : Nat) : Nat := (d.getD n 0).toNat

/-- KEY_LOAD (R343, R366): the slot is written, and the key bytes of the descriptor in the ring become 0. In the grave state the slot stays
as it is (R411). -/
def execKeyLoad (ring : Fin 64) (s : State) : Host.Outcome State Fault Refusal :=
  act (fun b =>
    let q := b.sq ring
    match q.fetched with
    | none => b
    | some d =>
      if descByte d 0 ≠ 10 || q.keyDone.isSome || !b.hostOn then b
      else
        let (b, kcv) := if b.hub.grave then (b, 0) else b.loadKey (descByte d 16 % 8) ((d.drop 32).take 32)
        let b := b.hostWrite (b.descAddr ring q.accepted + 32) (List.replicate 32 0)
        b.setSq ring { q with keyDone := some kcv }) s

/-- The Ledger's copy of a descriptor: a key is zeros in it (R366). -/
def ledgerCopy (d : List Byte) : List Byte := if descByte d 0 = 10 then d.take 32 ++ List.replicate 32 0 else d

/-- DESCRIPTOR_ACCEPT (R366, R374): the Ledger copy is written, and the job is accepted. A KEY_LOAD has then done its work. -/
def execDescriptorAccept (ring : Fin 64) (s : State) : Host.Outcome State Fault Refusal :=
  actUp (fun b =>
    let q := b.sq ring
    match q.fetched with
    | none => b
    | some d0 =>
      let d := ledgerCopy d0
      let key := descByte d 0 == 10
      if key && q.keyDone.isNone then b
      else b.withRoom (.job q.accepted d) fun b =>
        let lsn := b.cont.lsn
        let b := b.journal ring (.job q.accepted d)
        let j : Job := { index := q.accepted, desc := d, cring := b.rf (sqCfg ring) 13 8, begun := false, done := false, queued := false,
                         status := 0, result := 0, detail := 0, lsn := lsn }
        let b := (b.setSq ring { q with
          accepted := (q.accepted + 1) % 2 ^ 32, hseq := j.hseq, fetched := none, keyDone := none, jobs := q.jobs ++ [j]
          accDue := true }).bump (hostCnt 1)
        if !key then b
        else if b.hub.grave then b.finishJob ring j.index 11 0 0
        else b.finishJob ring j.index 0 0 (q.keyDone.getD 0)) s

/-- Writes the ACCEPT record of an SQ (R375). -/
def Block.acceptRecord (b : Block) (r : Nat) : Block :=
  let q := b.sq r
  let b := b.hostWrite (b.rf 0x100010 31 10 * 1024 + b.reg 0x100014 * 2 ^ 32 + 16 * r)
    (leBytes 4 q.accepted ++ leBytes 4 q.gen ++ leBytes 8 q.hseq)
  b.setSq r { q with accDue := false }

/-- ACCEPT_RECORD_WRITE (R366, R375). -/
def execAcceptRecordWrite (ring : Fin 64) (s : State) : Host.Outcome State Fault Refusal :=
  act (fun b => if b.hostOn && (b.sq ring).accDue then b.acceptRecord ring else b) s

-- Jobs (R358 to R367)

/-- JOB_NOP (R358). -/
def execJobNop (ring : Fin 64) (s : State) : Host.Outcome State Fault Refusal :=
  act (fun b => b.startJob ring (· == 0) fun b j => b.finishJob ring j.index 0 0 0) s

/-- JOB_FENCE (R358): it completes once every earlier job of its ring has. -/
def execJobFence (ring : Fin 64) (s : State) : Host.Outcome State Fault Refusal :=
  act (fun b => b.startJob ring (· == 1) fun b j =>
    if ((b.sq ring).jobs.takeWhile fun x => x.index != j.index).any fun x => !x.done then b else b.finishJob ring j.index 0 0 0) s

/-- BAD_OP (R358): a reserved OP. -/
def execBadOp (ring : Fin 64) (s : State) : Host.Outcome State Fault Refusal :=
  act (fun b => b.startJob ring (fun op => decide (14 ≤ op)) fun b j => b.finishJob ring j.index 11 0 0) s

/-- A job has started, and this will be its outcome. -/
def Block.beginWith (b : Block) (r index status result detail : Nat) : Block :=
  let q := b.sq r
  b.setSq r { q with jobs := q.jobs.map fun j => if j.index = index then
    { j with begun := true, status := status, result := result, detail := detail } else j }

/-- The token of an array entry of 32 bytes (R360). -/
def entryToken (bs : List Byte) : Token := Token.ofBytes bs

/-- INJECT's tokens go to the Host Gate (R360): each injected one is journaled; CTL_END and MARKER are refused. -/
def Block.injectArray (b : Block) (r index : Nat) (toks : List Token) (failed : Bool) : Block :=
  let good := toks.filter fun t => t.kind ≠ 7 && t.kind ≠ 8
  let refused := toks.length - good.length
  let b := (b.bump (hostCnt 5) refused).bump (hostCnt 4) (b2n failed)
  let status := if failed then 13 else if refused = 0 then 0 else 10
  let b := good.foldl (fun b t => b.journal 0 (.inject t)) b
  if good.isEmpty then b.finishJob r index status 0 refused
  else
    let b := b.beginWith r index status good.length refused
    let g := b.gate 0
    b.setGate 0 { g with out := g.out ++ (good.dropLast.map fun t => (t, none)) ++
      (match good.getLast? with | some t => [(t, some (r, index))] | none => []) }

/-- INJECT (R360): COUNT entries are read from ADDR; failAt is the number of bytes that came before a read failed. -/
def execInject (ring : Fin 64) (hw : List (Nat × Byte)) (failAt : Option Nat) (s : State) : Host.Outcome State Fault Refusal :=
  act (fun b => b.startJob ring (· == 2) fun b j =>
    let count := j.arg 24 4
    if count = 0 then b.finishJob ring j.index 0 0 0
    else if !b.hostBus then b
    else
      let n := match failAt with
        | some k => min (k / 32) count
        | none => count
      let room := min (n * (JBody.inject { value := 0, tag := 0, ctrl := 0 }).len) b.journalSpace
      if b.journalSpace < b.journalUsed + room then b.ledgerWait
      else
        let b := b.hostStores hw
        let addr := j.arg 16 8 / 32 * 32
        b.injectArray ring j.index ((List.range n).map fun i => entryToken (b.hostRead (addr + 32 * i) 32)) (decide (n < count))) s

-- LOAD_IMAGE (R361, R362)

/-- Bytes of a section's body, padded. -/
def bodyBytes (type count : Nat) : Nat :=
  let n := if type = 1 ∨ type = 5 then 16 * count else if type = 6 then 8 * count else 4 * count
  (n + 15) / 16 * 16

/-- Limit on FIRST + COUNT of a section type; none for STACK. -/
def sectionLimit (type : Nat) : Option Nat :=
  if type = 1 then some 8192 else if type = 2 then some 32768 else if type = 4 then some 262144
  else if type = 5 ∨ type = 6 then some 256 else none

/-- A node-table entry of an image (R64). -/
def imageNode (bs : List Byte) : NodeEntry := { ctl := BitVec.ofNat 64 (ofBytes (bs.take 8)), sticky := BitVec.ofNat 64 (ofBytes ((bs.drop 8).take 8)) }

/-- Changes what a Quarter holds, in its OFF image while its District is OFF (R459). -/
def Block.modQuarter (b : Block) (p : Nat) (f : Quarter → Quarter) : Block :=
  match SMap.find? b.power.images p with
  | some x => { b with power := { b.power with images := SMap.put b.power.images p (f x) } }
  | none => b.setQ p (f (b.q p))

/-- Writes a section into a Quarter and into the instruction shadow of its logical Quarter (R361, R460). -/
def Block.writeSection (b : Block) (type lq p first : Nat) (body : List Byte) : Block :=
  let (sn, sl, sc) := SMap.get b.cont.shadows ([], 0, []) lq
  if type = 1 then
    let es := (chunks (body.length / 16) 16 body).map imageNode
    let put (m : SMap NodeEntry) : SMap NodeEntry := ((List.range es.length).zip es).foldl (fun m e => SMap.put m (first + e.1) e.2) m
    let b := b.modQuarter p fun q => { q with nodes := put q.nodes, nodesLen := max q.nodesLen (first + es.length) }
    { b with cont := { b.cont with shadows := SMap.put b.cont.shadows lq (put sn, max sl (first + es.length), sc) } }
  else if type = 2 then
    let ws := (chunks (body.length / 4) 4 body).map fun w => BitVec.ofNat 32 (ofBytes w)
    let put (m : SMap W32) : SMap W32 := ((List.range ws.length).zip ws).foldl (fun m e => SMap.put m (first + e.1) e.2) m
    let b := b.modQuarter p fun q => { q with code := put q.code }
    { b with cont := { b.cont with shadows := SMap.put b.cont.shadows lq (sn, sl, put sc) } }
  else if type = 3 then
    match (chunks (body.length / 4) 4 body).getLast? with
    | some w => b.setReg (qOff p 0x2000) (ofBytes w &&& 0xF00FFFF8)
    | none => b
  else b

/-- LOAD_IMAGE walks the sections from an offset: the block, STATUS, sections loaded, and the offset of a failing one. -/
def Block.loadSections (b : Block) (ma len off loaded : Nat) : Nat → Block × Nat × Nat × Nat
  | 0 => (b, 0, loaded, 0)
  | fuel + 1 =>
    if len ≤ off then (b, 0, loaded, 0)
    else if len < off + 16 then (b, 8, loaded, off)
    else
      let (b, h, _) := b.stopRead (ma + off) 16
      let type := descByte h 0
      let lq := ofBytes ((h.drop 2).take 2)
      let first := ofBytes ((h.drop 4).take 4)
      let count := ofBytes ((h.drop 8).take 4)
      let n := bodyBytes type count
      let past := match sectionLimit type with
        | some m => decide (m < first + count)
        | none => false
      if type = 0 then (b, 0, loaded, 0)
      else if decide (7 ≤ type) || decide (len < off + 16 + n) || past || (decide (type ≤ 3) && decide (64 ≤ lq)) then (b, 8, loaded, off)
      else if 4 ≤ type then b.loadSections ma len (off + 16 + n) (loaded + 1) fuel
      else match b.phys lq with
        | none => (b, 9, loaded, off)
        | some p =>
          let (b, body, _) := b.stopRead (ma + off + 16) (if type = 1 then 16 * count else 4 * count)
          (b.writeSection type lq p first body).loadSections ma len (off + 16 + n) (loaded + 1) fuel

/-- LOAD_IMAGE (R361, R362, R460). -/
def execLoadImage (ring : Fin 64) (s : State) : Host.Outcome State Fault Refusal :=
  act (fun b => b.startJob ring (· == 3) fun b j =>
    let ma := j.arg 16 8 % 2 ^ 40 / 16 * 16
    let len := j.arg 24 4
    let (b, st, loaded, off) := b.loadSections ma len 0 0 (len / 16 + 1)
    b.finishJob ring j.index st loaded off) s

-- DMA and drains (R364, R365)

/-- DMA_TO_MODULE (R364); failAt is the number of bytes that came before a read failed. -/
def execDmaToModule (ring : Fin 64) (hw : List (Nat × Byte)) (failAt : Option Nat) (s : State) : Host.Outcome State Fault Refusal :=
  act (fun b => b.startJob ring (· == 7) fun b j =>
    let ma := j.arg 24 8 % 2 ^ 40
    let len := j.arg 32 4
    if maEnd < ma + len then b.finishJob ring j.index 7 0 0
    else if len = 0 then b.finishJob ring j.index 0 0 0
    else if !b.hostBus then b
    else
      let n := match failAt with
        | some k => min k len
        | none => len
      let b := b.hostStores hw
      let b := if n = 0 then b else b.stopWrite ma (b.hostRead (j.arg 16 8) n)
      if n < len then (b.bump (hostCnt 4)).finishJob ring j.index 13 n 0 else b.finishJob ring j.index 0 n 0) s

/-- DMA_FROM_MODULE (R364). -/
def execDmaFromModule (ring : Fin 64) (s : State) : Host.Outcome State Fault Refusal :=
  act (fun b => b.startJob ring (· == 8) fun b j =>
    let ma := j.arg 24 8 % 2 ^ 40
    let len := j.arg 32 4
    if maEnd < ma + len then b.finishJob ring j.index 7 0 0
    else if len = 0 then b.finishJob ring j.index 0 0 0
    else if !b.hostBus then b
    else
      let (b, bs, bad) := b.stopReadLines ma len 0
      let b := b.hostWrite (j.arg 16 8) bs
      match bad with
      | [] => b.finishJob ring j.index 0 len 0
      | l :: _ => b.finishJob ring j.index 14 len (l - ma)) s

/-- The blocks that a LOG_DRAIN takes: the oldest sealed ones that no other drain has taken (R345). -/
def Archive.drainable (a : Archive) : List ABlock := (a.blocks.filter fun x => x.drain.isNone).takeWhile fun x => x.sealed

/-- A LOG_DRAIN job that could start has been accepted before one with an LSN (R345). -/
def Block.olderDrain (b : Block) (lsn : Nat) : Bool :=
  b.host.sqs.any fun e => match e.2.next with
    | some j => j.op == 9 && decide (j.lsn < lsn)
    | none => false

/-- LOG_DRAIN (R345, R359, R365): drains take their runs of blocks in the order the jobs are accepted. -/
def execLogDrain (ring : Fin 64) (s : State) : Host.Outcome State Fault Refusal :=
  act (fun b => b.startJob ring (· == 9) fun b j =>
    let take := b.arch.drainable.take (j.arg 24 4)
    if b.olderDrain j.lsn then b
    else match take with
    | [] => b.finishJob ring j.index 0 (if j.arg 24 4 = 0 then 0 else b.arch.bseq) 0
    | x :: _ =>
      if !b.hostBus then b
      else
        let b := ((List.range take.length).zip take).foldl (fun b e =>
          let (b, bs, _) := b.stopRead (b.blockMa e.2) 65536
          b.hostWrite (j.arg 16 8 / 4096 * 4096 + 65536 * e.1) bs) b
        let mine (y : ABlock) : Bool := take.any fun z => z.bseq == y.bseq
        let b := { b with arch := { b.arch with
          blocks := b.arch.blocks.map fun y => if mine y then { y with drain := some (ring.val, j.index) } else y } }
        b.finishJob ring j.index 0 x.bseq take.length) s

-- FAULT_ACK, KERB_FORCE, EPOCH_NOW (R367, R406, R414, R423)

/-- FAULT_ACK (R367, R405, R406). -/
def execFaultAck (ring : Fin 64) (s : State) : Host.Outcome State Fault Refusal :=
  act (fun b => b.startJob ring (· == 11) fun b j =>
    let upTo := j.arg 16 8
    let classes := j.byte 24
    let mine (p : Pend) : Bool := classes.testBit p.cls && decide (p.fseq ≤ upTo)
    let f4 (f : Nat) : Bool := classes.testBit 4 && decide (f ≤ upTo)
    let n := (b.hub.pend.filter mine).length + (b.hub.graveUnacked.filter f4).length
    let b := { b with hub := { b.hub with
      pend := b.hub.pend.filter fun p => !mine p
      graveUnacked := b.hub.graveUnacked.filter fun f => !f4 f } }
    b.finishJob ring j.index 0 n 0) s

/-- A KERB_FORCE job (R367, R414). -/
def Block.kerbForce (b : Block) (r : Nat) (j : Job) : Block :=
  let mask := j.arg 16 2
  let b := if j.byte 20 = 0 then b.kerbsRelease mask else if j.byte 20 = 1 then b.kerbsLevel mask (j.arg 18 2) else b.kerbsSafe mask
  b.finishJob r j.index 0 0 0

/-- KERB_FORCE_RELEASE (R367): MODE 0, and the codes that end BAD_FIELD. -/
def execKerbForceRelease (ring : Fin 64) (s : State) : Host.Outcome State Fault Refusal :=
  act (fun b => b.startJob ring (· == 12) fun b j =>
    if 3 ≤ j.byte 20 then b.finishJob ring j.index 12 0 0 else if j.byte 20 = 0 then b.kerbForce ring j else b) s
/-- KERB_FORCE_LEVEL (R367): MODE 1. -/
def execKerbForceLevel (ring : Fin 64) (s : State) : Host.Outcome State Fault Refusal :=
  act (fun b => b.startJob ring (· == 12) fun b j => if j.byte 20 = 1 then b.kerbForce ring j else b) s
/-- KERB_FORCE_SAFE (R367): MODE 2. -/
def execKerbForceSafe (ring : Fin 64) (s : State) : Host.Outcome State Fault Refusal :=
  act (fun b => b.startJob ring (· == 12) fun b j => if j.byte 20 = 2 then b.kerbForce ring j else b) s

/-- EPOCH_NOW (R367, R423): the current epoch closes at once; during a close the job completes with that close, during a rollback
the close starts after it. -/
def execEpochNow (ring : Fin 64) (s : State) : Host.Outcome State Fault Refusal :=
  act (fun b => b.startJob ring (· == 13) fun b j =>
    if b.rf 0x1100200 0 0 = 0 then
      b.finishJob ring j.index 0 (match b.cont.bank with | some k => k.epoch | none => 0) 1
    else
      let b := b.beginJob ring j.index
      let b := { b with cont := { b.cont with
        epochAsked := b.cont.epochAsked ++ [(ring.val, j.index)]
        lateWait := b.cont.lateWait || b.cont.roll.isSome } }
      b.closeStart) s

-- Completion records (R369 to R373)

/-- The 32 bytes of a record at an index of a CQ of a size (R371, R372). -/
def CqRec.bytes (r : CqRec) (index size : Nat) : List Byte :=
  match r with
  | .job hseq status sq i result detail =>
    leBytes 8 hseq ++ leBytes 4 (phaseBit index size + field status 15 8 + field sq 21 16) ++ leBytes 4 i ++ leBytes 8 result ++
      leBytes 4 detail ++ leBytes 4 0
  | .ctx endTime flags status c value orphans unfound _ _ =>
    leBytes 8 endTime ++ leBytes 4 (phaseBit index size + 2 + field flags 6 4 + field status 15 8) ++ leBytes 4 (c % 2 ^ 20) ++
      leBytes 8 value.toNat ++ leBytes 4 orphans ++ leBytes 4 unfound

/-- A record may be written (R369 to R371): a job's once the records of its ring's earlier jobs have been written and the decrement of its
NOTIFY has been applied, a context's after the record of the START_CTX that armed it, where both go to this CQ. -/
def Block.recReady (b : Block) (c : Nat) : CqRec → Bool
  | .job _ _ r i _ _ => match (b.sq r).jobs with
    | [] => true
    | j :: _ => j.index == i && j.queued &&
        !(decide (j.byte 1 % 2 = 1) && bits (j.arg 4 4) 23 20 == b.ownId && b.disp.depQ.contains (j.arg 4 4 % 2 ^ 20))
  | .ctx _ _ _ _ _ _ _ r i => !(b.sq r).jobs.any fun j => j.index == i && j.cring == c && j.op == 4

/-- The record has been written: its job is over (R345, R376). -/
def Block.recDone (b : Block) : CqRec → Block
  | .job _ _ r i _ _ =>
    let q := b.sq r
    let rest := match takeFirst (fun j : Job => j.index == i && j.queued) q.jobs with
      | some (_, l) => l
      | none => q.jobs
    ((b.setSq r { q with jobs := rest }).freeDrained r i).bump (hostCnt 2)
  | .ctx _ _ _ _ _ _ _ _ _ => b.bump (hostCnt 3)

/-- Host address of the slot of an index of a CQ. -/
def Block.cqSlot (b : Block) (c index : Nat) : Nat := b.ringBase (cqCfg c) + 32 * (index % max (ringSize (b.reg (cqCfg c))) 1)

/-- The first record of a CQ that may be written is written, if the ring has room (R371 to R373). -/
def Block.writeRecord (b : Block) (c : Nat) : Block :=
  let q := b.cq c
  let size := ringSize (b.reg (cqCfg c))
  if !b.hostOn || !ringOn (b.reg (cqCfg c)) || q.halted then b
  else match takeFirst (fun x => b.recReady c x) q.waiting with
  | none => b
  | some (r, rest) =>
    let n := ringDiff q.w q.head
    if size < n then (b.setCq c { q with halted := true }).bump (hostCnt 6)
    else if n = size then b
    else
      let b := b.hostWrite (b.cqSlot c q.w) (r.bytes q.w size)
      let b := b.setCq c { q with waiting := rest, w := (q.w + 1) % 2 ^ 32, issued := q.issued ++ [(q.w, r)] }
      (b.recDone r).noteRecord c

/-- COMPLETION_RECORD_WRITE (R369 to R373). -/
def execCompletionRecordWrite (cq : Fin 64) (s : State) : Host.Outcome State Fault Refusal := act (fun b => b.writeRecord cq) s

-- Host reads that fail (R348)

/-- The jobs whose work may begin with a read of host memory. -/
def readsHost (op : Nat) : Bool := op == 2 || op == 7

/-- A job reads host memory (R359, R364): an INJECT of some tokens, or a DMA_TO_MODULE of some bytes that lie in module memory. -/
def Job.hostRead (j : Job) : Bool :=
  if j.op = 2 then j.arg 24 4 != 0 else j.op == 7 && j.arg 32 4 != 0 && decide (j.arg 24 8 % 2 ^ 40 + j.arg 32 4 ≤ maEnd)

/-- HOST_READ_TIMEOUT (R348): a read that its unit has issued does not complete within 50 ms. A poll goes on with the words of its other
reads. -/
def execHostReadTimeout (reader : HostReader) (s : State) : Host.Outcome State Fault Refusal :=
  act (fun b =>
    match reader with
    | .descriptor r =>
      if !b.mayFetch r then b
      else
        let b := b.pass 50000000
        ((b.setSq r { b.sq r with halted := true, cause := 2 }).bump (hostCnt 4)).bump (hostCnt 6)
    | .job r => b.startJob r readsHost fun b j =>
        if b.hostBus && j.hostRead then ((b.pass 50000000).bump (hostCnt 4)).finishJob r j.index 13 0 0 else b
    | .head k =>
      if !(b.ring k).headRead || !b.hostBus then b
      else
        let b := (b.pass 50000000).bump (hostCnt 4)
        b.setRing k { b.ring k with headRead := false, due := true }
    | .poll first count =>
      let failed (k : Nat) : Bool := decide (first ≤ k) && decide (k < first + count)
      if !b.hostOn || !b.polledWords.any failed then b
      else (((b.passTo (b.host.lastPoll + b.pollNs)).pass 50000000).bump (hostCnt 4)).poll failed) s

-- Resume (R378, R379, R395)

/-- A record found in host memory is the one issued at its index (R378). -/
def recMatches (found want : List Byte) (r : CqRec) : Bool :=
  let same (lo n : Nat) : Bool := (found.drop lo).take n == (want.drop lo).take n
  match r with
  | .job _ _ _ _ _ _ => same 0 8 && (ofBytes ((found.drop 8).take 1)) % 16 == (ofBytes ((want.drop 8).take 1)) % 16 &&
      (ofBytes ((found.drop 10).take 1)) % 64 == (ofBytes ((want.drop 10).take 1)) % 64 && same 12 4
  | .ctx _ _ _ _ _ _ _ _ _ => same 0 8 && (ofBytes ((found.drop 8).take 1)) % 16 == (ofBytes ((want.drop 8).take 1)) % 16 &&
      ofBytes ((found.drop 12).take 4) % 2 ^ 20 == ofBytes ((want.drop 12).take 4) % 2 ^ 20

/-- The records issued at and after the first one that fails a test. -/
def fromFirstBad {α : Type} (ok : α → Bool) : List α → List α
  | [] => []
  | x :: xs => if ok x then fromFirstBad ok xs else x :: xs

/-- Reconciles a CQ (R378, steps 1 and 5): the records that did not land are written at their indices; the ring is due if records
have not been consumed. -/
def Block.reconcileCq (b : Block) (c : Nat) : Block :=
  if !ringOn (b.reg (cqCfg c)) then b
  else
    let q := b.cq c
    let size := ringSize (b.reg (cqCfg c))
    let head := b.headWord c
    let open_ := q.issued.filter fun e => decide (ringDiff q.w e.1 ≤ ringDiff q.w head)
    let lost := fromFirstBad (fun e : Nat × CqRec => recMatches (b.hostRead (b.cqSlot c e.1) 32) (e.2.bytes e.1 size) e.2) open_
    let b := lost.foldl (fun b e => b.hostWrite (b.cqSlot c e.1) (e.2.bytes e.1 size)) b
    let b := b.setCq c { q with head := head, issued := open_ }
    let b := { b with host := { b.host with seen := SMap.put b.host.seen (64 + c) head } }
    if q.w = head then b else b.makeDue c

/-- Reconciles an EQ (R378, R395). -/
def Block.reconcileEq (b : Block) (e : Nat) : Block :=
  if !ringOn (b.reg (eqCfg e)) then b
  else
    let q := b.eq e
    let size := ringSize (b.reg (eqCfg e))
    let head := b.headWord (64 + e)
    let slot (i : Nat) : Nat := b.ringBase (eqCfg e) + 16 * (i % size)
    let open_ := q.issued.filter fun x => decide (ringDiff q.w x.1 ≤ ringDiff q.w head)
    let ok (x : Nat × EqRec) : Bool :=
      let found := ofBytes (b.hostRead (slot x.1) 16)
      let want := ofBytes (x.2.bytes x.1 size)
      found.testBit 0 == want.testBit 0 && bits found 31 16 == bits want 31 16 && bits found 15 8 == bits want 15 8
    let lost := fromFirstBad ok open_
    let b := lost.foldl (fun b x => b.hostWrite (slot x.1) (x.2.bytes x.1 size)) b
    let b := b.setEq e { q with head := head, issued := open_ }
    let b := { b with host := { b.host with seen := SMap.put b.host.seen (128 + e) head } }
    if q.w = head then b else b.makeDue (64 + e)

/-- The steps of R378 after a RESUME, once host memory can be reached. -/
def Block.reconcile (b : Block) : Block :=
  let b := (List.range 64).foldl (fun b c => b.reconcileCq c) b
  let b := (List.range 16).foldl (fun b e => b.reconcileEq e) b
  let b := (List.range 64).foldl (fun b r => (b.setSq r { b.sq r with gen := ((b.sq r).gen + 1) % 2 ^ 32 }).acceptRecord r) b
  ({ b with host := { b.host with reconciling := false } }).pollActive

/-- A RESUME (R378): without Bus Master Enable or in D3hot the module goes on RECONCILING until it can reach host memory. -/
def Block.writeResume (b : Block) : Block :=
  if !b.host.resume then b
  else
    let b := { b with host := { b.host with resume := false, reconciling := true } }
    if b.hostBus then b.reconcile else b
/-- RESUME (R378). -/
def execResume (hw : List (Nat × Byte)) (s : State) : Host.Outcome State Fault Refusal :=
  actUp (fun b => if b.host.resume then (b.hostStores hw).writeResume else b) s

/-- An ABANDON (R345, R379, R395): jobs and records are dropped, the blocks of their drains are undrained, every SQ and CQ restarts at
index 0, and each waits for its EN. -/
def Block.writeAbandon (b : Block) : Block :=
  if !b.host.resume then b
  else
    let b := (List.range 64).foldl (fun b r => (b.setRf (sqCfg r) 31 31 0).setRf (cqCfg r) 31 31 0) b
    { b with
      host := { b.host with
        resume := false
        sqs := SMap.mapVal b.host.sqs fun _ q => { SQ.empty with gen := q.gen, hseq := q.hseq }
        cqs := SMap.mapVal b.host.cqs fun _ _ => CQ.empty }
      arch := { b.arch with blocks := b.arch.blocks.map fun x => { x with drain := none } }
      evc := { b.evc with eqs := SMap.mapVal b.evc.eqs fun _ q => { q with staged := [] } } }
/-- ABANDON (R379). -/
def execAbandon (s : State) : Host.Outcome State Fault Refusal := actUp Block.writeAbandon s

-- Ring set-up (R380)

/-- CFG of a host ring. -/
def ringKindCfg : RingKind → Nat → Nat
  | .sq, r => sqCfg r
  | .cq, r => cqCfg r
  | .eq, r => eqCfg r
/-- The rings of a kind. -/
def ringKindCount : RingKind → Nat
  | .eq => 16
  | _ => 64

/-- A ring's EN changes from 0 to 1 (R380): a halt ends; with ZERO the index restarts at 0; without it a ring that was halted goes by the
word that the next poll finds. -/
def Block.restartRing (b : Block) (kind : RingKind) (r : Nat) (zero : Bool) : Block :=
  match kind with
  | .sq =>
    let q := b.sq r
    let q := if zero then { q with tail := 0, accepted := 0, fetched := none, keyDone := none }
      else if q.halted then { q with tail := q.accepted } else q
    b.setSq r { q with halted := false, cause := 0 }
  | .cq =>
    let q := b.cq r
    let size := ringSize (b.reg (cqCfg r))
    let q := if zero then { q with w := 0, head := 0, issued := [] }
      else if q.halted then { q with head := (q.w + 2 ^ 32 - size) % 2 ^ 32 } else q
    b.setCq r { q with halted := false }
  | .eq =>
    let q := b.eq r
    let size := ringSize (b.reg (eqCfg r))
    let q := if zero then { q with w := 0, head := 0, issued := [] }
      else if q.halted then { q with head := (q.w + 2 ^ 32 - size) % 2 ^ 32 } else q
    b.setEq r { q with halted := false }

/-- A write of a ring's CFG (R380). Where EN was 1 already, nothing but the stored fields changes. -/
def Block.writeRingCfg (b : Block) (kind : RingKind) (r value : Nat) : Block :=
  if ringKindCount kind ≤ r || b.host.resume then b
  else
    let was := b.rf (ringKindCfg kind r) 31 31
    let b := b.setReg (ringKindCfg kind r) (value &&& 0x80003F1F)
    if was = 0 ∧ value.testBit 31 then b.restartRing kind r (value.testBit 16) else b

/-- RING_ENABLE (R380). -/
def execRingEnable (kind : RingKind) (ring : Fin 64) (value : W32) (s : State) : Host.Outcome State Fault Refusal :=
  actUp (fun b => b.writeRingCfg kind ring (setBits (value.toNat ||| 0x80000000) 16 16 0)) s
/-- RING_ENABLE_ZERO (R380). -/
def execRingEnableZero (kind : RingKind) (ring : Fin 64) (value : W32) (s : State) : Host.Outcome State Fault Refusal :=
  actUp (fun b => b.writeRingCfg kind ring (value.toNat ||| 0x80010000)) s
/-- RING_DISABLE (R380). -/
def execRingDisable (kind : RingKind) (ring : Fin 64) (value : W32) (s : State) : Host.Outcome State Fault Refusal :=
  actUp (fun b => b.writeRingCfg kind ring (value.toNat % 2 ^ 31)) s

-- Configuration requests (R347 to R349, R394)

/-- Host memory can be reached again: polling is ACTIVE, and a reconciliation that waits is made. -/
def Block.busBack (b : Block) (was : Bool) : Block :=
  if was || !b.hostBus then b
  else if b.host.reconciling then b.reconcile
  else b.pollActive

/-- The value of a control, as a configuration read returns it. -/
def Block.cfgRead (b : Block) : CfgReg → Nat
  | .deviceId => 0x7840 + 0x12000010 * 2 ^ 32
  | .command => b2n b.host.pcie.busMaster
  | .msixControl => b2n b.host.pcie.msixOn + 2 * b2n b.host.pcie.funcMask
  | .powerState => if b.host.pcie.d3 then 3 else 0
  | .pmeControl => b2n b.host.pcie.pmeEn + 2 * b2n b.host.pcie.pmeStatus
  | .bar0 => b.host.pcie.bar0 % 64 * 2 ^ 26 + 4
  | .bar0High => b.host.pcie.bar0 / 64
  | .bar2 => 12
  | .bar2High => b.host.pcie.bar2

/-- A configuration write. -/
def Block.cfgWrite (b : Block) (reg : CfgReg) (v : Nat) : Block :=
  let p := b.host.pcie
  let put (p : Pcie) : Block := { b with host := { b.host with pcie := p } }
  match reg with
  | .deviceId => b
  | .command => (put { p with busMaster := v.testBit 0 }).busBack b.hostBus
  | .msixControl => put { p with msixOn := v.testBit 0, funcMask := v.testBit 1 }
  | .powerState => if v % 4 = 3 then b.enterD3 else if v % 4 = 0 then (put { p with d3 := false }).busBack b.hostBus else b
  | .pmeControl => (put { p with pmeEn := v.testBit 0, pmeStatus := p.pmeStatus && !v.testBit 1 }).pmeCheck
  | .bar0 => put { p with bar0 := p.bar0 / 64 * 64 + v / 2 ^ 26 % 64 }
  | .bar0High => put { p with bar0 := v * 64 + p.bar0 % 64 }
  | .bar2 => b
  | .bar2High => put { p with bar2 := v }

/-- CONFIG_REQUEST (R348): before READY it completes with a retry status. -/
def execConfigRequest (write : Bool) (reg : CfgReg) (value : W32) (s : State) : Host.Outcome State Fault Refusal :=
  act (fun b =>
    if b.power.off || b.power.sleeping then b
    else if !b.up then { b with lands := { b.lands with config := none } }
    else if write then b.cfgWrite reg value.toNat
    else { b with lands := { b.lands with config := some (b.cfgRead reg) } }) s

-- BAR2 (R352)

/-- Module memory address of a BAR2 offset. -/
def Block.bar2Ma (b : Block) (o : Nat) : Nat := b.rf 0x10001C 5 0 * 2 ^ 32 + o

/-- BAR2_READ (R352): the 64-byte line of an offset; Unsupported Request while the aperture is off. -/
def execBar2Read (offset : W32) (s : State) : Host.Outcome State Fault Refusal :=
  actUp (fun b =>
    if b.rf 0x10001C 31 31 = 0 then { b with lands := { b.lands with line := [], lineBad := false } }
    else
      let (b, bs, bad) := b.stopRead (b.bar2Ma (offset.toNat / 64 * 64)) 64
      { b with lands := { b.lands with line := bs, lineBad := bad } }) s

/-- BAR2_WRITE (R352). -/
def execBar2Write (offset : W32) (bytes : List Byte) (s : State) : Host.Outcome State Fault Refusal :=
  actUp (fun b =>
    if b.rf 0x10001C 31 30 ≠ 3 then b.bump (hostCnt 0) else b.stopWrite (b.bar2Ma offset.toNat) bytes) s

end Sys2Proof.Machine
end

