-- ==== Sys2Proof/Machine/Pmbus.lean ====
section
/-! DEFINITION. The PMBus target (R493, R494). -/

namespace Sys2Proof.Machine

/-- LINEAR11 of num / den, to the nearest mantissa below 1,024 at the lowest exponent that holds it. -/
def linear11 (num den : Nat) : Nat :=
  let mant (k : Nat) : Nat := if k ≤ 16 then (2 * num * 2 ^ (16 - k) + den) / (2 * den) else (2 * num + den * 2 ^ (k - 16)) / (2 * den * 2 ^ (k - 16))
  let k := ((List.range 32).find? fun k => decide (mant k < 1024)).getD 31
  field (ofInt 5 ((k : Int) - 16)) 15 11 + field (mant k) 10 0

/-- LINEAR11 of a whole number of degrees. -/
def linear11Temp (t : Int) : Nat := ofInt 11 t

/-- The target answers a command with bytes; it does not acknowledge its address unless the MGC runs. -/
def Block.pmbAnswer (b : Block) (bs : List Byte) : Block := { b with pmb := { b.pmb with answer := bs, nack := false } }
/-- A NACK. -/
def Block.pmbNack (b : Block) : Block := { b with pmb := { b.pmb with answer := [], nack := true } }
/-- A command that the target serves while the MGC runs. -/
def pmbServe (f : Block → Block) (s : State) : Host.Outcome State Fault Refusal := act (fun b => if b.up then f b else b.pmbNack) s

/-- CLEAR_FAULTS (R494). -/
def execClearFaults (s : State) : Host.Outcome State Fault Refusal :=
  pmbServe (fun b => { b with pmb := { b.pmb with cml := false, seen := b.pmb.seen / 4 * 4 + b.pmb.seen % 2, alert := 0, answer := [], nack := false } }) s
/-- CAPABILITY (R494). -/
def execCapability (s : State) : Host.Outcome State Fault Refusal := pmbServe (fun b => b.pmbAnswer [0xB0]) s
/-- STATUS_WORD (R494): the read releases PMB_ALERT_N for the bits that have cleared. -/
def execStatusWord (s : State) : Host.Outcome State Fault Refusal :=
  pmbServe (fun b =>
    let b := b.pmbCheck
    let st := b.pmbStatus
    ({ b with pmb := { b.pmb with alert := b.pmb.alert &&& st } }).pmbAnswer (leBytes 2 st)) s
/-- READ_VIN (R494), in volts. -/
def execReadVin (s : State) : Host.Outcome State Fault Refusal :=
  pmbServe (fun b => b.pmbAnswer (leBytes 2 (linear11 (b.rf 0x1000058 15 0) 1000))) s
/-- READ_TEMPERATURE_1 (R494): the hottest District sensor. -/
def execReadTemperature1 (s : State) : Host.Outcome State Fault Refusal :=
  pmbServe (fun b =>
    b.pmbAnswer (leBytes 2 (linear11Temp ((List.range 8).foldl (fun m d => max m (b.tempOf d)) (b.tempOf 0))))) s
/-- READ_TEMPERATURE_2 (R494): the Gate-column sensor. -/
def execReadTemperature2 (s : State) : Host.Outcome State Fault Refusal :=
  pmbServe (fun b => b.pmbAnswer (leBytes 2 (linear11Temp (b.tempOf 8)))) s
/-- READ_TEMPERATURE_3 (R494): the power-stage sensor. -/
def execReadTemperature3 (s : State) : Host.Outcome State Fault Refusal :=
  pmbServe (fun b => b.pmbAnswer (leBytes 2 (linear11Temp (b.tempOf 9)))) s
/-- READ_PIN (R494), in watts. -/
def execReadPin (s : State) : Host.Outcome State Fault Refusal :=
  pmbServe (fun b => b.pmbAnswer (leBytes 2 (linear11 (Config.inputPower b.now).toNat 10))) s
/-- PMBUS_REVISION (R494). -/
def execPmbusRevision (s : State) : Host.Outcome State Fault Refusal := pmbServe (fun b => b.pmbAnswer [0x33]) s

/-- Whether a command code and direction stand in the table of R494. -/
def pmbKnown (code : Byte) (write : Bool) : Bool :=
  if code = 0x03 then write else !write && [0x19, 0x79, 0x88, 0x8D, 0x8E, 0x8F, 0x97, 0x98].contains code
/-- PMBUS_INVALID_COMMAND (R494): an unknown code, or a write to a read-only command, is answered with a NACK and sets CML. -/
def execPmbusInvalidCommand (code : Byte) (write : Bool) (s : State) : Host.Outcome State Fault Refusal :=
  pmbServe (fun b =>
    if pmbKnown code write then b
    else ({ b with pmb := { b.pmb with cml := true, answer := [], nack := true } }).pmbCheck) s

end Sys2Proof.Machine
end

