-- ==== Sys2Proof/Machine/Regs.lean ====
section
/-! DEFINITION. Register accesses over BAR0 (R14 to R17, R30, R32, R36 to R38): what a register reads, what a write does, the
register shadow of an OFF District (R459), and the end of a District's wake, which applies the writes that waited. -/

namespace Sys2Proof.Machine

-- The live fields of a register: those that show other state

/-- STATUS of a lane; of the VC1 pair of lane 3, VC1STAT (R100, R107). -/
def Lane.status (l : Lane) : Nat :=
  field l.pkts 31 24 + field l.level 23 16 + field l.fill.length 14 8 + field (b2n l.flush) 3 3 + field (b2n l.skip) 2 2 +
    field (b2n l.full) 1 1 + b2n l.drainB

/-- A lane register of Quarter q. -/
def Block.viewLane (b : Block) (q o : Nat) : Nat :=
  let j := (o - 0x1000) / 0x40
  let v := b.reg (qOff q o)
  match (o - 0x1000) % 0x40 with
  | 0 => v + b2n ((b.q q).lane j).flush
  | 4 => ((b.q q).lane j).status
  | 0x18 => if j = 3 then ((b.q q).lane 8).status else v
  | _ => v

/-- A Plaza register of Quarter q, whose state is x. -/
def Block.viewPlaza (b : Block) (q o : Nat) (x : Quarter) : Nat :=
  let v := b.reg (qOff q o)
  let p := x.plaza
  match o with
  | 0xC => v + field (b2n (p.penCount != 0)) 5 5 + field (b2n (p.spill.any fun k => k.failed && !k.sent)) 3 3
  | 0x10 => v + p.entries.length
  | 0x14 => p.bsOcc
  | 0x18 => p.penWr - p.penRd
  | _ => v

/-- BUSY and PARKED of a PE's slots. -/
def Quarter.slotBits (x : Quarter) (pe : Nat) : Nat :=
  let busy := (List.range 8).filter fun s => (x.slot pe s).busy
  let parked := (List.range 8).filter fun s => x.park.any fun e => match e.who with
    | .ldd p t _ => p == pe && t == s
    | .readWait _ _ => false
  bitsOf busy + 256 * bitsOf parked

/-- A register of Quarter q. Those of a District that is OFF show the OFF image (R459). -/
def Block.viewQuarter (b : Block) (q o : Nat) : Nat :=
  let x := b.imageOf q
  let v := b.reg (qOff q o)
  if o < 0x1000 then b.viewPlaza q o x
  else if o < 0x1200 then b.viewLane q o
  else if 0x1400 ≤ o ∧ o < 0x1440 then v + (x.pe ((o - 0x1400) / 4)).fireq.length
  else if 0x2100 ≤ o ∧ o < 0x2180 ∧ o % 8 = 0 then x.slotBits ((o - 0x2100) / 8)
  else if o = 0x3004 then v + field (b2n (!x.pend.isEmpty)) 29 29 + x.parkOcc
  else v

/-- DISPATCH_READY. -/
def Block.viewReady (b : Block) : Nat :=
  let ready := (List.range 16).filter fun l => b.disp.ctxs.any fun e => e.2.state == 3 && e.2.desc.prio == l
  let blocked := (List.range 16).filter fun l => match b.headOf l with
    | some (_, x) => x.blocked
    | none => false
  bitsOf ready + 65536 * bitsOf blocked

/-- DISPATCH_CTX_STATE of a context; one whose descriptor read is under way holds an entry (R254). -/
def Block.viewCtxState (b : Block) (c : Nat) : Nat :=
  match b.ctx? c with
  | some x => field (b2n x.rearm) 10 10 + field x.desc.tmode 9 8 + field x.desc.prio 7 4 + 8 + x.state
  | none => if b.disp.arming.any fun a => a.ctx == c then 8 else 0

/-- A DISPATCH register. -/
def Block.viewDispatch (b : Block) (off : Nat) : Nat :=
  let c := b.reg 0x400020
  match off with
  | 0x400010 => b.disp.tickNow
  | 0x400018 => b.resident
  | 0x40001C => b.viewReady
  | 0x400024 => b.viewCtxState c
  | 0x400028 => (match b.ctx? c with | some x => x.desc.dep | none => 0)
  | 0x40002C => (match b.ctx? c with | some x => ofInt 32 ((x.e : Int) - x.c) | none => 0)
  | _ => b.reg off

/-- The gate entry that AVENUE_GATE_SEL selects. -/
def Block.selGate (b : Block) : Option GateEntry :=
  let q := b.rf 0x500200 6 0
  if 68 ≤ q then none else SMap.find? (b.imageOf q).gates (b.rf 0x500200 11 8)

/-- An AVENUE register. -/
def Block.viewAvenue (b : Block) (off : Nat) : Nat :=
  match off with
  | 0x500010 =>
    field (b2n b.ave.recovering) 24 24 + field (bitsOf ((List.range 8).filter b.quietNow)) 23 16 + field (bitsOf ((List.range 8).filter b.suspectNow)) 15 8 +
      bitsOf ((List.range 8).filter b.distRunning)
  | 0x500204 => (match b.selGate with | some g => field (b2n g.valid) 31 31 + field (b2n g.stream) 30 30 + g.ctx | none => 0)
  | 0x500208 => (match b.selGate with | some g => g.entry | none => 0)
  | 0x50020C => (match b.selGate with | some g => g.kset | none => 0)
  | 0x500210 => (match b.selGate with | some g => g.know | none => 0)
  | 0x500214 => (match b.selGate with | some g => g.base | none => 0)
  | _ => b.reg off

/-- A CONV register. -/
def Block.viewConv (b : Block) (off : Nat) : Nat :=
  if off = 0xD00034 then
    let ch := b.rf 0xD00030 11 0
    match (if b.rf 0xD00030 12 12 = 0 then SMap.find? b.conv.starts ch
           else if ch < 512 then (b.drive ch).start else none) with
    | some f => f % 2 ^ 32
    | none => 0xFFFFFFFF
  else if off = 0xD00008 then b.conv.sysref % 2 ^ 32
  else if 0xD01000 ≤ off ∧ off < 0xD01800 ∧ off % 0x100 = 0 then b.reg off + b2n (b.linkState ((off - 0xD01000) / 0x100) == 1)
  else b.reg off

/-- A HOST register. -/
def Block.viewHost (b : Block) (off : Nat) : Nat :=
  let h := b.host
  if off = 0x100004 then
    b2n (!h.pcie.busMaster || h.pcie.d3) + 2 * b2n h.resume + 4 * b2n h.reconciling + 8 * b2n h.active
  else if 0x101000 ≤ off ∧ off < 0x101400 ∧ off % 16 = 12 then
    let r := (off - 0x101000) / 16
    let q := b.sq r
    if !ringOn (b.reg (sqCfg r)) then q.jobs.length
    else field (if q.halted then 2 else 1) 31 30 + field (if q.halted then q.cause else 0) 29 28 + q.jobs.length
  else if 0x102000 ≤ off ∧ off < 0x102400 ∧ off % 16 = 12 then
    let r := (off - 0x102000) / 16
    let q := b.cq r
    let n := min q.waiting.length 0xFFFFF
    if !ringOn (b.reg (cqCfg r)) then n
    else if q.halted then field 2 31 30 + field 1 29 28 + n else field 1 31 30 + n
  else b.reg off

/-- An EVC register. -/
def Block.viewEvc (b : Block) (off : Nat) : Nat :=
  if off = 0x200008 then
    match b.evc.stack with
    | [] => 0
    | (k, p) :: rest => field (rest.length + 1) 20 16 + field p 11 8 + field k 6 0
  else if 0x202004 ≤ off ∧ off < 0x202280 ∧ off % 8 = 4 then
    let r := b.ring ((off - 0x202004) / 8)
    field (b2n r.signalled) 31 31 + field (b2n (r.due && !r.signalled && !r.headRead)) 30 30 + field (b2n r.headRead) 29 29 + min r.unsig 0xFFFFF
  else if 0x203000 ≤ off ∧ off < 0x203040 then
    let q := b.eq ((off - 0x203000) / 4)
    b.reg off + field (b2n q.halted) 31 31 + q.staged.length
  else b.reg off

/-- FAULT_STATUS. -/
def Block.faultStatus (b : Block) : Nat :=
  let h := b.hub
  let k (n : Nat) : Bool := h.pend.any fun p => p.cls == n
  let pending := b2n (k 1) + 2 * b2n (k 2) + 4 * b2n (k 3) + 8 * b2n (!h.graveUnacked.isEmpty)
  let active := b2n (h.active.contains 1) + 2 * b2n (h.active.contains 2) + 4 * b2n (h.active.contains 3) + 8 * b2n h.grave
  let low := h.grave || (b.rf 0x300000 0 0 == 1 && h.active.contains 3)
  field (b2n low) 17 17 + field (b2n h.degraded) 16 16 + field pending 12 9 + field active 4 1

/-- A FAULT register. -/
def Block.viewFault (b : Block) (off : Nat) : Nat :=
  if off = 0x30000C then b.faultStatus
  else if off = 0x300014 then b.hub.fseq % 2 ^ 32
  else if 0x301000 ≤ off ∧ off % 0x20 = 8 then (SMap.get b.hub.times (0, 0) ((off - 0x301000) / 0x20)).1 % 2 ^ 32
  else if 0x301000 ≤ off ∧ off % 0x20 = 0x10 then (SMap.get b.hub.times (0, 0) ((off - 0x301000) / 0x20)).2 % 2 ^ 32
  else b.reg off

/-- A KERB register. -/
def Block.viewKerb (b : Block) (off : Nat) : Nat :=
  if off < 0x1200100 ∧ off % 16 = 12 then
    let n := (off - 0x1200000) / 16
    b.reg off + field (b2n (b.kerbLand n)) 3 3 + b.kerbState n
  else if off = 0x1200120 then
    let act := (List.range 8).filter fun i => b.kerb.inputs.testBit i != (b.reg (0x1200100 + 4 * i)).testBit 7
    b.kerb.inputs % 256 + 256 * bitsOf act
  else b.reg off

/-- A POWER register. -/
def Block.viewPower (b : Block) (off : Nat) : Nat :=
  let n := b.power.nor
  match off with
  | 0x1000004 => b.reg off + field (b2n (!b.power.held)) 31 31
  | 0x1000058 => b.rf off 15 0 + 65536 * (Config.inputPower b.now).toNat
  | 0x1000300 =>
    b.reg off + field n.upd 17 16 + field n.slotB.fails 15 12 + field n.slotA.fails 11 8 + field (b2n n.slotB.valid) 2 2 +
      field (b2n n.slotA.valid) 1 1 + b2n n.bootB
  | _ => b.reg off

/-- A CORNER register. The timer shows the periods left (R397); the counts of continuity are those of the bank that is whole (R435). -/
def Block.viewCorner (b : Block) (off : Nat) : Nat :=
  match off with
  | 0x1100108 => (match b.evc.timer with | some t => ((t - b.now) * 32768 + 999999999) / 1000000000 | none => 0)
  | 0x1100208 => (match b.cont.bank with | some k => k.epoch % 2 ^ 32 | none => 0)
  | 0x1100224 => (b.journalUsed / 2 ^ 20) % 2 ^ 18
  | _ => b.reg off

/-- What a register holds, its live fields included (R14). -/
def Block.view (b : Block) (off : Nat) : Nat :=
  if off = 0x140 then b.rf 0x140 15 0 + 65536 * min b.spares.length 7
  else if off < 0x100000 then b.reg off
  else if off < 0x200000 then b.viewHost off
  else if off < 0x300000 then b.viewEvc off
  else if off < 0x400000 then b.viewFault off
  else if off < 0x500000 then b.viewDispatch off
  else if off < 0x600000 then b.viewAvenue off
  else if off < 0xA40000 then b.viewQuarter ((off - 0x600000) / 0x10000) (off % 0x10000)
  else if off = 0xC0000C then b.arch.blocks.length
  else if 0xD00000 ≤ off ∧ off < 0xE00000 then b.viewConv off
  else if off = 0xF00004 then b.timeNs % 2 ^ 32
  else if 0x1000000 ≤ off ∧ off < 0x1100000 then b.viewPower off
  else if 0x1100000 ≤ off ∧ off < 0x1200000 then b.viewCorner off
  else if 0x1200000 ≤ off then b.viewKerb off
  else b.reg off

-- Reads (R14, R16, R17)

/-- The Quarter whose block an offset lies in (R13). -/
def quarterBlock (off : Nat) : Option Nat :=
  if 0x600000 ≤ off ∧ off < 0xA40000 then some ((off - 0x600000) / 0x10000) else none

/-- A register shows what it held and changes no more: its Quarter is retired (R32), or its District is OFF (R459) and it is no lane
register. -/
def Block.frozen (b : Block) (off : Nat) : Bool :=
  match quarterBlock off with
  | none => false
  | some q => b.retired.contains q ||
      (b.distLevel (distOf q) == 3 && !(decide (0x1000 ≤ off % 0x10000) && decide (off % 0x10000 < 0x1400)))

/-- The HI registers that a read of LO latches: LO, HI and the value whose upper half is latched. -/
def Block.latch (b : Block) (off : Nat) : Option (Nat × Nat) :=
  if off = 0xF00004 then some (0xF00008, b.timeNs)
  else if off = 0xD00008 then some (0xD0000C, b.conv.sysref)
  else if off = 0x300014 then some (0x300018, b.hub.fseq)
  else if off = 0x1100208 then some (0x110020C, match b.cont.bank with | some k => k.epoch | none => 0)
  else if 0x301000 ≤ off ∧ off < 0x301800 ∧ off % 0x20 = 8 then
    some (off + 4, (SMap.get b.hub.times (0, 0) ((off - 0x301000) / 0x20)).1)
  else if 0x301000 ≤ off ∧ off < 0x301800 ∧ off % 0x20 = 0x10 then
    some (off + 4, (SMap.get b.hub.times (0, 0) ((off - 0x301000) / 0x20)).2)
  else none

/-- What a read leaves in the RC fields of a register: 0, but in a peak that is the highest since the last read the present figure:
LEVEL of a lane, DEPTH of a fire queue, PARK_OCC. -/
def Block.peakNow (b : Block) (q o : Nat) : Nat :=
  if 0x1000 ≤ o ∧ o < 0x1200 ∧ o % 0x40 = 8 then ((b.q q).lane ((o - 0x1000) / 0x40)).level
  else if 0x1400 ≤ o ∧ o < 0x1440 then field (((b.q q).pe ((o - 0x1400) / 4)).fireq.length) 21 16
  else if o = 0x3004 then field (b.q q).parkOcc 28 16
  else 0

/-- The RC fields of a register are cleared by a read. -/
def Block.clearRc (b : Block) (off : Nat) (r : RegRow) : Block :=
  if r.rc = 0 || b.frozen off then b
  else
    let v := b.reg off &&& (0xFFFFFFFF ^^^ r.rc)
    match quarterBlock off with
    | some q => b.setReg off (v + b.peakNow q (off % 0x10000))
    | none => b.setReg off v

/-- A read of one register word: its value, with the side effects of a 32-bit read. WO fields and unused offsets read 0. -/
def Block.readWord (b : Block) (off : Nat) : Block × Nat :=
  match regRow off with
  | none => (b, 0)
  | some r =>
    let v := b.view off &&& (0xFFFFFFFF ^^^ r.wo)
    let b := match b.latch off with
      | some (hi, x) => b.setReg hi (x / 2 ^ 32)
      | none => b
    (b.clearRc off r, v)

/-- The register words that an access of n bytes touches in BAR0 (R17, R36). -/
def wordsOf (off n : Nat) : List Nat :=
  if n = 0 then []
  else ((List.range ((off + n - 1) / 4 - off / 4 + 1)).map fun i => 4 * (off / 4 + i)).filter fun w => w < 0x4000000

/-- A read of n bytes (R17): each register touched is read; the bytes asked for are returned, the lowest first. -/
def Block.readReg (b : Block) (off n : Nat) : Block :=
  let (b, ws) := (wordsOf off n).foldl (fun (acc : Block × List (Nat × Nat)) w =>
    let (b, v) := acc.1.readWord w
    (b, acc.2 ++ [(w, v)])) (b, [])
  let byte (a : Nat) : Byte := BitVec.ofNat 8 (SMap.get ws 0 (4 * (a / 4)) >>> (8 * (a % 4)))
  { b with lands := { b.lands with read := ofBytes ((List.range n).map fun i => byte (off + i)) } }

/-- RC_READ (R14, R17): a BAR0 read. -/
def execRcRead (offset : Nat) (size : Nat) (s : State) : Host.Outcome State Fault Refusal := actUp (fun b => b.readReg offset size) s
/-- TIME_NOW_LO_READ (R14). -/
def execTimeNowLoRead (s : State) : Host.Outcome State Fault Refusal := actUp (fun b => b.readReg 0xF00004 4) s
/-- CONV_SYSREF_TLO_READ (R283). -/
def execConvSysrefTloRead (s : State) : Host.Outcome State Fault Refusal := actUp (fun b => b.readReg 0xD00008 4) s
/-- FAULT_SEQ_LO_READ (R402). -/
def execFaultSeqLoRead (s : State) : Host.Outcome State Fault Refusal := actUp (fun b => b.readReg 0x300014 4) s
/-- FAULT_SRC_TIME_LO_READ (R408). -/
def execFaultSrcTimeLoRead (src : Fin 64) (last : Bool) (s : State) : Host.Outcome State Fault Refusal :=
  actUp (fun b => b.readReg (0x301008 + 0x20 * src.val + (if last then 8 else 0)) 4) s
/-- CONT_EPOCH_LO_READ (R435). -/
def execContEpochLoRead (s : State) : Host.Outcome State Fault Refusal := actUp (fun b => b.readReg 0x1100208 4) s

-- Writes (R14, R16, R17, R38)

/-- A write to a register of Quarter q that reaches it. -/
def Block.writeQuarter (b : Block) (q off v : Nat) : Block :=
  let o := off % 0x10000
  if o = 4 then b.bsReconfig q false v
  else if o = 8 then b.bsReconfig q true v
  else
    let b := b.writePlain off v
    if 0x1000 ≤ o ∧ o < 0x1200 ∧ o % 0x40 = 0 ∧ v.testBit 0 then b.askFlush q ((o - 0x1000) / 0x40) else b

/-- A write to a Quarter's block: a retired Quarter ignores it (R32), an OFF District stores it until it wakes (R459). -/
def Block.writeQuarterBlock (b : Block) (q off v : Nat) : Block :=
  if b.retired.contains q then b
  else if b.frozen off then
    { b with power := { b.power with later := SMap.upd b.power.later [] (distOf q) (· ++ [{ off := off, value := v }]) } }
  else b.writeQuarter q off v

/-- A write to a HOST register. While RESUME_PENDING is 1, only HOST_CTRL takes one (R378). -/
def Block.writeHost (b : Block) (off v : Nat) : Block :=
  if off = 0x100000 then
    let b := b.writePlain off v
    let b := if v.testBit 2 then b.writeAbandon else b
    if v.testBit 1 then b.writeResume else b
  else if b.host.resume then b
  else if 0x101000 ≤ off ∧ off < 0x104000 ∧ off % 16 = 8 then
    let r := off % 0x1000 / 16
    b.writeRingCfg (if off < 0x102000 then .sq else if off < 0x103000 then .cq else .eq) r v
  else b.writePlain off v

/-- A write of EVC_STG: staged records at another place are lost. -/
def Block.writeEvStage (b : Block) (v : Nat) : Block :=
  let same := b.reg 0x20000C == v
  let b := b.setReg 0x20000C v
  if same then b
  else { b with evc := { b.evc with eqs := SMap.mapVal b.evc.eqs fun _ q => { q with staged := [] } } }

/-- A write to an EVC register. -/
def Block.writeEvc (b : Block) (off v : Nat) : Block :=
  if off = 0x200004 then b.writeEoi v
  else if off = 0x20000C then b.writeEvStage v
  else if 0x201000 ≤ off ∧ off < 0x201400 then b.writeSrc ((off - 0x201000) / 4) v
  else b.writePlain off v

/-- A write to a CONV register. -/
def Block.writeConv (b : Block) (off v : Nat) : Block :=
  if off = 0xD00004 then b.writeSlotDir v
  else if off = 0xD00010 then b.writeDrv v
  else if off = 0xD00024 then b.writeSpiRun v
  else if 0xD10000 ≤ off ∧ off < 0xD18000 ∧ off % 8 = 0 then b.writeBind ((off - 0xD10000) / 8) v
  else if 0xD20000 ≤ off ∧ off % 8 = 0 then b.writeOutCtrl ((off - 0xD20000) / 8) v
  else if 0xD01000 ≤ off ∧ off < 0xD01800 then
    let k := (off - 0xD01000) / 0x100
    match off % 0x100 with
    | 0 => b.writeLinkCtrl k v
    | 0x1C => b.writeStg k v
    | 0x20 => b.writeBind (4096 + k) v
    | _ => b.writePlain off v
  else b.writePlain off v

/-- A write to a CORNER register. -/
def Block.writeCorner (b : Block) (off v : Nat) : Block :=
  if off = 0x1100108 then b.writeTimer v
  else if off = 0x1100200 then b.writeContCtrl v
  else if off = 0x1100214 ∨ off = 0x1100218 ∨ off = 0x110021C ∨ off = 0x1100220 then b.moveStore off v
  else b.writePlain off v

/-- A 32-bit write to a register (R14): the behaviour of its own where it has one. -/
def Block.writeReg (b : Block) (off v : Nat) : Block :=
  match quarterBlock off with
  | some q => b.writeQuarterBlock q off v
  | none =>
    if 0x100000 ≤ off ∧ off < 0x200000 then b.writeHost off v
    else if 0x200000 ≤ off ∧ off < 0x300000 then b.writeEvc off v
    else if 0xD00000 ≤ off ∧ off < 0xE00000 then b.writeConv off v
    else if 0x1100000 ≤ off ∧ off < 0x1200000 then b.writeCorner off v
    else if off = 0x40000C then b.writeTick v
    else if off = 0x50020C then b.writeKset v
    else if off = 0xC00004 ∨ off = 0xC00008 then b.moveRing off v
    else if 0xE01000 ≤ off ∧ off < 0xE01400 ∧ off % 0x100 = 0 then b.writePortCtrl ((off - 0xE01000) / 0x100) v
    else if off = 0xF0000C then b.writeTimeSet v
    else if off = 0xF00010 then b.setReg off v
    else if off = 0x1000000 then b.writePowerCtrl v
    else if off = 0x1000304 then b.writeNorUpd v
    else if 0x1200000 ≤ off ∧ off < 0x1200100 ∧ off % 16 = 0 then b.writeKerbCfg ((off - 0x1200000) / 16) v
    else b.writePlain off v

/-- The part of a write that falls into one word: a word that it covers in part, and one that holds no register, is discarded and
counted once (R17, R38). -/
def Block.writeWord (b : Block) (off : Nat) (bytes : List Byte) (w : Nat) : Block :=
  if off ≤ w ∧ w + 4 ≤ off + bytes.length ∧ (regRow w).isSome then b.writeReg w (ofBytes ((bytes.drop (w - off)).take 4))
  else b.bump (hostCnt 0)

/-- A BAR0 write, the lower words first (R17). -/
def Block.writeBytes (b : Block) (off : Nat) (bytes : List Byte) : Block :=
  (wordsOf off bytes.length).foldl (fun b w => b.writeWord off bytes w) b

/-- REGISTER_WRITE (R17). -/
def execRegisterWrite (offset : Nat) (bytes : List Byte) (s : State) : Host.Outcome State Fault Refusal :=
  actUp (fun b => b.writeBytes offset bytes) s

/-- QMAP_WRITE (R30): a write in the cycle of a hardware substitution is discarded. -/
def execQmapWrite (k : Fin 16) (value : W32) (substitution : Bool) (s : State) : Host.Outcome State Fault Refusal :=
  actUp (fun b => if substitution then b else b.writeReg (0x100 + 4 * k.val) value.toNat) s

/-- PLZ_BS_RECONFIG (R97): a write of QTRnn_PLZ_BS_BASE or _SIZE. -/
def execPlzBsReconfig (q : Fin 68) (size : Bool) (value : W32) (s : State) : Host.Outcome State Fault Refusal :=
  actUp (fun b => b.writeReg (qOff q.val (if size then 8 else 4)) value.toNat) s

-- The end of a wake (R458, R459)

/-- The writes that waited for a District are applied in their order (R459). -/
def Block.applyLate (b : Block) (d : Nat) : Block :=
  let ws := SMap.get b.power.later [] d
  ws.foldl (fun b w => match quarterBlock w.off with
    | some q => if b.retired.contains q then b else b.writeQuarter q w.off w.value
    | none => b) { b with power := { b.power with later := SMap.erase b.power.later d } }

/-- A District's wake completes (R458, R459): its state is restored, the writes that waited are applied, and it runs. -/
def Block.wakeDone (b : Block) (d : Nat) : Block :=
  if b.rf (distStat d) 1 1 = 0 then b
  else
    let wasOff := b.distLevel d == 3
    let b := b.passTo (SMap.get b.power.due 0 d)
    let b := (b.setRf (distStat d) 5 4 0).setRf (distStat d) 1 1 0
    let b := { b with power := { b.power with due := SMap.erase b.power.due d } }
    let b := if wasOff then ((b.liveQuarters d).foldl (fun b q => b.loadImage q) b).applyLate d else b
    b.fired d
/-- DISTRICT_WAKE_DONE (R458). -/
def execDistrictWakeDone (d : Fin 8) (s : State) : Host.Outcome State Fault Refusal := actUp (fun b => b.wakeDone d) s

end Sys2Proof.Machine
end

