-- ==== Sys2Proof/Machine/Dispatch.lean ====
section
/-! DEFINITION. One arm per command, each one direct call of its meaning. -/

namespace Sys2Proof.Machine

def exec (i : Instr) (s : State) : Host.Outcome State Fault Refusal :=
  match i with
  | .add site => Sys2Proof.Machine.execAdd site s
  | .sub site => Sys2Proof.Machine.execSub site s
  | .mul site => Sys2Proof.Machine.execMul site s
  | .mulh site => Sys2Proof.Machine.execMulh site s
  | .mulhu site => Sys2Proof.Machine.execMulhu site s
  | .div site => Sys2Proof.Machine.execDiv site s
  | .divu site => Sys2Proof.Machine.execDivu site s
  | .rem site => Sys2Proof.Machine.execRem site s
  | .remu site => Sys2Proof.Machine.execRemu site s
  | .and site => Sys2Proof.Machine.execAnd site s
  | .or site => Sys2Proof.Machine.execOr site s
  | .xor site => Sys2Proof.Machine.execXor site s
  | .andn site => Sys2Proof.Machine.execAndn site s
  | .shl site => Sys2Proof.Machine.execShl site s
  | .shr site => Sys2Proof.Machine.execShr site s
  | .sra site => Sys2Proof.Machine.execSra site s
  | .ror site => Sys2Proof.Machine.execRor site s
  | .min site => Sys2Proof.Machine.execMin site s
  | .max site => Sys2Proof.Machine.execMax site s
  | .minu site => Sys2Proof.Machine.execMinu site s
  | .maxu site => Sys2Proof.Machine.execMaxu site s
  | .cmpeq site => Sys2Proof.Machine.execCmpeq site s
  | .cmplt site => Sys2Proof.Machine.execCmplt site s
  | .cmpltu site => Sys2Proof.Machine.execCmpltu site s
  | .sel site => Sys2Proof.Machine.execSel site s
  | .clz site => Sys2Proof.Machine.execClz site s
  | .ctz site => Sys2Proof.Machine.execCtz site s
  | .popc site => Sys2Proof.Machine.execPopc site s
  | .addi site => Sys2Proof.Machine.execAddi site s
  | .andi site => Sys2Proof.Machine.execAndi site s
  | .ori site => Sys2Proof.Machine.execOri site s
  | .xori site => Sys2Proof.Machine.execXori site s
  | .shli site => Sys2Proof.Machine.execShli site s
  | .shri site => Sys2Proof.Machine.execShri site s
  | .srai site => Sys2Proof.Machine.execSrai site s
  | .cmpeqi site => Sys2Proof.Machine.execCmpeqi site s
  | .cmplti site => Sys2Proof.Machine.execCmplti site s
  | .cmpltui site => Sys2Proof.Machine.execCmpltui site s
  | .lih site => Sys2Proof.Machine.execLih site s
  | .bfx site => Sys2Proof.Machine.execBfx site s
  | .bfi site => Sys2Proof.Machine.execBfi site s
  | .li site => Sys2Proof.Machine.execLi site s
  | .fadd site => Sys2Proof.Machine.execFadd site s
  | .fsub site => Sys2Proof.Machine.execFsub site s
  | .fmul site => Sys2Proof.Machine.execFmul site s
  | .fdiv site => Sys2Proof.Machine.execFdiv site s
  | .fsqrt site => Sys2Proof.Machine.execFsqrt site s
  | .fma site => Sys2Proof.Machine.execFma site s
  | .fms site => Sys2Proof.Machine.execFms site s
  | .fnma site => Sys2Proof.Machine.execFnma site s
  | .fnms site => Sys2Proof.Machine.execFnms site s
  | .fmin site => Sys2Proof.Machine.execFmin site s
  | .fmax site => Sys2Proof.Machine.execFmax site s
  | .fcmpeq site => Sys2Proof.Machine.execFcmpeq site s
  | .fcmplt site => Sys2Proof.Machine.execFcmplt site s
  | .fcmple site => Sys2Proof.Machine.execFcmple site s
  | .fcmpun site => Sys2Proof.Machine.execFcmpun site s
  | .fabs site => Sys2Proof.Machine.execFabs site s
  | .fneg site => Sys2Proof.Machine.execFneg site s
  | .fclass site => Sys2Proof.Machine.execFclass site s
  | .fcvt site => Sys2Proof.Machine.execFcvt site s
  | .frint site => Sys2Proof.Machine.execFrint site s
  | .ld site => Sys2Proof.Machine.execLd site s
  | .ldd site => Sys2Proof.Machine.execLdd site s
  | .st site => Sys2Proof.Machine.execSt site s
  | .stw site => Sys2Proof.Machine.execStw site s
  | .mke site => Sys2Proof.Machine.execMke site s
  | .bset site => Sys2Proof.Machine.execBset site s
  | .bclr site => Sys2Proof.Machine.execBclr site s
  | .send site => Sys2Proof.Machine.execSend site s
  | .beq site => Sys2Proof.Machine.execBeq site s
  | .bne site => Sys2Proof.Machine.execBne site s
  | .blt site => Sys2Proof.Machine.execBlt site s
  | .bge site => Sys2Proof.Machine.execBge site s
  | .bltu site => Sys2Proof.Machine.execBltu site s
  | .bgeu site => Sys2Proof.Machine.execBgeu site s
  | .beqz site => Sys2Proof.Machine.execBeqz site s
  | .bnez site => Sys2Proof.Machine.execBnez site s
  | .bltz site => Sys2Proof.Machine.execBltz site s
  | .bgez site => Sys2Proof.Machine.execBgez site s
  | .jmp site => Sys2Proof.Machine.execJmp site s
  | .jr site => Sys2Proof.Machine.execJr site s
  | .call site => Sys2Proof.Machine.execCall site s
  | .callr site => Sys2Proof.Machine.execCallr site s
  | .ret site => Sys2Proof.Machine.execRet site s
  | .loop site => Sys2Proof.Machine.execLoop site s
  | .loopi site => Sys2Proof.Machine.execLoopi site s
  | .lbrk site => Sys2Proof.Machine.execLbrk site s
  | .rep site => Sys2Proof.Machine.execRep site s
  | .repr site => Sys2Proof.Machine.execRepr site s
  | .mfs site => Sys2Proof.Machine.execMfs site s
  | .mts site => Sys2Proof.Machine.execMts site s
  | .fence site => Sys2Proof.Machine.execFence site s
  | .trap site => Sys2Proof.Machine.execTrap site s
  | .halt site => Sys2Proof.Machine.execHalt site s
  | .nop site => Sys2Proof.Machine.execNop site s
  | .undefinedOpcode site => Sys2Proof.Machine.execUndefinedOpcode site s
  | .firePacketTake q pe upset => Sys2Proof.Machine.execFirePacketTake q pe upset s
  | .loadReturn site upset => Sys2Proof.Machine.execLoadReturn site upset s
  | .storeReachesBank q pe upset => Sys2Proof.Machine.execStoreReachesBank q pe upset s
  | .dividerFinish q pe => Sys2Proof.Machine.execDividerFinish q pe s
  | .parkRelease q => Sys2Proof.Machine.execParkRelease q s
  | .sendComplete site => Sys2Proof.Machine.execSendComplete site s
  | .laneWordArrive q lane => Sys2Proof.Machine.execLaneWordArrive q lane s
  | .laneSwap q lane => Sys2Proof.Machine.execLaneSwap q lane s
  | .laneFlush q lane => Sys2Proof.Machine.execLaneFlush q lane s
  | .laneFlushEffect q lane => Sys2Proof.Machine.execLaneFlushEffect q lane s
  | .tokenLookup q lane upset => Sys2Proof.Machine.execTokenLookup q lane upset s
  | .stickyToken q lane upset => Sys2Proof.Machine.execStickyToken q lane upset s
  | .freeToken q lane upset => Sys2Proof.Machine.execFreeToken q lane upset s
  | .penNotice q => Sys2Proof.Machine.execPenNotice q s
  | .penReadReturn q upset => Sys2Proof.Machine.execPenReadReturn q upset s
  | .penTokenLookup q => Sys2Proof.Machine.execPenTokenLookup q s
  | .waitTableRelease q => Sys2Proof.Machine.execWaitTableRelease q s
  | .internalLookup q => Sys2Proof.Machine.execInternalLookup q s
  | .backstreetWindowReturn q cycles => Sys2Proof.Machine.execBackstreetWindowReturn q cycles s
  | .nodemapWordReturn q => Sys2Proof.Machine.execNodemapWordReturn q s
  | .spillParcelSend q => Sys2Proof.Machine.execSpillParcelSend q s
  | .spillWriteAck q => Sys2Proof.Machine.execSpillWriteAck q s
  | .holdingRetry q => Sys2Proof.Machine.execHoldingRetry q s
  | .fireBufferDrain q => Sys2Proof.Machine.execFireBufferDrain q s
  | .plzBsReconfig q size value => Sys2Proof.Machine.execPlzBsReconfig q size value s
  | .tokenInject point => Sys2Proof.Machine.execTokenInject point s
  | .nodemapMissFill point => Sys2Proof.Machine.execNodemapMissFill point s
  | .flitForward x y port vc => Sys2Proof.Machine.execFlitForward x y port vc s
  | .creditReturn x y port vc => Sys2Proof.Machine.execCreditReturn x y port vc s
  | .linkReplay x y port => Sys2Proof.Machine.execLinkReplay x y port s
  | .roundaboutEscape x y port => Sys2Proof.Machine.execRoundaboutEscape x y port s
  | .penWrite stop => Sys2Proof.Machine.execPenWrite stop s
  | .retireWord q => Sys2Proof.Machine.execRetireWord q s
  | .gateRegrow => Sys2Proof.Machine.execGateRegrow s
  | .gateKSetWrite value => Sys2Proof.Machine.execGateKSetWrite value s
  | .streamGateReport q entry => Sys2Proof.Machine.execStreamGateReport q entry s
  | .distSuspect d => Sys2Proof.Machine.execDistSuspect d s
  | .gridlock => Sys2Proof.Machine.execGridlock s
  | .gridlockRelease cycles => Sys2Proof.Machine.execGridlockRelease cycles s
  | .migrationStart => Sys2Proof.Machine.execMigrationStart s
  | .migrationSwitch => Sys2Proof.Machine.execMigrationSwitch s
  | .migrationAbandon => Sys2Proof.Machine.execMigrationAbandon s
  | .portBWrite q upset => Sys2Proof.Machine.execPortBWrite q upset s
  | .portBWriteKeep q upset => Sys2Proof.Machine.execPortBWriteKeep q upset s
  | .portBPresWrite q upset => Sys2Proof.Machine.execPortBPresWrite q upset s
  | .portBRead q upset ecc => Sys2Proof.Machine.execPortBRead q upset ecc s
  | .portBPresRead q upset => Sys2Proof.Machine.execPortBPresRead q upset s
  | .portBReadWait q upset ecc => Sys2Proof.Machine.execPortBReadWait q upset ecc s
  | .portBBadOp q upset => Sys2Proof.Machine.execPortBBadOp q upset s
  | .portBWriteRetry q => Sys2Proof.Machine.execPortBWriteRetry q s
  | .frameCeWriteback q => Sys2Proof.Machine.execFrameCeWriteback q s
  | .snapshotLineCopy q ecc => Sys2Proof.Machine.execSnapshotLineCopy q ecc s
  | .startCtx ring => Sys2Proof.Machine.execStartCtx ring s
  | .descriptorReadDone => Sys2Proof.Machine.execDescriptorReadDone s
  | .cancelCtx ring => Sys2Proof.Machine.execCancelCtx ring s
  | .setCounterSet ring => Sys2Proof.Machine.execSetCounterSet ring s
  | .setCounterSub ring => Sys2Proof.Machine.execSetCounterSub ring s
  | .depDecrement => Sys2Proof.Machine.execDepDecrement s
  | .tick => Sys2Proof.Machine.execTick s
  | .timerDue => Sys2Proof.Machine.execTimerDue s
  | .contextStart => Sys2Proof.Machine.execContextStart s
  | .wakefirstStart ctx => Sys2Proof.Machine.execWakefirstStart ctx s
  | .ctlEnd => Sys2Proof.Machine.execCtlEnd s
  | .countFlush unit ctx => Sys2Proof.Machine.execCountFlush unit ctx s
  | .completionRound ctx => Sys2Proof.Machine.execCompletionRound ctx s
  | .orphanWaitExpire ctx => Sys2Proof.Machine.execOrphanWaitExpire ctx s
  | .quarterCollect q ctx => Sys2Proof.Machine.execQuarterCollect q ctx s
  | .collectionDone ctx => Sys2Proof.Machine.execCollectionDone ctx s
  | .quarantineEnd ctx => Sys2Proof.Machine.execQuarantineEnd ctx s
  | .dispatchTickWrite value => Sys2Proof.Machine.execDispatchTickWrite value s
  | .doorbellPoll hw => Sys2Proof.Machine.execDoorbellPoll hw s
  | .pollModeIdle => Sys2Proof.Machine.execPollModeIdle s
  | .descriptorFetch ring hw => Sys2Proof.Machine.execDescriptorFetch ring hw s
  | .descriptorAccept ring => Sys2Proof.Machine.execDescriptorAccept ring s
  | .acceptRecordWrite ring => Sys2Proof.Machine.execAcceptRecordWrite ring s
  | .jobNop ring => Sys2Proof.Machine.execJobNop ring s
  | .jobFence ring => Sys2Proof.Machine.execJobFence ring s
  | .inject ring hw failAt => Sys2Proof.Machine.execInject ring hw failAt s
  | .loadImage ring => Sys2Proof.Machine.execLoadImage ring s
  | .dmaToModule ring hw failAt => Sys2Proof.Machine.execDmaToModule ring hw failAt s
  | .dmaFromModule ring => Sys2Proof.Machine.execDmaFromModule ring s
  | .logDrain ring => Sys2Proof.Machine.execLogDrain ring s
  | .keyLoad ring => Sys2Proof.Machine.execKeyLoad ring s
  | .faultAck ring => Sys2Proof.Machine.execFaultAck ring s
  | .kerbForceRelease ring => Sys2Proof.Machine.execKerbForceRelease ring s
  | .kerbForceLevel ring => Sys2Proof.Machine.execKerbForceLevel ring s
  | .kerbForceSafe ring => Sys2Proof.Machine.execKerbForceSafe ring s
  | .epochNow ring => Sys2Proof.Machine.execEpochNow ring s
  | .badOp ring => Sys2Proof.Machine.execBadOp ring s
  | .completionRecordWrite cq => Sys2Proof.Machine.execCompletionRecordWrite cq s
  | .hostReadTimeout reader => Sys2Proof.Machine.execHostReadTimeout reader s
  | .resume hw => Sys2Proof.Machine.execResume hw s
  | .abandon => Sys2Proof.Machine.execAbandon s
  | .ringEnable kind ring value => Sys2Proof.Machine.execRingEnable kind ring value s
  | .ringEnableZero kind ring value => Sys2Proof.Machine.execRingEnableZero kind ring value s
  | .ringDisable kind ring value => Sys2Proof.Machine.execRingDisable kind ring value s
  | .configRequest write reg value => Sys2Proof.Machine.execConfigRequest write reg value s
  | .d3hotEntry => Sys2Proof.Machine.execD3hotEntry s
  | .bar2Read offset => Sys2Proof.Machine.execBar2Read offset s
  | .bar2Write offset bytes => Sys2Proof.Machine.execBar2Write offset bytes s
  | .registerWrite offset bytes => Sys2Proof.Machine.execRegisterWrite offset bytes s
  | .rcRead offset size => Sys2Proof.Machine.execRcRead offset size s
  | .timeNowLoRead => Sys2Proof.Machine.execTimeNowLoRead s
  | .convSysrefTloRead => Sys2Proof.Machine.execConvSysrefTloRead s
  | .faultSeqLoRead => Sys2Proof.Machine.execFaultSeqLoRead s
  | .faultSrcTimeLoRead src last => Sys2Proof.Machine.execFaultSrcTimeLoRead src last s
  | .contEpochLoRead => Sys2Proof.Machine.execContEpochLoRead s
  | .qmapWrite k value substitution => Sys2Proof.Machine.execQmapWrite k value substitution s
  | .eventIntake => Sys2Proof.Machine.execEventIntake s
  | .eqRecordWrite eq => Sys2Proof.Machine.execEqRecordWrite eq s
  | .msixSend => Sys2Proof.Machine.execMsixSend s
  | .coalesceTimeDue ring => Sys2Proof.Machine.execCoalesceTimeDue ring s
  | .evcEoi value => Sys2Proof.Machine.execEvcEoi value s
  | .headReadReturn ring hw => Sys2Proof.Machine.execHeadReadReturn ring hw s
  | .evcFlush => Sys2Proof.Machine.execEvcFlush s
  | .evcSrcMask src value => Sys2Proof.Machine.execEvcSrcMask src value s
  | .evcSrcUnmask src value => Sys2Proof.Machine.execEvcSrcUnmask src value s
  | .wakeInput input => Sys2Proof.Machine.execWakeInput input s
  | .cornerWakeTimerWrite value => Sys2Proof.Machine.execCornerWakeTimerWrite value s
  | .cornerTimerExpire => Sys2Proof.Machine.execCornerTimerExpire s
  | .faultDetect det => Sys2Proof.Machine.execFaultDetect det s
  | .classClear cls => Sys2Proof.Machine.execClassClear cls s
  | .f0NowClear src => Sys2Proof.Machine.execF0NowClear src s
  | .shadowWindowEnd => Sys2Proof.Machine.execShadowWindowEnd s
  | .heartbeatSend answers => Sys2Proof.Machine.execHeartbeatSend answers s
  | .heartbeatTimeout q => Sys2Proof.Machine.execHeartbeatTimeout q s
  | .kerbInEdge input level => Sys2Proof.Machine.execKerbInEdge input level s
  | .kerbOutEnable out value => Sys2Proof.Machine.execKerbOutEnable out value s
  | .kerbOutDisable out value => Sys2Proof.Machine.execKerbOutDisable out value s
  | .faultInjNWrite value => Sys2Proof.Machine.execFaultInjNWrite value s
  | .faultInjSelWrite value => Sys2Proof.Machine.execFaultInjSelWrite value s
  | .epochCloseStart => Sys2Proof.Machine.execEpochCloseStart s
  | .quarterCut x => Sys2Proof.Machine.execQuarterCut x s
  | .gateMark gate => Sys2Proof.Machine.execGateMark gate s
  | .markerArrive q x => Sys2Proof.Machine.execMarkerArrive q x s
  | .epochDone => Sys2Proof.Machine.execEpochDone s
  | .flushMarkerArrive q x => Sys2Proof.Machine.execFlushMarkerArrive q x s
  | .rollbackRestoreDone => Sys2Proof.Machine.execRollbackRestoreDone s
  | .rollbackRejoin => Sys2Proof.Machine.execRollbackRejoin s
  | .recoverySlow => Sys2Proof.Machine.execRecoverySlow s
  | .ledgerRoomFreed => Sys2Proof.Machine.execLedgerRoomFreed s
  | .stopRead ma upset => Sys2Proof.Machine.execStopRead ma upset s
  | .stopWrite ma x => Sys2Proof.Machine.execStopWrite ma x s
  | .sweeperPage stop upsets => Sys2Proof.Machine.execSweeperPage stop upsets s
  | .borrowRestore stop mismatch => Sys2Proof.Machine.execBorrowRestore stop mismatch s
  | .sweepRevisit x => Sys2Proof.Machine.execSweepRevisit x s
  | .ceHistoryExpire stop => Sys2Proof.Machine.execCeHistoryExpire stop s
  | .logToken => Sys2Proof.Machine.execLogToken s
  | .blockCloseTimer => Sys2Proof.Machine.execBlockCloseTimer s
  | .sealStart => Sys2Proof.Machine.execSealStart s
  | .sealDone => Sys2Proof.Machine.execSealDone s
  | .convSettle link value spi => Sys2Proof.Machine.execConvSettle link value spi s
  | .prbsDwellEnd link eyes spi => Sys2Proof.Machine.execPrbsDwellEnd link eyes spi s
  | .convStop link value => Sys2Proof.Machine.execConvStop link value s
  | .alignComplete link ilas => Sys2Proof.Machine.execAlignComplete link ilas s
  | .alignTimeout link => Sys2Proof.Machine.execAlignTimeout link s
  | .sysrefEdge wait => Sys2Proof.Machine.execSysrefEdge wait s
  | .rxFrameArrive link words err => Sys2Proof.Machine.execRxFrameArrive link words err s
  | .frameRelease link => Sys2Proof.Machine.execFrameRelease link s
  | .stagingInject link => Sys2Proof.Machine.execStagingInject link s
  | .txFrameBuild link => Sys2Proof.Machine.execTxFrameBuild link s
  | .driveToken => Sys2Proof.Machine.execDriveToken s
  | .driveDeadline ch => Sys2Proof.Machine.execDriveDeadline ch s
  | .laneLockLoss link frames => Sys2Proof.Machine.execLaneLockLoss link frames s
  | .laneDeadTimeout link => Sys2Proof.Machine.execLaneDeadTimeout link s
  | .convSlotDirWrite value => Sys2Proof.Machine.execConvSlotDirWrite value s
  | .channelBindEnable ch value => Sys2Proof.Machine.execChannelBindEnable ch value s
  | .channelBindDisable ch value => Sys2Proof.Machine.execChannelBindDisable ch value s
  | .driveChannelDisable ch value => Sys2Proof.Machine.execDriveChannelDisable ch value s
  | .convSpiRun value => Sys2Proof.Machine.execConvSpiRun value s
  | .spiScriptEnd spi => Sys2Proof.Machine.execSpiScriptEnd spi s
  | .colirPortEnable port value => Sys2Proof.Machine.execColirPortEnable port value s
  | .colirPortDisable port value => Sys2Proof.Machine.execColirPortDisable port value s
  | .reneg port value => Sys2Proof.Machine.execReneg port value s
  | .colirBlockLock port signal => Sys2Proof.Machine.execColirBlockLock port signal s
  | .capsCellSend port => Sys2Proof.Machine.execCapsCellSend port s
  | .capsCellReceive port cell => Sys2Proof.Machine.execCapsCellReceive port cell s
  | .capsTimeout port => Sys2Proof.Machine.execCapsTimeout port s
  | .trainDwellEnd port laneOk errSeen partner => Sys2Proof.Machine.execTrainDwellEnd port laneOk errSeen partner s
  | .colirCellSend port => Sys2Proof.Machine.execColirCellSend port s
  | .tokenCellReceive port cell => Sys2Proof.Machine.execTokenCellReceive port cell s
  | .eventCellReceive port cell => Sys2Proof.Machine.execEventCellReceive port cell s
  | .ledgerCellReceive port cell => Sys2Proof.Machine.execLedgerCellReceive port cell s
  | .dispNotify port cell => Sys2Proof.Machine.execDispNotify port cell s
  | .roundReq port cell => Sys2Proof.Machine.execRoundReq port cell s
  | .roundRep port cell => Sys2Proof.Machine.execRoundRep port cell s
  | .dispComplete port cell => Sys2Proof.Machine.execDispComplete port cell s
  | .collect port cell => Sys2Proof.Machine.execCollect port cell s
  | .collectDone port cell => Sys2Proof.Machine.execCollectDone port cell s
  | .dispCancel port cell => Sys2Proof.Machine.execDispCancel port cell s
  | .dispBad port cell => Sys2Proof.Machine.execDispBad port cell s
  | .timeCellSend port => Sys2Proof.Machine.execTimeCellSend port s
  | .timeCellReceive port cell => Sys2Proof.Machine.execTimeCellReceive port cell s
  | .nakReceive port cell => Sys2Proof.Machine.execNakReceive port cell s
  | .ackTimeout port => Sys2Proof.Machine.execAckTimeout port s
  | .colirLaneRetire port lane => Sys2Proof.Machine.execColirLaneRetire port lane s
  | .restripeDone port => Sys2Proof.Machine.execRestripeDone port s
  | .colirRateFallback port => Sys2Proof.Machine.execColirRateFallback port s
  | .colirPortLost port => Sys2Proof.Machine.execColirPortLost port s
  | .spanGiveup ctx member => Sys2Proof.Machine.execSpanGiveup ctx member s
  | .mirrorGap => Sys2Proof.Machine.execMirrorGap s
  | .powerTargetRun value => Sys2Proof.Machine.execPowerTargetRun value s
  | .powerTargetLogkeep value => Sys2Proof.Machine.execPowerTargetLogkeep value s
  | .powerTargetNap value => Sys2Proof.Machine.execPowerTargetNap value s
  | .powerTargetSleep value => Sys2Proof.Machine.execPowerTargetSleep value s
  | .sleepWake => Sys2Proof.Machine.execSleepWake s
  | .districtRestEntry d => Sys2Proof.Machine.execDistrictRestEntry d s
  | .offEntryDone x => Sys2Proof.Machine.execOffEntryDone x s
  | .districtWakeRequest d => Sys2Proof.Machine.execDistrictWakeRequest d s
  | .districtWakeDone d => Sys2Proof.Machine.execDistrictWakeDone d s
  | .vinWarn mv => Sys2Proof.Machine.execVinWarn mv s
  | .uvlo mv => Sys2Proof.Machine.execUvlo mv s
  | .overvoltageShutdown mv => Sys2Proof.Machine.execOvervoltageShutdown mv s
  | .por mv clkrefOk => Sys2Proof.Machine.execPor mv clkrefOk s
  | .rstLong clkrefOk => Sys2Proof.Machine.execRstLong clkrefOk s
  | .rstShort clkrefOk => Sys2Proof.Machine.execRstShort clkrefOk s
  | .perst clkrefOk => Sys2Proof.Machine.execPerst clkrefOk s
  | .hot clkrefOk => Sys2Proof.Machine.execHot clkrefOk s
  | .flr clkrefOk => Sys2Proof.Machine.execFlr clkrefOk s
  | .wdog clkrefOk => Sys2Proof.Machine.execWdog clkrefOk s
  | .ready => Sys2Proof.Machine.execReady s
  | .bootRomImageLoad image => Sys2Proof.Machine.execBootRomImageLoad image s
  | .powerNorUpd value => Sys2Proof.Machine.execPowerNorUpd value s
  | .norUpdateDone => Sys2Proof.Machine.execNorUpdateDone s
  | .refclkSwitch => Sys2Proof.Machine.execRefclkSwitch s
  | .thermalStepDown sensor celsius => Sys2Proof.Machine.execThermalStepDown sensor celsius s
  | .thermalStepUp sensor celsius => Sys2Proof.Machine.execThermalStepUp sensor celsius s
  | .freqDecision d loadPct => Sys2Proof.Machine.execFreqDecision d loadPct s
  | .freqStepDone d => Sys2Proof.Machine.execFreqStepDone d s
  | .avsStep needMv d => Sys2Proof.Machine.execAvsStep needMv d s
  | .timeInEdge => Sys2Proof.Machine.execTimeInEdge s
  | .timeSetLo value => Sys2Proof.Machine.execTimeSetLo value s
  | .timeLockTimeout => Sys2Proof.Machine.execTimeLockTimeout s
  | .timeOutPulse => Sys2Proof.Machine.execTimeOutPulse s
  | .clearFaults => Sys2Proof.Machine.execClearFaults s
  | .capability => Sys2Proof.Machine.execCapability s
  | .statusWord => Sys2Proof.Machine.execStatusWord s
  | .readVin => Sys2Proof.Machine.execReadVin s
  | .readTemperature1 => Sys2Proof.Machine.execReadTemperature1 s
  | .readTemperature2 => Sys2Proof.Machine.execReadTemperature2 s
  | .readTemperature3 => Sys2Proof.Machine.execReadTemperature3 s
  | .readPin => Sys2Proof.Machine.execReadPin s
  | .pmbusRevision => Sys2Proof.Machine.execPmbusRevision s
  | .pmbusInvalidCommand code write => Sys2Proof.Machine.execPmbusInvalidCommand code write s
  | .idleCellReceive port cell => Sys2Proof.Machine.execIdleCellReceive port cell s
  | .vinWarnRearm mv => Sys2Proof.Machine.execVinWarnRearm mv s
  | .resetRelease => Sys2Proof.Machine.execResetRelease s

end Sys2Proof.Machine
end

