-- ==== Sys2Proof/WellFormed.lean ====
section
/-! DEFINITION. The commands that the block's surroundings can send: the bounds on their operands that the operands' types do not
say. Every meaning is total; what is ill-formed here is no access or event that the spec describes. -/

namespace Sys2Proof

/-- Bytes that the host stores are in its 64-bit address space. -/
def wfStores (hw : List (Nat × Byte)) : Bool := hw.all fun c => decide (c.1 < 2 ^ 64)

/-- A context number (R38, R246). -/
def wfCtx (c : Nat) : Bool := decide (c < 2 ^ 20)

/-- The command is well-formed. -/
def Instr.wf : Instr → Bool
  | .wakefirstStart c | .countFlush _ c | .completionRound c | .orphanWaitExpire c | .quarterCollect _ c | .collectionDone c
  | .quarantineEnd c | .spanGiveup c _ => wfCtx c
  | .doorbellPoll hw | .descriptorFetch _ hw | .inject _ hw _ | .dmaToModule _ hw _ | .resume hw | .headReadReturn _ hw => wfStores hw
  | .bar2Write off bytes => !bytes.isEmpty && decide (off.toNat + bytes.length ≤ 2 ^ 32)
  | .registerWrite off bytes => !bytes.isEmpty && decide (off + bytes.length ≤ 2 ^ 26)
  | .rcRead off n => decide (0 < n) && decide (off + n ≤ 2 ^ 26)
  | .stopRead ma _ => decide (ma < 2 ^ 40)
  | .stopWrite ma d => !d.bytes.isEmpty && decide (ma + d.bytes.length ≤ 2 ^ 40)
  | .prbsDwellEnd _ eyes _ => eyes.all fun e => decide (e.1 < 64)
  | .freqDecision _ load => decide (load ≤ 100)
  | .bootRomImageLoad image => decide (image.length ≤ 2 ^ 24)
  | _ => true

end Sys2Proof
end

