-- ==== Sys2Proof/Safety.lean ====
section
/-! DEFINITION. What claims about runs speak of: the form the state keeps, and what it means that a command completes. -/

namespace Sys2Proof.Machine

/-- Module memory and host memory are in canonical form. -/
def Block.memOk (b : Block) : Bool := Memory.wf b.mem && Memory.wf b.hostMem

/-- Every command that waits is well-formed. -/
def State.queueOk (s : State) : Bool := s.pending.all Instr.wf

/-- A command completes with a block: exec answers a next state that holds it, and the queue is as it was. -/
def Completes (c : Instr) (s : State) (b : Block) : Prop := exec c s = .next { s with blk := b }

/-- No register differs between two blocks, but for those at some offsets. -/
def SameRegs (b c : Block) (but : List Nat) : Prop := ∀ off, off ∉ but → b.reg off = c.reg off

/-- Two blocks agree on every byte of module memory, but for some addresses. -/
def SameMem (b c : Block) (but : Nat → Bool) : Prop := ∀ a, but a = false → memGet b.mem a = memGet c.mem a

/-- The slot at a site. -/
def Block.slotAt (b : Block) (site : Site) : Slot := (b.q site.q).slot site.pe site.slot

/-- The PE of a site. -/
def Block.peAt (b : Block) (site : Site) : PE := (b.q site.q).pe site.pe

/-- The word at a slot's PC. -/
def Block.wordAt (b : Block) (site : Site) : W32 := (b.q site.q).word (b.slotAt site).pc

/-- The slot at a site issues the instruction `x`, whose opcode is `op`: its Quarter runs, the slot is offered, the words at its PC
spell `x`, no operand or result is outstanding (R119), the divider and FLAGS are free where `x` needs them (R126, R190), and BUDGET is
not used up (R157). -/
def Block.CanIssue (b : Block) (site : Site) (op : Nat) (x : SInstr) : Prop :=
  b.qRuns site.q = true ∧ (b.q site.q).offered site.pe site.slot = true ∧ (opOf (b.wordAt site)).toNat = op ∧
  decodeStrand (b.wordAt site) ((b.q site.q).word ((b.slotAt site).pc + 1)) = some x ∧
  (x.reads ++ x.writes).any ((b.q site.q).outstanding site.pe site.slot).contains = false ∧
  (usesDivider op = true → (b.peAt site).div = none) ∧
  (touchesFlags x = true → (b.peAt site).divides site.slot = false) ∧
  ((b.slotAt site).limited = true → (b.slotAt site).budget ≠ 0)

/-- What the issue of a strand instruction that does not end its strand leaves: everything but the slot at the site, the accesses and
the divider of its PE, the PE's ISSUED counter and the load figures of R242. -/
def StrandFrame (b t : Block) (site : Site) : Prop :=
  t = { b with regs := t.regs, qs := t.qs, ave := { b.ave with issued := t.ave.issued } } ∧
  t.reg (qOff site.q (0x2104 + 8 * site.pe)) = satAdd (b.reg (qOff site.q (0x2104 + 8 * site.pe))) 1 ∧
  SameRegs b t [qOff site.q (0x2104 + 8 * site.pe)] ∧
  (∀ p, p ≠ site.q.val → t.q p = b.q p) ∧
  { t.q site.q with pes := (b.q site.q).pes } = b.q site.q ∧
  (∀ n, n ≠ site.pe.val → (t.q site.q).pe n = (b.q site.q).pe n) ∧
  (∀ n, n ≠ site.slot.val → (t.peAt site).slot n = (b.peAt site).slot n) ∧
  (t.peAt site).fireq = (b.peAt site).fireq

/-- The issue at a site completes: exec answers a next state in which the slot holds `sl`, the PE has the accesses `memq` and the divider
`div`, and everything else is as StrandFrame says. -/
def Issues (c : Instr) (s : State) (site : Site) (sl : Slot) (memq : List MemOp) (div : Option DivOp) : Prop :=
  ∃ t, Completes c s t ∧ StrandFrame s.blk t site ∧ t.slotAt site = sl ∧ (t.peAt site).memq = memq ∧ (t.peAt site).div = div

/-- An instruction that only computes: the slot goes on to its next instruction (R146, R150) with what `f` makes of it. -/
def Computes (c : Instr) (s : State) (site : Site) (f : Slot → Slot) : Prop :=
  Issues c s site (advance (s.blk.q site.q) (s.blk.wordAt site) (f (s.blk.slotAt site).charged)) (s.blk.peAt site).memq
    (s.blk.peAt site).div

end Sys2Proof.Machine
end

