-- ==== Sys2Proof/Certificates/Slice0/Obligations.lean ====
section
/-! DEFINITION. The statements about the model, one for each named obligation. Each cites the rules of the spec it formalises. -/

open Sys2Proof Sys2Proof.Machine

-- Strand instructions

/-- R-form instructions on 64-bit values with the value they give RD (R130, R133, R183). -/
def Sys2Proof.Machine.rValues : List ((Site → Instr) × Nat × (W64 → W64 → W64)) :=
  [(.mul, 0x03, fun a b => a * b), (.mulh, 0x04, fun a b => BitVec.ofInt 64 ((a.toInt * b.toInt) >>> 64)),
   (.mulhu, 0x05, fun a b => BitVec.ofNat 64 ((a.toNat * b.toNat) >>> 64)), (.and, 0x0A, fun a b => a &&& b), (.or, 0x0B, fun a b => a ||| b),
   (.xor, 0x0C, fun a b => a ^^^ b), (.andn, 0x0D, fun a b => a &&& ~~~b), (.shl, 0x0E, fun a b => a <<< (b.toNat % 64)),
   (.shr, 0x0F, fun a b => a >>> (b.toNat % 64)), (.sra, 0x10, fun a b => a.sshiftRight (b.toNat % 64)),
   (.ror, 0x11, fun a b => a.rotateRight (b.toNat % 64)), (.minu, 0x14, fun a b => if a.toNat ≤ b.toNat then a else b),
   (.maxu, 0x15, fun a b => if a.toNat ≤ b.toNat then b else a), (.cmpeq, 0x16, fun a b => if a = b then 1 else 0),
   (.cmplt, 0x17, fun a b => if a.toInt < b.toInt then 1 else 0), (.cmpltu, 0x18, fun a b => if a.toNat < b.toNat then 1 else 0),
   (.clz, 0x1A, fun a _ => clz a), (.ctz, 0x1B, fun a _ => ctz a), (.popc, 0x1C, fun a _ => popc a)]

/-- ADD, SUB, MIN and MAX act on one lane of 64 bits with W = 0 and on two of 32 bits with W = 1 (R133). -/
def Obligations.IntegerLanes : Prop :=
  ∀ (s : State) (site : Site) (x : SInstr) (rd ra rb : BitVec 5) (rm : BitVec 3) (w : BitVec 2), x.f = .r rd ra rb rm w →
    ∀ e ∈ ([(.add, 0x01, fun n a b => (a + b) % 2 ^ n), (.sub, 0x02, fun n a b => (a + (2 ^ n - b)) % 2 ^ n),
            (.min, 0x12, fun n a b => if toInt n b < toInt n a then b else a),
            (.max, 0x13, fun n a b => if toInt n a < toInt n b then b else a)] : List ((Site → Instr) × Nat × (Nat → Nat → Nat → Nat))),
      s.blk.CanIssue site e.2.1 x → ∃ v : W64, Computes (e.1 site) s site (fun sl => sl.wr rd v) ∧
        (w = 0 → v.toNat = e.2.2 64 ((s.blk.slotAt site).rd ra).toNat ((s.blk.slotAt site).rd rb).toNat) ∧
        (w = 1 → ∀ k < 2, lane 32 v k = e.2.2 32 (lane 32 ((s.blk.slotAt site).rd ra) k) (lane 32 ((s.blk.slotAt site).rd rb) k))

/-- I-form instructions with the value they give RD, from RA, the immediate and RD as it stands (R128, R130, R133). -/
def Sys2Proof.Machine.iValues : List ((Site → Instr) × Nat × (W64 → W64 → W64 → W64)) :=
  [(.addi, 0x20, fun a i _ => a + i), (.andi, 0x21, fun a i _ => a &&& i), (.ori, 0x22, fun a i _ => a ||| i),
   (.xori, 0x23, fun a i _ => a ^^^ i), (.shli, 0x24, fun a i _ => a <<< (i.toNat % 64)), (.shri, 0x25, fun a i _ => a >>> (i.toNat % 64)),
   (.srai, 0x26, fun a i _ => a.sshiftRight (i.toNat % 64)), (.cmpeqi, 0x27, fun a i _ => if a = i then 1 else 0),
   (.cmplti, 0x28, fun a i _ => if a.toInt < i.toInt then 1 else 0), (.cmpltui, 0x29, fun a i _ => if a.toNat < i.toNat then 1 else 0),
   (.lih, 0x2A, fun a i _ => BitVec.ofNat 64 (a.toNat % 2 ^ 32 + i.toNat % 2 ^ 32 * 2 ^ 32)),
   (.bfx, 0x2B, fun a i _ => BitVec.ofNat 64 (a.toNat / 2 ^ bits i.toNat 5 0 % 2 ^ min (bits i.toNat 12 6) 64)), (.bfi, 0x2C, bfi),
   (.li, 0x2D, fun _ i _ => i)]

/-- Every R-form integer instruction of `rValues`, and SEL, writes RD with the value of R130 and goes on; nothing else changes.
Every I-form instruction of `iValues` writes RD with the value of R130 and R133; the immediate is the 13-bit field, or the extension
word, sign-extended (R128).
The leading zeros, trailing zeros and ones of a value are what their names say: CLZ counts the zeros above the highest one, CTZ those
below the lowest, both 64 for 0, and POPC counts the ones.
BFI replaces the field of RD that starts at bit [5:0] of the immediate and is [12:6] long with the low bits of RA, and leaves every
other bit of RD (R133). -/
def Obligations.IntegerOps : Prop :=
  (
    (
      ∀ (s : State) (site : Site) (x : SInstr) (rd ra rb : BitVec 5) (rm : BitVec 3) (w : BitVec 2), x.f = .r rd ra rb rm w →
        (∀ e ∈ rValues, s.blk.CanIssue site e.2.1 x →
          Computes (e.1 site) s site fun sl => sl.wr rd (e.2.2 (sl.rd ra) (sl.rd rb))) ∧
        (s.blk.CanIssue site 0x19 x → Computes (.sel site) s site fun sl => sl.wr rd (if sl.rd rd ≠ 0 then sl.rd ra else sl.rd rb))
    ) ∧
    (
      ∀ (s : State) (site : Site) (x : SInstr) (rd ra : BitVec 5) (imm : BitVec 13) (ext : Option W32), x.f = .i rd ra imm ext →
        ∀ e ∈ iValues, s.blk.CanIssue site e.2.1 x →
          Computes (e.1 site) s site fun sl =>
            sl.wr rd (e.2.2 (sl.rd ra) (match ext with | none => imm.signExtend 64 | some v => v.signExtend 64) (sl.rd rd))
    )
  ) ∧
  (
    (
      ∀ a : W64, (a = 0 → clz a = 64 ∧ ctz a = 64 ∧ popc a = 0) ∧
        (a ≠ 0 → (clz a).toNat < 64 ∧ a.getLsbD (63 - (clz a).toNat) = true ∧ (∀ i, 63 - (clz a).toNat < i → a.getLsbD i = false) ∧
          (ctz a).toNat < 64 ∧ a.getLsbD (ctz a).toNat = true ∧ (∀ i, i < (ctz a).toNat → a.getLsbD i = false)) ∧
        (popc a).toNat = ((List.range 64).filter fun i => a.getLsbD i).length
    ) ∧
    (
      ∀ (ra imm rd : W64) (i : Nat), i < 64 →
        (bfi ra imm rd).getLsbD i =
          (if bits imm.toNat 5 0 ≤ i ∧ i < bits imm.toNat 5 0 + min (bits imm.toNat 12 6) 64 then ra.getLsbD (i - bits imm.toNat 5 0)
           else rd.getLsbD i)
    )
  )

/-- DIV, DIVU, REM and REMU start the divider, and DIVIDER_FINISH delivers RD and the flags (R165, R184, R185, R190): the quotient truncated
toward zero and the remainder of the dividend's sign; 0 or the dividend with IDZ where the divisor is 0; the dividend or 0 with OV where
−2⁶³ is divided by −1. -/
def Obligations.Division : Prop :=
  (∀ (s : State) (site : Site) (x : SInstr) (rd ra rb : BitVec 5) (rm : BitVec 3) (w : BitVec 2), x.f = .r rd ra rb rm w →
    ∀ e ∈ ([(.div, 0x06, true, false), (.divu, 0x07, false, false), (.rem, 0x08, true, true), (.remu, 0x09, false, true)] :
        List ((Site → Instr) × Nat × Bool × Bool)), s.blk.CanIssue site e.2.1 x →
      ∃ r f, intDiv e.2.2.1 e.2.2.2 ((s.blk.slotAt site).rd ra).toNat ((s.blk.slotAt site).rd rb).toNat = (r, f) ∧
        Issues (e.1 site) s site (advance (s.blk.q site.q) (s.blk.wordAt site) (s.blk.slotAt site).charged) (s.blk.peAt site).memq
          (some { slot := site.slot, rd := rd.toNat, result := BitVec.ofNat 64 r, flags := f })) ∧
  (∀ a b : Nat, a < 2 ^ 64 → b < 2 ^ 64 →
    (b = 0 → ∀ sg, intDiv sg false a b = (0, fIDZ) ∧ intDiv sg true a b = (a, fIDZ)) ∧
    (b ≠ 0 → intDiv false false a b = (a / b, 0) ∧ intDiv false true a b = (a % b, 0)) ∧
    (a = 2 ^ 63 → b = 2 ^ 64 - 1 → intDiv true false a b = (a, fOV) ∧ intDiv true true a b = (0, fOV)) ∧
    (b ≠ 0 → ¬(a = 2 ^ 63 ∧ b = 2 ^ 64 - 1) →
      intDiv true false a b = (ofInt 64 ((toInt 64 a).tdiv (toInt 64 b)), 0) ∧
      intDiv true true a b = (ofInt 64 ((toInt 64 a).tmod (toInt 64 b)), 0))) ∧
  (∀ (s : State) (q : Fin 68) (pe : Fin 16) (d : DivOp), s.blk.qRuns q = true → ((s.blk.q q).pe pe).div = some d →
    ((s.blk.q q).slot pe d.slot).ended = false →
    ∃ t, Completes (.dividerFinish q pe) s t ∧ ((t.q q).pe pe).div = none ∧
      (t.q q).slot pe d.slot = { (s.blk.q q).slot pe d.slot with
        v := SMap.put ((s.blk.q q).slot pe d.slot).v d.rd d.result, flags := ((s.blk.q q).slot pe d.slot).flags ||| d.flags })

/-- The floating-point instructions that deliver at once, with what they make of a lane: a format, the rounding mode, FTZ, and the
operands RA, RB and RD as encodings after DAZ (R133, R164, R173 to R178, R182). -/
def Sys2Proof.Machine.fpLanes : List ((Site → Instr) × Nat × (Fmt → RMode → Bool → Nat → Nat → Nat → Nat × Nat)) :=
  [(.fadd, 0x30, fun f m z a b _ => f.add m z (f.val a) (f.val b)), (.fsub, 0x31, fun f m z a b _ => f.add m z (f.val a) (f.val b).neg),
   (.fmul, 0x32, fun f m z a b _ => f.mul m z (f.val a) (f.val b)),
   (.fma, 0x35, fun f m z a b c => f.fma m z (f.val a) (f.val b) (f.val c) false),
   (.fms, 0x36, fun f m z a b c => f.fma m z (f.val a) (f.val b) (f.val c).neg false),
   (.fnma, 0x37, fun f m z a b c => f.fma m z (f.val a) (f.val b) (f.val c) true),
   (.fnms, 0x38, fun f m z a b c => f.fma m z (f.val a) (f.val b) (f.val c).neg true),
   (.fmin, 0x39, fun f _ _ a b _ => f.minmax false a b), (.fmax, 0x3A, fun f _ _ a b _ => f.minmax true a b),
   (.frint, 0x43, fun f m z a _ _ => f.rint m z a)]

/-- The lane-wise floating-point instructions write RD lane by lane and OR the lanes' flags into FLAGS: those of `fpLanes` with DAZ, and
FABS, FNEG and FCLASS without (R173, R178); FCMPEQ, FCMPLT, FCMPLE and FCMPUN give 1 or 0 with W = 0 and all ones or zeros in each lane
otherwise (R133, R176); FCVT converts the low bits of RA as RB says (R134).
The sign operations, FCLASS and the comparisons on single encodings of every format, and the rules for NaNs and signed zeros: FABS
clears and FNEG inverts the sign bit alone; an FCMPEQ of a number with itself is true unless it is a NaN; FMIN of −0 and +0 is −0 and FMAX
is +0; a NaN operand makes FADD, FMUL and FMA the canonical NaN; x / 0 is an infinity with DZ for finite non-zero x, and 0 / 0, ∞ − ∞ and
0 × ∞ are the canonical NaN with NV (R168, R169, R174 to R178). -/
def Obligations.FloatingPoint : Prop :=
  (
    ∀ (s : State) (site : Site) (x : SInstr) (rd ra rb : BitVec 5) (rm : BitVec 3) (w : BitVec 2), x.f = .r rd ra rb rm w →
      let sl := s.blk.slotAt site
      let fm := laneFmt w.toNat
      let z := fm.daz sl.daz
      (∀ e ∈ fpLanes, s.blk.CanIssue site e.2.1 x →
        ∃ r, onLanes w.toNat (fun a b c => e.2.2 fm (sl.round rm) sl.ftz (z a) (z b) (z c)) (sl.rd ra) (sl.rd rb) (sl.rd rd) = r ∧
          Computes (e.1 site) s site fun y => (y.wr rd r.1).flag r.2) ∧
      (∀ e ∈ ([(.fabs, 0x3F, fun a => a % 2 ^ (fm.width - 1)), (.fneg, 0x40, fun a => a ^^^ 2 ^ (fm.width - 1)),
               (.fclass, 0x41, fm.classify)] : List ((Site → Instr) × Nat × (Nat → Nat))), s.blk.CanIssue site e.2.1 x →
        ∃ r, onLanes w.toNat (fun a _ _ => (e.2.2 a, 0)) (sl.rd ra) (sl.rd rb) (sl.rd rd) = r ∧
          Computes (e.1 site) s site fun y => (y.wr rd r.1).flag r.2) ∧
      (∀ e ∈ ([(.fcmpeq, 0x3B, 0), (.fcmplt, 0x3C, 1), (.fcmple, 0x3D, 2), (.fcmpun, 0x3E, 3)] : List ((Site → Instr) × Nat × Nat)),
        s.blk.CanIssue site e.2.1 x →
        ∃ r, onLanes w.toNat (fun a b _ => let c := fcmp e.2.2 (fm.val (z a)) (fm.val (z b))
            (if c.1 then (if w = 0 then 1 else 2 ^ laneBits w.toNat - 1) else 0, c.2)) (sl.rd ra) (sl.rd rb) 0 = r ∧
          Computes (e.1 site) s site fun y => (y.wr rd r.1).flag r.2) ∧
      (s.blk.CanIssue site 0x42 x →
        ∃ r, fcvt (sl.round rm) sl.ftz sl.daz rb.toNat (sl.rd ra).toNat = r ∧
          Computes (.fcvt site) s site fun y => (y.wr rd (BitVec.ofNat 64 r.1)).flag r.2) ∧
      (∀ e ∈ ([(.fdiv, 0x33, fun f m z a b => f.div m z (f.val a) (f.val b)), (.fsqrt, 0x34, fun f m z a _ => f.sqrt m z (f.val a))] :
          List ((Site → Instr) × Nat × (Fmt → RMode → Bool → Nat → Nat → Nat × Nat))), s.blk.CanIssue site e.2.1 x →
        ∃ r, onLanes w.toNat (fun a b _ => e.2.2 fm (sl.round rm) sl.ftz (z a) (z b)) (sl.rd ra) (sl.rd rb) 0 = r ∧
          Issues (e.1 site) s site (advance (s.blk.q site.q) (s.blk.wordAt site) sl.charged) (s.blk.peAt site).memq
            (some { slot := site.slot, rd := rd.toNat, result := r.1, flags := r.2 }))
  ) ∧
  (
    ∀ f ∈ [f64, f32, f16], ∀ (mode : RMode) (ftz : Bool),
      f.val f.nan = .nan false ∧
      (∀ x, x < 2 ^ f.width → f.sign (x ^^^ 2 ^ (f.width - 1)) = !f.sign x ∧ f.sign (x % 2 ^ (f.width - 1)) = false ∧
        f.expo (x ^^^ 2 ^ (f.width - 1)) = f.expo x ∧ f.frac (x ^^^ 2 ^ (f.width - 1)) = f.frac x) ∧
      (∀ v : FVal, (fcmp 0 v v).1 = !v.isNan) ∧
      f.minmax false (f.zero true) (f.zero false) = (f.zero true, 0) ∧ f.minmax true (f.zero true) (f.zero false) = (f.zero false, 0) ∧
      (∀ (g : Bool) (v w : FVal), (f.add mode ftz (.nan g) v).1 = f.nan ∧ (f.mul mode ftz (.nan g) v).1 = f.nan ∧
        ∀ n, (f.fma mode ftz (.nan g) v w n).1 = f.nan) ∧
      (∀ (s t : Bool) (m : Nat) (e e' : Int), m ≠ 0 → f.div mode ftz (.fin s m e) (.fin t 0 e') = (f.inf (s != t), fDZ)) ∧
      (∀ (s t : Bool) (e e' : Int), f.div mode ftz (.fin s 0 e) (.fin t 0 e') = (f.nan, fNV) ∧
        f.mul mode ftz (.inf s) (.fin t 0 e) = (f.nan, fNV) ∧ f.add mode ftz (.inf s) (.inf !s) = (f.nan, fNV))
  )

/-- What a rounding delivers is a multiple of the last place next to the exact value: never more than one last place away, on the side the
mode names, and exact where the value is a multiple (R167). -/
def Obligations.RoundingIsClose : Prop :=
  ∀ (mode : RMode) (neg : Bool) (m r : Nat) (q : Int),
    let n := (roundAt mode neg m (q - r) q).1
    (m ≤ n * 2 ^ r → n * 2 ^ r - m < 2 ^ r) ∧ (n * 2 ^ r ≤ m → m - n * 2 ^ r < 2 ^ r) ∧
    ((roundAt mode neg m (q - r) q).2 = false ↔ n * 2 ^ r = m) ∧
    (mode = .rtz → n * 2 ^ r ≤ m) ∧ (mode = .rup → neg = false → m ≤ n * 2 ^ r) ∧ (mode = .rdn → neg = true → m ≤ n * 2 ^ r) ∧
    (mode = .rne ∨ mode = .rmm → 2 * (n * 2 ^ r) ≤ 2 * m + 2 ^ r ∧ 2 * m ≤ 2 * (n * 2 ^ r) + 2 ^ r) ∧
    (mode = .rne → 2 * (n * 2 ^ r) = 2 * m + 2 ^ r ∨ 2 * m = 2 * (n * 2 ^ r) + 2 ^ r → n % 2 = 0)

/-- The branches with their conditions (R142). -/
def Sys2Proof.Machine.branches : List ((Site → Instr) × Nat × (W64 → W64 → Bool)) :=
  [(.beq, 0x70, fun a b => a == b), (.bne, 0x71, fun a b => a != b), (.blt, 0x72, fun a b => decide (a.toInt < b.toInt)),
   (.bge, 0x73, fun a b => decide (b.toInt ≤ a.toInt)), (.bltu, 0x74, fun a b => decide (a.toNat < b.toNat)),
   (.bgeu, 0x75, fun a b => decide (b.toNat ≤ a.toNat)), (.beqz, 0x76, fun a _ => a == 0), (.bnez, 0x77, fun a _ => a != 0),
   (.bltz, 0x78, fun a _ => decide (a.toInt < 0)), (.bgez, 0x79, fun a _ => decide (0 ≤ a.toInt))]


/-- A taken branch goes to its own address plus OFF, modulo 2¹⁵; one not taken goes on; JMP and JR go to their target. No register but the
PC changes (R142).
CALL and CALLR with SP not below SLIM + 8 set SP := SP − 8, store the address of the next instruction at SP as an ST does, and jump;
RET loads the word at SP, sets SP := SP + 8, and waits; LOAD_RETURN then delivers a sound word, and the slot goes on at its bits [14:0]
(R143). Below SLIM + 8 they are strand faults of cause STACK. -/
def Obligations.BranchesAndCalls : Prop :=
  (
    ∀ (s : State) (site : Site) (x : SInstr),
      let sl := s.blk.slotAt site
      (∀ e ∈ branches, ∀ (ra rb : BitVec 5) (off : BitVec 14), x.f = .b ra rb off → s.blk.CanIssue site e.2.1 x →
        (e.2.2 (sl.rd ra) (sl.rd rb) = true →
          Issues (e.1 site) s site { sl.charged with pc := (((sl.pc : Int) + off.toInt) % 32768).toNat } (s.blk.peAt site).memq (s.blk.peAt site).div) ∧
        (e.2.2 (sl.rd ra) (sl.rd rb) = false → Computes (e.1 site) s site id)) ∧
      (∀ target : BitVec 15, x.f = .j target → s.blk.CanIssue site 0x7A x →
        Issues (.jmp site) s site { sl.charged with pc := target.toNat } (s.blk.peAt site).memq (s.blk.peAt site).div) ∧
      (∀ (ra rb : BitVec 5) (off : BitVec 14), x.f = .b ra rb off → s.blk.CanIssue site 0x7B x →
        Issues (.jr site) s site { sl.charged with pc := (sl.rd ra).toNat % 32768 } (s.blk.peAt site).memq (s.blk.peAt site).div)
  ) ∧
  (
    ∀ (s : State) (site : Site) (x : SInstr),
      let sl := s.blk.slotAt site
      let p := s.blk.peAt site
      (∀ (c : Instr) (op target : Nat),
        ((∃ t, x.f = .j t ∧ c = .call site ∧ op = 0x7C ∧ target = t.toNat) ∨
         (∃ ra rb off, x.f = .b ra rb off ∧ c = .callr site ∧ op = 0x7D ∧ target = (sl.rd ra).toNat % 32768)) →
        s.blk.CanIssue site op x →
        (∀ k word, sl.slim + 8 ≤ sl.sp → sl.sp < 2 ^ 24 → sl.sp % 8 = 0 → frameWindow (BitVec.ofNat 64 (sl.sp - 8)) = some (k, word) →
          p.storesFull = false →
          Issues c s site { sl.charged with sp := sl.sp - 8, pc := target }
            (p.memq ++ [⟨site.slot, (if k = 0 then .st else if k = 1 then .stOr else .stAnd), word, BitVec.ofNat 64 (sl.sp - 8), 0, BitVec.ofNat 64 ((sl.pc + 1) % 32768), sl.pc, sl.serial⟩]) p.div) ∧
        (sl.sp < sl.slim + 8 →
          Completes c s ((s.blk.issueCounted site.q site.pe site.slot).strandFault site.q site.pe site.slot 2 sl.pc sl.sp))) ∧
      (∀ k word, s.blk.CanIssue site 0x7E x → sl.sp % 8 = 0 → frameWindow (BitVec.ofNat 64 sl.sp) = some (k, word) → sl.sp < 2 ^ 24 →
        Issues (.ret site) s site { sl.charged with sp := (sl.sp + 8) % 2 ^ 24, pc := sl.pc % 32768 }
          (p.memq ++ [⟨site.slot, .ret, word, BitVec.ofNat 64 sl.sp, 0, 0, sl.pc, sl.serial⟩]) p.div) ∧
      (∀ (m : MemOp) (rest : List MemOp), s.blk.qRuns site.q = true → findLoad site.slot [] p.memq = some (m, rest) → m.kind = .ret →
        (s.blk.q site.q).bankTurn (m.word % 8) site.pe = true → ((s.blk.q site.q).fw m.word).bad = false → s.blk.rf 0x300044 15 0 = 0 →
        sl.ended = false → sl.fence = false →
        ∃ t, Completes (.loadReturn site 0) s t ∧ (t.slotAt site).pc = ((s.blk.q site.q).fw m.word).data.toNat % 32768 ∧
          (t.peAt site).memq = rest)
  )

/-- LOOP and LOOPI set LSTART, LEND and LCOUNT of their loop and make it active; with a count of 0 the loop is inactive and control goes
to its exit address. LBRK makes its loop inactive and goes to its exit address (R145, R149). REP and REPR latch their count, and a count of
0 skips the next instruction (R150).
What completing an instruction does to the PC and the loops (R146, R147, R150): with no REP and no active loop that ends here, PC moves
past the instruction; inside a REP with repetitions left, PC stays and one fewer is left; at the LEND of one active loop alone, LCOUNT falls
by 1 and PC goes back to LSTART while it is not 0, and otherwise the loop exits. -/
def Obligations.HardwareLoops : Prop :=
  (
    ∀ (s : State) (site : Site) (x : SInstr),
      let sl := s.blk.slotAt site
      let p := s.blk.peAt site
      let q := s.blk.q site.q
      (∀ (c : Instr) (op n count len : Nat),
        ((∃ k rc l, x.f = .loop k rc l ∧ c = .loop site ∧ op = 0x80 ∧ n = k.toNat ∧ count = (sl.rd rc).toNat % 2 ^ 32 ∧ len = l.toNat) ∨
         (∃ k cnt l, x.f = .loopi k cnt l ∧ c = .loopi site ∧ op = 0x81 ∧ n = k.toNat ∧ count = cnt.toNat ∧ len = l.toNat)) →
        s.blk.CanIssue site op x →
        let l : Loop := { start := (sl.pc + 1) % 32768, stop := (sl.pc + len) % 32768, count := count, active := decide (count ≠ 0) }
        (count ≠ 0 → Computes c s site fun y => y.setLoop n l) ∧
        (count = 0 → Issues c s site { sl.charged.setLoop n l with pc := q.exitAddr ((sl.pc + len) % 32768) % 32768 } p.memq p.div)) ∧
      (∀ n, x.f = .lbrk n → s.blk.CanIssue site 0x82 x →
        Issues (.lbrk site) s site
          { sl.charged.setLoop n.toNat { sl.loop n.toNat with active := false } with pc := q.exitAddr (sl.loop n.toNat).stop % 32768 }
          p.memq p.div) ∧
      (∀ (c : Instr) (op count : Nat),
        ((∃ k, x.f = .rep k ∧ c = .rep site ∧ op = 0x83 ∧ count = k.toNat) ∨ (c = .repr site ∧ op = 0x84 ∧ count = sl.rcnt)) →
        s.blk.CanIssue site op x →
        (count ≠ 0 → Issues c s site { sl.charged with pc := (sl.pc + 1) % 32768, rep := some { addr := sl.pc, left := count } } p.memq p.div) ∧
        (count = 0 → ∃ y, Issues c s site y p.memq p.div ∧ ((∀ n < 4, (sl.loop n).active = false) →
          y.pc = ((sl.pc + 1) % 32768 + wordLength (q.word ((sl.pc + 1) % 32768))) % 32768)))
  ) ∧
  (
    ∀ (q : Quarter) (w : W32) (s : Slot),
      (s.rep = none → (∀ n < 4, (s.loop n).active = true → (s.loop n).stop ≠ s.pc) →
        advance q w s = { s with pc := (s.pc + wordLength w) % 32768 }) ∧
      (∀ r, s.rep = some r → 1 < r.left → advance q w s = { s with rep := some { r with left := r.left - 1 } }) ∧
      (∀ n < 4, s.rep = none → (s.loop n).active = true → (s.loop n).stop = s.pc →
        (∀ m < 4, m ≠ n → (s.loop m).active = true → (s.loop m).stop ≠ s.pc) →
        (1 < (s.loop n).count →
          (advance q w s).pc = (s.loop n).start ∧ ((advance q w s).loop n).count = (s.loop n).count - 1 ∧ ((advance q w s).loop n).active = true) ∧
        ((s.loop n).count ≤ 1 → (advance q w s).pc = q.exitAddr s.pc ∧ ((advance q w s).loop n).active = false ∧
          ((advance q w s).loop n).count = (s.loop n).count - 1))
  )

/-- MFS reads and MTS writes the special registers of R125 (R126): MFS gives RD the register's value; MTS to LSTART, LEND and LCOUNT of a
loop, RCNT, SP, SLIM, FPCTL and FLAGS stores the low bits of RA, and to BUDGET the smaller of RA and the current value. -/
def Obligations.SpecialRegisters : Prop :=
  (∀ (s : State) (site : Site) (x : SInstr) (rd sr : BitVec 5), x.f = .mfs rd sr → s.blk.CanIssue site 0x85 x →
    Computes (.mfs site) s site fun y => y.wr rd (BitVec.ofNat 64 (y.special (selfWord s.blk site.q site.pe site.slot) sr.toNat))) ∧
  (∀ (s : State) (site : Site) (x : SInstr) (sr ra : BitVec 5), x.f = .mts sr ra → s.blk.CanIssue site 0x86 x →
    Computes (.mts site) s site fun y => y.setSpecial sr.toNat (y.rd ra).toNat) ∧
  (∀ (y : Slot) (self v : Nat),
    (∀ n < 4, ((y.setSpecial n v).special self n = v % 2 ^ 15) ∧ ((y.setSpecial (n + 4) v).special self (n + 4) = v % 2 ^ 15) ∧
      ((y.setSpecial (n + 8) v).special self (n + 8) = v % 2 ^ 32)) ∧
    (y.setSpecial 12 v).special self 12 = v % 2 ^ 12 ∧ (y.setSpecial 13 v).special self 13 = v % 2 ^ 24 ∧
    (y.setSpecial 14 v).special self 14 = v % 2 ^ 24 ∧ (y.setSpecial 15 v).special self 15 = v % 8 ∧
    (y.setSpecial 16 v).special self 16 = v &&& 0x31F ∧
    (y.setSpecial 17 v).special self 17 = min (v % 2 ^ 32) (y.special self 17) ∧
    y.special self 19 = self ∧ y.special self 20 = y.epoch ∧ y.special self 22 = y.mode)

/-- NOP only goes on; FENCE holds its slot exactly while one of its stores has not reached its bank (R154); HALT ends the strand (R155);
TRAP is a strand fault of cause TRAP with its CODE (R156); a word with an undefined opcode is a strand fault of cause ILLEGAL that counts
neither against BUDGET nor in ISSUED (R132). -/
def Obligations.FenceHaltTrap : Prop :=
  ∀ (s : State) (site : Site) (x : SInstr),
    let sl := s.blk.slotAt site
    let p := s.blk.peAt site
    (s.blk.CanIssue site 0x8A x → Computes (.nop site) s site id) ∧
    (s.blk.CanIssue site 0x87 x → Computes (.fence site) s site fun y => { y with fence := p.storing site.slot }) ∧
    (s.blk.CanIssue site 0x89 x → ∃ t, Completes (.halt site) s t ∧ t.mem = s.blk.mem ∧ t.hub = s.blk.hub ∧
      (t.slotAt site = Slot.free ∨ (t.slotAt site).ended = true)) ∧
    (∀ code, x.f = .trap code → s.blk.CanIssue site 0x88 x →
      Completes (.trap site) s ((s.blk.issueCounted site.q site.pe site.slot).strandFault site.q site.pe site.slot 8 sl.pc code.toNat)) ∧
    (s.blk.qRuns site.q = true → (s.blk.q site.q).offered site.pe site.slot = true → shapeOf (opOf (s.blk.wordAt site)).toNat = none →
      Completes (.undefinedOpcode site) s
        ((s.blk.markLast site.q site.pe site.slot).strandFault site.q site.pe site.slot 1 sl.pc (s.blk.wordAt site).toNat))

/-- An instruction that would issue with BUDGET at 0 does not issue: its strand ends with a fault of cause BUDGET (R157). Said of every
strand instruction, through the issue they share; one that its place in a queue or table holds would not issue, and holds (R138, R198).
A strand fault counts in the SF_CNT of its cause; with VALID at 0 it captures cause, PE, slot, PC, TAG and DETAIL and sets VALID, and
with VALID at 1 it leaves the capture as it is (R159, R161); the context is flagged FAULTED and the strand ends. -/
def Obligations.StrandFaults : Prop :=
  (
    ∀ (b : Block) (site : Site) (op : Nat) (x : SInstr) (body : Block → Quarter → PE → Slot → SInstr → Body),
      b.qRuns site.q = true → (b.q site.q).offered site.pe site.slot = true → (opOf (b.wordAt site)).toNat = op →
      decodeStrand (b.wordAt site) ((b.q site.q).word ((b.slotAt site).pc + 1)) = some x →
      (x.reads ++ x.writes).any ((b.q site.q).outstanding site.pe site.slot).contains = false →
      (usesDivider op = true → (b.peAt site).div = none) → (touchesFlags x = true → (b.peAt site).divides site.slot = false) →
      (b.slotAt site).limited = true → (b.slotAt site).budget = 0 →
      (body b (b.q site.q) (b.peAt site) (b.slotAt site).charged x ≠ .hold →
        issue op site body b = b.strandFault site.q site.pe site.slot 3 (b.slotAt site).pc 0) ∧
      (body b (b.q site.q) (b.peAt site) (b.slotAt site).charged x = .hold → issue op site body b = b)
  ) ∧
  (
    ∀ (b : Block) (q pe slot cause pc detail : Nat), q < 68 → pe < 16 → slot < 8 → 1 ≤ cause → cause ≤ 8 → pc < 32768 → detail < 2 ^ 32 →
      let t := b.strandFault q pe slot cause pc detail
      let tag := ((b.q q).slot pe slot).tag
      (∀ k < 8, t.reg (qOff q (0x2040 + 4 * k)) =
        if k + 1 = cause then satAdd (b.reg (qOff q (0x2040 + 4 * k))) 1 else b.reg (qOff q (0x2040 + 4 * k))) ∧
      (b.rf (qOff q 0x2010) 15 15 = 0 →
        t.rf (qOff q 0x2010) 31 28 = cause ∧ t.rf (qOff q 0x2010) 27 24 = pe ∧ t.rf (qOff q 0x2010) 23 21 = slot ∧
        t.rf (qOff q 0x2010) 15 15 = 1 ∧ t.rf (qOff q 0x2010) 14 0 = pc ∧
        t.reg (qOff q 0x2014) = tag.toNat % 2 ^ 32 ∧ t.reg (qOff q 0x2018) = tag.toNat / 2 ^ 32 ∧ t.reg (qOff q 0x201C) = detail) ∧
      (b.rf (qOff q 0x2010) 15 15 ≠ 0 → ∀ o ∈ [0x2010, 0x2014, 0x2018, 0x201C], t.reg (qOff q o) = b.reg (qOff q o)) ∧
      ((t.q q).slot pe slot = Slot.free ∨ ((t.q q).slot pe slot).ended = true)
  )

/-- The memory instructions issue one access with the effective address of R135: LD and LDD a load into RD, ST, STW and MKE a store of RD,
BSET and BCLR a read-modify-write; an ST through an alias is the atomic OR or AND-NOT (R136). An address outside the windows is an ADDRESS
fault, one inside but not a multiple of 8 an ALIGN fault.
The windows of R135: an address below 0x100000, or in an alias at 0x400000 or 0x800000, names the word at its offset divided by 8; any
other is an ADDRESS fault, tested before ALIGN. -/
def Obligations.MemoryAccesses : Prop :=
  (
    ∀ (s : State) (site : Site) (x : SInstr),
      let sl := s.blk.slotAt site
      let p := s.blk.peAt site
      let go (y : Slot) := advance (s.blk.q site.q) (s.blk.wordAt site) y
      (∀ (rd ra : BitVec 5) (imm : BitVec 13) (ext : Option W32), x.f = .i rd ra imm ext →
        let ea : W64 := sl.rd ra + immOf imm ext
        (∀ k word, frameWindow ea = some (k, word) → ea.toNat % 8 = 0 →
          (s.blk.CanIssue site 0x50 x →
            Issues (.ld site) s site (go sl.charged) (p.memq ++ [⟨site.slot, .ld, word, ea, rd.toNat, 0, sl.pc, sl.serial⟩]) p.div) ∧
          (s.blk.CanIssue site 0x51 x → k = 0 → (s.blk.q site.q).parkOcc < 4096 →
            Issues (.ldd site) s site (go sl.charged) (p.memq ++ [⟨site.slot, .ldd, word, ea, rd.toNat, 0, sl.pc, sl.serial⟩]) p.div) ∧
          (p.storesFull = false → ∀ e ∈ ([(.st, 0x52, if k = 0 then .st else if k = 1 then .stOr else .stAnd, true),
                (.stw, 0x53, .stw, false), (.mke, 0x54, .mke, false)] : List ((Site → Instr) × Nat × MemKind × Bool)),
            s.blk.CanIssue site e.2.1 x → (k = 0 ∨ e.2.2.2 = true) →
            Issues (e.1 site) s site (go sl.charged) (p.memq ++ [⟨site.slot, e.2.2.1, word, ea, 0, sl.rd rd, sl.pc, sl.serial⟩]) p.div)) ∧
        (∀ e ∈ ([(.ld, 0x50, true), (.ldd, 0x51, false), (.st, 0x52, true), (.stw, 0x53, false), (.mke, 0x54, false)] :
            List ((Site → Instr) × Nat × Bool)), s.blk.CanIssue site e.2.1 x → ∀ cause, frameFault ea e.2.2 = some cause →
          Completes (e.1 site) s ((s.blk.issueCounted site.q site.pe site.slot).strandFault site.q site.pe site.slot cause sl.pc
            (ea.toNat % 2 ^ 32)))) ∧
      (∀ (rd ra rb : BitVec 5) (rm : BitVec 3) (w : BitVec 2) (word : Nat), x.f = .r rd ra rb rm w → frameWindow (sl.rd ra) = some (0, word) →
        (sl.rd ra).toNat % 8 = 0 → p.storesFull = false →
        ∀ e ∈ ([(.bset, 0x55, .bset), (.bclr, 0x56, .bclr)] : List ((Site → Instr) × Nat × MemKind)), s.blk.CanIssue site e.2.1 x →
          Issues (e.1 site) s site (go sl.charged) (p.memq ++ [⟨site.slot, e.2.2, word, sl.rd ra, rd.toNat, sl.rd rb, sl.pc, sl.serial⟩]) p.div)
  ) ∧
  (
    ∀ ea : W64,
      (ea.toNat < 0x100000 → frameWindow ea = some (0, ea.toNat / 8)) ∧
      (0x400000 ≤ ea.toNat → ea.toNat < 0x500000 → frameWindow ea = some (1, (ea.toNat - 0x400000) / 8)) ∧
      (0x800000 ≤ ea.toNat → ea.toNat < 0x900000 → frameWindow ea = some (2, (ea.toNat - 0x800000) / 8)) ∧
      ((0x100000 ≤ ea.toNat ∧ ea.toNat < 0x400000) ∨ (0x500000 ≤ ea.toNat ∧ ea.toNat < 0x800000) ∨ 0x900000 ≤ ea.toNat →
        frameWindow ea = none ∧ ∀ ok, frameFault ea ok = some 4) ∧
      (∀ k w, frameWindow ea = some (k, w) → w < 131072 ∧
        (frameFault ea true = none ↔ ea.toNat % 8 = 0) ∧ (ea.toNat % 8 ≠ 0 → frameFault ea true = some 5) ∧
        (k ≠ 0 → frameFault ea false = some 4))
  )

/-- The PE's oldest store is served by its bank now: its Quarter runs, neither a refused port B write nor a PENDING line holds it, the bank's
turn is the PE's, and no check is armed (R197, R201, R213, R418). -/
def Sys2Proof.Machine.Block.storeIs (b : Block) (q pe : Nat) (m : MemOp) (before after : List MemOp) : Prop :=
  b.qRuns q = true ∧ findStore [] ((b.q q).pe pe).memq = some (m, before, after) ∧
  (((b.q q).pbq.headD []).any fun w => w.word == m.word) = false ∧ (b.q q).pend.contains (m.word / 8) = false ∧
  (b.q q).bankTurn (m.word % 8) pe = true ∧ b.rf 0x300044 15 0 = 0

/-- The slot's next load is served by its bank now, and no check is armed (R197, R198, R418). -/
def Sys2Proof.Machine.Block.loadIs (b : Block) (site : Site) (m : MemOp) (rest : List MemOp) : Prop :=
  b.qRuns site.q = true ∧ findLoad site.slot [] (b.peAt site).memq = some (m, rest) ∧
  (b.q site.q).bankTurn (m.word % 8) site.pe = true ∧ b.rf 0x300044 15 0 = 0

/-- The reads parked on a word, as a write of `v` releases them (R206). -/
def Sys2Proof.Machine.Quarter.released (q : Quarter) (word : Nat) (v : W64) : List Release :=
  (q.park.filter fun e => e.word = word).map fun e => { who := e.who, value := v, bad := false }

/-- STORE_REACHES_BANK serves the PE's oldest store. ST, STW to a word that is not FULL, and an ST through an alias window store the
data (or the old word OR, or AND NOT, the data), set FULL, mark the line DIRTY and release the reads parked on the word with the value
stored, and a BROKEN code met there is counted; an STW to a FULL word writes nothing, counts WRITE_ONCE and ends its strand, if that still
runs; MKE sets EMPTY and leaves the value; BSET and BCLR write the word, leave presence, and keep the old word for RD. An alias store, BSET
or BCLR that meets an uncorrectable word writes nothing, counts it in FRM_UE and sets PSTATE of its strand. A store to a PENDING line waits,
and COW_HOLD counts it (R136, R204, R206, R209, R210, R213, R500).
LOAD_RETURN: a load returns its word to RD of a strand that still runs, with PSTATE where the word is uncorrectable or, for an LDD, its
presence BROKEN; an LDD that finds its word EMPTY parks, or waits at its bank while the park table is full (the model's choice, log entry
120); BSET and BCLR return their old word. PARK_RELEASE gives the strand the value the releasing write stored, or answers a READ_WAIT
with it (R136, R205, R206, R207). -/
def Obligations.StoresAndLoads : Prop :=
  (
    ∀ (s : State) (q : Fin 68) (pe : Fin 16) (m : MemOp) (before after : List MemOp),
      let b := s.blk
      let old := (b.q q).fw m.word
      (b.storeIs q pe m before after →
        (∀ v : W64, (m.kind = .st ∧ v = m.data) ∨ (m.kind = .stw ∧ old.pres ≠ 3 ∧ v = m.data) ∨
            (m.kind = .stOr ∧ old.bad = false ∧ v = old.data ||| m.data) ∨ (m.kind = .stAnd ∧ old.bad = false ∧ v = old.data &&& ~~~m.data) →
          ∃ t, Completes (.storeReachesBank q pe 0) s t ∧ (t.q q).fw m.word = { data := v, bad := false, pres := 3 } ∧
            (∀ w, w ≠ m.word → (t.q q).fw w = (b.q q).fw w) ∧ (t.q q).dirty.contains (m.word / 8) = true ∧
            ((t.q q).pe pe).memq = before ++ after ∧ (∀ e ∈ (t.q q).park, e.word ≠ m.word) ∧
            (t.q q).releases = (b.q q).releases ++ (b.q q).released m.word v ∧
            (old.pres = 1 ∨ old.pres = 2 → t.reg (frmCnt q 2) = satAdd (b.reg (frmCnt q 2)) 1) ∧ t.mem = b.mem) ∧
        (m.kind = .mke → ∃ t, Completes (.storeReachesBank q pe 0) s t ∧ (t.q q).fw m.word = { old with pres := 0 } ∧
          (∀ w, w ≠ m.word → (t.q q).fw w = (b.q q).fw w) ∧ (t.q q).dirty.contains (m.word / 8) = true ∧
          ((t.q q).pe pe).memq = before ++ after ∧ (t.q q).releases = (b.q q).releases ∧ t.mem = b.mem) ∧
        (m.kind = .stw → old.pres = 3 →
          let sl := (b.q q).slot pe m.slot
          ∃ t, Completes (.storeReachesBank q pe 0) s t ∧ (t.q q).frame = (b.q q).frame ∧
            (sl.busy = true → sl.ended = false → sl.serial = m.serial → t.reg (qOff q 0x2054) = satAdd (b.reg (qOff q 0x2054)) 1 ∧
              ((t.q q).slot pe m.slot = Slot.free ∨ ((t.q q).slot pe m.slot).ended = true)) ∧
            (sl.busy = false ∨ sl.ended = true ∨ sl.serial ≠ m.serial → SameRegs b t [frmCnt q 4] ∧
              ((t.q q).pe pe).memq = before ++ after ∧ t.mem = b.mem)) ∧
        (∀ v : W64, (m.kind = .bset ∧ v = old.data ||| m.data) ∨ (m.kind = .bclr ∧ v = old.data &&& ~~~m.data) → old.bad = false →
          ∃ t, Completes (.storeReachesBank q pe 0) s t ∧ (t.q q).fw m.word = { old with data := v, bad := false, ce := false } ∧
            (∀ w, w ≠ m.word → (t.q q).fw w = (b.q q).fw w) ∧ (t.q q).dirty.contains (m.word / 8) = true ∧
            ((t.q q).pe pe).memq = before ++ [{ m with kind := .got old.data false }] ++ after ∧ (t.q q).releases = (b.q q).releases ∧
            t.mem = b.mem) ∧
        (m.kind = .stOr ∨ m.kind = .stAnd ∨ m.kind = .bset ∨ m.kind = .bclr → old.bad = true →
          let sl := (b.q q).slot pe m.slot
          ∃ t, Completes (.storeReachesBank q pe 0) s t ∧ (t.q q).frame = (b.q q).frame ∧
            t.reg (frmCnt q 1) = satAdd (b.reg (frmCnt q 1)) 1 ∧
            ((t.q q).pe pe).memq = before ++ (if m.kind = .bset ∨ m.kind = .bclr then
              [{ m with kind := .got old.data true }] else []) ++ after ∧
            (sl.busy = true → sl.serial = m.serial → ((t.q q).slot pe m.slot).pstate = true) ∧ t.mem = b.mem)) ∧
      (b.qRuns q = true → findStore [] ((b.q q).pe pe).memq = some (m, before, after) →
        (((b.q q).pbq.headD []).any fun w => w.word == m.word) = false → (b.q q).pend.contains (m.word / 8) = true →
        Completes (.storeReachesBank q pe 0) s (b.bump (frmCnt q 5)))
  ) ∧
  (
    (∀ (s : State) (site : Site) (m : MemOp) (rest : List MemOp),
      let b := s.blk
      let w := (b.q site.q).fw m.word
      (b.loadIs site m rest → (b.slotAt site).ended = false → m.kind = .ld ∨ (m.kind = .ldd ∧ w.pres ≠ 0) →
        ∃ t, Completes (.loadReturn site 0) s t ∧ SMap.get (t.slotAt site).v 0 m.rd = w.data ∧
          (t.slotAt site).pstate = ((b.slotAt site).pstate || w.bad || (decide (m.kind = .ldd) && decide (w.pres ≠ 3))) ∧
          (w.bad = true → t.reg (frmCnt site.q 1) = satAdd (b.reg (frmCnt site.q 1)) 1) ∧
          (t.peAt site).memq = rest ∧ (t.q site.q).frame = (b.q site.q).frame ∧ t.mem = b.mem) ∧
      (b.loadIs site m rest → m.kind = .ldd → w.pres = 0 →
        ((b.q site.q).parkOcc < 4096 → ∃ t, Completes (.loadReturn site 0) s t ∧ (t.peAt site).memq = rest ∧
          (t.q site.q).park = (b.q site.q).park ++ [{ word := m.word, who := .ldd site.pe site.slot m.rd }] ∧
          (t.q site.q).frame = (b.q site.q).frame ∧ t.mem = b.mem) ∧
        (4096 ≤ (b.q site.q).parkOcc → Completes (.loadReturn site 0) s b)) ∧
      (b.loadIs site m rest → (b.slotAt site).ended = true → m.kind = .ld →
        ∃ t, Completes (.loadReturn site 0) s t ∧ (t.peAt site).memq = rest ∧ (t.q site.q).frame = (b.q site.q).frame ∧ t.mem = b.mem) ∧
      (∀ v bad, b.qRuns site.q = true → findLoad site.slot [] (b.peAt site).memq = some (m, rest) → m.kind = .got v bad →
        (b.slotAt site).ended = false →
        ∃ t, Completes (.loadReturn site 0) s t ∧ SMap.get (t.slotAt site).v 0 m.rd = v ∧
          (t.slotAt site).pstate = ((b.slotAt site).pstate || bad) ∧ (t.peAt site).memq = rest ∧
          (t.q site.q).frame = (b.q site.q).frame ∧ t.regs = b.regs ∧ t.mem = b.mem)) ∧
    (∀ (s : State) (q : Fin 68) (r : Release) (rest : List Release), s.blk.qRuns q = true → (s.blk.q q).releases = r :: rest →
      (∀ pe slot rd, r.who = .ldd pe slot rd → ∃ t, Completes (.parkRelease q) s t ∧ (t.q q).releases = rest ∧
        (((s.blk.q q).slot pe slot).ended = false → SMap.get ((t.q q).slot pe slot).v 0 rd = r.value ∧
          ((t.q q).slot pe slot).pstate = (((s.blk.q q).slot pe slot).pstate || r.bad)) ∧
        (t.q q).frame = (s.blk.q q).frame ∧ t.regs = s.blk.regs ∧ t.mem = s.blk.mem) ∧
      (∀ tag dest, r.who = .readWait tag dest → ∃ t, Completes (.parkRelease q) s t ∧ (t.q q).releases = rest ∧
        (t.q q).vc1Out = ((s.blk.reply q dest { value := 0, tag := tag, ctrl := 0 } 0 [(r.value, 0, r.bad)]).q q).vc1Out ∧
        (t.q q).frame = (s.blk.q q).frame ∧ t.regs = s.blk.regs ∧ t.mem = s.blk.mem))
  )

/-- A SEND that its slot holds can complete: the Quarter runs, the outbound lane of the PE has room and the turn is the PE's (R103), and neither
a migration, a rollback nor a NODEMAP word that is awaited holds its token (R244, R362, R439). -/
def Sys2Proof.Machine.Block.sendIs (b : Block) (site : Site) (t : Token) (nc : Bool) : Prop :=
  b.qRuns site.q = true ∧ (b.slotAt site).send = some (t, nc) ∧ b.sendTurn site.q site.pe = true ∧
  ((b.q site.q).lane (4 + site.pe.val % 3)).full = false ∧ b.migHeld t = false ∧ b.rollHeld t (some site.q) = false ∧
  (∀ c, b.routeToken site.q t ≠ .wait c) ∧ (nc = true → b.suppressOut t = none ∧ b.journalRoom (.cross t (tagCtx (b.slotAt site).tag)) = true)

/-- SEND holds its slot with the token of R139 and R140, and SEND_COMPLETE, once the PE's outbound lane can take it, puts the token behind
the lane's fill bank, counts one emission for the token's context and lets the slot go on (R141). Every SEND has such a token. Its VALUE
is RV; its CTRL has the instruction's KIND, FMT and GOP, POISON = PSTATE, END 1, SO 0 and the firing's EPL. Its TAG is RT with the firing's
CTX; with an extension word NODE is the word's, IDX is moved by K as IOP says, DEV is the word's with SD, and CTX stays RT's with NC; with SP,
PORT is the instruction's. A token sent under another CTX (NC) is journaled (R434); one whose context has no placement is stale and counted
as consumed with its emission (R43); a lane that skips after a flush discards the word, and counts it and its token (R109, R111). -/
def Obligations.Sends : Prop :=
  (∀ (s : State) (site : Site) (x : SInstr) (t : Token), s.blk.CanIssue site 0x60 x → sendToken (s.blk.slotAt site) x = some t →
    Computes (.send site) s site fun y => { y with send := some (t, sendsNc x) }) ∧
  (∀ (y : Slot) (x : SInstr) (rv rt : BitVec 5) (kind : BitVec 4) (fmt gop : BitVec 3) (port : BitVec 2) (sp : BitVec 1)
      (ext : Option W32), x.f = .send rv rt kind fmt gop port sp ext →
    ∃ t, sendToken y x = some t ∧ t.value = y.rd rv ∧ t.kind = kind.toNat ∧ t.fmt = fmt.toNat ∧ t.gop = gop.toNat ∧ t.poison = y.pstate ∧
      t.last = true ∧ t.so = false ∧ t.epl = y.epoch % 8 ∧ t.tag.toNat % 4 = (y.rd rt).toNat % 4 ∧
      tagPort t.tag = (if sp = 1 then port.toNat else tagPort (y.rd rt)) ∧
      (ext = none → sendsNc x = false ∧ tagCtx t.tag = tagCtx y.tag ∧ tagNode t.tag = tagNode (y.rd rt) ∧
        tagIdx t.tag = tagIdx (y.rd rt) ∧ tagDev t.tag = tagDev (y.rd rt)) ∧
      (∀ e : W32, ext = some e → sendsNc x = e.toNat.testBit 6 ∧
        tagCtx t.tag = (if e.toNat.testBit 6 then tagCtx (y.rd rt) else tagCtx y.tag) ∧ tagNode t.tag = bits e.toNat 31 14 ∧
        tagIdx t.tag = (if bits e.toNat 13 12 = 1 then (tagIdx (y.rd rt) + bits e.toNat 5 0) % 262144
          else if bits e.toNat 13 12 = 2 then (tagIdx (y.rd rt) + 262144 - bits e.toNat 5 0) % 262144 else tagIdx (y.rd rt)) ∧
        tagDev t.tag = (if e.toNat.testBit 11 then bits e.toNat 10 7 else tagDev (y.rd rt)))) ∧
  (∀ (s : State) (site : Site) (t : Token) (nc : Bool),
    let b := s.blk
    let l := (b.q site.q).lane (4 + site.pe.val % 3)
    let live (c : Block) := SMap.get c.live (0, 0) (liveKey site.q t.ctx)
    b.sendIs site t nc → (b.countsOf site.q).length < 64 →
    (b.unplaced t = false →
      ∃ u, Completes (.sendComplete site) s u ∧ u.slotAt site = { b.slotAt site with send := none } ∧ u.mem = b.mem ∧
        u.cont.journal = b.cont.journal ++ (if nc then
          [{ lsn := b.cont.lsn, src := site.q, len := (JBody.cross t (tagCtx (b.slotAt site).tag)).len,
             body := .cross t (tagCtx (b.slotAt site).tag) }] else []) ∧
        (l.skip = false → ((u.q site.q).lane (4 + site.pe.val % 3)).fill =
            l.fill ++ [{ tok := t, pt := pointOf (xyOf site.q) 0, par := t.parity }] ∧
          ((u.q site.q).lane (4 + site.pe.val % 3)).drain = l.drain ∧ live u = ((live b).1 + 1, (live b).2)) ∧
        (l.skip = true → ((u.q site.q).lane (4 + site.pe.val % 3)).fill = l.fill ∧ live u = ((live b).1 + 1, (live b).2 + 1) ∧
          u.reg (laneReg site.q (4 + site.pe.val % 3) 20) = satAdd (b.reg (laneReg site.q (4 + site.pe.val % 3) 20)) 1)) ∧
    (b.unplaced t = true →
      ∃ u, Completes (.sendComplete site) s u ∧ u.slotAt site = { b.slotAt site with send := none } ∧ u.mem = b.mem ∧
        live u = ((live b).1 + 1, (live b).2 + 1) ∧ u.reg (aveCnt 13) = satAdd (b.reg (aveCnt 13)) 1 ∧
        ((u.q site.q).lane (4 + site.pe.val % 3)).fill = l.fill))


-- Lanes and fire queues

/-- LANE_WORD_ARRIVE puts the next arriving word of an inbound lane, or the next word that waits for lane 7, behind the lane's fill bank;
LANE_SWAP makes the fill bank of a lane whose drain bank is empty the drain bank (R104); LANE_FLUSH asks for a flush, and LANE_FLUSH_EFFECT
empties both banks and counts the words discarded (R108, R109). -/
def Obligations.LaneWords : Prop :=
  ∀ (s : State) (q : Fin 68),
    let b := s.blk
    (∀ (lane : Fin 9) (a : Arrival) (rest : List Arrival), lane.val ≠ 7 → takeFirst (fun a => a.lane == lane.val) (b.q q).arriving = some (a, rest) →
      b.retired.contains q = false → (lane.val ≤ 3 → b.distLevel (distOf q) = 0) → ((b.q q).lane lane).full = false →
      ((b.q q).lane lane).skip = false → b.cont.roll = none →
      ∃ t, Completes (.laneWordArrive q lane) s t ∧ ((t.q q).lane lane).fill = ((b.q q).lane lane).fill ++ [{ a.word with par := a.word.tok.parity }] ∧
        ((t.q q).lane lane).drain = ((b.q q).lane lane).drain ∧ (t.q q).arriving = rest ∧ t.mem = b.mem) ∧
    (∀ (w : LaneWord) (ws : List LaneWord), (b.q q).vc1Out = w :: ws → b.retired.contains q = false → ((b.q q).lane 7).full = false →
      ((b.q q).lane 7).skip = false →
      ∃ t, Completes (.laneWordArrive q 7) s t ∧ ((t.q q).lane 7).fill = ((b.q q).lane 7).fill ++ [{ w with par := w.tok.parity }] ∧ (t.q q).vc1Out = ws ∧ t.mem = b.mem) ∧
    (∀ lane : Fin 9, b.qAwake q = true → ((b.q q).lane lane).drain = [] → ((b.q q).lane lane).fill ≠ [] →
      ∃ t, Completes (.laneSwap q lane) s t ∧ ((t.q q).lane lane).drain = ((b.q q).lane lane).fill ∧ ((t.q q).lane lane).fill = [] ∧
        t.regs = b.regs ∧ t.mem = b.mem) ∧
    (∀ lane : Fin 8, b.up = true → b.retired.contains q = false →
      ∃ t, Completes (.laneFlush q lane) s t ∧ ((t.q q).lane lane).flush = true ∧ (lane = 3 → ((t.q q).lane 8).flush = true) ∧ t.regs = b.regs) ∧
    (∀ lane : Fin 8, ((b.q q).lane lane).flush = true → b.retired.contains q = false → b.reg (laneReg q lane 20) < 2 ^ 32 →
      ∃ t, Completes (.laneFlushEffect q lane) s t ∧ ((t.q q).lane lane).a = [] ∧ ((t.q q).lane lane).b = [] ∧
        ((t.q q).lane lane).flush = false ∧
        (lane ≠ 3 → t.reg (laneReg q lane 20) =
          satAdd (b.reg (laneReg q lane 20)) (((b.q q).lane lane).a.length + ((b.q q).lane lane).b.length)) ∧
        (lane = 3 → ((t.q q).lane 8).a = [] ∧ ((t.q q).lane 8).b = [] ∧ t.reg (laneReg q 3 20) =
          satAdd (satAdd (b.reg (laneReg q 3 20)) (((b.q q).lane 3).a.length + ((b.q q).lane 3).b.length))
            (((b.q q).lane 8).a.length + ((b.q q).lane 8).b.length)))

/-- FIRE_PACKET_TAKE: the packet at the head of a PE's fire queue starts a strand in the PE's lowest free slot, with the registers of R122,
PC at the packet's CODE, every special register at its At-fire value, no loop active and no REP pending (R123, R124, R125, R144, R157). -/
def Obligations.StrandStarts : Prop :=
  ∀ (s : State) (q : Fin 68) (pe : Fin 16) (f : FirePacket) (fs : List FirePacket) (n : Nat),
    let b := s.blk
    b.qRuns q = true → ((b.q q).pe pe).fireq = f :: fs → n < 8 → ((b.q q).slot pe n).busy = false →
    (∀ m, m < n → ((b.q q).slot pe m).busy = true) → b.rf 0x300044 15 0 = 0 →
    ∃ t, Completes (.firePacketTake q pe false) s t ∧ ((t.q q).pe pe).fireq = fs ∧
      (let sl := (t.q q).slot pe n
       let top := if f.gather then 8 else 3
       let bytes := if b.rf (qOff q 0x2000) 31 28 = 0 then 0 else 2 ^ (min (b.rf (qOff q 0x2000) 31 28) 8 + 5)
       let base := b.rf (qOff q 0x2000) 19 3 * 8
       sl.busy = true ∧ sl.ended = false ∧ sl.pc = f.code ∧ sl.tag = tagSet f.tag 3 2 0 ∧
       SMap.get sl.v 0 top = sl.tag ∧ (∀ k, k < top → SMap.get sl.v 0 k = SMap.get f.ops 0 k) ∧ (∀ k, top < k → SMap.get sl.v 0 k = 0) ∧
       (∀ k < 4, sl.loop k = { start := 0, stop := 0, count := 0, active := false }) ∧ sl.rep = none ∧ sl.rcnt = 0 ∧ sl.fpctl = 0 ∧
       sl.flags = 0 ∧ sl.budget = b.reg (qOff q 0x2004) ∧ (sl.limited = false ↔ b.reg (qOff q 0x2004) = 0) ∧ sl.epoch = f.epl ∧
       sl.pstate = f.poison ∧ sl.mode = SMap.get (b.q q).modes 0 (tagCtx sl.tag) ∧
       (bytes = 0 → sl.sp = 0 ∧ sl.slim = 0) ∧
       (bytes ≠ 0 → base + (8 * pe.val + n + 1) * bytes < 2 ^ 24 →
         sl.slim = base + (8 * pe.val + n) * bytes ∧ sl.sp = base + (8 * pe.val + n + 1) * bytes)) ∧
      (∀ m, m ≠ n → (t.q q).slot pe m = (b.q q).slot pe m) ∧ t.regs = b.regs ∧ t.mem = b.mem


-- The Plaza

/-- A token's context matches tokens and the Plaza's cache holds the word of its NODE, which names a node (R42, R66, R498). -/
def Sys2Proof.Machine.Block.nodeIs (b : Block) (q : Nat) (tag : W64) (v : NodeView) : Prop :=
  b.tokenState (tagCtx tag) = 1 ∧ ∃ w, (b.plz q).cached (tagCtx tag) (tagNode tag) = some w ∧ (b.q q).node w = some v

/-- An operand of a token that finds no match, and whose set has room: it is inserted (R70, R76, R81). -/
def Sys2Proof.Machine.Block.inserts (b : Block) (q : Nat) (t : Token) (v : NodeView) : Prop :=
  t.kind ≠ 1 ∧ t.kind ≠ 8 ∧ t.kind ≠ 9 ∧ v.pos t < v.n ∧ v.pos t ≠ v.sp ∧ v.dyn.length ≠ 1 ∧
  (b.plz q).awaiting (keyOf t.tag) = false ∧
  ((b.plz q).found (keyOf t.tag) ≠ [] ∨ b.filterMaybe q (keyOf t.tag) = false) ∧
  ((b.plz q).here (keyOf t.tag) ≠ [] ∨ (b.plz q).spilt (keyOf t.tag) = []) ∧
  pickOps ((b.plz q).found (keyOf t.tag)) (v.dyn.filter fun x => x ≠ v.pos t) = none ∧
  ((b.plz q).entries.filter fun o => Machine.setOf o.key = Machine.setOf (keyOf t.tag)).length < 8

/-- The word at the head of an inbound lane, which the Plaza may take in the lane's turn: no lookup of an earlier class and no eviction waits
(R72, R87), nothing closes before it, no source order holds it, its parity is sound and no parity check is armed. -/
def Sys2Proof.Machine.Block.laneOffers (b : Block) (q lane : Nat) (w : LaneWord) (ws : List LaneWord) : Prop :=
  b.qRuns q = true ∧ b.ave.recovering = false ∧ (b.plz q).waitFull = false ∧ (b.plz q).opened = true ∧ b.laneWaits q = false ∧
  b.laneTurn q lane = true ∧ ((b.q q).lane lane).closing = none ∧ ((b.q q).lane lane).drain = w :: ws ∧ w.sound = true ∧
  b.soHold q lane w.tok = none ∧ b.rf 0x300044 15 0 = 0

/-- The packet of a firing without a sticky operand (R88): the completing token at its position, and the operands taken. -/
def Sys2Proof.Machine.packet (v : NodeView) (t : Token) (pos : Nat) (used : List Operand) : FirePacket :=
  { code := v.ctl % 2 ^ 15, tag := tagSet t.tag 3 2 0, gather := v.gather,
    ops := used.foldl (fun m o => SMap.put m o.pos o.tok.value) [(pos, t.value)],
    poison := t.poison || used.any (fun o => o.tok.poison), epl := t.epl }

/-- TOKEN_LOOKUP takes the operand at the head of a lane. Where the other operands of its key wait, the node fires: one packet with all of
them goes to the node's PE, the operands leave the Plaza, and each counts as consumed (R69, R70, R88, R91). Where one is missing, the
operand is inserted with the next arrival ordinal and nothing is consumed (R76, R79). A token of no resident context is stale and only
consumed (R42). -/
def Obligations.TokenMatching : Prop :=
  ∀ (s : State) (q : Fin 68) (lane : Fin 4) (w : LaneWord) (ws : List LaneWord) (v : NodeView),
    let b := s.blk
    b.laneOffers q lane w ws → w.tok.kind ≠ 1 → w.tok.kind ≠ 8 → w.tok.kind ≠ 9 →
    (∀ used n, b.nodeIs q w.tok.tag v → v.merge = false → v.sp = 15 → v.pos w.tok < v.n →
      v.dyn.length = 1 ∨ ((b.plz q).awaiting (keyOf w.tok.tag) = false ∧ (b.plz q).found (keyOf w.tok.tag) ≠ []) →
      pickOps ((b.plz q).found (keyOf w.tok.tag)) (v.dyn.filter fun x => x ≠ v.pos w.tok) = some used →
      (b.q q).admits w.tok = true → (b.plz q).fireBuf = [] → (b.q q).firePe (bits v.ctl 30 26) = n → ((b.q q).pe n).fireq.length < 32 →
      (b.countsOf q).length < 64 →
      ∃ t, Completes (.tokenLookup q lane false) s t ∧ ((t.q q).lane lane).drain = ws ∧
        ((t.q q).pe n).fireq = ((b.q q).pe n).fireq ++ [packet v w.tok (v.pos w.tok) used] ∧
        ((b.plz q).here (keyOf w.tok.tag) ≠ [] → (t.plz q).entries = (b.plz q).entries.filter fun o => !used.contains o) ∧
        SMap.get t.live (0, 0) (liveKey q w.tok.ctx) =
          ((SMap.get b.live (0, 0) (liveKey q w.tok.ctx)).1, (SMap.get b.live (0, 0) (liveKey q w.tok.ctx)).2 + (1 + used.length)) ∧
        t.mem = b.mem) ∧
    (b.nodeIs q w.tok.tag v → b.inserts q w.tok v →
      ∃ t, Completes (.tokenLookup q lane false) s t ∧ ((t.q q).lane lane).drain = ws ∧
        (t.plz q).entries = (b.plz q).entries ++ [{ tok := w.tok, pos := v.pos w.tok, ord := (b.plz q).ordinal + 1 }] ∧
        t.reg (plzCnt q 2) = satAdd (b.reg (plzCnt q 2)) 1 ∧ t.live = b.live ∧ t.mem = b.mem) ∧
    (b.tokenState w.tok.ctx = 0 → (b.countsOf q).length < 64 →
      ∃ t, Completes (.tokenLookup q lane false) s t ∧ ((t.q q).lane lane).drain = ws ∧ (t.plz q).entries = (b.plz q).entries ∧
        t.reg (plzCnt q 9) = satAdd (b.reg (plzCnt q 9)) 1 ∧
        SMap.get t.live (0, 0) (liveKey q w.tok.ctx) =
          ((SMap.get b.live (0, 0) (liveKey q w.tok.ctx)).1, (SMap.get b.live (0, 0) (liveKey q w.tok.ctx)).2 + 1) ∧ t.mem = b.mem)

/-- STICKY_TOKEN writes the node's sticky operand with its position, format and poison (R69); FREE_TOKEN removes every operand of its key
that waits in the Plaza, each consumed with it (R47, R81); MARKER_ARRIVE takes a CLOSE MARKER of the epoch that closes, after which its
sender's part of the channel record has ended (R424, R427); FLUSH_MARKER_ARRIVE takes a FLUSH MARKER of a rollback (R439). -/
def Obligations.OtherLaneTokens : Prop :=
  ∀ (s : State) (q : Fin 68) (lane : Fin 4) (w : LaneWord) (ws : List LaneWord),
    let b := s.blk
    let k := keyOf w.tok.tag
    (∀ v, b.laneOffers q lane w ws → w.tok.kind = 1 → b.nodeIs q w.tok.tag v →
      ∃ t, Completes (.stickyToken q lane false) s t ∧ ((t.q q).lane lane).drain = ws ∧
        SMap.get (t.q q).nodes ⟨0, 0⟩ v.entry = { sticky := w.tok.value, ctl := BitVec.ofNat 64 (setBits (setBits (setBits (setBits v.ctl
          33 33 1) 36 34 (v.pos w.tok)) 39 37 w.tok.fmt) 40 40 (b2n w.tok.poison)) } ∧
        (∀ e, e ≠ v.entry → SMap.get (t.q q).nodes ⟨0, 0⟩ e = SMap.get (b.q q).nodes ⟨0, 0⟩ e) ∧ (t.plz q).entries = (b.plz q).entries ∧
        t.mem = b.mem) ∧
    (∀ v, b.laneOffers q lane w ws → w.tok.kind = 9 → b.nodeIs q w.tok.tag v → (b.plz q).awaiting k = false →
      (b.plz q).found k ≠ [] ∨ b.filterMaybe q k = false → (b.plz q).spilt k = [] → (b.countsOf q).length < 64 →
      ∃ t, Completes (.freeToken q lane false) s t ∧ ((t.q q).lane lane).drain = ws ∧
        (t.plz q).entries = ((b.plz q).entries.filter fun o => o.key ≠ k) ∧
        SMap.get t.live (0, 0) (liveKey q w.tok.ctx) =
          ((SMap.get b.live (0, 0) (liveKey q w.tok.ctx)).1,
            (SMap.get b.live (0, 0) (liveKey q w.tok.ctx)).2 + (1 + ((b.plz q).here k).length)) ∧ t.mem = b.mem) ∧
    (∀ c cut, b.laneOffers q lane w ws → w.tok.kind = 8 → bits w.tok.value.toNat 7 0 = 1 → b.cont.close = some c → c.cutOf q = some cut →
      w.tok.value.toNat / 65536 = c.epoch % 2 ^ 48 →
      ∃ t, Completes (.markerArrive q ⟨lane, false⟩) s t ∧ ((t.q q).lane lane).drain = ws ∧
        t.cont.close = some (c.setCut q { cut with markers := addNew cut.markers (bits w.tok.value.toNat 15 8) }) ∧ t.mem = b.mem) ∧
    (∀ r, b.qAwake q = true → ((b.q q).lane lane).closing = none → ((b.q q).lane lane).drain = w :: ws → w.sound = true →
      b.rf 0x300044 15 0 = 0 → w.tok.kind = 8 → bits w.tok.value.toNat 7 0 = 2 → b.cont.roll = some r → r.step = 3 → r.quarters.contains q = true →
      ∃ t r', Completes (.flushMarkerArrive q ⟨lane, false⟩) s t ∧ ((t.q q).lane lane).drain = ws ∧ t.cont.roll = some r' ∧
        SMap.get r'.flush [] q = addNew (SMap.get r.flush [] q) (bits w.tok.value.toNat 15 8) ∧
        (r'.step = 4 ↔ ∀ p ∈ r.quarters, ∀ u ∈ b.senders, (SMap.get r'.flush [] p).contains u = true) ∧ t.mem = b.mem)

/-- PEN_NOTICE raises the pen count of a Quarter or of a Gate (R84, R234); PEN_READ_RETURN reads the pen's next slots, up to the end of
their line and the notices received, and their tokens wait in the order of the slots; PEN_TOKEN_LOOKUP looks the first of them up with the
ordinal it brings (R84). -/
def Obligations.PenReads : Prop :=
  ∀ (s : State) (q : Fin 68),
    let b := s.blk
    let p := b.plz q
    (p.noted ≠ 0 → b.qAwake q = true →
      ∃ t, Completes (.penNotice ⟨q, Nat.lt_of_lt_of_le q.isLt (by decide)⟩) s t ∧ (t.plz q) = { p with noted := p.noted - 1, penCount := p.penCount + 1 } ∧
        t.regs = b.regs ∧ t.mem = b.mem) ∧
    (∀ g : Fin 4, g.val ≠ 2 → (b.gate g).noted ≠ 0 →
      ∃ t, Completes (.penNotice ⟨68 + g, Nat.add_lt_add_left g.isLt 68⟩) s t ∧
        t.gate g = { b.gate g with noted := (b.gate g).noted - 1, penCount := (b.gate g).penCount + 1 } ∧ t.qs = b.qs ∧ t.regs = b.regs ∧
        t.mem = b.mem) ∧
    ((b.gate 2).noted ≠ 0 → Completes (.penNotice 70) s
      ((b.setGate 2 { b.gate 2 with noted := (b.gate 2).noted - 1, penCount := (b.gate 2).penCount + 1 }).colirDrain
        ((b.gate 2).inbox.length + 1 + (b.gate 2).penCount))) ∧
    (∀ slots at_ n line, b.qAwake q = true → p.penCount ≠ 0 → slots = b.penBytes q / 32 → slots ≠ 0 → at_ = p.penRd % slots →
      n = min p.penCount (2 - at_ % 2) → line = b.penBase q + 64 * (at_ / 2) → line + 64 ≤ maEnd → b.stops.bad.contains line = false →
      b.stops.lost = [] → b.rf 0x300044 15 0 = 0 →
      ∃ t, Completes (.penReadReturn q 0) s t ∧ (t.plz q).penRd = p.penRd + n ∧ (t.plz q).penCount = p.penCount - n ∧
        (t.plz q).penTokens = p.penTokens ++ (List.range n).filterMap (fun i =>
          let slot := memRead b.mem (b.penBase q + 32 * (at_ + i)) 32
          if ((slot.drop 19).headD 0).toNat.testBit 0 then some (Token.ofBytes slot, ofBytes ((slot.drop 20).take 4)) else none) ∧
        t.mem = b.mem) ∧
    (∀ tok ord rest v, b.qAwake q = true → b.ave.recovering = false → p.penTokens = (tok, ord) :: rest → b.rollDiscards q tok = false →
      p.opened = true → (b.releaseStart q).can = false → (b.internalStart q).can = false → b.soHold q 4 tok = none → b.nodeIs q tok.tag v → b.inserts q tok v →
      ∃ t, Completes (.penTokenLookup q) s t ∧ (t.plz q).penTokens = rest ∧
        (t.plz q).entries = p.entries ++ [{ tok := tok, pos := v.pos tok, ord := if ord = 0 then p.ordinal + 1 else ord }] ∧ t.mem = b.mem)

/-- WAIT_TABLE_RELEASE takes the first token that may go on out of the wait table and looks it up (R72, R82, R85); INTERNAL_LOOKUP, after
the released tokens, fires a node
whose operands all wait and whose index is admitted, with the operand that came last completing it (R227); NODEMAP_WORD_RETURN puts the
word into the cache and makes the tokens that wait for it ready (R498); FIRE_BUFFER_DRAIN moves the first packet whose PE has room into its
queue (R88). -/
def Obligations.WaitingTokens : Prop :=
  ∀ (s : State) (q : Fin 68),
    let b := s.blk
    let p := b.plz q
    (∀ i w v, b.qRuns q = true → p.opened = true → p.releasable = some (i, w) → w.lane ≠ 5 → b.nodeIs q w.tok.tag v → b.inserts q w.tok v →
      ∃ t, Completes (.waitTableRelease q) s t ∧ (t.plz q).wait = p.wait.take i ++ p.wait.drop (i + 1) ∧
        (t.plz q).entries = p.entries ++ [{ tok := w.tok, pos := v.pos w.tok, ord := if w.ord = 0 then p.ordinal + 1 else w.ord }] ∧
        t.mem = b.mem) ∧
    (∀ tag rest v used o older n, b.qRuns q = true → b.ave.recovering = false → p.waitFull = false → p.internal = tag :: rest →
      p.opened = true → (b.releaseStart q).can = false → b.nodeIs q tag v → p.here (keyOf tag) ≠ [] → pickOps (p.here (keyOf tag)) v.dyn = some used → (sortOps used).reverse = o :: older →
      (b.q q).admits { value := 0, tag := tag, ctrl := 0 } = true → v.merge = false → v.sp = 15 → p.fireBuf = [] →
      (b.q q).firePe (bits v.ctl 30 26) = n → ((b.q q).pe n).fireq.length < 32 →
      ∃ t, Completes (.internalLookup q) s t ∧ (t.plz q).internal = rest ∧
        ((t.q q).pe n).fireq = ((b.q q).pe n).fireq ++ [packet v o.tok o.pos older] ∧
        (t.plz q).entries = (p.entries.filter fun x => !used.contains x) ∧ t.mem = b.mem) ∧
    (∀ w x a, p.wait.find? (fun e => match e.why with | .nodemap _ => true | _ => false) = some w → w.why = .nodemap a →
      b.ctx? w.tok.ctx = some x →
      ∃ t, Completes (.nodemapWordReturn q) s t ∧
        (t.plz q).cached w.tok.ctx (tagNode w.tok.tag) = some (b.nodemap x.desc.image (tagNode w.tok.tag)) ∧
        (t.plz q).wait.length = p.wait.length ∧
        (∀ e ∈ (t.plz q).wait, e.tok.ctx = w.tok.ctx → tagNode e.tok.tag = tagNode w.tok.tag → ∀ a, e.why ≠ .nodemap a) ∧
        (t.plz q).entries = p.entries ∧ t.regs = (b.readNodemap x.desc.image (tagNode w.tok.tag)).regs ∧
        t.mem = (b.readNodemap x.desc.image (tagNode w.tok.tag)).mem) ∧
    (∀ e rest, b.qRuns q = true → takeFirst (fun e : Nat × FirePacket => decide (((b.q q).pe e.1).fireq.length < 32)) p.fireBuf = some (e, rest) →
      ∃ t, Completes (.fireBufferDrain q) s t ∧ (t.plz q).fireBuf = rest ∧ ((t.q q).pe e.1).fireq = ((b.q q).pe e.1).fireq ++ [e.2] ∧
        (t.plz q).entries = p.entries ∧ t.mem = b.mem)

/-- The Backstreet (R77 to R81, R87, R499): SPILL_PARCEL_SEND and HOLDING_RETRY write a victim key's operands to free slots of its window;
with too few free slots the key is held, and the first such failure sets BS_FULL's bit and raises its event; SPILL_WRITE_ACK frees the
parcel's places in the spill buffer; BACKSTREET_WINDOW_RETURN records the read's latency, counts a window without the key as FILTER_FALSE,
and lets the token that waited go on. -/
def Obligations.Backstreet : Prop :=
  ∀ (s : State) (q : Fin 68),
    let b := s.blk
    let p := b.plz q
    (∀ e ∈ ([(.spillParcelSend q, fun x => !x.sent && !x.failed), (.holdingRetry q, fun x => !x.sent && x.failed)] :
        List (Instr × (SpillKey → Bool))), ∀ k : SpillKey,
      p.spill.find? e.2 = some k → b.retired.contains q = false → b.undoFull q = false →
      (k.ops.length ≤ (b.freeInWindow q k.key).length →
        ∃ t, Completes e.1 s t ∧ (t.plz q).bsOcc = p.bsOcc + k.ops.length ∧
          (t.plz q).spill = (p.spill.map fun x =>
            if x = k then { x with sent := true, slots := (b.freeInWindow q k.key).take k.ops.length, failed := false } else x) ∧
          (∀ o a rest, k.ops = [o] → b.freeInWindow q k.key = a :: rest → a + 32 ≤ maEnd → b.stops.lost = [] → b.memOk = true →
            memRead t.mem a 32 = slotBytes o ∧ ∀ x, x < a ∨ a + 32 ≤ x → memGet t.mem x = memGet b.mem x)) ∧
      ((b.freeInWindow q k.key).length < k.ops.length →
        ∃ t, Completes e.1 s t ∧ (t.plz q).spill = (p.spill.map fun x => if x = k then { x with failed := true } else x) ∧
          (k.failed = false → t.rf (qOff q 0xC) 0 0 = 1 ∧ t.evc.raised = b.evc.raised ++ [{ src := 8, arg := q, tag := none }]) ∧
          t.mem = b.mem)) ∧
    (∀ k rest, takeFirst (fun x : SpillKey => x.sent) p.spill = some (k, rest) → k.taken = [] → b.retired.contains q = false →
      ∃ t, Completes (.spillWriteAck q) s t ∧ (t.plz q).spill = rest ∧ (t.plz q).bsOcc = p.bsOcc ∧ (t.plz q).entries = p.entries ∧
        t.mem = b.mem) ∧
    (∀ (cycles : Nat) (w : WaitEntry) (p' : Plaza) (x : Ctx) (v : NodeView), b.qRuns q = true →
      p.wait.find? (fun w => match w.why with | .window _ asked => asked || (decide (p.spillUsed < 32) && !p.holding) | _ => false) = some w →
      w.why = .window (keyOf w.tok.tag) true → p.takeWaiting (keyOf w.tok.tag) = ([w], p') → (b.readWindow q (keyOf w.tok.tag)).2 = [] →
      w.lane ≠ 5 → b.tokenState w.tok.ctx = 1 → b.ctx? w.tok.ctx = some x →
      b.stops.bad = [] → b.rf 0x300044 15 0 = 0 →
      (b.q q).node ((p.cached w.tok.ctx (tagNode w.tok.tag)).getD (b.nodemap x.desc.image (tagNode w.tok.tag))) = some v → v.pos w.tok < v.n → v.pos w.tok ≠ v.sp → v.dyn.length ≠ 1 →
      w.tok.kind ≠ 9 → p.here (keyOf w.tok.tag) = [] → p.spilt (keyOf w.tok.tag) = [] →
      (p.entries.filter fun o => Machine.setOf o.key = Machine.setOf (keyOf w.tok.tag)).length < 8 →
      ∃ t, Completes (.backstreetWindowReturn q cycles) s t ∧ t.reg (plzCnt q 6) = satAdd (b.reg (plzCnt q 6)) 1 ∧
        t.rf (qOff q 0x1C) 31 16 = min cycles 65535 ∧ (t.plz q).wait = p'.wait ∧
        (t.plz q).entries = p.entries ++ [{ tok := w.tok, pos := v.pos w.tok, ord := if w.ord = 0 then p.ordinal + 1 else w.ord }] ∧
        t.mem = b.mem)


-- Port B

/-- The parcel port holds a whole parcel with an OP, its words from the lane with right parity; the Quarter is awake, no refused write
waits before it and no checker is armed (R100, R102, R106, R201, R418). -/
def Sys2Proof.Machine.Block.parcelIs (b : Block) (q op : Nat) (h : LaneWord) (body : List LaneWord) (q1 : Quarter) : Prop :=
  b.qAwake q = true ∧ (b.q q).pbq = [] ∧ b.rf 0x300044 15 0 = 0 ∧ parcelOf op (h :: body) = true ∧
  ∃ new, (b.q q).portItem = (h :: body, new, q1) ∧ ∀ w ∈ (h :: body).drop ((h :: body).length - new), w.sound = true

/-- The port B writes with their OP and what a body word of each writes: data and presence of the words it names in order (R199). -/
def Sys2Proof.Machine.portBWrites (q : Fin 68) : List (Instr × Nat × (LaneWord → List (Option W64 × Option (BitVec 2)))) :=
  [(.portBWrite q none, 0, fun w => [(some w.tok.value, some 3), (some w.tok.tag, some 3)]),
   (.portBWriteKeep q none, 1, fun w => [(some w.tok.value, none), (some w.tok.tag, none)]),
   (.portBPresWrite q none, 2, fun w => (List.range 64).map fun i =>
     (none, some (BitVec.ofNat 2 ((w.tok.value.toNat + 2 ^ 64 * w.tok.tag.toNat) / 4 ^ i))))]

/-- What a write leaves of a frame word: data with presence make a FULL word, data alone keep the presence, and presence alone keeps the
data (R199). -/
def Sys2Proof.Machine.PbWrite.lands (w : PbWrite) (old : FrameWord) : FrameWord := match w.data, w.pres with
  | some v, some _ => { data := v, bad := false, pres := 3 }
  | some v, none => { old with data := v, bad := false, ce := false }
  | none, p => { old with pres := p.getD 0 }

/-- The reads a write releases: those parked on a word it sets FULL, with the value the word then holds (R206). -/
def Sys2Proof.Machine.PbWrite.frees (w : PbWrite) (q : Quarter) : List Release :=
  if w.pres = some 3 then (q.park.filter fun e => e.word = w.word).map fun e =>
    { who := e.who, value := w.data.getD (q.fw w.word).data, bad := w.data.isNone && (q.fw w.word).bad } else []

/-- PORT_B_WRITE, PORT_B_WRITE_KEEP and PORT_B_PRES_WRITE (R196, R199, R200, R201, R206, R213): WRITE stores its words, sound and FULL;
WRITE_KEEP stores them and keeps presence; PRES_WRITE sets the presence codes and leaves the data. Words past frame memory are not
written, and the request that reaches there is counted; no other word changes; the reads parked on a word set FULL are released. A write to
a PENDING line waits, and COW_HOLD counts it. A word that port A has written in the same cycle with another value is refused: the other
word lands, COLLIDE counts it, and PORT_B_WRITE_RETRY lands it later with the words behind it, unless its line is PENDING by then.
PORT_B_BAD_OP consumes a parcel with a reserved OP and counts it. FRAME_CE_WRITEBACK puts the next corrected word back (R208).
PORT_B_READ, PORT_B_PRES_READ and PORT_B_READ_WAIT (R199, R200, R207, R209, R210): READ answers the words it names, two to a body word, with
STATUS 1 where one is uncorrectable and POISON on those and on words past frame memory; PRES_READ their presence codes, 64 to a body
word; READ_WAIT answers a word that is not EMPTY at once, with POISON where it is uncorrectable or BROKEN, parks on an EMPTY one, and
answers BUSY while the park table is full. Each answer goes behind the words that wait for lane 7. No frame word changes. -/
def Obligations.PortB : Prop :=
  (
    ∀ (s : State) (q : Fin 68),
      let b := s.blk
      (∀ (h : LaneWord) (body : List LaneWord) (q1 : Quarter),
        let first := pbWord h.tok
        (∀ e ∈ portBWrites q, b.parcelIs q e.2.1 h body q1 →
          let ws := body.flatMap e.2.2
          let writes : List PbWrite := ((List.range ws.length).zip ws).filterMap fun x =>
            if 131072 ≤ first + x.1 then none else some { word := first + x.1, data := x.2.1, pres := x.2.2 }
          (pbHeld (b.q q) first ws.length = false → (∀ x ∈ (b.q q).hits, x.time ≠ b.now) →
            ∃ t, Completes e.1 s t ∧
              (∀ i, ∀ _ : i < ws.length, first + i < 131072 → (t.q q).fw (first + i) =
                ({ word := first + i, data := ws[i].1, pres := ws[i].2 } : PbWrite).lands ((b.q q).fw (first + i))) ∧
              (∀ a, a < first ∨ first + ws.length ≤ a ∨ 131072 ≤ a → (t.q q).fw a = (b.q q).fw a) ∧
              (t.q q).releases = (b.q q).releases ++ writes.flatMap (fun w => w.frees (b.q q)) ∧
              (t.q q).park = (b.q q).park.filter (fun p => !writes.any fun w => w.pres == some 3 && w.word == p.word) ∧
              (t.q q).pbq = [] ∧ (t.q q).asm = [] ∧ (t.q q).vc1Out = (b.q q).vc1Out ∧
              (131072 < first + ws.length → t.reg (frmCnt q 6) = satAdd (b.reg (frmCnt q 6)) 1) ∧
              (e.2.1 = 1 → SameRegs b t [frmCnt q 6]) ∧ (∀ p : Nat, p ≠ q → t.q p = b.q p) ∧ t.mem = b.mem) ∧
          (pbHeld (b.q q) first ws.length = true →
            ∃ t, Completes e.1 s t ∧ t.reg (frmCnt q 5) = satAdd (b.reg (frmCnt q 5)) 1 ∧ (t.q q).frame = (b.q q).frame ∧
              (t.q q).asm = h :: body ∧ SameRegs b t [frmCnt q 5] ∧ t.mem = b.mem)) ∧
        (∀ (w : LaneWord) (x : PortHit), body = [w] → b.parcelIs q 0 h body q1 → pbHeld (b.q q) first 2 = false → first + 1 < 131072 →
          (b.q q).hits = [x] → x.time = b.now → x.word = first → w.tok.value ≠ ((b.q q).fw first).data →
          ∃ t, Completes (.portBWrite q none) s t ∧ (t.q q).pbq = [[{ word := first, data := some w.tok.value, pres := some 3 }]] ∧
            (t.q q).fw first = (b.q q).fw first ∧ (t.q q).fw (first + 1) = { data := w.tok.tag, bad := false, pres := 3 } ∧
            (∀ a, a < first ∨ first + 1 < a → (t.q q).fw a = (b.q q).fw a) ∧
            t.reg (frmCnt q 3) = satAdd (b.reg (frmCnt q 3)) 1 ∧ t.mem = b.mem) ∧
        (b.parcelIs q 6 h body q1 →
          ∃ t, Completes (.portBBadOp q none) s t ∧ t.reg (frmCnt q 6) = satAdd (b.reg (frmCnt q 6)) 1 ∧ (t.q q).frame = (b.q q).frame ∧
            (t.q q).vc1Out = (b.q q).vc1Out ∧ (t.q q).asm = [] ∧ SameRegs b t [frmCnt q 6] ∧ t.mem = b.mem)) ∧
      (∀ g gs, (b.q q).pbq = g :: gs → b.qAwake q = true → b.rf 0x300044 15 0 = 0 →
        ((∀ w ∈ g, (b.q q).pend.contains (w.word / 8) = false) → ((g :: gs).flatten.map (·.word)).Nodup →
          ∃ t, Completes (.portBWriteRetry q) s t ∧ (t.q q).pbq = [] ∧
            (∀ w ∈ (g :: gs).flatten, (t.q q).fw w.word = w.lands ((b.q q).fw w.word)) ∧
            (∀ a, (∀ w ∈ (g :: gs).flatten, w.word ≠ a) → (t.q q).fw a = (b.q q).fw a) ∧ t.mem = b.mem) ∧
        ((g.any fun w => (b.q q).pend.contains (w.word / 8)) = true → Completes (.portBWriteRetry q) s (b.bump (frmCnt q 5)))) ∧
      (∀ word v rest, (b.q q).wb = (word, v) :: rest → b.qAwake q = true →
        ∃ t, Completes (.frameCeWriteback q) s t ∧ (t.q q).wb = rest ∧
          (t.q q).fw word = { (b.q q).fw word with data := v, ce := false } ∧
          (∀ w, w ≠ word → (t.q q).fw w = (b.q q).fw w) ∧ t.regs = b.regs ∧ t.mem = b.mem)
  ) ∧
  (
    ∀ (s : State) (q : Fin 68) (h : LaneWord) (body : List LaneWord) (q1 : Quarter),
      let b := s.blk
      let first := pbWord h.tok
      let n := pbCount h.tok
      let fw (i : Nat) : FrameWord := (b.q q).fw (first + i)
      let answer (status : Nat) (ws : List (W64 × W64 × Bool)) : List LaneWord := ((b.reply q h.pt h.tok status ws).q q).vc1Out
      (b.parcelIs q 3 h body q1 →
        ∃ t, Completes (.portBRead q none []) s t ∧
          (t.q q).vc1Out = answer (if ∃ i ∈ List.range n, first + i < 131072 ∧ (fw i).bad = true then 1 else 0)
            (pairWords ((List.range n).map fun i => if first + i < 131072 then ((fw i).data, (fw i).bad) else (0, true))) ∧
          (∀ i, i < n → first + i < 131072 → (fw i).bad = true → b.reg (frmCnt q 1) < t.reg (frmCnt q 1) ∨
            0xFFFFFFFF ≤ t.reg (frmCnt q 1)) ∧
          (131072 < first + n → t.reg (frmCnt q 6) = satAdd (b.reg (frmCnt q 6)) 1) ∧
          ((∀ i, i < n → (fw i).bad = false ∧ (fw i).ce = false) → first + n ≤ 131072 → t.regs = b.regs) ∧
          (t.q q).frame = (b.q q).frame ∧ t.mem = b.mem) ∧
      (b.parcelIs q 4 h body q1 →
        ∃ t, Completes (.portBPresRead q none) s t ∧ (b.q q).vc1Out <+: (t.q q).vc1Out ∧
          let got := (t.q q).vc1Out.drop ((b.q q).vc1Out.length + 1)
          got.length = (n + 63) / 64 ∧
          (got.flatMap presCodes).take n = (List.range n).map (fun i => if first + i < 131072 then (fw i).pres else 0) ∧
          (∀ k, ∀ _ : k < got.length, got[k].tok.poison = decide (131072 < first + min n (64 * (k + 1)))) ∧
          (131072 < first + n → t.reg (frmCnt q 6) = satAdd (b.reg (frmCnt q 6)) 1) ∧ SameRegs b t [frmCnt q 6] ∧
          (t.q q).frame = (b.q q).frame ∧ t.mem = b.mem) ∧
      (b.parcelIs q 5 h body q1 →
        ((fw 0).pres ≠ 0 →
          ∃ t, Completes (.portBReadWait q none 0) s t ∧
            (t.q q).vc1Out = answer (if (fw 0).bad then 1 else 0) [((fw 0).data, 0, (fw 0).bad || decide ((fw 0).pres ≠ 3))] ∧
            ((fw 0).pres ≠ 3 → t.reg (frmCnt q 2) = satAdd (b.reg (frmCnt q 2)) 1) ∧
            ((fw 0).bad = true → t.reg (frmCnt q 1) = satAdd (b.reg (frmCnt q 1)) 1) ∧
            ((fw 0).pres = 3 → (fw 0).bad = false → (fw 0).ce = false → t.regs = b.regs) ∧
            (t.q q).frame = (b.q q).frame ∧ (t.q q).park = (b.q q).park ∧ t.mem = b.mem) ∧
        ((fw 0).pres = 0 → (b.q q).parkOcc < 4096 →
          ∃ t, Completes (.portBReadWait q none 0) s t ∧ (t.q q).park = (b.q q).park ++ [{ word := first, who := .readWait h.tok.tag h.pt }] ∧
            (t.q q).vc1Out = (b.q q).vc1Out ∧ (t.q q).frame = (b.q q).frame ∧ t.mem = b.mem) ∧
        ((fw 0).pres = 0 → 4096 ≤ (b.q q).parkOcc →
          ∃ t, Completes (.portBReadWait q none 0) s t ∧ (t.q q).vc1Out = answer 2 [] ∧ (t.q q).park = (b.q q).park ∧
            (t.q q).frame = (b.q q).frame ∧ t.regs = b.regs ∧ t.mem = b.mem))
  )


-- The Avenue

/-- R50 at injection: whatever a token carries, it leaves with END 1, the SO the point gives, a defined KIND and FMT, and the low two bits
of its TAG 0; its VALUE, the rest of its TAG, its POISON and, where they are defined, its KIND and FMT are kept.
TOKEN_INJECT takes the word at the head of an outbound lane; rewritten by R50, it goes as a VC0 flit to the Crossing of the Quarter
that its context's placement names for its group (R41, R43, R99). NODEMAP_MISS_FILL brings the word an injection point waits for into its
cache (R362). -/
def Obligations.Injection : Prop :=
  (
    ∀ (t : Token) (so : Bool),
      let u := (fixToken t so).1
      u.value = t.value ∧ u.last = true ∧ u.so = so ∧ u.poison = t.poison ∧ u.gop = t.gop ∧ u.epl = t.epl ∧ u.tag.toNat % 4 = 0 ∧
      u.tag.toNat / 4 = t.tag.toNat / 4 ∧ (t.kind < 10 → u.kind = t.kind) ∧ (10 ≤ t.kind → u.kind = 0) ∧
      (t.fmt ≠ 7 → u.fmt = t.fmt) ∧ (t.fmt = 7 → u.fmt = 6) ∧
      (∀ n, n ∈ (fixToken t so).2 ↔ (n = 0 ∧ t.tag.toNat % 4 ≠ 0) ∨ (n = 1 ∧ 10 ≤ t.kind) ∨ (n = 2 ∧ t.fmt = 7) ∨ (n = 3 ∧ t.last = false))
  ) ∧
  (
    (∀ (s : State) (q : Fin 68) (j : Fin 4) (w : LaneWord) (ws : List LaneWord) (x : Ctx) (c : CacheWord) (g lq p : Nat),
      let b := s.blk
      let old := SMap.get (b.xing (xyOf q).1 (xyOf q).2).bufs [] (bufKey 4 0)
      j.val < 3 → b.up = true → b.retired.contains q = false → b.cont.roll = none → b.ave.mig = none → b.rf 0x300044 15 0 = 0 →
      ((b.q q).lane (4 + j)).closing = none → ((b.q q).lane (4 + j)).drain = w :: ws → w.sound = true → w.tok.kind ∉ [4, 5, 7, 8] →
      old.length < 8 → (b.xing (xyOf q).1 (xyOf q).2).down.contains 4 = false →
      tagDev w.tok.tag = b.ownId → b.ctx? w.tok.ctx = some x → x.placed = true →
      (b.inj q).cache.find? (fun e => e.ctx = x.desc.image ∧ e.node = tagNode w.tok.tag) = some c → wordGroup c.word = some g →
      SMap.find? x.groups g = some lq → b.phys lq = some p →
      ∃ t, Completes (.tokenInject (.lane q j false)) s t ∧ ((t.q q).lane (4 + j)).drain = ws ∧
        SMap.get (t.xing (xyOf q).1 (xyOf q).2).bufs [] (bufKey 4 0) = old ++
          [({ word := (fixToken w.tok false).1, dstX := (xyOf p).1, dstY := (xyOf p).2, dstP := 0, vc := 0, srcX := (xyOf q).1,
              srcY := (xyOf q).2, srcP := 0, hops := 0, ord := 0, esc := 0 } : Flit).seal] ∧
        (∀ n ∈ (fixToken w.tok false).2, t.reg (aveCnt n) = satAdd (b.reg (aveCnt n)) 1) ∧ t.live = b.live ∧ t.mem = b.mem) ∧
    (∀ (s : State) (point : InjPoint) (image node : Nat), s.blk.up = true → (s.blk.inj (pointUnit point)).miss = some (image, node) →
      ∃ t, Completes (.nodemapMissFill point) s t ∧ (t.inj (pointUnit point)).miss = none ∧
        (t.inj (pointUnit point)).cache.find? (fun w => w.ctx = image ∧ w.node = node) =
          some { ctx := image, node := node, word := s.blk.nodemap image node } ∧
        t.regs = (s.blk.readNodemap image node).regs ∧ t.mem = (s.blk.readNodemap image node).mem)
  )

/-- FLIT_FORWARD sends the flit that arbitration chose over its output, with one credit spent: with HOPS increased and its CRC made afresh
into the neighbour's buffer, where a flit whose CRC fails is replayed instead, or at L0 to its Quarter (R57, R99, R216, R217, R221);
CREDIT_RETURN gives a credit back (R217). LINK_REPLAY counts a replay and reports it, and a link that has failed 16 times in a row is DOWN
(R221, R222). ROUNDABOUT_ESCAPE: the head of a VC0 buffer that has waited ROUND_WAIT moves onto VC2, and a source-ordered head takes every
flit of the buffer with it (R60, R231). PEN_WRITE writes the writer's first token into the pen of its Quarter and notes it there (R84,
R233). -/
def Obligations.Links : Prop :=
  (
    ∀ (s : State) (x : Fin 9) (y : Fin 8) (port : Port) (vc : Fin 3),
      let b := s.blk
      let out := portIdx port
      let c := b.xing x y
      b.up = true →
      (∀ i f fs, b.arbitrate x y out = some vc.val → b.chosen x y out vc = some i → SMap.get c.bufs [] (bufKey i vc) = f :: fs →
        (∀ k < 6, ∀ g gs, SMap.get c.bufs [] (bufKey k vc) = g :: gs → g.corrupt x y = false) → b.rf 0x300044 15 0 = 0 → i < 6 →
        (∀ nx ny, neighbour x y out = some (nx, ny) → f.sound = false →
          Completes (.flitForward x y port vc) s (b.replay nx ny (opposite out) false)) ∧
        (∀ nx ny, neighbour x y out = some (nx, ny) → f.sound = true →
          ∃ t, Completes (.flitForward x y port vc) s t ∧ SMap.get (t.xing x y).bufs [] (bufKey i vc) = fs ∧
            SMap.get (t.xing nx ny).bufs [] (bufKey (opposite out) vc) =
              SMap.get (b.xing nx ny).bufs [] (bufKey (opposite out) vc) ++ [({ f with hops := f.hops + 1 } : Flit).seal] ∧
            SMap.get (t.xing x y).spent 0 (bufKey out vc) = SMap.get c.spent 0 (bufKey out vc) + 1 ∧ t.qs = b.qs ∧ t.regs = b.regs ∧
            t.mem = b.mem) ∧
        (∀ p, out = 4 → quarterAt x y = some p → b.retired.contains p = false → b.distLevel (distOf p) = 0 →
          ∃ t, Completes (.flitForward x y port vc) s t ∧ SMap.get (t.xing x y).bufs [] (bufKey i vc) = fs ∧
            (t.q p).arriving = (b.q p).arriving ++ [{ lane := if vc.val = 1 then 8 else inLane f.srcX f.srcY f.srcP,
                                                      word := { tok := f.word, pt := 2 * xk f.srcX f.srcY + f.srcP } }] ∧
            SMap.get (t.xing x y).spent 0 (bufKey 4 vc) = SMap.get c.spent 0 (bufKey 4 vc) + 1 ∧
            t.regs = b.regs ∧ t.mem = b.mem)) ∧
      (SMap.get c.freed 0 (bufKey out vc) ≠ 0 →
        ∃ t, Completes (.creditReturn x y port vc) s t ∧
          SMap.get (t.xing x y).freed 0 (bufKey out vc) = SMap.get c.freed 0 (bufKey out vc) - 1 ∧
          SMap.get (t.xing x y).spent 0 (bufKey out vc) = SMap.get c.spent 0 (bufKey out vc) - 1 ∧ t.qs = b.qs ∧ t.regs = b.regs ∧
          t.mem = b.mem) ∧
      (∀ ux uy, c.down.contains out = false → neighbour x y out = some (ux, uy) → (b.chosen ux uy (opposite out) vc).isSome = true →
        ∃ t, Completes (.linkReplay x y port) s t ∧ t.qs = b.qs ∧ t.mem = b.mem ∧
          (SMap.get c.replays 0 out < 16 → SMap.get (t.xing x y).replays 0 out = SMap.get c.replays 0 out + 1 ∧
            t.reg (aveCnt 4) = satAdd (b.reg (aveCnt 4)) 1 ∧ (t.xing x y).down = c.down ∧ t.hub.wires.length = b.hub.wires.length + 1) ∧
          (16 ≤ SMap.get c.replays 0 out → (t.xing x y).down.contains out = true ∧ t.rf 0x500020 31 31 = 1))
  ) ∧
  (
    (∀ (s : State) (x : Fin 9) (y : Fin 8) (port : Port) (f : Flit) (fs : List Flit),
      let b := s.blk
      let c := b.xing x y
      let n := if ordered f.word then fs.length + 1 else 1
      b.up = true → SMap.get c.bufs [] (bufKey (portIdx port) 0) = f :: fs → b.rf 0x500000 0 0 = 1 → c.holds f = false →
      f.corrupt x y = false →
      ∃ t, Completes (.roundaboutEscape x y port) s t ∧ SMap.get (t.xing x y).bufs [] (bufKey (portIdx port) 0) = (f :: fs).drop n ∧
        SMap.get (t.xing x y).bufs [] (bufKey (portIdx port) 2) = SMap.get c.bufs [] (bufKey (portIdx port) 2) ++
          ((f :: fs).take n).map (fun g => ({ g with vc := 2, hops := 0, esc := xk x y + 1 } : Flit).seal) ∧
        t.reg (aveCnt 6) = satAdd (b.reg (aveCnt 6)) n ∧ SMap.get c.since 0 (bufKey (portIdx port) 0) + b.roundWait ≤ t.now ∧
        t.qs = b.qs ∧ t.mem = b.mem) ∧
    (∀ (s : State) (stop : Fin 8) (f : Flit) (fs : List Flit) (p : Nat),
      let b := s.blk
      let slots := b.penBytes p / 32
      b.up = true → SMap.get b.ave.writers [] stop = f :: fs → quarterAt f.dstX f.dstY = some p → b.retired.contains p = false →
      b.memOk = true → b.rollDiscards p f.word = false → (b.plz p).penWr - (b.plz p).penRd < slots → b.undoFull p = false → b.stops.lost = [] →
      b.penBase p + 32 * slots ≤ maEnd →
      ∃ t, Completes (.penWrite stop) s t ∧ SMap.get t.ave.writers [] stop = fs ∧ (t.plz p).penWr = (b.plz p).penWr + 1 ∧
        (t.plz p).noted = (b.plz p).noted + 1 ∧
        memRead t.mem (b.penBase p + 32 * ((b.plz p).penWr % slots)) 32 = slotBytes { tok := f.word, pos := 0, ord := f.ord } ∧
        ∀ a, a < b.penBase p + 32 * ((b.plz p).penWr % slots) ∨ b.penBase p + 32 * ((b.plz p).penWr % slots) + 32 ≤ a →
          memGet t.mem a = memGet b.mem a)
  )

/-- The iteration gates: RETIRE_WORD marks an index and, where it is BASE, advances BASE and looks up the index that the window newly admits
(R227); GATE_REGROW doubles K_NOW up to the bound K_SET stands for (R230); GATE_K_SET_WRITE sets K_SET and lowers K_NOW to it (R228, R230);
STREAM_GATE_REPORT brings a STREAM gate's BASE and K_NOW to the Converter Gate (R229). -/
def Obligations.IterationGates : Prop :=
  (∀ (s : State) (q : Fin 68) (tag : W64) (rest : List W64) (e k : Nat) (g : GateEntry),
    let b := s.blk
    b.qRuns q = true → (b.q q).retireIn = tag :: rest → (b.q q).gates = [(e, g)] → g.valid = true → g.ctx = tagCtx tag →
    g.exit = tagNode tag → gateBound g.stream g.kset = some k → (tagIdx tag + 2 ^ 18 - g.base) % 2 ^ 18 < k → g.map = [] → g.base < 2 ^ 18 →
    ∃ t g', Completes (.retireWord q) s t ∧ (t.q q).retireIn = rest ∧ (t.q q).gates = [(e, g')] ∧
      (tagIdx tag = g.base → g' = { g with base := (g.base + 1) % 2 ^ 18, since := g.since + 1 } ∧
        (t.plz q).internal = (b.plz q).internal ++ [mkTag b.ownId g.ctx g.entry ((g.base + g.know) % 2 ^ 18) 0]) ∧
      (tagIdx tag ≠ g.base → g' = { g with map := [tagIdx tag], since := g.since + 1 } ∧ (t.plz q).internal = (b.plz q).internal) ∧
      t.regs = b.regs ∧ t.mem = b.mem) ∧
  (∀ (s : State) (q e k period due : Nat) (g : GateEntry),
    let b := s.blk
    b.up = true → b.ave.regrow = some (period, due) → b.ave.recovering = false → b.allGates = [(q, e, g)] →
    gateBound g.stream g.kset = some k → g.know < k →
    ∃ t, Completes .gateRegrow s t ∧ due ≤ t.now ∧ SMap.find? (t.q q).gates e = some { g with know := min k (2 * g.know) } ∧
      (t.plz q).internal = (b.plz q).internal ++ ((List.range (min k (2 * g.know) - g.know)).map fun d =>
        mkTag b.ownId g.ctx g.entry ((g.base + g.know + d) % 2 ^ 18) 0) ∧ t.mem = b.mem) ∧
  (∀ (s : State) (value : W32) (g : GateEntry) (n m : Nat),
    let b := s.blk
    let q := b.rf 0x500200 6 0
    let e := b.rf 0x500200 11 8
    b.up = true → q < 68 → b.retired.contains q = false → SMap.find? (b.q q).gates e = some g → g.valid = true →
    gateBound g.stream g.kset = some m → gateBound g.stream (value.toNat % 2 ^ 18) = some n →
    ∃ t, Completes (.gateKSetWrite value) s t ∧
      SMap.find? (t.q q).gates e = some { g with kset := value.toNat % 2 ^ 18, know := min g.know n } ∧ t.regs = b.regs ∧ t.mem = b.mem) ∧
  (∀ (s : State) (q : Fin 68) (e : Fin 16) (g : GateEntry),
    let b := s.blk
    let seen := SMap.find? b.ave.convGate (16 * q.val + e.val)
    b.up = true → SMap.find? (b.q q).gates e = some g → g.valid = true → g.stream = true → b.retired.contains q = false →
    (∀ base know, seen = some (base, know) → 256 ≤ g.since ∨ know ≠ g.know) →
    ∃ t, Completes (.streamGateReport q e) s t ∧ SMap.find? t.ave.convGate (16 * q.val + e.val) = some (g.base, g.know) ∧
      SMap.find? (t.q q).gates e = some { g with since := 0 } ∧ (∀ p, p ≠ q.val → t.q p = b.q p) ∧ t.regs = b.regs ∧ t.mem = b.mem)

/-- DIST_SUSPECT finds a District that has not fired for STALL_WAIT SUSPECT while words wait in it, with an event, and QUIET otherwise
(R236). GRIDLOCK freezes the Plazas and counts the declaration (R237, R238); GRIDLOCK_RELEASE lets them resume (R238, step 6).
MIGRATION_START holds a group's tokens, MIGRATION_SWITCH gives a group that is idle within WAIT its new Quarter, and MIGRATION_ABANDON
leaves one that is not where it is (R244). -/
def Obligations.GridlockAndMigration : Prop :=
  ∀ s : State,
    let b := s.blk
    b.up = true →
    (∀ d : Fin 8, b.ave.recovering = false → b.distBusy d = false → b.distRunning d = true →
      ∃ t, Completes (.distSuspect d) s t ∧ SMap.get b.ave.lastFired 0 d + b.stallWait d ≤ t.now ∧
        (b.distWaiting d = true → t.ave.suspect.contains d.val = true ∧ t.ave.quiet.contains d.val = false ∧
          (b.ave.suspect.contains d.val = false → t.evc.raised = b.evc.raised ++ [{ src := 5, arg := d, tag := none }])) ∧
        (b.distWaiting d = false → t.ave.quiet.contains d.val = true ∧ t.ave.suspect.contains d.val = false ∧ t.evc = b.evc) ∧
        t.qs = b.qs ∧ t.mem = b.mem) ∧
    (b.rf 0x500000 1 1 = 1 → b.ave.recovering = false → (∀ d ∈ b.running, b.suspectNow d = true ∨ b.quietNow d = true) →
      (∃ d ∈ b.running, b.suspectNow d = true) →
      (∀ e ∈ b.ave.xings, ∀ i < 6, SMap.get (b.xing (e.1 % 16) (e.1 / 16)).bufs [] (bufKey i 0) = []) →
      (∀ e ∈ b.qs, (b.plz e.1).entries.length ≤ min (b.rf 0x50000C 14 0) 16384) →
      ∃ t, Completes .gridlock s t ∧ t.ave.recovering = true ∧ t.ave.declared = b.now ∧ t.ave.suspect = [] ∧ t.ave.quiet = [] ∧
        t.ave.mig = none ∧ t.reg 0x500014 = satAdd (b.reg 0x500014) 1 ∧ t.qs = b.qs ∧
        t.evc.raised.length = b.noteSuspects.evc.raised.length + 1 ∧ t.mem = b.mem) ∧
    (∀ cycles, b.ave.recovering = true →
      ∃ t, Completes (.gridlockRelease cycles) s t ∧ t.ave.recovering = false ∧ t.ave.suspect = [] ∧ t.ave.quiet = [] ∧
        t.reg 0x500018 = max cycles (nsCycles (t.now - b.ave.declared)) % 2 ^ 32 ∧ b.ave.declared + cyclesNs cycles ≤ t.now ∧
        t.mem = b.mem) ∧
    (∀ m x, b.ave.chosen = some m → b.ave.recovering = false → b.ave.mig = none → b.cont.roll = none → b.ctx? m.ctx = some x →
      x.placed = true → SMap.find? x.groups m.group = some m.old →
      ∃ t, Completes .migrationStart s t ∧ t.ave.mig = some { m with start := b.now } ∧ t.ave.chosen = none ∧ t.qs = b.qs ∧
        t.regs = b.regs ∧ t.mem = b.mem) ∧
    (∀ m x, b.ave.mig = some m → b.groupIdle m = true → b.now ≤ b.migDeadline m → b.ctx? m.ctx = some x →
      ∃ t x', Completes .migrationSwitch s t ∧ t.ave.mig = none ∧ t.ctx? m.ctx = some x' ∧
        SMap.find? x'.groups m.group = some m.target ∧ (∀ g, g ≠ m.group → SMap.find? x'.groups g = SMap.find? x.groups g) ∧
        t.reg (aveCnt 10) = satAdd (b.reg (aveCnt 10)) 1 ∧ t.qs = b.qs ∧ t.mem = b.mem) ∧
    (∀ m, b.ave.mig = some m → b.groupIdle m = false ∨ b.migDeadline m < b.now →
      ∃ t, Completes .migrationAbandon s t ∧ t.ave.mig = none ∧ t.disp = b.disp ∧
        m.start + min (max (b.rf 0x500300 23 16) 1) 12 * 1000 ≤ t.now ∧ t.reg (aveCnt 12) = satAdd (b.reg (aveCnt 12)) 1 ∧
        t.qs = b.qs ∧ t.mem = b.mem)


-- Contexts and the Dispatcher

/-- SQ r may start its next job, and that is `j` with operation code `op` (R369, R411). -/
def Sys2Proof.Machine.Block.starts (b : Block) (r op : Nat) (j : Job) : Prop :=
  b.up = true ∧ b.host.resume = false ∧ b.host.reconciling = false ∧ b.hub.grave = false ∧ (b.sq r).next = some j ∧ j.op = op ∧ j.done = false

/-- A job has completed with a status, a result and a detail. -/
def Sys2Proof.Machine.Block.ended (t : Block) (r : Nat) (j : Job) (status result detail : Nat) : Prop :=
  ((t.sq r).jobs.find? fun x => x.index = j.index).map (fun x => (x.done, x.status, x.result, x.detail)) =
    some (true, status, result % 2 ^ 64, detail % 2 ^ 32)

/-- The completion record of a context is queued at its CQ (R267, R371). -/
def Sys2Proof.Machine.Block.recorded (t : Block) (c : Nat) (x : Ctx) (status : Nat) (value : W64) : Prop :=
  ∃ time orphans unfound, CqRec.ctx time (b2n x.faulted + 2 * b2n x.poisoned + 4 * b2n x.orphaned) status c value orphans unfound
    x.armRing x.armIndex ∈ (t.cq x.cring).waiting

/-- START_CTX takes an entry for an IDLE context and asks for its descriptor; a context that is resident, in quarantine or past
DISPATCH_DESC_LIMIT is refused with its own status (R254). DESCRIPTOR_READ_DONE arms the context: DEP as the descriptor has it, DUE counted
from TICK_NOW, and the state that DEP and the timer give (R256, R260); VALID 0 refuses it. -/
def Obligations.ContextArming : Prop :=
  (∀ (s : State) (r : Fin 64) (j : Job),
    let b := s.blk
    let c := j.arg 16 4 % 2 ^ 20
    b.starts r 4 j → b.cont.roll = none → (∀ a ∈ b.disp.arming, a.ctx ≠ c) →
    (b.ctxState c = 0 → c < b.ctxLimit → b.resident < 65536 →
      ∃ t, Completes (.startCtx r) s t ∧ t.disp.arming = b.disp.arming ++ [{ ctx := c, cring := j.byte 20 % 64, ring := r, index := j.index }] ∧
        t.disp.ctxs = b.disp.ctxs ∧ t.regs = b.regs ∧ t.mem = b.mem) ∧
    (1 ≤ b.ctxState c → b.ctxState c ≤ 6 → ∃ t, Completes (.startCtx r) s t ∧ t.ended r j 2 0 0 ∧ t.disp.ctxs = b.disp.ctxs) ∧
    (b.ctxState c = 7 → ∃ t, Completes (.startCtx r) s t ∧ t.ended r j 3 0 0 ∧ t.disp.ctxs = b.disp.ctxs) ∧
    (b.ctxState c = 0 → b.ctxLimit ≤ c → ∃ t, Completes (.startCtx r) s t ∧ t.ended r j 1 0 0 ∧ t.disp.ctxs = b.disp.ctxs)) ∧
  (∀ (s : State) (a : Arming) (rest : List Arming) (d : Desc) (due : Nat),
    let b := s.blk
    b.up = true → b.disp.arming = a :: rest → b.cont.roll = none → b.journalRoom (.disp a.ctx .arm) = true → b.stops.lost = [] →
    b.descMa a.ctx + 128 ≤ maEnd → d = Desc.ofBytes (memRead b.mem (b.descMa a.ctx) 128) →
    due = (if d.tmode = 0 then d.due else (b.disp.tickNow + d.length) % 2 ^ 32) →
    (d.ctl.testBit 0 = true →
      ∃ t y, Completes .descriptorReadDone s t ∧ t.disp.arming = rest ∧ t.ctx? a.ctx = some y ∧ y.desc = { d with due := due } ∧
        y.started = false ∧ y.cring = a.cring ∧ y.state = (if d.dep ≠ 0 then 1 else if d.tmode = 1 then 2 else 3) ∧
        (∀ c, c ≠ a.ctx → t.ctx? c = b.ctx? c) ∧ t.reg (dispCnt 0) = satAdd (b.reg (dispCnt 0)) 1 ∧
        (∀ j, ((b.sq a.ring).jobs.find? fun x => x.index = a.index && !x.done) = some j → t.ended a.ring j 0 d.dep 0) ∧ t.mem = b.mem) ∧
    (d.ctl.testBit 0 = false →
      ∃ t, Completes .descriptorReadDone s t ∧ t.disp.arming = rest ∧ t.disp.ctxs = b.disp.ctxs ∧
        (∀ j, ((b.sq a.ring).jobs.find? fun x => x.index = a.index && !x.done) = some j → t.ended a.ring j 1 0 0) ∧ t.mem = b.mem))

/-- A context after a change of its DEP to `dep` (R255, R256, R260): one in WAITING moves on at 0, to DELAYED while a DELAY timer runs and to
READY otherwise, and one in DELAYED waits again with DEP above 0. `sub` are the units taken off. -/
def Sys2Proof.Machine.Block.afterDep (b : Block) (x : Ctx) (dep sub : Nat) : Ctx :=
  let x := { x with desc := { x.desc with dep := dep }, decs := if x.started then x.decs + sub else x.decs }
  if x.state = 2 ∧ dep ≠ 0 then { x with state := 1 }
  else if x.state ≠ 1 ∨ dep ≠ 0 then x
  else if x.desc.tmode = 1 ∧ x.timer = true ∧ fallenDue b.disp.tickNow x.desc.due = false then { x with state := 2 }
  else { x with state := 3, readySeq := b.disp.readySeq, timer := false, blocked := false }

/-- DEP of a context that is not resident can be read and written in its descriptor as the Stops hold it. -/
def Sys2Proof.Machine.Block.depInMemory (b : Block) (c : Nat) : Prop :=
  b.ctx? c = none ∧ b.defined c = true ∧ b.memOk = true ∧ b.stops.lost = [] ∧ b.stops.bad = [] ∧ b.rf 0x300044 15 0 = 0 ∧
  b.descMa c + 128 ≤ maEnd

/-- TICK raises TICK_NOW by 1 and moves on to the next multiple of PERIOD; a write of DISPATCH_TICK puts that at the first multiple of the
new PERIOD (R258). TIMER_DUE makes a DELAYED context READY; a DELAY that falls due while DEP is above 0 leaves its context WAITING; and a
context whose TIMEOUT has passed ends with status TIMEOUT and leaves, or with REARM arms itself again (R259 to R262).
SET_COUNTER sets or lowers DEP of a context, in its entry or, for one that is not resident, in its descriptor, and its record shows
DEP after and before; a subtraction of 0 changes nothing, a context that is not defined ends it NOT_DEFINED, and a MODE above 1 BAD_FIELD
(R255, R359, R363). DEP_DECREMENT takes 1 off, or counts in DEP_LOST where the context is not defined. DEP never falls below 0, which
DEP_UNDER counts, the states follow DEP as `afterDep` says (R256, R260), and other contexts are left alone. -/
def Obligations.Counters : Prop :=
  (
    ∀ s : State,
      let b := s.blk
      b.up = true →
      (∃ t, Completes .tick s t ∧ t.disp.tickNow = (b.disp.tickNow + 1) % 2 ^ 32 ∧ t.disp.nextTick = b.disp.nextTick + b.tickPeriod ∧
        (b.time.slew = 0 → b.timeNs ≤ b.disp.nextTick → b.disp.nextTick < 2 ^ 64 → t.timeNs = b.disp.nextTick) ∧
        t.disp.ctxs = b.disp.ctxs ∧ t.regs = b.regs ∧ t.mem = b.mem) ∧
      (∀ value : W32, ∃ t, Completes (.dispatchTickWrite value) s t ∧ t.reg 0x40000C = value.toNat % 1024 ∧ SameRegs b t [0x40000C] ∧
        t.disp.nextTick = (b.timeNs / t.tickPeriod + 1) * t.tickPeriod ∧ t.disp.tickNow = b.disp.tickNow ∧ t.mem = b.mem) ∧
      (∀ c x, b.nextTimer = some (c, x) → b.cont.roll = none → b.journalRoom (.disp c .timerDue) = true →
        (x.state = 2 → x.desc.dep = 0 → ∃ t, Completes .timerDue s t ∧
          t.ctx? c = some { x with state := 3, readySeq := b.disp.readySeq, timer := false, blocked := false } ∧
          (∀ k, k ≠ c → t.ctx? k = b.ctx? k) ∧ t.mem = b.mem) ∧
        (x.desc.tmode ≠ 2 → x.desc.dep ≠ 0 → ∃ t, Completes .timerDue s t ∧ t.ctx? c = some { x with state := 1, timer := false } ∧
          (∀ k, k ≠ c → t.ctx? k = b.ctx? k) ∧ t.mem = b.mem) ∧
        (x.desc.tmode = 2 → ¬(x.state = 2 ∧ x.desc.dep = 0) →
          ∃ t, Completes .timerDue s t ∧ t.recorded c x 2 0 ∧ (x.rearm = false → t.ctx? c = none) ∧
            (x.rearm = true → ∃ y, t.ctx? c = some y ∧ y.started = false ∧ 1 ≤ y.state ∧ y.state ≤ 3)))
  ) ∧
  (
    (∀ (s : State) (r : Fin 64) (j : Job) (sub : Bool),
      let b := s.blk
      let c := j.arg 16 4 % 2 ^ 20
      let v := j.arg 24 4
      let f (d : Nat) := if sub then d - v else v
      let cmd := if sub then Instr.setCounterSub r else Instr.setCounterSet r
      b.starts r 6 j → j.byte 20 = b2n sub → b.cont.roll = none → (∀ a ∈ b.disp.arming, a.ctx ≠ c) →
      b.journalRoom (.disp c (.dep 0 0)) = true →
      (∀ x, b.ctx? c = some x →
        ∃ t, Completes cmd s t ∧ t.ended r j 0 (f x.desc.dep) x.desc.dep ∧
          t.ctx? c = some (if sub = true ∧ v = 0 then x else b.afterDep x (f x.desc.dep) (if sub then v else 0)) ∧
          (sub = true → x.desc.dep < v → t.reg (dispCnt 5) = satAdd (b.reg (dispCnt 5)) 1) ∧
          (∀ k, k ≠ c → t.ctx? k = b.ctx? k) ∧ t.mem = b.mem) ∧
      (b.depInMemory c →
        ∃ t, Completes cmd s t ∧ t.ended r j 0 (f (b.loadLe (b.descMa c + 8) 4)) (b.loadLe (b.descMa c + 8) 4) ∧
          t.loadLe (b.descMa c + 8) 4 = f (b.loadLe (b.descMa c + 8) 4) % 2 ^ 32 ∧ t.disp.ctxs = b.disp.ctxs) ∧
      (b.ctx? c = none → b.defined c = false →
        ∃ t, Completes cmd s t ∧ t.ended r j 1 0 0 ∧ t.disp.ctxs = b.disp.ctxs ∧ t.mem = b.mem)) ∧
    (∀ (s : State) (r : Fin 64) (j : Job), s.blk.starts r 6 j → 2 ≤ j.byte 20 →
      ∃ t, Completes (.setCounterSet r) s t ∧ t.ended r j 12 0 0 ∧ t.disp.ctxs = s.blk.disp.ctxs ∧ t.mem = s.blk.mem) ∧
    (∀ (s : State) (c : Nat) (rest : List Nat),
      let b := s.blk
      b.up = true → b.disp.depQ = c :: rest → b.cont.roll = none → (∀ a ∈ b.disp.arming, a.ctx ≠ c) →
      b.journalRoom (.disp c (.dep 0 0)) = true →
      (∀ x, b.ctx? c = some x → c < b.ctxLimit →
        ∃ t, Completes .depDecrement s t ∧ t.disp.depQ = rest ∧ t.ctx? c = some (b.afterDep x (x.desc.dep - 1) 1) ∧
          (x.desc.dep = 0 → t.reg (dispCnt 5) = satAdd (b.reg (dispCnt 5)) 1) ∧ (∀ k, k ≠ c → t.ctx? k = b.ctx? k) ∧ t.mem = b.mem) ∧
      (b.depInMemory c →
        ∃ t, Completes .depDecrement s t ∧ t.disp.depQ = rest ∧ t.disp.ctxs = b.disp.ctxs ∧
          t.loadLe (b.descMa c + 8) 4 = b.loadLe (b.descMa c + 8) 4 - 1) ∧
      (((b.ctx? c).isSome = true ∧ b.ctxLimit ≤ c) ∨ (b.ctx? c = none ∧ b.defined c = false) →
        ∃ t, Completes .depDecrement s t ∧ t.disp.depQ = rest ∧ t.reg (dispCnt 6) = satAdd (b.reg (dispCnt 6)) 1 ∧
          t.disp.ctxs = b.disp.ctxs ∧ t.mem = b.mem))
  )

/-- CONTEXT_START starts the head of the highest ready list whose head is not blocked: the entries R264 asks for are taken, its groups are
placed, its counts are 0, and with every District of its placement running its CTL_START goes to the Host Gate (R263, R264); one held by
WAKEFIRST follows as its Districts run (R266). -/
def Obligations.Starts : Prop :=
  (∀ (s : State) (c n : Nat) (x : Ctx) (b1 : Block),
    let b := s.blk
    let b0 := b.readSections x.desc.image [5, 6]
    b.up = true → b.rf 0x400000 0 0 = 1 → b.hub.grave = false → b.cont.roll = none → b.journalRoom (.disp 0 .start) = true →
    n < 16 → b.headOf n = some (c, x) → x.blocked = false → (∀ m, n < m → m < 16 → b.headOf m = none) →
    b0.reserve c x (b0.placement x) = some b1 →
    (∀ d ∈ b1.districts (b0.placement x), b1.distLevel d = 0 ∧ b1.rf (distStat d) 0 0 = 0) →
    ∃ t y, Completes .contextStart s t ∧ t.ctx? c = some y ∧ y.state = 4 ∧ y.started = true ∧ y.groups = b0.placement x ∧ y.e = 0 ∧ y.c = 0 ∧
      y.decs = 0 ∧ y.startTime = b.timeNs ∧ t.qs = b1.qs ∧ (∀ k, k ≠ c → t.ctx? k = b.ctx? k) ∧
      (t.gate 0).starts = (b.gate 0).starts ++ [⟨x.desc.startValue,
        mkTag b.ownId c x.desc.startNode (x.desc.startTag % 2 ^ 18) (bits x.desc.startTag 19 18), mkCtrl 6 6 false true false 0 0⟩] ∧
      t.reg (dispCnt 1) = satAdd (b1.reg (dispCnt 1)) 1 ∧ t.mem = b0.mem) ∧
  (∀ (s : State) (c : Nat) (x : Ctx),
    let b := s.blk
    b.up = true → b.ctx? c = some x → x.held = true → x.state = 4 → b.hub.grave = false →
    (∀ d ∈ x.woken, b.distLevel d = 0 ∧ b.rf (distStat d) 1 1 = 0) →
    ∃ t, Completes (.wakefirstStart c) s t ∧ t.ctx? c = some { x with held := false } ∧
      (t.gate 0).starts.length = (b.gate 0).starts.length + 1 ∧ t.reg (dispCnt 1) = satAdd (b.reg (dispCnt 1)) 1 ∧ t.mem = b.mem)

/-- How a context ends without a span: CTL_END makes it ENDING with the END node's value, and a second one only counts (R47, R93, R501);
COUNT_FLUSH adds a unit's counts to the totals (R92); an unbalanced COMPLETION_ROUND starts over, and the second balanced one in a row
completes it with status OK and the value of its CTL_END (R93); ORPHAN_WAIT_EXPIRE sends it into collection (R94). -/
def Obligations.Completion : Prop :=
  ∀ (s : State) (c : Nat) (x : Ctx),
    let b := s.blk
    b.up = true → b.ctx? c = some x →
    (∀ tok ts, (b.gate 0).penCount = 0 → tok.so = false ∨ (b.gate 0).penWr ≤ (b.gate 0).penRd → (b.gate 0).inbox = tok :: ts → tok.ctx = c →
      (x.state = 4 → ∃ t, Completes .ctlEnd s t ∧ (t.gate 0).inbox = ts ∧ t.ctx? c = some { x with
        endSeen := true, value := tok.value, poisoned := x.poisoned || tok.poison, state := 5, okRounds := 0, when_ := b.now,
        orphWait := b.now + min (max (b.rf 0x400F00 19 0) 1) 1000000 * 1000 } ∧ t.mem = b.mem) ∧
      (x.state = 5 → ∃ t, Completes .ctlEnd s t ∧ (t.gate 0).inbox = ts ∧ t.ctx? c = some x ∧
        t.reg (dispCnt 10) = satAdd (b.reg (dispCnt 10)) 1 ∧ t.mem = b.mem)) ∧
    (∀ (unit : Fin 72) e k, SMap.find? b.live (liveKey unit c) = some (e, k) →
      ∃ t, Completes (.countFlush unit c) s t ∧ t.ctx? c = some { x with e := x.e + e, c := x.c + k } ∧
        SMap.find? t.live (liveKey unit c) = none ∧ (∀ u, u ≠ liveKey unit c → SMap.find? t.live u = SMap.find? b.live u) ∧
        t.regs = b.regs ∧ t.mem = b.mem) ∧
    (x.state = 5 → b.spanEntry c = none → x.span.waiting = false → b.cont.roll = none → b.unflushed c = false →
      (x.e ≠ x.c → ∃ t, Completes (.completionRound c) s t ∧ x.when_ ≤ t.now ∧
        t.ctx? c = some { x with okRounds := 0, when_ := t.now + 10000 } ∧ t.mem = b.mem) ∧
      (x.e = x.c → x.okRounds = 0 → ∃ t, Completes (.completionRound c) s t ∧ x.when_ ≤ t.now ∧
        t.ctx? c = some { x with okRounds := 1, when_ := t.now } ∧ t.mem = b.mem) ∧
      (x.e = x.c → 1 ≤ x.okRounds → x.rearm = false →
        ∃ t, Completes (.completionRound c) s t ∧ t.ctx? c = none ∧ t.recorded c x 0 x.value)) ∧
    (x.state = 5 → b.spanEntry c = none →
      ∃ t y, Completes (.orphanWaitExpire c) s t ∧ x.orphWait ≤ t.now ∧ t.ctx? c = some y ∧ y.state = 6 ∧ y.todo = b.collectors ∧
        y.cancelled = false ∧ y.status = 0 ∧ y.value = x.value ∧ t.mem = b.mem)

/-- CANCEL_CTX ends a context that has not started with status CANCELLED, and sends a started one into collection (R269);
QUARTER_COLLECT removes the operands of a CLOSING context from a Plaza, each an orphan where no cancel is under way (R94, R95);
COLLECTION_DONE completes it, with quarantine where one is due (R94, R271); QUARANTINE_END ends that (R262, R271). -/
def Obligations.CollectionAndCancel : Prop :=
  ∀ (s : State) (c : Nat) (x : Ctx),
    let b := s.blk
    b.up = true → b.ctx? c = some x → b.cont.roll = none →
    (∀ (r : Fin 64) (j : Job), b.starts r 5 j → j.arg 16 4 % 2 ^ 20 = c → (∀ a ∈ b.disp.arming, a.ctx ≠ c) →
      b.journalRoom (.disp c .cancel) = true →
      (1 ≤ x.state → x.state ≤ 3 → x.started = false →
        ∃ t, Completes (.cancelCtx r) s t ∧ t.ended r j 0 x.state 0 ∧ t.ctx? c = none ∧ t.recorded c x 1 0) ∧
      (4 ≤ x.state → x.state ≤ 5 →
        ∃ t y, Completes (.cancelCtx r) s t ∧ t.ended r j 0 x.state 0 ∧ t.ctx? c = some y ∧ y.state = 6 ∧ y.cancelled = true ∧
          y.status = 1 ∧ y.rearm = false ∧ y.todo = b.collectors)) ∧
    (∀ q : Fin 68, x.state = 6 → x.todo.contains q.val = true → b.retired.contains q = false → (b.plz q).spill = [] → b.usedSlots q = [] →
      (b.plz q).penBusy = false → (∀ w ∈ (b.plz q).wait, w.tok.ctx ≠ c) → SMap.find? b.power.images q = none → x.cancelled = false →
      ∃ t y, Completes (.quarterCollect q c) s t ∧ (t.plz q).entries = ((b.plz q).entries.filter fun o => o.tok.ctx ≠ c) ∧
        t.ctx? c = some y ∧ y.todo = x.todo.filter (· ≠ q.val) ∧
        y.orphans = x.orphans + ((b.plz q).entries.filter fun o => o.tok.ctx = c).length ∧ t.mem = b.mem) ∧
    (x.state = 6 → x.todo = [] → b.spanEntry c = none → x.cancelled = true →
      (x.status = 1 → x.started = true → min (b.rf 0x400014 9 0) 1000 ≠ 0 →
        ∃ t y, Completes (.collectionDone c) s t ∧ t.ctx? c = some y ∧ y.state = 7 ∧
          y.when_ = b.now + min (b.rf 0x400014 9 0) 1000 * 1000000 ∧ t.recorded c x 1 (if x.endSeen then x.value else 0)) ∧
      (x.rearm = false → min (b.rf 0x400014 9 0) 1000 = 0 →
        ∃ t, Completes (.collectionDone c) s t ∧ t.ctx? c = none ∧ t.recorded c x x.status (if x.endSeen then x.value else 0))) ∧
    (x.state = 7 →
      (x.rearm = false → ∃ t, Completes (.quarantineEnd c) s t ∧ x.when_ ≤ t.now ∧ t.ctx? c = none ∧ (∀ k, k ≠ c → t.ctx? k = b.ctx? k)) ∧
      (x.rearm = true → ∃ t y, Completes (.quarantineEnd c) s t ∧ x.when_ ≤ t.now ∧ t.ctx? c = some y ∧ y.started = false ∧
        y.seq = x.seq ∧ y.cring = x.cring ∧ 1 ≤ y.state ∧ y.state ≤ 3 ∧ (∀ k, k ≠ c → t.ctx? k = b.ctx? k)))


-- The host interface

/-- Rings (R354 to R356, R366, R369 to R376): a poll takes every enabled ring's word; a descriptor is fetched, copied into the Ledger and
accepted; the ACCEPT record and the completion records are written where R371 and R375 place them; a host read that times out halts its SQ,
fails its job, puts the head read off, or leaves the words it was to bring while the poll goes on with the others (R348). -/
def Obligations.HostRings : Prop :=
  ∀ (s : State) (r : Fin 64),
    let b := s.blk
    let q := b.sq r
    (∀ hw, b.hostOn = true →
      ∃ t, Completes (.doorbellPoll hw) s t ∧ t.reg (hostCnt 7) = satAdd (b.reg (hostCnt 7)) 1 ∧ b.host.lastPoll + b.pollNs ≤ t.now ∧
        (ringOn (b.reg (sqCfg r)) = true → (t.sq r).tail = ofBytes (memRead (b.hostStores hw).hostMem (b.doorbell + 8 * r) 4)) ∧
        (ringOn (b.reg (cqCfg r)) = true → (t.cq r).head = ofBytes (memRead (b.hostStores hw).hostMem (b.doorbell + 8 * (64 + r)) 4)) ∧
        t.mem = b.mem) ∧
    (b.hostOn = true → b.host.active = true →
      ∃ t, Completes .pollModeIdle s t ∧ t.host = { b.host with active := false } ∧ b.host.lastChange + 1000000 ≤ t.now ∧ t.mem = b.mem) ∧
    (∀ hw, b.mayFetch r = true →
      ∃ t, Completes (.descriptorFetch r hw) s t ∧ t.sq r = { q with
        fetched := some (memRead (b.hostStores hw).hostMem (b.descAddr r q.accepted) 64), keyDone := none } ∧ t.regs = b.regs ∧ t.mem = b.mem) ∧
    (∀ d, q.fetched = some d → descByte d 0 ≠ 10 → b.up = true → b.journalRoom (.job q.accepted d) = true →
      ∃ t, Completes (.descriptorAccept r) s t ∧ (t.sq r).accepted = (q.accepted + 1) % 2 ^ 32 ∧ (t.sq r).fetched = none ∧
        (t.sq r).accDue = true ∧ (t.sq r).hseq = ofBytes ((d.drop 8).take 8) ∧ t.cont.lsn = b.cont.lsn + 1 ∧
        (t.sq r).jobs = q.jobs ++ [⟨q.accepted, d, b.rf (sqCfg r) 13 8, false, false, false, 0, 0, 0, b.cont.lsn⟩] ∧
        t.reg (hostCnt 1) = satAdd (b.reg (hostCnt 1)) 1 ∧ t.mem = b.mem) ∧
    (b.hostOn = true → q.accDue = true → b.memOk = true →
      ∃ t, Completes (.acceptRecordWrite r) s t ∧ t.sq r = { q with accDue := false } ∧
        memRead t.hostMem (b.rf 0x100010 31 10 * 1024 + b.reg 0x100014 * 2 ^ 32 + 16 * r) 16 =
          leBytes 4 q.accepted ++ leBytes 4 q.gen ++ leBytes 8 q.hseq ∧ t.regs = b.regs ∧ t.mem = b.mem) ∧
    (∀ rec rest, b.memOk = true → b.hostOn = true → ringOn (b.reg (cqCfg r)) = true → (b.cq r).halted = false →
      takeFirst (fun x => b.recReady r x) (b.cq r).waiting = some (rec, rest) →
      ringDiff (b.cq r).w (b.cq r).head < ringSize (b.reg (cqCfg r)) →
      ∃ t, Completes (.completionRecordWrite r) s t ∧ (t.cq r).waiting = rest ∧ (t.cq r).w = ((b.cq r).w + 1) % 2 ^ 32 ∧
        memRead t.hostMem (b.cqSlot r (b.cq r).w) 32 = rec.bytes (b.cq r).w (ringSize (b.reg (cqCfg r))) ∧
        (∀ a, a < b.cqSlot r (b.cq r).w ∨ b.cqSlot r (b.cq r).w + 32 ≤ a → memGet t.hostMem a = memGet b.hostMem a) ∧
        (t.ring r).unsig = (b.ring r).unsig + 1 ∧ t.mem = b.mem) ∧
    (b.mayFetch r = true → ∃ t, Completes (.hostReadTimeout (.descriptor r)) s t ∧ t.sq r = { q with halted := true, cause := 2 } ∧
      t.reg (hostCnt 4) = satAdd (b.reg (hostCnt 4)) 1 ∧ t.now = b.now + 50000000 ∧ t.mem = b.mem) ∧
    (∀ op j, op = 2 ∨ op = 7 → b.starts r op j → b.hostBus = true → j.hostRead = true →
      ∃ t, Completes (.hostReadTimeout (.job r)) s t ∧ t.ended r j 13 0 0 ∧ t.now = b.now + 50000000 ∧ t.mem = b.mem) ∧
    (∀ k : Fin 80, (b.ring k).headRead = true → b.hostBus = true →
      ∃ t, Completes (.hostReadTimeout (.head k)) s t ∧ t.ring k = { b.ring k with headRead := false, due := true } ∧ t.mem = b.mem) ∧
    (∀ first count, b.hostOn = true → (∃ k ∈ b.polledWords, first ≤ k ∧ k < first + count) →
      ∃ t, Completes (.hostReadTimeout (.poll first count)) s t ∧ t.reg (hostCnt 4) = satAdd (b.reg (hostCnt 4)) 1 ∧
        t.reg (hostCnt 7) = satAdd (b.reg (hostCnt 7)) 1 ∧ t.host.lastPoll = t.now ∧
        (first ≤ r.val ∧ r.val < first + count → t.sq r = q) ∧
        (¬(first ≤ r.val ∧ r.val < first + count) → ringOn (b.reg (sqCfg r)) = true →
          (t.sq r).tail = ofBytes (memRead b.hostMem (b.doorbell + 8 * r) 4)) ∧ t.mem = b.mem)

/-- Jobs without data (R358, R367, R405, R414, R423): NOP and a FENCE whose earlier jobs are done end OK, a reserved OP ends BAD_OP;
FAULT_ACK acknowledges the pending faults of its classes up to its FSEQ and its RESULT counts them; KERB_FORCE moves the enabled outputs of
its mask as its MODE and their states allow; EPOCH_NOW starts the close of the epoch, or with snapshots off names the last complete one. -/
def Obligations.ControlJobs : Prop :=
  ∀ (s : State) (r : Fin 64) (j : Job),
    let b := s.blk
    (b.starts r 0 j → ∃ t, Completes (.jobNop r) s t ∧ t.ended r j 0 0 0 ∧ t.qs = b.qs ∧ t.disp.ctxs = b.disp.ctxs ∧ t.mem = b.mem) ∧
    (b.starts r 1 j → (∀ x ∈ (b.sq r).jobs.takeWhile (fun x => x.index != j.index), x.done = true) →
      ∃ t, Completes (.jobFence r) s t ∧ t.ended r j 0 0 0 ∧ t.mem = b.mem) ∧
    (∀ op, 14 ≤ op → b.starts r op j → ∃ t, Completes (.badOp r) s t ∧ t.ended r j 11 0 0 ∧ t.mem = b.mem) ∧
    (b.starts r 11 j →
      ∃ t, Completes (.faultAck r) s t ∧
        t.hub.pend = (b.hub.pend.filter fun p => !((j.byte 24).testBit p.cls && decide (p.fseq ≤ j.arg 16 8))) ∧
        t.ended r j 0 ((b.hub.pend.filter fun p => (j.byte 24).testBit p.cls && decide (p.fseq ≤ j.arg 16 8)).length +
          (b.hub.graveUnacked.filter fun f => (j.byte 24).testBit 4 && decide (f ≤ j.arg 16 8)).length) 0 ∧ t.mem = b.mem) ∧
    (b.starts r 12 j →
      (j.byte 20 = 0 → ∃ t, Completes (.kerbForceRelease r) s t ∧ t.ended r j 0 0 0 ∧ t.mem = b.mem ∧
        ∀ n < 16, t.kerbState n = if (j.arg 16 2).testBit n && b.kerbOn n && decide (b.kerbState n < 5) &&
          !(b.kerbState n == 4 && b.boundNow n) then 1 else b.kerbState n) ∧
      (j.byte 20 = 1 → ∃ t, Completes (.kerbForceLevel r) s t ∧ t.ended r j 0 0 0 ∧ t.mem = b.mem ∧
        ∀ n < 16, if (j.arg 16 2).testBit n && b.kerbOn n && decide (b.kerbState n < 3)
          then t.kerbState n = 2 ∧ SMap.get t.kerb.level 0 n = b2n ((j.arg 18 2).testBit n) else t.kerbState n = b.kerbState n) ∧
      (j.byte 20 = 2 → ∃ t, Completes (.kerbForceSafe r) s t ∧ t.ended r j 0 0 0 ∧ t.mem = b.mem ∧
        ∀ n < 16, t.kerbState n = if (j.arg 16 2).testBit n && b.kerbOn n && decide (b.kerbState n < 4) then 3 else b.kerbState n) ∧
      (3 ≤ j.byte 20 → ∃ t, Completes (.kerbForceRelease r) s t ∧ t.ended r j 12 0 0 ∧ t.kerb = b.kerb ∧ t.mem = b.mem)) ∧
    (b.starts r 13 j →
      (b.rf 0x1100200 0 0 = 0 → ∃ t, Completes (.epochNow r) s t ∧
        t.ended r j 0 (match b.cont.bank with | some k => k.epoch | none => 0) 1 ∧ t.cont.close = b.cont.close ∧ t.mem = b.mem) ∧
      (b.rf 0x1100200 0 0 = 1 → b.cont.close = none → b.cont.roll = none → b.stops.bad = [] → b.rf 0x300044 15 0 = 0 → ∃ t c, Completes (.epochNow r) s t ∧
        t.cont.close = some c ∧ c.epoch = b.cont.epoch ∧ t.cont.epoch = b.cont.epoch + 1 ∧
        t.cont.epochAsked = b.cont.epochAsked ++ [(r.val, j.index)] ∧ t.mem = b.mem))

/-- Jobs that move data (R343, R345, R360, R361, R364 to R366): INJECT queues its tokens at the Host Gate and journals each; DMA copies
between host memory and module memory, byte for byte, and changes nothing else; LOAD_IMAGE loads a CODE section into the Quarter it names;
LOG_DRAIN writes sealed blocks to the host; KEY_LOAD writes the key slot and zeroes the key in the ring. -/
def Obligations.DataJobs : Prop :=
  ∀ (s : State) (r : Fin 64) (j : Job) (hw : List (Nat × Byte)),
    let b := s.blk
    let host := (b.hostStores hw).hostMem
    (∀ count toks, b.starts r 2 j → b.hostBus = true → count = j.arg 24 4 → count ≠ 0 →
      b.journalUsed + min (count * (JBody.inject { value := 0, tag := 0, ctrl := 0 }).len) b.journalSpace ≤ b.journalSpace →
      toks = (List.range count).map (fun i => Token.ofBytes (memRead host (j.arg 16 8 / 32 * 32 + 32 * i) 32)) →
      (∀ t ∈ toks, t.kind ≠ 7 ∧ t.kind ≠ 8) →
      ∃ t, Completes (.inject r hw none) s t ∧ (t.gate 0).out.map (·.1) = (b.gate 0).out.map (·.1) ++ toks ∧
        t.cont.lsn = b.cont.lsn + count ∧ SameRegs b t [colirCnt 5] ∧ t.mem = b.mem) ∧
    (∀ ma len, b.starts r 7 j → b.hostBus = true → b.memOk = true → ma = j.arg 24 8 % 2 ^ 40 → len = j.arg 32 4 → len ≠ 0 → ma + len ≤ maEnd →
      b.stops.lost = [] →
      ∃ t, Completes (.dmaToModule r hw none) s t ∧ t.ended r j 0 len 0 ∧ memRead t.mem ma len = memRead host (j.arg 16 8) len ∧
        ∀ a, a < ma ∨ ma + len ≤ a → memGet t.mem a = memGet b.mem a) ∧
    (∀ ma len, b.starts r 8 j → b.hostBus = true → b.memOk = true → ma = j.arg 24 8 % 2 ^ 40 → len = j.arg 32 4 → len ≠ 0 → ma + len ≤ maEnd →
      b.stops.lost = [] → (∀ l ∈ linesOf ma len, b.stops.bad.contains l = false) → b.rf 0x300044 15 0 = 0 →
      ∃ t, Completes (.dmaFromModule r) s t ∧ t.ended r j 0 len 0 ∧ memRead t.hostMem (j.arg 16 8) len = memRead b.mem ma len ∧
        (∀ a, a < j.arg 16 8 ∨ j.arg 16 8 + len ≤ a → memGet t.hostMem a = memGet b.hostMem a) ∧ t.mem = b.mem) ∧
    (∀ ma lq p first count, b.starts r 3 j → ma = j.arg 16 8 % 2 ^ 40 / 16 * 16 → j.arg 24 4 = 16 + bodyBytes 2 count →
      ma + j.arg 24 4 ≤ maEnd → b.stops.lost = [] → b.stops.bad = [] → b.rf 0x300044 15 0 = 0 → memGet b.mem ma = 2 → b.loadLe (ma + 2) 2 = lq → lq < 64 → b.phys lq = some p →
      b.loadLe (ma + 4) 4 = first → b.loadLe (ma + 8) 4 = count → first + count ≤ 32768 → SMap.find? b.power.images p = none →
      ∃ t, Completes (.loadImage r) s t ∧ t.ended r j 0 1 0 ∧
        (∀ i < count, (t.q p).word (first + i) = BitVec.ofNat 32 (b.loadLe (ma + 16 + 4 * i) 4)) ∧
        (∀ pc < 32768, pc < first ∨ first + count ≤ pc → (t.q p).word pc = (b.q p).word pc) ∧
        (∀ k, k ≠ p → t.q k = b.q k) ∧ t.mem = b.mem) ∧
    (∀ x, b.starts r 9 j → b.olderDrain j.lsn = false → b.hostBus = true → b.memOk = true → b.arch.drainable.take (j.arg 24 4) = [x] →
      b.stops.lost = [] → b.stops.bad = [] → b.rf 0x300044 15 0 = 0 → b.blockMa x + 65536 ≤ maEnd →
      ∃ t, Completes (.logDrain r) s t ∧ t.ended r j 0 x.bseq 1 ∧
        memRead t.hostMem (j.arg 16 8 / 4096 * 4096) 65536 = memRead b.mem (b.blockMa x) 65536 ∧
        (∀ y ∈ t.arch.blocks, y.bseq = x.bseq → y.drain = some (r.val, j.index)) ∧ t.mem = b.mem) ∧
    (∀ d, (b.sq r).fetched = some d → descByte d 0 = 10 → (b.sq r).keyDone = none → b.hostOn = true → b.hub.grave = false →
      b.memOk = true →
      ∃ t, Completes (.keyLoad r) s t ∧ SMap.find? t.arch.keys (descByte d 16 % 8) = some ((d.drop 32).take 32) ∧
        t.rf (0xC00020 + 4 * (descByte d 16 % 8)) 31 31 = 1 ∧ (t.sq r).keyDone.isSome = true ∧
        memRead t.hostMem (b.descAddr r (b.sq r).accepted + 32) 32 = List.replicate 32 0 ∧ t.mem = b.mem)

/-- Ring set-up, resume and configuration (R348, R349, R352, R378 to R380, R394): a ring whose EN goes from 0 to 1 runs on where it was, or
with ZERO from index 0; clearing EN changes only CFG; RESUME reconciles and raises every GEN, ABANDON drops every job and record;
configuration requests read and write their controls; D3hot is entered; BAR2 reads and writes module memory through its aperture. -/
def Obligations.HostControl : Prop :=
  ∀ s : State,
    let b := s.blk
    b.up = true →
    (∀ (kind : RingKind) (r : Fin 64) (value : W32), r.val < ringKindCount kind → b.host.resume = false →
      let cfg := ringKindCfg kind r
      (b.rf cfg 31 31 = 0 →
        (∃ t, Completes (.ringEnable kind r value) s t ∧ t.rf cfg 31 31 = 1 ∧ t.rf cfg 4 0 = bits value.toNat 4 0 ∧ t.mem = b.mem ∧
          (match kind with
            | .sq => (t.sq r).halted = false ∧ (t.sq r).accepted = (b.sq r).accepted ∧ (t.sq r).jobs = (b.sq r).jobs
            | .cq => (t.cq r).halted = false ∧ (t.cq r).w = (b.cq r).w ∧ (t.cq r).waiting = (b.cq r).waiting
            | .eq => (t.eq r).halted = false ∧ (t.eq r).w = (b.eq r).w ∧ (t.eq r).staged = (b.eq r).staged)) ∧
        (∃ t, Completes (.ringEnableZero kind r value) s t ∧ t.rf cfg 31 31 = 1 ∧ t.rf cfg 4 0 = bits value.toNat 4 0 ∧ t.mem = b.mem ∧
          (match kind with
            | .sq => (t.sq r).halted = false ∧ (t.sq r).accepted = 0 ∧ (t.sq r).tail = 0 ∧ (t.sq r).jobs = (b.sq r).jobs
            | .cq => (t.cq r).halted = false ∧ (t.cq r).w = 0 ∧ (t.cq r).head = 0 ∧ (t.cq r).waiting = (b.cq r).waiting
            | .eq => (t.eq r).halted = false ∧ (t.eq r).w = 0 ∧ (t.eq r).head = 0 ∧ (t.eq r).staged = (b.eq r).staged))) ∧
      (∃ t, Completes (.ringDisable kind r value) s t ∧ t.rf cfg 31 31 = 0 ∧ t.host = b.host ∧ t.evc = b.evc ∧ t.mem = b.mem)) ∧
    (∀ hw, b.host.resume = true →
      ∃ t, Completes (.resume hw) s t ∧ t.host.resume = false ∧ t.mem = b.mem ∧
        (b.host.pcie.busMaster = true → b.host.pcie.d3 = false →
          t.host.reconciling = false ∧ t.host.active = true ∧ ∀ r < 64, (t.sq r).gen = ((b.sq r).gen + 1) % 2 ^ 32) ∧
        (b.host.pcie.busMaster = false → t.host.reconciling = true)) ∧
    (b.host.resume = true →
      ∃ t, Completes .abandon s t ∧ t.host.resume = false ∧ t.mem = b.mem ∧ ∀ r < 64, t.rf (sqCfg r) 31 31 = 0 ∧ t.rf (cqCfg r) 31 31 = 0 ∧
        (t.sq r).jobs = [] ∧ (t.sq r).accepted = 0 ∧ (t.sq r).gen = (b.sq r).gen ∧ (t.cq r).waiting = []) ∧
    (∀ (reg : CfgReg) (value : W32), b.power.off = false → b.power.sleeping = false →
      (∃ t, Completes (.configRequest false reg value) s t ∧ t = { b with lands := { b.lands with config := some (b.cfgRead reg) } }) ∧
      (∃ t, Completes (.configRequest true .command value) s t ∧ t.host.pcie.busMaster = value.getLsbD 0 ∧ t.mem = b.mem) ∧
      (∃ t, Completes (.configRequest true .msixControl value) s t ∧
        t.host.pcie = { b.host.pcie with msixOn := value.getLsbD 0, funcMask := value.getLsbD 1 } ∧ t.regs = b.regs ∧ t.mem = b.mem)) ∧
    (∃ t, Completes .d3hotEntry s t ∧ t.host.pcie.d3 = true ∧ t.mem = b.mem) ∧
    (∀ offset : W32, b.rf 0x10001C 31 31 = 1 →
      let line := b.bar2Ma (offset.toNat / 64 * 64)
      line + 64 ≤ maEnd → b.stops.lost = [] → b.stops.bad.contains line = false → b.rf 0x300044 15 0 = 0 →
      ∃ t, Completes (.bar2Read offset) s t ∧ t.lands.line = memRead b.mem line 64 ∧ t.lands.lineBad = false ∧ t.mem = b.mem) ∧
    (∀ (offset : W32) (bytes : List Byte),
      let ma := b.bar2Ma offset.toNat
      (b.rf 0x10001C 31 30 = 3 → b.memOk = true → ma + bytes.length ≤ maEnd → b.stops.lost = [] →
        ∃ t, Completes (.bar2Write offset bytes) s t ∧ memRead t.mem ma bytes.length = bytes ∧
          ∀ a, a < ma ∨ ma + bytes.length ≤ a → memGet t.mem a = memGet b.mem a) ∧
      (b.rf 0x10001C 31 30 ≠ 3 → ∃ t, Completes (.bar2Write offset bytes) s t ∧ t.mem = b.mem ∧
        t.reg (hostCnt 0) = satAdd (b.reg (hostCnt 0)) 1))


-- The Event Controller

/-- Events become records (R381 to R387): EVENT_INTAKE stages the event raised first at the EQ its source names, and counts it where its
source is masked; EQ_RECORD_WRITE writes the oldest staged record at the EQ's next index; EVC_SRC_MASK and EVC_SRC_UNMASK write a source's
register, and masking opens the window of one late record. -/
def Obligations.EventRecords : Prop :=
  ∀ s : State,
    let b := s.blk
    b.up = true →
    (∀ v vs, b.evc.raised = v :: vs → v.src ≠ 0 → b.rf 0x200000 31 31 = 1 → b.rf 0xE0000C 31 31 = 0 →
      ((b.reg (srcReg v.src)).testBit 31 = true → (b.eq (b.reg (srcReg v.src) % 16)).staged.length < b.stageSize →
        ∃ t, Completes .eventIntake s t ∧ t.evc.raised = vs ∧
          (t.eq (b.reg (srcReg v.src) % 16)).staged = (b.eq (b.reg (srcReg v.src) % 16)).staged ++
            [⟨v.src, v.arg, match v.tag with | some g => g.toNat | none => b.timeNs, false, false,
              (b.eq (b.reg (srcReg v.src) % 16)).lossMark, b.ownId⟩] ∧ t.mem = b.mem) ∧
      ((b.reg (srcReg v.src)).testBit 31 = true → b.stageSize ≤ (b.eq (b.reg (srcReg v.src) % 16)).staged.length →
        ∃ t, Completes .eventIntake s t ∧ t.evc.raised = vs ∧ (t.eq (b.reg (srcReg v.src) % 16)).lossMark = true ∧
          t.rf (eqStat (b.reg (srcReg v.src) % 16)) 30 30 = 1 ∧ t.reg (evcCnt 3) = satAdd (b.reg (evcCnt 3)) 1 ∧ t.mem = b.mem) ∧
      ((b.reg (srcReg v.src)).testBit 31 = false → SMap.find? b.evc.late v.src = none →
        ∃ t, Completes .eventIntake s t ∧ t.evc = { b.evc with raised := vs } ∧ t.reg (evcCnt 2) = satAdd (b.reg (evcCnt 2)) 1 ∧
          t.mem = b.mem)) ∧
    (∀ (e : Fin 16) r rs, (b.eq e).staged = r :: rs → b.memOk = true → b.hostBus = true → ringOn (b.reg (eqCfg e)) = true → (b.eq e).halted = false →
      ((b.eq e).w + 2 ^ 32 - (b.eq e).head % 2 ^ 32) % 2 ^ 32 < ringSize (b.reg (eqCfg e)) →
      let slot := b.ringBase (eqCfg e) + 16 * ((b.eq e).w % ringSize (b.reg (eqCfg e)))
      ∃ t, Completes (.eqRecordWrite e) s t ∧ (t.eq e).staged = rs ∧ (t.eq e).w = ((b.eq e).w + 1) % 2 ^ 32 ∧
        memRead t.hostMem slot 16 = r.bytes (b.eq e).w (ringSize (b.reg (eqCfg e))) ∧
        (∀ a, a < slot ∨ slot + 16 ≤ a → memGet t.hostMem a = memGet b.hostMem a) ∧ (t.ring (64 + e)).unsig = (b.ring (64 + e)).unsig + 1 ∧
        t.reg (evcCnt 0) = satAdd (b.reg (evcCnt 0)) 1 ∧ t.mem = b.mem) ∧
    (∀ (src : Fin 256) (value : W32),
      (value.getLsbD 31 = false →
        ∃ t, Completes (.evcSrcMask src value) s t ∧ t.reg (srcReg src) = value.toNat % 16 ∧ t.mem = b.mem ∧ t.evc.raised = b.evc.raised ∧
          ((b.reg (srcReg src)).testBit 31 = true → SMap.find? t.evc.late src = some (b.now + cyclesNs 60))) ∧
      (value.getLsbD 31 = true →
        ∃ t, Completes (.evcSrcUnmask src value) s t ∧ t.reg (srcReg src) = 2 ^ 31 + value.toNat % 16 ∧ t.mem = b.mem ∧
          t.evc.raised = b.evc.raised ∧ SMap.find? t.evc.late src = none))

/-- Interrupts and the wake watcher (R388 to R393, R396, R397): MSIX_SEND sends the message of the first due ring that may be sent and pushes
it; COALESCE_TIME_DUE makes a ring due by its TIME; EVC_EOI pops the stack and asks for the ring's head, and HEAD_READ_RETURN makes the ring
due where records are not consumed; EVC_FLUSH makes every ring with a record due. A wake input sets its CAUSE bit; the Corner timer is
written, and sets its CAUSE bit as it reaches 0. -/
def Obligations.InterruptsAndWakes : Prop :=
  ∀ s : State,
    let b := s.blk
    (b.up = true →
      (∀ k, b.hostBus = true → b.host.pcie.msixOn = true →
        (b.dueRings.filter fun k => decide (b.evc.running ≤ b.ringPrio k)).find? (fun k => !b.vecMasked k) = some k →
        ∃ t, Completes .msixSend s t ∧ t.evc.stack = (k, b.ringPrio k) :: b.evc.stack ∧
          t.ring k = { b.ring k with unsig := 0, due := false, signalled := true } ∧ t.reg (evcCnt 1) = satAdd (b.reg (evcCnt 1)) 1 ∧
          t.host.lastMsix = [(b.rf (0x108000 + 16 * b.ringVec k) 31 2 * 4 + b.reg (0x108004 + 16 * b.ringVec k) * 2 ^ 32,
            b.reg (0x108008 + 16 * b.ringVec k))] ∧ t.mem = b.mem) ∧
      (∀ k : Fin 80, (b.ring k).time ≠ 0 → (b.ring k).unsig ≠ 0 → (b.ring k).signalled = false → (b.ring k).headRead = false →
        ∃ t, Completes (.coalesceTimeDue k) s t ∧ t.ring k = { b.ring k with due := true } ∧
          (b.ring k).oldest + (b.ring k).time * 1000 ≤ t.now ∧ t.regs = b.regs ∧ t.mem = b.mem) ∧
      (∀ (value : W32) k p rest, b.evc.stack = (k, p) :: rest →
        ∃ t, Completes (.evcEoi value) s t ∧ t.evc.stack = rest ∧ t.ring k = { b.ring k with signalled := false, headRead := true } ∧
          t.reg (evcCnt 4) = (if value.toNat % 128 = k then b.reg (evcCnt 4) else satAdd (b.reg (evcCnt 4)) 1) ∧ t.mem = b.mem) ∧
      (∀ value : W32, b.evc.stack = [] → ∃ t, Completes (.evcEoi value) s t ∧ t.evc = b.evc ∧
        t.reg (evcCnt 5) = satAdd (b.reg (evcCnt 5)) 1 ∧ t.mem = b.mem) ∧
      (∀ (k : Fin 80) hw, (b.ring k).headRead = true → b.hostBus = true →
        ∃ t, Completes (.headReadReturn k hw) s t ∧
          t.ring k = { b.ring k with headRead := false, due := b.ringW k != (b.hostStores hw).headWord k } ∧ t.regs = b.regs ∧ t.mem = b.mem) ∧
      (∃ t, Completes .evcFlush s t ∧ (∀ k < 80, t.ring k = if (b.ring k).unsig = 0 then b.ring k else { b.ring k with due := true }) ∧
        t.reg (evcCnt 7) = satAdd (b.reg (evcCnt 7)) 1 ∧ t.mem = b.mem) ∧
      (∀ value : W32, ∃ t, Completes (.cornerWakeTimerWrite value) s t ∧ t.reg 0x1100108 = value.toNat % 2 ^ 24 ∧
        t.evc.timer = (if value.toNat % 2 ^ 24 = 0 then none else some (b.now + cornerNs (value.toNat % 2 ^ 24))) ∧ t.mem = b.mem)) ∧
    (b.power.off = false →
      (∀ i : Fin 32, wakeBit i = true → (b.reg 0x1100104) < 2 ^ 32 →
        ∃ t, Completes (.wakeInput i) s t ∧ (∀ n, (t.reg 0x1100104).testBit n = ((b.reg 0x1100104).testBit n || n == i.val)) ∧ t.mem = b.mem ∧
          ((b.reg 0x1100104).testBit i = false → (b.reg 0x1100100).testBit i = true → b.up = true → (∀ v ∈ b.evc.raised, v.src ≠ 0) →
            t.evc.raised = b.evc.raised ++ [{ src := 0, arg := 0, tag := none }])) ∧
      (∀ due, b.evc.timer = some due → (b.reg 0x1100104) < 2 ^ 32 →
        ∃ t, Completes .cornerTimerExpire s t ∧ due ≤ t.now ∧ t.evc.timer = none ∧ t.reg 0x1100108 = 0 ∧
          (t.reg 0x1100104).testBit 24 = true ∧ t.mem = b.mem))


-- Register accesses

/-- Writes (R14, R17, R30, R97): a write of an aligned register word is that register's write. In the blocks DISPATCH (but for TICK),
FAULT and MEMORY the RW bits take the value and the W1C bits written 1 become 0, and nothing else changes. A word written in part, or one
that holds no register, is discarded and counted in HOST_CNT0. QMAP_WRITE names the physical Quarters of four logical ones, unless the
hardware substitutes a Quarter in that cycle; PLZ_BS_RECONFIG empties the Backstreet.
Reads (R14, R16, R17): a read of a register answers what it shows, its write-only bits 0, and clears its RC bits; a Quarter's PLZ
counters read and clear. A read of a 64-bit value's LO register answers the lower half and latches the upper half in HI: TIME_NOW,
CONV_SYSREF, FAULT_SEQ, FIRST and LAST of a cause record, and CONT_EPOCH. -/
def Obligations.RegisterAccess : Prop :=
  (
    ∀ s : State,
      let b := s.blk
      b.up = true →
      (∀ off bytes, off % 4 = 0 → off < 0x4000000 → bytes.length = 4 → (regRow off).isSome = true →
        Completes (.registerWrite off bytes) s (b.writeReg off (ofBytes bytes))) ∧
      (∀ off bytes r, off % 4 = 0 → bytes.length = 4 → regRow off = some r →
        (0x300000 ≤ off ∧ off < 0x500000 ∧ off ≠ 0x40000C) ∨ (0xB00000 ≤ off ∧ off < 0xC00000) →
        ∃ t, Completes (.registerWrite off bytes) s t ∧
          (∀ n < 32, (t.reg off).testBit n = if r.rw.testBit n then (ofBytes bytes).testBit n
            else (b.reg off).testBit n && !(r.w1c.testBit n && (ofBytes bytes).testBit n)) ∧
          SameRegs b t [off] ∧ t.qs = b.qs ∧ t.disp = b.disp ∧ t.hub = b.hub ∧ t.mem = b.mem) ∧
      (∀ off bytes, off < 0x4000000 → bytes ≠ [] → (off % 4 + bytes.length < 4 ∨ off % 4 + bytes.length = 4 ∧
          (off % 4 ≠ 0 ∨ (regRow off).isSome = false)) →
        ∃ t, Completes (.registerWrite off bytes) s t ∧ t = { b with regs := t.regs } ∧
          t.reg (hostCnt 0) = satAdd (b.reg (hostCnt 0)) 1 ∧ SameRegs b t [hostCnt 0]) ∧
      (∀ (k : Fin 16) (value : W32),
        (∃ t, Completes (.qmapWrite k value false) s t ∧ (∀ i < 4, t.qmap (4 * k + i) = bits value.toNat (8 * i + 6) (8 * i)) ∧
          SameRegs b t [0x100 + 4 * k] ∧ t = { b with regs := t.regs }) ∧
        Completes (.qmapWrite k value true) s b) ∧
      (∀ (q : Fin 68) size (value : W32), b.retired.contains q = false → b.distLevel (distOf q) ≠ 3 →
        ∃ t, Completes (.plzBsReconfig q size value) s t ∧
          t.reg (qOff q (if size then 8 else 4)) = value.toNat &&& (if size then 0x70F else 0xFFFFFFF) ∧
          SameRegs b t [qOff q (if size then 8 else 4), qOff q 0xC] ∧ (t.q q).plaza.bsOcc = 0 ∧ (t.q q).plaza.penCount = 0 ∧
          (t.q q).plaza.penWr = 0 ∧ (t.q q).plaza.penRd = 0 ∧ (t.q q).plaza.entries = (b.q q).plaza.entries ∧ t.mem = b.mem)
  ) ∧
  (
    ∀ s : State,
      let b := s.blk
      let latches (c : Instr) (hi x : Nat) : Prop :=
        ∃ t, Completes c s t ∧ t.lands.read = x % 2 ^ 32 ∧ t.reg hi = x / 2 ^ 32 % 2 ^ 32 ∧ SameRegs b t [hi] ∧
          t = { b with regs := t.regs, lands := t.lands }
      b.up = true →
      (∀ off r, off % 4 = 0 → off < 0x4000000 → regRow off = some r → quarterBlock off = none → b.latch off = none →
        ∃ t, Completes (.rcRead off 4) s t ∧ t.lands.read = b.view off &&& (0xFFFFFFFF ^^^ r.wo) ∧ (r.rc = 0 → t.regs = b.regs) ∧
          (r.rc ≠ 0 → t.reg off = b.reg off &&& (0xFFFFFFFF ^^^ r.rc) ∧ SameRegs b t [off]) ∧
          t = { b with regs := t.regs, lands := t.lands }) ∧
      (∀ (q : Fin 68) (k : Fin 16), b.retired.contains q = false → b.distLevel (distOf q) ≠ 3 →
        ∃ t, Completes (.rcRead (plzCnt q k) 4) s t ∧ t.lands.read = b.reg (plzCnt q k) % 2 ^ 32 ∧ t.reg (plzCnt q k) = 0 ∧
          SameRegs b t [plzCnt q k] ∧ t = { b with regs := t.regs, lands := t.lands }) ∧
      latches .timeNowLoRead 0xF00008 b.timeNs ∧ latches .convSysrefTloRead 0xD0000C b.conv.sysref ∧
      latches .faultSeqLoRead 0x300018 b.hub.fseq ∧
      (∀ src : Fin 64, latches (.faultSrcTimeLoRead src false) (0x30100C + 0x20 * src) (SMap.get b.hub.times (0, 0) src).1 ∧
        latches (.faultSrcTimeLoRead src true) (0x301014 + 0x20 * src) (SMap.get b.hub.times (0, 0) src).2) ∧
      (∀ k, b.cont.bank = some k → latches .contEpochLoRead 0x110020C k.epoch)
  )


-- Faults, Kerb outputs and inputs

/-- A detection (R398, R399, R402, R405, R406, R408, R411): outside every shadow window, and where it does not bring its Quarter to QTR_LIMIT,
it is applied. A class F0 detection goes into the
cause record of its source and no further; F1 also pends under the next FSEQ and writes its record at that FSEQ's place in the fault log;
F4 brings the grave state: every enabled Kerb output is SAFE_GRAVE, even while the module does not run. CLASS_CLEAR ends a class whose
sources are quiet, F0_NOW_CLEAR a source's NOW, SHADOW_WINDOW_END the windows that close first. -/
def Obligations.FaultDetections : Prop :=
  ∀ (s : State) (d : Detection),
    let b := s.blk
    (∀ cls, b.up = true → d.dry = false → b.classOf d.code = some cls → b.shadowOf d cls = none →
      (b.hub.pend.any fun p => p.cls == cls) = false → (b.qtrCount d).2 = false →
      (cls = 0 →
        ∃ t, Completes (.faultDetect d) s t ∧ t.rf (srcStat d.code) 31 31 = 1 ∧ t.rf (srcStat d.code) 30 30 = 1 ∧
          t.rf (srcStat d.code) 18 16 = 0 ∧ t.rf (srcStat d.code) 15 0 = d.unit % 65536 ∧
          t.reg (srcStat d.code + 4) = satAdd (b.reg (srcStat d.code + 4)) 1 ∧ SameRegs b t [srcStat d.code, srcStat d.code + 4] ∧
          t.hub.wires = b.hub.wires.erase d ∧ t.hub.pend = b.hub.pend ∧ t.hub.active = b.hub.active ∧ t.hub.fseq = b.hub.fseq ∧
          t.evc = b.evc ∧ t.mem = b.mem) ∧
      (cls = 1 → b.stops.lost = [] → b.memOk = true →
        let slot := b.rf 0x300010 27 0 * 4096 + 64 * (b.hub.fseq % b.logEntries)
        slot + 64 ≤ maEnd →
        ∃ t, Completes (.faultDetect d) s t ∧ t.rf (srcStat d.code) 31 31 = 1 ∧ t.rf (srcStat d.code) 30 30 = 1 ∧
          t.rf (srcStat d.code) 18 16 = 1 ∧ t.rf (srcStat d.code) 15 0 = d.unit % 65536 ∧
          t.reg (srcStat d.code + 4) = satAdd (b.reg (srcStat d.code + 4)) 1 ∧
          t.hub.pend = b.hub.pend ++ [⟨b.hub.fseq, 1, d.code, d.unit⟩] ∧ t.hub.active = addNew b.hub.active 1 ∧
          t.hub.fseq = b.hub.fseq + 1 ∧ t.evc.raised = b.evc.raised ++ [⟨1, b.hub.fseq % 2 ^ 32, none⟩] ∧
          memRead t.mem slot 24 = leBytes 8 b.hub.fseq ++ leBytes 8 b.timeNs ++
            [0, 1, 1, BitVec.ofNat 8 (if d.injected then 4 else 0), BitVec.ofNat 8 d.code, BitVec.ofNat 8 b.ownId] ++ leBytes 2 d.unit ∧
          SameMem b t fun a => decide (slot ≤ a) && decide (a < slot + 64)) ∧
      (cls = 4 → ∃ t, Completes (.faultDetect d) s t ∧ t.hub.grave = true ∧ t.hub.graveUnacked = b.hub.graveUnacked ++ [b.hub.fseq] ∧
        (∀ n < 16, t.kerbState n = if b.kerbOn n then 5 else b.kerbState n))) ∧
    (b.up = false → b.power.off = false → d.dry = false → b.classOf d.code = some 4 →
      ∃ t, Completes (.faultDetect d) s t ∧ t.hub.grave = true ∧ (∀ n < 16, t.kerbState n = if b.kerbOn n then 5 else b.kerbState n) ∧
        t.regs = b.regs ∧ t.mem = b.mem) ∧
    (b.up = true →
      (∀ (k : Fin 3) due, SMap.find? b.hub.quietDue (k.val + 1) = some due →
        (∀ c < 64, b.rf (srcStat c) 31 31 = 1 → b.rf (srcStat c) 18 16 = k.val + 1 → b.persists c = false) →
        ∃ t, Completes (.classClear k) s t ∧ due ≤ t.now ∧ t.hub.active = b.hub.active.filter (fun c => decide (c ≠ k.val + 1)) ∧
          t.hub.pend = b.hub.pend.filter (fun p => decide (p.cls ≠ k.val + 1)) ∧
          (∀ c < 64, t.rf (srcStat c) 31 31 = if b.rf (srcStat c) 31 31 = 1 ∧ b.rf (srcStat c) 18 16 = k.val + 1 then 0
            else b.rf (srcStat c) 31 31) ∧
          t.reg (0x300020 + 4 * k.val) = (b.reg (0x300020 + 4 * k.val) + 1) % 2 ^ 32 ∧ t.mem = b.mem) ∧
      (∀ (c : Fin 8) due, SMap.find? b.hub.f0Due c = some due →
        ∃ t, Completes (.f0NowClear c) s t ∧ due ≤ t.now ∧ t.rf (srcStat c) 31 31 = 0 ∧ t.rf (srcStat c) 30 0 = b.rf (srcStat c) 30 0 ∧
          SameRegs b t [srcStat c] ∧ SMap.find? t.hub.f0Due c = none ∧ t.mem = b.mem) ∧
      (∀ w due, w ∈ b.hub.windows → w.until_ = some due → (∀ v ∈ b.hub.windows, ∀ x, v.until_ = some x → due ≤ x) →
        ∃ t, Completes .shadowWindowEnd s t ∧ due ≤ t.now ∧
          t.hub.windows = b.hub.windows.filter (fun v => decide (v.until_ ≠ some due)) ∧ t.regs = b.regs ∧ t.mem = b.mem))

/-- Heartbeats, inputs and injection (R401, R414, R416 to R418): HEARTBEAT_SEND polls the mapped Quarters of running Districts and a
HEARTBEAT_TIMEOUT puts QTR_HANG on the fault wires; an input's edge is its new level, and with a CLASS a detection at the active level;
KERB_OUT_ENABLE takes an output from OFF to SAFE_SW, or to SAFE_GRAVE in the grave state, and KERB_OUT_DISABLE to OFF but in SAFE_GRAVE;
FAULT_INJ_SEL and FAULT_INJ_N arm the injection. -/
def Obligations.KerbsAndHeartbeats : Prop :=
  ∀ s : State,
    let b := s.blk
    (b.up = true →
      (∀ answers : List (Fin 68), ∃ t, Completes (.heartbeatSend answers) s t ∧ b.hub.beatAt ≤ t.now ∧ t.hub.beatAt = t.now + 100000 ∧
        t.hub.beatWait = b.polled.filter (fun p => !(answers.any fun a => a.val == p)) ∧ t.regs = b.regs ∧ t.mem = b.mem) ∧
      (∀ q : Fin 68, b.hub.beatWait.contains q.val = true → b.retired.contains q.val = false →
        ∃ t, Completes (.heartbeatTimeout q) s t ∧ b.hub.beatAt ≤ t.now ∧ t.hub.beatWait = b.hub.beatWait.filter (fun p => decide (p ≠ q.val)) ∧
          t.hub.wires = b.hub.wires ++ [⟨25, q, 0, 0, false, false, []⟩] ∧ t.regs = b.regs ∧ t.qs = b.qs ∧ t.mem = b.mem) ∧
      (∀ (out : Fin 16) (value : W32),
        (∃ t, Completes (.kerbOutEnable out value) s t ∧ t.reg (kerbCfg out) = (value.toNat ||| 2 ^ 31) &&& 0xFC000000 ∧
          SameRegs b t [kerbCfg out] ∧ (∀ n, n ≠ out.val → t.kerbState n = b.kerbState n) ∧ t.mem = b.mem ∧
          t.kerbState out = if b.kerbOn out then b.kerbState out else if b.hub.grave then 5 else 3) ∧
        (∃ t, Completes (.kerbOutDisable out value) s t ∧ SameRegs b t [kerbCfg out] ∧ t.mem = b.mem ∧
          (∀ n, n ≠ out.val → t.kerbState n = b.kerbState n) ∧
          (if b.kerbState out = 5 then t.kerbOn out = true ∧ t.kerbState out = 5
           else t.reg (kerbCfg out) = value.toNat &&& 0x7C000000 ∧ t.kerbState out = 0))) ∧
      (∀ value : W32, (∃ t, Completes (.faultInjNWrite value) s t ∧ t.reg 0x300044 = value.toNat % 65536 ∧ SameRegs b t [0x300044] ∧
          t = { b with regs := t.regs }) ∧
        (∃ t, Completes (.faultInjSelWrite value) s t ∧ t.reg 0x300040 = value.toNat &&& 0xFFFFFC01 ∧ SameRegs b t [0x300040] ∧
          t = { b with regs := t.regs }))) ∧
    (∀ (i : Fin 8) level, b.power.off = false → b.kerb.inputs.testBit i ≠ level →
      ∃ t, Completes (.kerbInEdge i level) s t ∧ (∀ n, t.kerb.inputs.testBit n = if n = i.val then level else b.kerb.inputs.testBit n) ∧
        t.hub.wires = (if b.rf (0x1200100 + 4 * i) 6 4 ≠ 0 ∧ level ≠ (b.reg (0x1200100 + 4 * i)).testBit 7
          then b.hub.wires ++ [⟨40 + i.val, i, 0, 0, false, false, []⟩] else b.hub.wires) ∧
        SameRegs b t [0x1100104] ∧ t.mem = b.mem)


-- Continuity

/-- The close of an epoch (R212, R213, R422 to R428, R432 to R435): EPOCH_CLOSE_START advances the epoch; QUARTER_CUT shadows a mapped
Quarter, with a lane word whose parity is wrong poisoned in the copy alone, makes its DIRTY lines PENDING, moves its sender epoch on and
sends a CLOSE MARKER to every mapped Quarter; of an OFF Quarter it is the image that is cut. GATE_MARK writes a Gate's MARK;
SNAPSHOT_LINE_COPY copies a PENDING line into the snapshot, one that holds a write first, and leaves the frame as it is; EPOCH_DONE makes the
cuts the bank of the last complete epoch; LEDGER_ROOM_FREED ends the wait for room and counts it in µs. -/
def Obligations.EpochCloses : Prop :=
  ∀ s : State,
    let b := s.blk
    b.up = true →
    (b.rf 0x1100200 0 0 = 1 → b.cont.close = none → b.cont.roll = none →
      ∃ t, Completes .epochCloseStart s t ∧ t.cont.epoch = b.cont.epoch + 1 ∧ t.cont.lastClose = t.now ∧
        t.cont.close = some ⟨b.cont.epoch, t.now, ⟨[], [], [], none⟩⟩ ∧ t.rf 0x1100210 0 0 = 1 ∧ t.ave.issued = [] ∧ t.ave.fires = [] ∧
        (b.cont.epochAsked = [] → b.undoHigh = false → b.cont.lastClose + b.epochNs ≤ t.now) ∧ t.qs = b.qs ∧
        (b.stops.bad = [] → b.rf 0x300044 15 0 = 0 → t.mem = b.mem)) ∧
    (∀ (q : Fin 68) c, b.cont.close = some c → SMap.find? c.cuts.quarters q = none → b.mapped.contains q.val = true → b.rf 0x300044 15 0 = 0 →
      let copied (w : LaneWord) : LaneWord :=
        if w.sound then w else { w with tok := w.tok.poisoned, par := w.tok.poisoned.parity }
      ∃ t c', Completes (.quarterCut ⟨q, []⟩) s t ∧ t.cont.close = some c' ∧ c'.epoch = c.epoch ∧ c'.cuts.marks = c.cuts.marks ∧
        (∃ x, SMap.find? c'.cuts.quarters q = some x ∧ x.lsn = b.cont.lsn ∧ x.chan = [] ∧ x.markers = [] ∧
          x.image.lanes = SMap.mapVal (b.q q).lanes (fun _ l => { l with a := l.a.map copied, b := l.b.map copied }) ∧
          x.image.vc1Out = (b.q q).vc1Out ∧ x.image.plaza = (b.imageOf q).plaza ∧ x.image.pes = (b.imageOf q).pes ∧
          x.image.park = (b.imageOf q).park ∧ x.image.nodes = (b.imageOf q).nodes ∧
          x.image.frame = (if (SMap.find? b.power.images q).isSome then (b.imageOf q).frame else (b.q q).saved)) ∧
        (SMap.find? b.power.images q = none → t.power.images = b.power.images ∧
          t.q q = { b.q q with dirty := [], pend := (b.q q).dirty.foldl addNew (b.q q).pend }) ∧
        (∀ y, SMap.find? b.power.images q = some y → t.q q = b.q q ∧
          SMap.find? t.power.images q = some { y with dirty := [], saved := y.frame }) ∧ t.qEpoch q = c.epoch + 1 ∧
        t.cont.outbox = b.cont.outbox ++ b.mapped.map (fun p => (senderPoint q, markerToken b.ownId q 1 c.epoch p)) ∧
        (∀ p, p ≠ q.val → t.q p = b.q p) ∧ t.regs = b.regs ∧ t.mem = b.mem) ∧
    (∀ (g : Fin 4) c, b.cont.close = some c → SMap.find? c.cuts.marks g = none → b.journalRoom (.mark c.epoch) = true →
      ∃ t c', Completes (.gateMark g) s t ∧ t.cont.close = some c' ∧ c'.epoch = c.epoch ∧ c'.cuts.quarters = c.cuts.quarters ∧
        SMap.find? c'.cuts.marks g = some (b.cont.lsn, b.gateTokens g) ∧ (g = 0 → c'.cuts.disp = some b.disp) ∧
        t.cont.journal = b.cont.journal ++ [⟨b.cont.lsn, g, (JBody.mark c.epoch).len, .mark c.epoch⟩] ∧ t.cont.lsn = b.cont.lsn + 1 ∧
        t.gEpoch g = c.epoch + 1 ∧
        t.cont.outbox = b.cont.outbox ++ b.mapped.map (fun p => (senderPoint (68 + g.val), markerToken b.ownId (68 + g.val) 1 c.epoch p)) ∧
        SameRegs b t [colirCnt 5] ∧ t.qs = b.qs ∧ t.mem = b.mem) ∧
    (∀ q : Fin 68, (b.q q).pend ≠ [] → b.qAwake q = true → b.rf 0x300044 15 0 = 0 →
      let word (m : SMap FrameWord) (w : Nat) : FrameWord := SMap.get m FrameWord.empty w
      ∃ t l, Completes (.snapshotLineCopy q []) s t ∧ l ∈ (b.q q).pend ∧ (∀ h, (b.q q).heldLine = some h → l = h) ∧
        ((b.q q).heldLine = none → ∀ m ∈ (b.q q).pend, l ≤ m) ∧
        (t.q q).pend = (b.q q).pend.filter (fun m => decide (m ≠ l)) ∧ (t.q q).frame = (b.q q).frame ∧
        (∀ w, word (t.q q).saved w = if w / 8 = l then (b.q q).fw w else word (b.q q).saved w) ∧
        (∀ c x, b.cont.close = some c → c.cutOf q = some x → ∃ c' x', t.cont.close = some c' ∧ c'.cutOf q = some x' ∧
          ∀ w, word x'.image.frame w = if w / 8 = l then (b.q q).fw w else word x.image.frame w) ∧
        (∀ p, p ≠ q.val → t.q p = b.q p) ∧
        ((∀ i < 8, ((b.q q).fw (8 * l + i)).bad = false ∧ ((b.q q).fw (8 * l + i)).ce = false) → l < 16384 →
          t.q q = { b.q q with pend := (b.q q).pend.filter (fun m => decide (m ≠ l)), saved := (t.q q).saved } ∧ t.regs = b.regs) ∧
        t.mem = b.mem) ∧
    (∀ c, b.cont.close = some c → b.closeComplete c = true → b.journalRoom (.epochDone c.epoch) = true →
      ∃ t, Completes .epochDone s t ∧ t.cont.bank = some ⟨c.epoch, c.cuts⟩ ∧ t.cont.close = none ∧ t.cont.outs = [] ∧
        t.cont.epochAsked = [] ∧ t.cont.epoch = b.cont.epoch ∧ t.rf 0x1100210 0 0 = 0 ∧ t.reg (contCnt 0) = satAdd (b.reg (contCnt 0)) 1 ∧
        t.qs = b.qs ∧ (b.cont.epochAsked = [] → SameRegs b t [0x1100210, contCnt 0, colirCnt 5] ∧ t.mem = b.mem)) ∧
    (∀ since, b.cont.fullSince = some since → b.journalUsed < b.journalSpace → b.reg (contCnt 6) < 2 ^ 32 →
      ∃ t, Completes .ledgerRoomFreed s t ∧ t.cont = { b.cont with fullSince := none } ∧ t.rf 0x1100210 2 2 = 0 ∧
        t.reg (contCnt 6) = satAdd (b.reg (contCnt 6)) ((b.now - since) / 1000) ∧ SameRegs b t [0x1100210, contCnt 6] ∧ t.mem = b.mem)

/-- Rollback (R430, R438, R439, R441): ROLLBACK_RESTORE_DONE applies the undo entries written since the cut, newest first, puts every
closure Quarter, with the words of its outbound lanes, and every closure context back to the cut, counts the Quarters and readies what
replay feeds; no other Quarter changes but in the node-map words it caches for those contexts. ROLLBACK_REJOIN ends the rollback once
everything is fed, with its time in µs; RECOVERY_SLOW marks one that has lasted 3 × LEN, once. The restore is stated for a closure that
has lost no Quarter and whose journal holds no decision. -/
def Obligations.Rollbacks : Prop :=
  ∀ (s : State) (r : Rollback),
    let b := s.blk
    b.up = true → b.cont.roll = some r →
    (∀ k, r.step = 4 → b.cont.bank = some k → r.lost = [] → r.quarters.Nodup → (∀ q ∈ r.quarters, q < 68) → b.decsOf k r.ctxs = [] →
      ∃ t, Completes .rollbackRestoreDone s t ∧
        t.cont.roll = some { r with
          step := 5, feed := b.feedOf k r.quarters r.ctxs, merges := b.mergesOf k r.quarters, decs := [] } ∧
        t.cont.outs = b.outsOf k r.ctxs ∧
        (∀ q ∈ r.quarters, ∀ c, SMap.find? k.cuts.quarters q = some c →
          t.q q = [4, 5, 6, 7].foldl (fun (x : Quarter) j => x.setLane j (c.outbound j (x.lane j))) (c.restore (b.q q))) ∧
        (∀ q, q ∉ r.quarters →
          { t.q q with plaza := { (t.q q).plaza with cache := (b.q q).plaza.cache } } = b.q q ∧
          ∀ w ∈ (t.q q).plaza.cache, w ∈ (b.q q).plaza.cache) ∧
        (r.quarters ≠ [] → t.reg (contCnt 3) = satAdd (b.reg (contCnt 3)) r.quarters.length) ∧
        (∀ d, k.cuts.disp = some d → ∀ c ∈ r.ctxs, t.ctx? c = (SMap.find? d.ctxs c).map fun x =>
          if x.state = 5 then { x with span := { x.span with waiting := false } } else x) ∧
        (∀ c, c ∉ r.ctxs → t.ctx? c = b.ctx? c) ∧
        t.mem = (b.cont.undo.filter fun u => decide (k.epoch < u.epoch) && r.quarters.contains u.unit).foldl
          (fun m u => memWrite m u.line u.old) b.mem) ∧
    (r.step = 5 → r.feed = [] → r.decs = [] → (∀ e ∈ r.merges, e.2 = []) →
      ∃ t, Completes .rollbackRejoin s t ∧ t.cont = { b.cont with roll := none, freeAt := b.now } ∧ t.rf 0x1100210 1 1 = 0 ∧
        t.reg 0x1100228 = (b.now - r.start) / 1000 % 2 ^ 32 ∧ SameRegs b t [0x1100210, 0x1100228] ∧ t.qs = b.qs ∧ t.mem = b.mem) ∧
    (r.slow = false →
      ∃ t, Completes .recoverySlow s t ∧ r.start + 3 * b.epochNs ≤ t.now ∧ t.cont = { b.cont with roll := some { r with slow := true } } ∧
        t.reg (contCnt 7) = satAdd (b.reg (contCnt 7)) 1 ∧
        t.evc.raised = b.evc.raised ++ [⟨27, (t.now - r.start) / 1000 % 2 ^ 32, none⟩] ∧ SameRegs b t [contCnt 7] ∧ t.mem = b.mem)


-- Module memory and the Archive

/-- The Stops (R326, R328, R331, R332, R337, R431, R443): a STOP_READ of a sound line answers its 64 bytes; a single-bit error is corrected
and counted; a line with an uncorrectable error, on a lost Stop or past the end of MA space is answered with POISON, but in the journal and
the store it is rebuilt from the other seven pages of its stripe where these can be read, and an uncorrectable one is written back.
STOP_WRITE stores its bytes and no others, but for those on a lost Stop; a single-bit error that the merge of a first line written in
part meets is corrected and counted. Stated with no error injection armed. -/
def Obligations.Stops : Prop :=
  ∀ (s : State) (ma : Nat),
    let b := s.blk
    let line := 64 * (ma / 64)
    b.up = true → b.rf 0x300044 15 0 = 0 →
    (line + 64 ≤ maEnd → b.onLost line = false → b.stops.bad.contains line = false →
      (∃ t, Completes (.stopRead ma 0) s t ∧ t.lands.line = memRead b.mem line 64 ∧ t.lands.lineBad = false ∧ t.hub = b.hub ∧
        t.mem = b.mem) ∧
      (∃ t, Completes (.stopRead ma 1) s t ∧ t.lands.line = memRead b.mem line 64 ∧ t.lands.lineBad = false ∧
        t.reg (memCnt 0) = satAdd (b.reg (memCnt 0)) 1 ∧ (⟨5, stopOf line, BitVec.ofNat 64 line, 0, false, false, []⟩ ∈ t.hub.wires) ∧
        t.mem = b.mem) ∧
      (b.rebuilt line = none → ∃ t, Completes (.stopRead ma 2) s t ∧ t.lands.lineBad = true ∧ t.stops.bad.contains line = true ∧
        t.reg (memCnt 1) = satAdd (b.reg (memCnt 1)) 1 ∧ SameMem b t fun a => decide (line ≤ a) && decide (a < line + 64))) ∧
    (line + 64 ≤ maEnd → b.onLost line = false → b.stops.bad.contains line = true →
      (b.rebuilt line = none →
        ∃ t, Completes (.stopRead ma 0) s t ∧ t.lands.line = memRead b.mem line 64 ∧ t.lands.lineBad = true ∧
          t.reg (memCnt 1) = satAdd (b.reg (memCnt 1)) 1 ∧ t.mem = b.mem) ∧
      (∀ bs, b.memOk = true → b.rebuilt line = some bs →
        ∃ t, Completes (.stopRead ma 0) s t ∧ t.lands.line = bs ∧ t.lands.lineBad = false ∧ t.stops.bad.contains line = false ∧
          t.reg (memCnt 1) = satAdd (b.reg (memCnt 1)) 1 ∧ memRead t.mem line 64 = bs ∧
          SameMem b t fun a => decide (line ≤ a) && decide (a < line + 64))) ∧
    (∀ upset, line + 64 ≤ maEnd → b.onLost line = true → b.rebuilt line = none →
      ∃ t, Completes (.stopRead ma upset) s t ∧ t.lands.lineBad = true ∧ t.hub = b.hub ∧ t.mem = b.mem) ∧
    (∀ upset bs, line + 64 ≤ maEnd → b.onLost line = true → b.rebuilt line = some bs →
      ∃ t, Completes (.stopRead ma upset) s t ∧ t.lands.line = bs ∧ t.lands.lineBad = false ∧ t.hub = b.hub ∧ t.mem = b.mem) ∧
    (∀ upset, maEnd < line + 64 →
      ∃ t, Completes (.stopRead ma upset) s t ∧ t.lands.lineBad = true ∧ t.reg (memCnt 2) = satAdd (b.reg (memCnt 2)) 1 ∧
        t.hub.wires = b.hub.wires ++ [⟨16, stopOf line, BitVec.ofNat 64 line, 0, false, false, []⟩] ∧ t.mem = b.mem) ∧
    (∀ bytes : List Byte, b.memOk = true → bytes ≠ [] → ma + bytes.length ≤ maEnd →
      ∃ t, Completes (.stopWrite ma ⟨bytes, 0⟩) s t ∧
        (∀ i (v : Byte), bytes[i]? = some v → memGet t.mem (ma + i) = if b.onLost (ma + i) then memGet b.mem (ma + i) else v) ∧
        (∀ a, a < ma ∨ ma + bytes.length ≤ a → memGet t.mem a = memGet b.mem a) ∧ t.qs = b.qs ∧ t.hub = b.hub) ∧
    (∀ bytes : List Byte, b.memOk = true → bytes ≠ [] → ma + bytes.length ≤ maEnd → line < ma ∨ ma + bytes.length < line + 64 →
      b.onLost line = false → b.stops.bad.contains line = false →
      ∃ t, Completes (.stopWrite ma ⟨bytes, 1⟩) s t ∧ t.reg (memCnt 0) = satAdd (b.reg (memCnt 0)) 1 ∧
        (⟨5, stopOf line, BitVec.ofNat 64 line, 0, false, false, []⟩ ∈ t.hub.wires) ∧
        (∀ a, a < ma ∨ ma + bytes.length ≤ a → memGet t.mem a = memGet b.mem a)) ∧
    (∀ bytes : List Byte, bytes ≠ [] → maEnd < ma + bytes.length →
      ∃ t, Completes (.stopWrite ma ⟨bytes, 0⟩) s t ∧ t.reg (memCnt 2) = satAdd (b.reg (memCnt 2)) 1 ∧ t.mem = b.mem)

/-- The Sweepers (R331 to R338): SWEEPER_PAGE reads the next page of its Stop and borrows it where PATTERN is on; BORROW_RESTORE gives the
page back, and a mismatch retires it to the next spare; SWEEP_REVISIT sweeps an aborted page again, or skips it after 16 aborts;
CE_HISTORY_EXPIRE drops the oldest history entry at 24 h of TIME_NS. Stated with no error injection armed and for pages without
uncorrectable lines. -/
def Obligations.Sweepers : Prop :=
  ∀ (s : State) (stop : Fin 8),
    let b := s.blk
    b.up = true → b.rf 0x300044 15 0 = 0 →
    (let n := SMap.get b.stops.sweep 0 stop
     let page := 8 * n + stop.val
     b.sweepFree stop = true → (∀ i < 64, b.stops.bad.contains (4096 * page + 64 * i) = false) →
     ∃ t, Completes (.sweeperPage stop []) s t ∧ SMap.get b.stops.sweepAt 0 stop ≤ t.now ∧
       SMap.get t.stops.sweep 0 stop = (n + 1) % 7864320 ∧
       SMap.get t.stops.sweepAt 0 stop = t.now + 1000 * max (b.rf 0xB00100 19 0) 10 ∧
       SMap.find? t.stops.borrow stop = (if b.rf 0xB00100 30 30 = 0 then none else some ⟨page, b.urgent (4096 * page)⟩) ∧ t.regs = b.regs ∧ t.mem = b.mem) ∧
    (∀ w, SMap.find? b.stops.borrow stop = some w →
      (∃ t, Completes (.borrowRestore stop false) s t ∧ SMap.find? t.stops.borrow stop = none ∧ t.regs = b.regs ∧ t.mem = b.mem) ∧
      (b.rf (0xB00110 + 4 * (w.page % 8)) 15 0 ≠ 0 →
        ∃ t, Completes (.borrowRestore stop true) s t ∧ SMap.find? t.stops.borrow stop = none ∧
          SMap.find? t.stops.remap w.page = some (39321 - b.rf (0xB00110 + 4 * (w.page % 8)) 15 0) ∧
          t.rf (0xB00110 + 4 * (w.page % 8)) 15 0 = b.rf (0xB00110 + 4 * (w.page % 8)) 15 0 - 1 ∧
          t.reg (memCnt 3) = satAdd (b.reg (memCnt 3)) 1 ∧ t.reg (memCnt 5) = satAdd (b.reg (memCnt 5)) 1 ∧
          t.hub.wires = b.hub.wires ++ [⟨28, w.page % 8, BitVec.ofNat 64 (4096 * w.page), 0, false, false, []⟩] ∧ t.mem = b.mem)) ∧
    (∀ page due rest, SMap.get b.stops.revisit [] stop = (page, due) :: rest → b.sweepFree stop = true →
      (16 ≤ SMap.get b.stops.aborts 0 page →
        ∃ t, Completes (.sweepRevisit ⟨stop, []⟩) s t ∧ due ≤ t.now ∧ SMap.get t.stops.revisit [] stop = rest ∧
          SMap.find? t.stops.borrow stop = none ∧ t.reg (memCnt 8) = satAdd (b.reg (memCnt 8)) 1 ∧ t.mem = b.mem) ∧
      (SMap.get b.stops.aborts 0 page < 16 → (∀ i < 64, b.stops.bad.contains (4096 * page + 64 * i) = false) →
        ∃ t, Completes (.sweepRevisit ⟨stop, []⟩) s t ∧ due ≤ t.now ∧ SMap.get t.stops.revisit [] stop = rest ∧
          SMap.find? t.stops.borrow stop = (if b.rf 0xB00100 30 30 = 0 then none else some ⟨page, b.urgent (4096 * page)⟩) ∧ t.regs = b.regs ∧
          t.mem = b.mem)) ∧
    (∀ page at_ rest, SMap.get b.stops.hist [] stop = (page, at_) :: rest →
      ∃ t, Completes (.ceHistoryExpire stop) s t ∧
        (b.time.slew = 0 → at_ + 86400000000000 < 2 ^ 64 → at_ + 86400000000000 ≤ t.timeNs) ∧ SMap.get t.stops.hist [] stop = rest ∧ t.regs = b.regs ∧
        t.mem = b.mem)

/-- The Archive (R339 to R344): a LOG token becomes the next record of the open block, with its time, stream and number; the block closes
when its first record is CLOSE_MS old. SEAL_START takes the oldest unsealed block with the active key, or writes it UNSEALED and raises
ARCH_NOKEY; SEAL_DONE writes the header with the HMAC of header and records as TAG. -/
def Obligations.ArchiveBlocks : Prop :=
  ∀ s : State,
    let b := s.blk
    b.up = true → b.stops.lost = [] → b.memOk = true →
    (∀ tok toks x, (b.gate 3).penCount = 0 → tok.so = false ∨ (b.gate 3).penWr ≤ (b.gate 3).penRd → (b.gate 3).inbox = tok :: toks → b.cont.outs = [] → b.rf 0xC00000 31 31 = 1 →
      b.journalRoom (.out tok.tag tok.value 0) = true → b.arch.lost = 0 → b.arch.open_ = some x → x.nrec < 2043 →
      let at_ := b.blockMa x + 128 + 32 * x.nrec
      let seq := b.logSeq (tagNode tok.tag % 256)
      at_ + 32 ≤ maEnd →
      ∃ t y, Completes .logToken s t ∧ (t.gate 3).inbox = toks ∧
        memRead t.mem at_ 32 = leBytes 8 b.timeNs ++ leBytes 8 tok.value.toNat ++ leBytes 8 tok.tag.toNat ++ leBytes 2 tok.ctrl.toNat ++
          leBytes 1 (b2n tok.poison) ++ [0] ++ leBytes 4 seq ∧
        (SameMem b t fun a => decide (at_ ≤ a) && decide (a < at_ + 32)) ∧ t.arch.open_ = some y ∧ y.nrec = x.nrec + 1 ∧ y.slot = x.slot ∧
        t.logSeq (tagNode tok.tag % 256) = (seq + 1) % 2 ^ 32 ∧ t.reg (archCnt 0) = satAdd (b.reg (archCnt 0)) 1 ∧
        t.cont.lsn = b.cont.lsn + 1) ∧
    (∀ x, b.arch.open_ = some x → x.nrec ≠ 0 → b.rf 0xC00000 23 8 ≠ 0 →
      ∃ t, Completes .blockCloseTimer s t ∧
        (let due := x.first + 1000000 * b.rf 0xC00000 23 8
         b.time.slew = 0 → due < 2 ^ 64 → due ≤ t.timeNs) ∧ t.arch.open_ = none ∧ t.arch.blocks = b.arch.blocks ++ [{ x with cut := false }] ∧
        t.regs = b.regs ∧ t.mem = b.mem) ∧
    (∀ x, b.arch.sealing = none → b.unsealed = some x →
      (∀ key, SMap.find? b.arch.keys (b.rf 0xC00000 2 0) = some key →
        ∃ t, Completes .sealStart s t ∧ t = { b with arch := t.arch } ∧
          t.arch = { b.arch with sealing := some (b.rf 0xC00000 2 0, key, b.now) }) ∧
      (SMap.find? b.arch.keys (b.rf 0xC00000 2 0) = none →
        let hd := b.blockHeader x (b.rf 0xC00000 2 0) true (List.replicate 32 0)
        b.blockMa x + hd.length ≤ maEnd →
        ∃ t, Completes .sealStart s t ∧ memRead t.mem (b.blockMa x) hd.length = hd ∧
          (SameMem b t fun a => decide (b.blockMa x ≤ a) && decide (a < b.blockMa x + hd.length)) ∧ t.arch.sealing = none ∧
          (∀ y ∈ t.arch.blocks, y.bseq = x.bseq → y.sealed = true) ∧ t.reg (archCnt 3) = satAdd (b.reg (archCnt 3)) 1 ∧
          t.evc.raised = b.evc.raised ++ [⟨15, b.rf 0xC00000 2 0, none⟩])) ∧
    (∀ slot key start x, b.arch.sealing = some (slot, key, start) → b.unsealed = some x → b.stops.bad = [] → b.rf 0x300044 15 0 = 0 →
      let hd := b.blockHeader x slot false (Sha.hmac key
        (b.blockHeader x slot false (List.replicate 32 0) ++ memRead b.mem (b.blockMa x + 128) (65536 - 128)))
      b.blockMa x + 65536 ≤ maEnd → hd.length ≤ 65536 →
      ∃ t, Completes .sealDone s t ∧ start + cyclesNs 65792 ≤ t.now ∧ memRead t.mem (b.blockMa x) hd.length = hd ∧
        (SameMem b t fun a => decide (b.blockMa x ≤ a) && decide (a < b.blockMa x + hd.length)) ∧ t.arch.sealing = none ∧
        (∀ y ∈ t.arch.blocks, y.bseq = x.bseq → y.sealed = true) ∧ t.reg (archCnt 1) = satAdd (b.reg (archCnt 1)) 1)


-- The Converter Gate

/-- Links (R273, R274, R277 to R283, R287): CONV_SETTLE reads FIRST, SUBCLASS, the direction of slot FIRST and the profile, and tries the
profile's entries until one stands in its dwell, or fails the link; the dwell's end records the outcome and, if the entry is accepted,
shows its parameters, sends the ILAS of a JESD204B transmit link and enters ALIGNING; CONV_STOP turns the link OFF. Alignment ends in DATA,
at a boundary of a subclass 1 link, or in FAILED with cause ILAS where the octets received disagree with the entry; a SYSREF edge is
timestamped, sets the boundaries of ALIGNING links and is checked by links in DATA. A change of a slot's direction costs its link the lock.
Host scripts run one at a time; links whose SETTLE waited for one enter SETTLING at its end. The dwell and the script's end are stated for
scripts that END at once, read from sound memory with no checker armed. -/
def Obligations.ConverterLinks : Prop :=
  ∀ (s : State) (k : Fin 8),
    let b := s.blk
    let l := b.link k
    let ends (ma : Nat) : Prop := bits (b.loadLe (ma % 2 ^ 40) 8) 63 60 = 0
    let quiet : Prop := b.stops.bad = [] ∧ b.rf 0x300044 15 0 = 0
    b.up = true →
    (∀ (value : W32) spi, value.getLsbD 1 = false → b.conv.script = none → (∀ j ∈ b.conv.settleWait, k.val ≤ j) →
      ∃ t, Completes (.convSettle k value spi) s t ∧ t.rf (linkReg k 0) 8 4 = bits value.toNat 8 4 ∧
        ((t.linkState k = 1 ∧ (t.link k).dwellAt = some t.now) ∨ (t.linkState k = 5 ∧ (t.link k).slots = [])) ∧
        (t.link k).first = bits value.toNat 7 4 ∧ (t.link k).subclass = bits value.toNat 8 8 ∧
        (t.link k).tx = (b.reg 0xD00004).testBit (bits value.toNat 7 4) ∧
        (quiet → b.stops.lost = [] → b.reg (linkReg k 4) * 256 + 320 ≤ maEnd →
          (t.link k).prof = memRead b.mem (b.reg (linkReg k 4) * 256) 320) ∧
        t.reg (linkReg k 0x10) = 0 ∧ t.conv.settleWait.contains k.val = false ∧ (∀ j, j ≠ k.val → t.link j = b.link j)) ∧
    (∀ since eyes spi, b.linkState k = 1 → l.dwellAt = some since → l.entry < 8 → quiet → ends (l.field 16 8) →
      (l.tx = true → ends (l.field 24 8)) →
      let out := if l.tx then 1 else rxOutcome l.eyeMin ((List.range l.cL).map fun i => eyes.getD i (0, false))
      (out = 1 →
        ∃ t, Completes (.prbsDwellEnd k eyes spi) s t ∧ since + dwellNs l.rate ≤ t.now ∧ t.linkState k = 2 ∧
          t.rf (linkReg k 0xC) (4 * l.entry + 3) (4 * l.entry) = 1 ∧ t.reg (linkReg k 0x10) = l.p0 % 2 ^ 32 ∧
          t.reg (linkReg k 0x14) = l.p1 % 2 ^ 32 ∧ t.rf (linkReg k 8) 10 8 = l.entry ∧
          t.link k = { l with todo := [], dwellAt := none, edge := false, alignAt := t.now,
                              ilasOut := if l.tx ∧ l.cEnc = false then (List.range l.cL).map l.ilas else [] } ∧ t.mem = b.mem) ∧
      (out ≠ 1 → l.todo = [] →
        ∃ t, Completes (.prbsDwellEnd k eyes spi) s t ∧ t.linkState k = 5 ∧ t.rf (linkReg k 8) 7 4 = 1 ∧
          t.rf (linkReg k 0xC) (4 * l.entry + 3) (4 * l.entry) = out ∧ (t.link k).slots = [] ∧ t.mem = b.mem)) ∧
    (∀ value : W32,
      ∃ t, Completes (.convStop k value) s t ∧ t.linkState k = 0 ∧ t.link k = { ConvLink.empty with staging := l.staging } ∧
        t.rf (linkReg k 0) 8 4 = bits value.toNat 8 4 ∧ (∀ j, j ≠ k.val → t.link j = b.link j) ∧ t.mem = b.mem) ∧
    (∀ ilas : List (List Byte), b.slotsTurned k = true →
      let agrees : Prop := l.cEnc = true ∨ l.tx = true ∨ ∀ i < l.cL, l.ilasAgrees i (ilas.getD i []) = true
      (b.linkState k = 2 → (l.subclass = 1 → l.edge = true) →
        (agrees → ∃ t, Completes (.alignComplete k ilas) s t ∧ t.linkState k = 3 ∧
          t.link k = { l with
            frames := 0
            dataAt := if l.subclass = 1 then l.boundary (l.boundaryFrom b.now) else b.now
            lmfc := if l.subclass = 1 then l.lmfc else b.now } ∧ t.mem = b.mem) ∧
        (¬agrees → ∃ t, Completes (.alignComplete k ilas) s t ∧ t.linkState k = 5 ∧ t.rf (linkReg k 8) 7 4 = 3 ∧
          (t.link k).slots = [] ∧ t.mem = b.mem)) ∧
      (b.linkState k = 3 → l.lockLost.isSome = true → agrees →
        ∃ t, Completes (.alignComplete k ilas) s t ∧ t.linkState k = 3 ∧ t.link k = { l with lockLost := none } ∧ t.regs = b.regs ∧
          t.mem = b.mem)) ∧
    (b.linkState k = 2 →
      ∃ t, Completes (.alignTimeout k) s t ∧ l.alignAt + 100000000 ≤ t.now ∧ t.linkState k = 5 ∧ t.rf (linkReg k 8) 7 4 = 3 ∧
        t.mem = b.mem) ∧
    (∀ wait : Nat,
      ∃ t, Completes (.sysrefEdge wait) s t ∧ t.now = b.now + wait ∧ t.conv.sysref = t.timeNs ∧ t.reg 0xD00008 = t.timeNs % 2 ^ 32 ∧
        t.mem = b.mem ∧
        (b.sysrefMode ≠ 0 → l.subclass = 1 → b.linkState k = 2 → l.edge = false →
          t.link k = { l with edge := true, lmfc := t.now } ∧ t.reg (convCnt k 2) = b.reg (convCnt k 2)) ∧
        (b.sysrefMode ≠ 0 → l.subclass = 1 → b.linkState k = 3 →
          (l.onBoundary t.now = true → t.link k = l ∧ t.linkState k = 3 ∧ t.reg (convCnt k 2) = b.reg (convCnt k 2)) ∧
          (l.onBoundary t.now = false → t.reg (convCnt k 2) = satAdd (b.reg (convCnt k 2)) 1 ∧
            (b.sysrefMode = 1 → t.link k = l ∧ t.linkState k = 3) ∧
            (b.sysrefMode = 2 → (t.link k).lockLost.isSome = true ∨ t.linkState k = 4))) ∧
        (b.sysrefMode = 0 → t.conv.links = b.conv.links)) ∧
    (∀ value : W32,
      ∃ t, Completes (.convSlotDirWrite value) s t ∧ t.reg 0xD00004 = value.toNat % 65536 ∧ t.mem = b.mem ∧
        ((∀ n ∈ l.slots, (b.reg 0xD00004).testBit n = value.toNat.testBit n) → t.link k = l ∧ t.linkState k = b.linkState k) ∧
        (b.linkState k = 3 → (∃ n ∈ l.slots, (b.reg 0xD00004).testBit n ≠ value.toNat.testBit n) →
          (t.link k).lockLost.isSome = true ∨ t.linkState k = 4)) ∧
    (∀ value : W32, b.conv.script = none → (∀ j < 8, b.linkState j ≠ 1) →
      ∃ t, Completes (.convSpiRun value) s t ∧ t.conv = { b.conv with script := some (256 * value.toNat) } ∧ t.rf 0xD00028 31 31 = 1 ∧
        SameRegs b t [0xD00028] ∧ t.mem = b.mem) ∧
    (∀ ma spi, b.conv.script = some ma → quiet → ends ma →
      ∃ t, Completes (.spiScriptEnd spi) s t ∧ t.conv.script = none ∧ t.reg 0xD00028 = 2 ^ 30 + field (b.rf 0xD00028 29 29) 29 29 ∧
        (k.val ∈ b.conv.settleWait → t.linkState k = 1) ∧ t.mem = b.mem)

/-- Samples in (R284 to R291, R229): a receive frame is accepted at its boundary, journaled and staged, or leaves a gap where staging has no
room; one whose lanes report an error is counted, and a CRC-12 failure poisons its multiblock; FRAME_RELEASE stamps the oldest frame, at its
time, with TIME_NS less LAT_NS; STAGING_INJECT sends its next token, source-ordered, to the Crossing
of the Quarter its placement names. A lost lock leaves placeholders, and after 10 ms SAFE with cause LANE_DEAD. Enabling a binding starts
its channel again. -/
def Obligations.SamplesIn : Prop :=
  ∀ (s : State) (k : Fin 8),
    let b := s.blk
    let l := b.link k
    let n := l.frames
    let a := b.startChannels k n
    let w := if l.cNP ≤ 16 then 2 else 4
    b.up = true →
    (∀ words, b.linkState k = 3 → b.linkTx k = false → l.lockLost = none → b.hub.grave = false → b.rf 0x300044 15 0 = 0 →
      let ts := a.stampToken k n
      let toks := a.frameTokens k n (some words) (l.crcBad.any (l.inBlock n))
      let bytes := 16 + w * (ts.length + toks.length)
      let used := (l.staging.map (·.bytes)).sum
      ts ++ toks ≠ [] → b.journalRoom (.samples n 0 w ts toks) = true →
      ∃ t, Completes (.rxFrameArrive k words .none) s t ∧ l.dataAt + l.frameNs n ≤ t.now ∧ t.reg (linkReg k 0x28) = (n + 1) % 2 ^ 32 ∧
        (used + bytes ≤ b.stgBytes k → t.link k = { l with
          frames := n + 1
          staging := l.staging ++ [⟨n, false, false, 0, some b.cont.lsn, ts.flatMap b.withTwin, toks.flatMap b.withTwin, bytes, false,
            l.releaseAt n⟩] } ∧
          t.cont.lsn = b.cont.lsn + 1) ∧
        (b.stgBytes k < used + bytes → t.link k = { l with
          frames := n + 1
          staging := l.staging ++ [⟨n, true, false, 0, none, ts.flatMap b.withTwin, (toks.map Token.placeholder).flatMap b.withTwin, 0,
            false, l.releaseAt n⟩] } ∧ t.reg (convCnt k 3) = satAdd (b.reg (convCnt k 3)) 1 ∧ t.cont.lsn = b.cont.lsn) ∧ t.mem = b.mem) ∧
    (∀ words err, err ≠ .none → b.linkState k = 3 → b.linkTx k = false → l.lockLost = none → b.rf 0x300044 15 0 = 0 →
      ∃ t, Completes (.rxFrameArrive k words err) s t ∧ t.reg (convCnt k 0) = satAdd (b.reg (convCnt k 0)) 1 ∧
        (⟨12, k, 0, 0, false, false, []⟩ ∈ t.hub.wires) ∧ (err = .crc → (t.link k).crcBad = some (n * l.cF / 256)) ∧ t.mem = b.mem) ∧
    (∀ f, l.staging.find? (fun f => !f.released) = some f →
      let i := (l.staging.takeWhile (·.released)).length
      ∃ t, Completes (.frameRelease k) s t ∧ f.due ≤ t.now ∧ t.link k = { l with staging := l.staging.modify i fun g =>
          { g with
            released := true
            ready := t.now + 11
            ts := g.ts.map fun x => { x with value := BitVec.ofNat 64 ((t.timeNs + 2 ^ 64 - l.lat) % 2 ^ 64) } } } ∧
        t.regs = b.regs ∧ t.mem = b.mem) ∧
    (∀ f fs tok toks x c g lq p,
      let old := SMap.get (b.xing 8 2).bufs [] (bufKey 4 0)
      l.staging = f :: fs → f.released = true → f.ts = [] → f.toks = tok :: toks → f.gap = false → f.toks.any b.notAdmitted = false →
      b.cont.roll = none → b.ave.mig = none → tok.kind ∉ [4, 5, 7, 8] → old.length < 8 →
      (b.xing 8 2).down.contains 4 = false → tagDev tok.tag = b.ownId → b.ctx? tok.ctx = some x → x.placed = true →
      (b.inj 69).cache.find? (fun e => e.ctx = x.desc.image ∧ e.node = tagNode tok.tag) = some c → wordGroup c.word = some g →
      SMap.find? x.groups g = some lq → b.phys lq = some p →
      ∃ t, Completes (.stagingInject k) s t ∧ f.ready ≤ t.now ∧
        (t.link k).staging = (if toks = [] then [] else [{ f with ts := [], toks := toks }]) ++ fs ∧
        SMap.get (t.xing 8 2).bufs [] (bufKey 4 0) = old ++
          [({ word := (fixToken tok true).1.setCtrl 2 0 (b.gEpoch 1), dstX := (xyOf p).1, dstY := (xyOf p).2, dstP := 0, vc := 0,
              srcX := 8, srcY := 2, srcP := 0, hops := 0, ord := 0, esc := 0 } : Flit).seal] ∧ t.mem = b.mem) ∧
    (∀ lost, b.linkState k = 3 → b.linkTx k = false → l.realigns = [] →
      ∃ t, Completes (.laneLockLoss k lost) s t ∧ t.linkState k = 3 ∧ (t.link k).lockLost.isSome = true ∧ (t.link k).frames = n + lost ∧
        t.reg (convCnt k 1) = satAdd (b.reg (convCnt k 1)) 1 ∧ (⟨13, k, 0, 0, false, false, []⟩ ∈ t.hub.wires) ∧ t.mem = b.mem) ∧
    (∀ since, l.lockLost = some since → b.linkState k = 3 →
      ∃ t, Completes (.laneDeadTimeout k) s t ∧ since + 10000000 ≤ t.now ∧ t.linkState k = 4 ∧ t.rf (linkReg k 8) 7 4 = 4 ∧
        t.link k = { l with lockLost := none } ∧ t.hub.wires = b.hub.wires ++ [⟨26, k, 0, 0, false, false, b.boundCtxs k⟩] ∧
        t.mem = b.mem) ∧
    (∀ (ch : Fin 4104) (value : W32),
      (∃ t, Completes (.channelBindEnable ch value) s t ∧ t.reg (bindReg ch) = (value.toNat ||| 2 ^ 31) &&& 0xFC0FFFFF ∧
        SameRegs b t [bindReg ch] ∧ t.conv.links = b.conv.links ∧ t.mem = b.mem ∧
        t.conv.starts = if b.bound ch then b.conv.starts else SMap.erase b.conv.starts ch) ∧
      (∃ t, Completes (.channelBindDisable ch value) s t ∧ t.reg (bindReg ch) = value.toNat &&& 0x7C0FFFFF ∧
        t = { b with regs := t.regs } ∧ SameRegs b t [bindReg ch]))

/-- Drive out (R284, R287, R292 to R295): a DRIVE token goes into its channel's buffer, or is counted as late, early or for a channel that
does not play; at its deadline an index is closed with its token's value, or with the late policy and CONV_LATE; a transmit frame carries
the values decided for its slots, and SAFE_VALUE on a channel that does not play; disabling a channel stops it. -/
def Obligations.DriveOut : Prop :=
  ∀ s : State,
    let b := s.blk
    b.up = true →
    (∀ tok toks, (b.gate 1).penCount = 0 → tok.so = false ∨ (b.gate 1).penWr ≤ (b.gate 1).penRd → (b.gate 1).inbox = tok :: toks →
      let d := tagNode tok.tag % 512
      let x := b.drive d
      let off := (tagIdx tok.tag + 2 ^ 18 - x.next % 2 ^ 18) % 2 ^ 18
      (b.driveOn d = false →
        ∃ t, Completes .driveToken s t ∧ (t.gate 1).inbox = toks ∧ t.reg (convCnt (d / 64) 13) = satAdd (b.reg (convCnt (d / 64) 13)) 1 ∧
          t.conv = b.conv ∧ t.mem = b.mem) ∧
      (b.driveOn d = true → b.now < b.deadline d x.next →
        (131072 ≤ off → ∃ t, Completes .driveToken s t ∧ (t.gate 1).inbox = toks ∧
          t.reg (convCnt (d / 64) 6) = satAdd (b.reg (convCnt (d / 64) 6)) 1 ∧ t.conv = b.conv ∧ t.mem = b.mem) ∧
        (b.drvDepth ≤ off → off < 131072 → ∃ t, Completes .driveToken s t ∧ (t.gate 1).inbox = toks ∧
          t.reg (convCnt (d / 64) 7) = satAdd (b.reg (convCnt (d / 64) 7)) 1 ∧ t.conv = b.conv ∧ t.mem = b.mem) ∧
        (off < b.drvDepth → off < 131072 → tok.poison = false → badDrive tok = false → SMap.find? x.buffer (x.next + off) = none →
          ∃ t, Completes .driveToken s t ∧ (t.gate 1).inbox = toks ∧
            t.drive d = { x with buffer := SMap.put x.buffer (x.next + off) tok } ∧ t.regs = b.regs ∧ t.mem = b.mem))) ∧
    (∀ d : Fin 512, b.driveOn d = true →
      let x := b.drive d
      let n := (b.link (d.val / 64)).cN
      (∀ tok, SMap.find? x.buffer x.next = some tok →
        ∃ t, Completes (.driveDeadline d) s t ∧ b.deadline d x.next ≤ t.now ∧ (t.drive d).next = x.next + 1 ∧
          (t.drive d).queue = x.queue ++ [(x.next, (playValue n tok).1)] ∧ SMap.find? (t.drive d).buffer x.next = none ∧ t.mem = b.mem) ∧
      (SMap.find? x.buffer x.next = none →
        ∃ t, Completes (.driveDeadline d) s t ∧ b.deadline d x.next ≤ t.now ∧ (t.drive d).next = x.next + 1 ∧
          (t.drive d).queue = x.queue ++ [(x.next, if b.rf (outReg d) 29 28 = 0 then 0
            else if b.rf (outReg d) 29 28 = 1 then x.last.getD (b.safeValue d n) else b.safeValue d n)] ∧
          t.reg (convCnt (d.val / 64) 5) = satAdd (b.reg (convCnt (d.val / 64) 5)) 1 ∧
          t.evc.raised.length = b.evc.raised.length + 1 ∧ t.mem = b.mem)) ∧
    (∀ k : Fin 8, (b.linkState k = 3 ∨ b.linkState k = 4) → b.linkTx k = true →
      let l := b.link k
      ∃ t, Completes (.txFrameBuild k) s t ∧ l.dataAt + l.frameNs l.frames ≤ t.now ∧ (t.link k).frames = l.frames + 1 ∧
        t.reg (linkReg k 0x28) = (l.frames + 1) % 2 ^ 32 ∧ (t.link k).lastOut.length = l.cM * l.cS ∧ t.mem = b.mem ∧
        (∀ m < l.cM, m < 64 → ∀ i < l.cS,
          (b.driveOn (64 * k.val + m) = false →
            (t.link k).lastOut[m * l.cS + i]? = some (b.safeValue (64 * k.val + m) l.cN <<< (l.cNP - l.cN))) ∧
          (∀ f0 e, b.driveOn (64 * k.val + m) = true → b.hub.grave = false → (b.drive (64 * k.val + m)).start = some f0 →
            (b.drive (64 * k.val + m)).queue.find? (fun e => e.1 = (l.frames * l.cS + i - f0 * l.cS) / l.cH) = some e →
            (t.link k).lastOut[m * l.cS + i]? = some (e.2 <<< (l.cNP - l.cN))))) ∧
    (∀ (d : Fin 512) (value : W32),
      ∃ t, Completes (.driveChannelDisable d value) s t ∧ t.reg (outReg d) = value.toNat &&& 0x70000000 ∧ SameRegs b t [outReg d] ∧
        (b.rf (outReg d) 31 31 = 1 → t.drive d = Drive.empty) ∧ t.conv.links = b.conv.links ∧ t.mem = b.mem)


-- The Colir Gate

/-- Negotiation of a port (R303, R305 to R312): writes of EN and RENEG start it in DETECT, from OFF as well, or turn it OFF, which gives the
places of discarded transit tokens back; the first lane's lock leads to CAPS, where
the port sends its word and, once the partner has echoed it twice with the same word, checks the partner and chooses lanes and rate; a TRAIN
dwell ends in ACTIVE with full credits, at a lower rate, or in FAILED. A retired lane restripes the port, a failing rate is lowered with
FEC on, and a port that is not ACTIVE 100 ms after leaving it is lost. -/
def Obligations.PortNegotiation : Prop :=
  ∀ (s : State) (p : Fin 4),
    let b := s.blk
    let c := b.cport p
    b.up = true →
    (∀ value : W32,
      (b.rf (portReg p 0) 0 0 = 0 →
        ∃ t, Completes (.colirPortEnable p value) s t ∧ t.reg (portReg p 0) = (value.toNat ||| 1) &&& 0x3773 ∧ t.portState p = 1 ∧
          t.rf (portReg p 4) 19 8 = 0 ∧ t.cport p = { c with cut := 15, rateCap := 2 } ∧ t.mem = b.mem) ∧
      (b.rf (portReg p 0) 0 0 = 1 →
        ∃ t, Completes (.colirPortDisable p value) s t ∧ t.rf (portReg p 0) 0 0 = 0 ∧ t.portState p = 0 ∧ t.mem = b.mem ∧
          (b.portState p ≠ 0 → (t.cport p).replay = [] ∧ (t.cport p).tokQ = [] ∧
            ((∀ e ∈ c.tokQ, e.2.2 ≠ some p.val) →
              t.cport p = { c with replay := [], again := none, tokQ := [], dispQ := [], evQ := [], ledQ := [] }) ∧
            ∀ o : Nat, o ≠ p → (t.cport o).retT = (b.cport o).retT + (c.tokQ.filter fun e => e.2.2 = some o).length)) ∧
      (∃ t, Completes (.reneg p value) s t ∧ t.rf (portReg p 0) 0 0 = b.rf (portReg p 0) 0 0 ∧ t.portState p = 1 ∧
        t.rf (portReg p 4) 19 8 = 0 ∧ t.cport p = { c with cut := 15, rateCap := 2 } ∧ t.mem = b.mem)) ∧
    (∀ signal, b.portState p = 1 →
      ∃ t, Completes (.colirBlockLock p signal) s t ∧ t.portState p = 2 ∧ t.mem = b.mem ∧
        t.cport p = { c with ctl := b.reg (portReg p 0), signal := signal.toNat, since := b.now, capsCount := 0, cut := 15,
                                  said := false }) ∧
    (b.portState p = 2 →
      ∃ t, Completes (.capsCellSend p) s t ∧ (t.cport p).sentWord = b.capWord p 0 false ∧ (t.cport p).said = true ∧ cellType (t.cport p).lastCell = 2 ∧
        cellPayload (t.cport p).lastCell % 2 ^ 64 = (b.capWord p 0 false).toNat ∧ t.regs = b.regs ∧ t.mem = b.mem) ∧
    (∀ cell, b.portState p = 2 → cellSound cell = true → cellType cell = 2 → b.rf 0x300044 15 0 = 0 → c.said = true →
      bits (cellPayload cell) 127 64 = c.sentWord.toNat →
      let w := cellPayload cell % 2 ^ 64
      let mine := (b.capWord p 0 false).toNat
      let lanes := bits mine 3 0 &&& bits w 3 0 &&& c.cut
      (c.capsCount = 0 ∨ w ≠ b.capsIn p →
        ∃ t, Completes (.capsCellReceive p ⟨cell, .none⟩) s t ∧ t.cport p = { c with capsCount := 1 } ∧ t.capsIn p = w ∧ t.portState p = 2 ∧
          t.mem = b.mem) ∧
      (c.capsCount ≠ 0 → w = b.capsIn p →
        ∃ t, Completes (.capsCellReceive p ⟨cell, .none⟩) s t ∧ t.mem = b.mem ∧
          (bits w 23 16 ≠ 1 → t.portState p = 6 ∧ t.rf (portReg p 4) 7 4 = 4) ∧
          (bits w 23 16 = 1 → bits w 47 32 ≠ b.rf 0xE00000 31 16 → t.portState p = 6 ∧ t.rf (portReg p 4) 7 4 = 3) ∧
          (bits w 23 16 = 1 → bits w 47 32 = b.rf 0xE00000 31 16 → bits w 12 9 = b.ownId → t.portState p = 6 ∧
            t.rf (portReg p 4) 7 4 = 2) ∧
          (bits w 23 16 = 1 → bits w 47 32 = b.rf 0xE00000 31 16 → bits w 12 9 ≠ b.ownId → bits w 8 8 = bits c.ctl 1 1 →
            t.portState p = 6 ∧ t.rf (portReg p 4) 7 4 = 1) ∧
          (∀ r < 3, bits w 23 16 = 1 → bits w 47 32 = b.rf 0xE00000 31 16 → bits w 12 9 ≠ b.ownId → bits w 8 8 ≠ bits c.ctl 1 1 →
            lanes ≠ 0 → (bits mine 6 4).testBit r = true → (bits w 6 4).testBit r = true →
            (∀ q, r < q → q < 3 → ((bits mine 6 4).testBit q && (bits w 6 4).testBit q) = false) →
            t.portState p = 3 ∧ t.portLanes p = lanes ∧ t.portRate p = r))) ∧
    (b.portState p = 2 →
      ∃ t, Completes (.capsTimeout p) s t ∧ c.since + 10000000 ≤ t.now ∧ t.portState p = 1 ∧
        t.reg (portCnt p 4) = satAdd (b.reg (portCnt p 4)) 1 ∧ t.mem = b.mem) ∧
    (∀ (ok : BitVec 4) err (partner : W64), b.portState p = 3 → c.rxHeld = [] →
      let both := ok.toNat &&& b.portLanes p &&& bits partner.toNat 27 24
      (both = b.portLanes p → both ≠ 0 →
        ∃ t, Completes (.trainDwellEnd p ok err partner) s t ∧ c.since + trainNs (b.portRate p) ≤ t.now ∧ t.portState p = 4 ∧
          (t.cport p).tcred = 512 ∧ (t.cport p).ocred = 32 ∧ (t.cport p).replay = c.replay ∧ (t.cport p).leftAt = none ∧
          t.rf (portReg p 4) 11 11 = b2n (let m := fecMode (bits c.ctl 13 12)
            let n := fecMode (bits partner.toNat 30 29)
            m == 1 || n == 1 || (m != 2 && n != 2 && (err || partner.getLsbD 28))) ∧ t.mem = b.mem) ∧
      (both = 0 → b.portRate p = 0 →
        ∃ t, Completes (.trainDwellEnd p ok err partner) s t ∧ t.portState p = 6 ∧ t.rf (portReg p 4) 7 4 = 5 ∧ t.mem = b.mem) ∧
      (both = 0 → b.portRate p ≠ 0 →
        ∃ t, Completes (.trainDwellEnd p ok err partner) s t ∧ t.portState p = 3 ∧ t.portRate p = b.portRate p - 1 ∧
          (t.cport p).since = t.now ∧ t.mem = b.mem)) ∧
    (∀ lane : Fin 4, b.portState p = 4 → (b.portLanes p).testBit lane = true →
      ∃ t, Completes (.colirLaneRetire p lane) s t ∧ (t.rf (portReg p 4) 19 16).testBit lane = true ∧
        t.portLanes p = b.portLanes p - 2 ^ lane.val ∧ t.portState p = (if b.portLanes p = 2 ^ lane.val then 1 else 5) ∧
        t.reg (portCnt p 5) = satAdd (b.reg (portCnt p 5)) 1 ∧
        t.hub.wires = b.hub.wires ++ [⟨27, p.val + 16 * lane.val, 0, 0, false, false, []⟩] ∧ t.mem = b.mem) ∧
    (b.portState p = 5 → c.rxHeld = [] →
      ∃ t, Completes (.restripeDone p) s t ∧ t.portState p = 4 ∧ (t.cport p).replay = c.replay ∧
        (t.cport p).again = (if c.replay = [] then none else some 0) ∧ (t.cport p).tcred = 512 ∧ (t.cport p).ocred = 32 ∧
        (t.cport p).retT = 0 ∧ (c.replay ≠ [] → t.reg (portCnt p 0) = satAdd (b.reg (portCnt p 0)) 1 ∧
          t.hub.wires = b.hub.wires ++ [⟨4, p, 0, 0, false, false, []⟩]) ∧ t.mem = b.mem) ∧
    (b.portState p = 4 → b.portRate p ≠ 0 → b.portLanes p ≠ 0 →
      1000 < (c.fails.filter fun x => decide (b.now < x + 1000000000)).length →
      ∃ t, Completes (.colirRateFallback p) s t ∧ t.portState p = 5 ∧ t.portRate p = b.portRate p - 1 ∧ t.rf (portReg p 4) 11 11 = 1 ∧
        (t.cport p).rateCap = b.portRate p - 1 ∧ t.reg (portCnt p 6) = satAdd (b.reg (portCnt p 6)) 1 ∧ t.mem = b.mem) ∧
    (∀ left, c.leftAt = some left → b.portState p ≠ 4 →
      ∃ t ctxs, Completes (.colirPortLost p) s t ∧ left + 100000000 ≤ t.now ∧ (t.cport p).lost = true ∧ (t.cport p).replay = [] ∧
        (t.cport p).tokQ = [] ∧ t.hub.wires = b.hub.wires ++ [⟨35, p, 0, 0, false, false, ctxs⟩] ∧ t.mem = b.mem)

/-- A cell arrives sound at an ACTIVE port, with no injection armed. -/
def Sys2Proof.Machine.Block.receives (b : Block) (p : Nat) (cell : BitVec 256) : Prop :=
  b.up = true ∧ b.portState p = 4 ∧ b.rf 0x300044 15 0 = 0 ∧ cellSound cell = true ∧ cellType cell < 8

/-- A sequenced cell arrives in its turn, and none waits. -/
def Sys2Proof.Machine.Block.inTurn (b : Block) (p : Nat) (cell : BitVec 256) : Prop :=
  b.receives p cell ∧ cellSeq cell = (b.cport p).expect ∧ (b.cport p).rxHeld = []

/-- Cells (R300 to R304, R314, R315, R321 to R323, R387): a port sends, in this order, a due NAK, the cell to be replayed, DISP before
TOKEN cells while there is credit, or IDLE; a sound cell's ACK takes acknowledged cells off the replay buffer and its credits come back. A
TOKEN cell in its turn reaches the Gate, or the next port; an EVENT cell is staged; a failed cell, and one of an uncorrectable codeword, is
counted and asked for again; a NAK or 2 µs without an ACK start the replay. Cells go round the active lanes, TIME cells, which carry
TIME_NS, on the lowest one. A record that finds the mirror's cells held for more than 1 ms is dropped and counted. -/
def Obligations.ColirCells : Prop :=
  ∀ (s : State) (p : Fin 4),
    let b := s.blk
    let c := b.cport p
    (b.up = true → b.portState p = 4 → c.rxHeld = [] → (bits c.ctl 1 1 = 0 ∨ b.now < c.timeAt) →
      (c.nakDue = true →
        ∃ t, Completes (.colirCellSend p) s t ∧ cellType (t.cport p).lastCell = 7 ∧ (t.cport p).nakDue = false ∧ (t.cport p).replay = c.replay ∧
          t.regs = b.regs ∧ t.mem = b.mem) ∧
      (∀ i x, c.nakDue = false → c.again = some i → c.replay[i]? = some x → bits x.toNat 211 192 = 0 →
        ∃ t, Completes (.colirCellSend p) s t ∧ cellSeq (t.cport p).lastCell = cellSeq x ∧ cellPayload (t.cport p).lastCell = cellPayload x ∧
          (t.cport p).again = (if i + 1 < c.replay.length then some (i + 1) else none) ∧ (t.cport p).replay = c.replay ∧ t.mem = b.mem) ∧
      (c.nakDue = false → c.again = none → c.replay.length < 128 → c.run < 15 →
        (∀ x h rest, c.dispQ = (x, h) :: rest → c.ocred ≠ 0 →
          ∃ t, Completes (.colirCellSend p) s t ∧ cellType (t.cport p).lastCell = 6 ∧ cellPayload (t.cport p).lastCell = x.toNat ∧
            (t.cport p).dispQ = rest ∧ (t.cport p).ocred = c.ocred - 1 ∧ (t.cport p).replay = c.replay ++ [coreCell 6 c.seq h x] ∧
            (t.cport p).seq = (c.seq + 1) % 256 ∧ t.mem = b.mem) ∧
        (∀ tok h rest, c.dispQ = [] → c.tokQ = (tok, h, none) :: rest → c.tcred ≠ 0 →
          ∃ t, Completes (.colirCellSend p) s t ∧ cellType (t.cport p).lastCell = 1 ∧ tokenOfPayload (cellPayload (t.cport p).lastCell) = tok ∧
            (t.cport p).tokQ = rest ∧ (t.cport p).tcred = c.tcred - 1 ∧
            (t.cport p).replay = c.replay ++ [coreCell 1 c.seq h (tokenPayload tok)] ∧ t.mem = b.mem) ∧
        (c.dispQ = [] → c.tokQ = [] → c.evQ = [] → c.ledQ = [] →
          ∃ t, Completes (.colirCellSend p) s t ∧ cellType (t.cport p).lastCell = 0 ∧ (t.cport p).replay = c.replay ∧
            (let lanes := onesOf 4 (b.portLanes p)
             (t.cport p).lastLane = (lanes[c.stripe % lanes.length]?).getD 0) ∧ (t.cport p).stripe = (c.stripe + 1) % 12 ∧
            t.regs = b.regs ∧ t.mem = b.mem))) ∧
    (∀ cell, b.receives p cell → cellType cell = 0 → c.replay = [] →
      ∃ t, Completes (.idleCellReceive p ⟨cell, .none⟩) s t ∧ t.cport p = { c with
        seq := cellAck cell, tcred := min (c.tcred + bits cell.toNat 203 196) 512, ocred := min (c.ocred + bits cell.toNat 195 192) 32 } ∧
        t.regs = b.regs ∧ t.mem = b.mem) ∧
    (∀ cell first rest, b.receives p cell → cellType cell = 0 → c.replay = first :: rest →
      let n := (cellAck cell + 256 - cellSeq first) % 256
      n ≠ 0 → n ≤ c.replay.length →
      ∃ t, Completes (.idleCellReceive p ⟨cell, .none⟩) s t ∧ (t.cport p).replay = c.replay.drop n ∧ (t.cport p).ackAt = b.now ∧
        t.cont.lsn = b.cont.lsn + ((c.replay.take n).filter fun x => cellType x = 1).length ∧ SameRegs b t [colirCnt 5] ∧ t.mem = b.mem) ∧
    (∀ cell (m : Fin 16), b.receives p cell → cellType cell = 0 → c.replay = [] → b.rf (portReg p 4) 11 11 = 1 → m.val ≠ 0 →
      ∃ t, Completes (.idleCellReceive p ⟨cell, .corrected m⟩) s t ∧ t.reg (portCnt p 2) = satAdd (b.reg (portCnt p 2)) m ∧
        SameRegs b t [portCnt p 2] ∧ t.mem = b.mem) ∧
    (∀ cell, b.receives p cell → cellType cell = 7 → ((b.takeCounts p cell).cport p).replay ≠ [] →
      ∃ t, Completes (.nakReceive p ⟨cell, .none⟩) s t ∧ (t.cport p).again = some 0 ∧ t.reg (portCnt p 0) = satAdd (b.reg (portCnt p 0)) 1 ∧
        t.hub.wires = b.hub.wires ++ [⟨4, p, 0, 0, false, false, []⟩] ∧ t.mem = b.mem) ∧
    (b.up = true → b.portState p = 4 → c.replay ≠ [] →
      ∃ t, Completes (.ackTimeout p) s t ∧ c.ackAt + 2000 ≤ t.now ∧ (t.cport p).again = some 0 ∧ (t.cport p).ackAt = t.now ∧
        t.reg (portCnt p 0) = satAdd (b.reg (portCnt p 0)) 1 ∧ t.mem = b.mem) ∧
    (∀ cell, b.inTurn p cell → cellType cell = 1 →
      let tok := tokenOfPayload (cellPayload cell)
      let a := b.takeCounts p cell
      a.journalRoom (.colirIn tok) = true →
      ∃ t, Completes (.tokenCellReceive p ⟨cell, .none⟩) s t ∧ (t.cport p).expect = (c.expect + 1) % 256 ∧ (t.cport p).rxHeld = [] ∧
        t.reg (portCnt p 8) = satAdd (b.reg (portCnt p 8)) 1 ∧ t.cont.lsn = a.cont.lsn + 1 ∧
        (tagDev tok.tag = b.ownId → (t.gate 2).out = (b.gate 2).out ++ [(tok, some (p.val, 0))] ∧ t.mem = b.mem) ∧
        (∀ o, tagDev tok.tag ≠ b.ownId → cellHops cell < 14 → b.colirRoute (tagDev tok.tag) = some o → o ≠ p.val →
          (t.cport o).tokQ = (b.cport o).tokQ ++ [(tok, cellHops cell + 1, some p.val)] ∧
          t.reg (colirCnt 2) = satAdd (b.reg (colirCnt 2)) 1 ∧ t.mem = b.mem)) ∧
    (∀ cell, b.receives p cell → cellType cell = 1 → cellSeq cell ≠ c.expect →
      ∃ t, Completes (.tokenCellReceive p ⟨cell, .none⟩) s t ∧ (t.cport p).expect = c.expect ∧ (c.nakking = false → (t.cport p).nakDue = true) ∧
        (t.gate 2).out = (b.gate 2).out ∧ t.mem = b.mem) ∧
    (∀ cell, b.up = true → b.portState p = 4 → b.rf 0x300044 15 0 = 0 → cellSound cell = false →
      ∃ t, Completes (.tokenCellReceive p ⟨cell, .none⟩) s t ∧ (t.cport p).expect = c.expect ∧ (t.cport p).nakDue = true ∧
        t.reg (portCnt p 1) = satAdd (b.reg (portCnt p 1)) 1 ∧ SameRegs b t [portCnt p 1] ∧ t.ave = b.ave ∧ t.mem = b.mem) ∧
    (∀ cell, b.receives p cell → b.rf (portReg p 4) 11 11 = 1 →
      ∃ t, Completes (.tokenCellReceive p ⟨cell, .uncorrectable true⟩) s t ∧ (t.cport p).expect = c.expect ∧ (t.cport p).nakDue = true ∧
        t.reg (portCnt p 1) = satAdd (b.reg (portCnt p 1)) 1 ∧ t.reg (portCnt p 3) = satAdd (b.reg (portCnt p 3)) 1 ∧
        SameRegs b t [portCnt p 1, portCnt p 3] ∧ t.ave = b.ave ∧ t.mem = b.mem) ∧
    (∀ cell, b.inTurn p cell → cellType cell = 4 → bits (cellPayload cell) 143 140 = b.ownId →
      let e := b.rf 0x200000 3 0
      let x := cellPayload cell
      b.rf 0x200000 31 31 = 1 → (b.eq e).staged.length < b.stageSize →
      ∃ t, Completes (.eventCellReceive p ⟨cell, .none⟩) s t ∧ (t.eq e).staged = (b.eq e).staged ++
          [⟨bits x 15 8, bits x 63 32, bits x 127 64, true, x.testBit 2, (b.eq e).lossMark, bits x 131 128⟩] ∧
        t.reg (evcCnt 8) = satAdd (b.reg (evcCnt 8)) 1 ∧ (t.cport p).retO = c.retO + 1 ∧ t.mem = b.mem) ∧
    (∀ cell, b.inTurn p cell → cellType cell = 5 → bits (cellPayload cell) 143 140 = b.ownId →
      ∃ t, Completes (.ledgerCellReceive p ⟨cell, .none⟩) s t ∧ (t.cport p).retO = c.retO + 1 ∧ (t.cport p).expect = (c.expect + 1) % 256 ∧
        t.mem = b.mem) ∧
    (b.up = true → b.portState p = 4 → bits c.ctl 1 1 = 1 →
      ∃ t, Completes (.timeCellSend p) s t ∧ c.timeAt ≤ t.now ∧ cellType (t.cport p).lastCell = 3 ∧
        cellPayload (t.cport p).lastCell % 2 ^ 64 = t.timeNs % 2 ^ 64 ∧ (t.cport p).timeAt = t.now + 1000000 ∧
        (t.cport p).lastLane = (onesOf 4 (b.portLanes p)).headD 0 ∧ t.regs = b.regs ∧ t.mem = b.mem) ∧
    (∀ cell, b.receives p cell → cellType cell = 3 →
      (bits c.ctl 1 1 = 1 →
        ∃ t, Completes (.timeCellReceive p ⟨cell, .none⟩) s t ∧ (t.cport p).tArrive = b.timeNs ∧ t.timeNs = b.timeNs ∧
          SameRegs b t [colirCnt 5] ∧ t.mem = b.mem) ∧
      (bits c.ctl 1 1 = 0 → c.meas = none →
        ∃ t, Completes (.timeCellReceive p ⟨cell, .none⟩) s t ∧ (t.cport p).tArrive = b.timeNs ∧
          (t.cport p).meas = some (cellPayload cell % 2 ^ 64, b.timeNs, b.timeNs) ∧ cellType (t.cport p).lastCell = 3 ∧
          cellPayload (t.cport p).lastCell % 2 ^ 64 = b.timeNs % 2 ^ 64 ∧ SameRegs b t [colirCnt 5] ∧ t.mem = b.mem) ∧
      (∀ t1 t2 t3, bits c.ctl 1 1 = 0 → c.meas = some (t1, t2, t3) →
        let d (x y : Nat) : Int := toInt 64 (ofInt 64 ((x : Int) - y))
        let delay := (d (bits (cellPayload cell) 127 64) t1 - d t3 t2).tdiv 2
        ∃ t, Completes (.timeCellReceive p ⟨cell, .none⟩) s t ∧ (t.cport p).tArrive = b.timeNs ∧ cellType (t.cport p).lastCell = 3 ∧
          t.rf (portReg p 0x10) 31 16 = min delay.toNat 65535 ∧
          t.rf (portReg p 0x10) 15 0 = satField 16 (d t2 t1 - delay - (toInt 16 (b.rf (portReg p 0x14) 15 0)).tdiv 1000) ∧
          t.mem = b.mem)) ∧
    (∀ at_, b.up = true → (∀ q < p.val, b.mirrorHeld q = none) → b.mirrorHeld p = some at_ →
      ∃ t, Completes .mirrorGap s t ∧ at_ + 1000000 < t.now ∧ t.colir = b.colir ∧ t.reg (colirCnt 5) = satAdd (b.reg (colirCnt 5)) 1 ∧
        t.evc.raised.length = b.evc.raised.length + 1 ∧ SameRegs b t [colirCnt 5] ∧ t.mem = b.mem)

/-- Spanning contexts (R317 to R320): a NOTIFY queues a decrement; a member answers its home's ROUND_REQ with its counts, completes and
collects as told and is cancelled with the home; the home adds up the answers and the orphans, and gives a silent member up after 10 ms. -/
def Obligations.Spans : Prop :=
  ∀ (s : State) (p : Fin 4) (cell : BitVec 256),
    let b := s.blk
    let a := b.takeCounts p cell
    let x := cellPayload cell
    let ctx := bits x 27 8
    let src := bits x 7 4
    (b.inTurn p cell → cellType cell = 6 → bits x 143 140 = b.ownId →
      (bits x 3 0 = 0 →
        ∃ t, Completes (.dispNotify p ⟨cell, .none⟩) s t ∧ t.disp.depQ = b.disp.depQ ++ [ctx] ∧ (t.cport p).retO = (b.cport p).retO + 1 ∧ t.mem = b.mem) ∧
      (∀ o, bits x 3 0 = 1 → b.colirRoute src = some o →
        ∃ t, Completes (.roundReq p ⟨cell, .none⟩) s t ∧ t.mem = b.mem ∧
          ((a.gather ctx).ctx? ctx = none → (t.cport o).dispQ = (b.cport o).dispQ ++
            [(dispPayload 2 b.ownId ctx (bits x 35 28) (b2n (a.unflushed ctx)) 0 0 0 src, 0)]) ∧
          (∀ y, (a.gather ctx).ctx? ctx = some y → (t.cport o).dispQ = (b.cport o).dispQ ++
            [(dispPayload 2 b.ownId ctx (bits x 35 28) (b2n (a.unflushed ctx)) 0 (ofInt 48 ((y.e : Int) - y.c)) (ofInt 48 (a.crossOf ctx)) src,
              0)])) ∧
      (∀ y m, bits x 3 0 = 2 → a.ctx? ctx = some y → y.state = 5 → y.span.waiting = true → y.span.round = bits x 35 28 →
        src ∈ b.members ctx → src ∉ y.span.answered → m ∈ b.members ctx → m ≠ src → m ∉ y.span.answered →
        ∃ t z, Completes (.roundRep p ⟨cell, .none⟩) s t ∧ t.ctx? ctx = some z ∧ z.state = 5 ∧ z.span.answered = y.span.answered ++ [src] ∧
          z.span.lives = SMap.put y.span.lives src (toInt 48 (bits x 87 40)) ∧ z.span.live = y.span.live + toInt 48 (bits x 87 40) ∧ z.span.cross = y.span.cross + toInt 48 (bits x 135 88) ∧
          z.span.changed = (y.span.changed || x.testBit 36) ∧ t.mem = b.mem) ∧
      (∀ y ms, bits x 3 0 = 3 → a.ctx? ctx = some y → b.spanEntry ctx = some (src, ms) → src ≠ b.ownId → 1 ≤ y.state → y.state ≤ 6 →
        b.cont.roll = none → ∃ t, Completes (.dispComplete p ⟨cell, .none⟩) s t ∧ t.recorded ctx y (bits x 39 37) y.value) ∧
      (bits x 3 0 = 4 →
        (∀ o, a.ctx? ctx = none → b.colirRoute src = some o →
          ∃ t, Completes (.collect p ⟨cell, .none⟩) s t ∧ t.mem = b.mem ∧
            (t.cport o).dispQ = (b.cport o).dispQ ++ [(dispPayload 5 b.ownId ctx 0 0 0 0 0 src, 0)]) ∧
        (∀ o y ms, a.ctx? ctx = some y → b.spanEntry ctx = some (src, ms) → src ≠ b.ownId →
          y.state ≤ 3 ∨ 7 ≤ y.state ∨ (y.state = 6 ∧ y.cancelled = true) → b.colirRoute src = some o →
          ∃ t, Completes (.collect p ⟨cell, .none⟩) s t ∧ t.mem = b.mem ∧
            (t.cport o).dispQ = (b.cport o).dispQ ++ [(dispPayload 5 b.ownId ctx 0 0 0 0 0 src, 0)]) ∧
        (∀ y ms, a.ctx? ctx = some y → b.spanEntry ctx = some (src, ms) → src ≠ b.ownId → 4 ≤ y.state → y.state ≤ 5 →
          ∃ t z, Completes (.collect p ⟨cell, .none⟩) s t ∧ t.ctx? ctx = some z ∧ z.state = 6 ∧ z.cancelled = false ∧ z.todo = b.collectors)) ∧
      (∀ y, bits x 3 0 = 5 → a.ctx? ctx = some y → y.state = 6 → src ∉ y.span.collected →
        ∃ t z, Completes (.collectDone p ⟨cell, .none⟩) s t ∧ t.ctx? ctx = some z ∧ z.span.collected = y.span.collected ++ [src] ∧
          z.span.orphans = y.span.orphans + (toInt 48 (bits x 87 40)).toNat ∧ t.mem = b.mem) ∧
      (∀ y ms, bits x 3 0 = 6 → a.ctx? ctx = some y → b.spanEntry ctx = some (src, ms) → src ≠ b.ownId → 4 ≤ y.state → y.state ≤ 5 →
        ∃ t z, Completes (.dispCancel p ⟨cell, .none⟩) s t ∧ t.ctx? ctx = some z ∧ z.state = 6 ∧ z.cancelled = true ∧ z.status = 1 ∧
          z.rearm = false) ∧
      (7 ≤ bits x 3 0 →
        ∃ t, Completes (.dispBad p ⟨cell, .none⟩) s t ∧ t.reg (colirCnt 6) = satAdd (b.reg (colirCnt 6)) 1 ∧ t.disp.depQ = b.disp.depQ ∧
          t.mem = b.mem)) ∧
    (∀ c (m : Fin 16) y, b.up = true → b.ctx? c = some y → y.state = 6 → y.cancelled = false → m.val ∈ b.members c →
      m.val ∉ y.span.collected →
      ∃ t z, Completes (.spanGiveup c m) s t ∧ y.span.askedAt + 10000000 ≤ t.now ∧ t.ctx? c = some z ∧
        z.span.collected = y.span.collected ++ [m.val] ∧ z.span.gaveUp = true ∧ z.state = 6 ∧
        t.reg (colirCnt 7) = satAdd (b.reg (colirCnt 7)) 1 ∧ t.mem = b.mem)


-- Power, clocks and resets

/-- Power states and District levels (R455, R456, R458, R459, R461): a write of TARGET sets RUN, LOGKEEP or NAP at once, or SLEEP_PENDING. An
idle District enters its rest level; an entry into OFF takes 400 µs, at whose end the District's Quarters stand in their OFF images, their
presence filters in module memory just below their pens (R83), unless work has come meanwhile. A wake request cancels an entry or starts a
wake, at whose end the District runs. -/
def Obligations.PowerAndDistricts : Prop :=
  ∀ s : State,
    let b := s.blk
    b.up = true →
    (∀ (value : W32) (target : Nat), target < 3 →
      let c := if target = 0 then Instr.powerTargetRun value else if target = 1 then .powerTargetLogkeep value else .powerTargetNap value
      ∃ t, Completes c s t ∧ t.rf 0x1000000 2 0 = target ∧ t.rf 0x1000000 8 3 = bits value.toNat 8 3 &&& 0x2E ∧
        t.rf 0x1000004 2 0 = target ∧ t.sleepPending = false ∧ SameRegs b t [0x1000000, 0x1000004] ∧ t.mem = b.mem ∧
        t.evc.raised = if b.rf 0x1000004 2 0 = target then b.evc.raised else b.evc.raised ++ [⟨22, target, none⟩]) ∧
    (∀ value : W32,
      ∃ t, Completes (.powerTargetSleep value) s t ∧ t.rf 0x1000000 2 0 = 3 ∧ t.sleepPending = true ∧
        t.rf 0x1000004 2 0 = b.rf 0x1000004 2 0 ∧ SameRegs b t [0x1000000, 0x1000004] ∧ t.evc = b.evc ∧ t.mem = b.mem) ∧
    (∀ d : Fin 8,
      (b.distLevel d < b.restGoal d → b.distSteady d = true → b.rf (distStat d) 0 0 = 0 → b.mayRest d (b.restGoal d) = true →
        ∃ t, Completes (.districtRestEntry d) s t ∧ SMap.get b.ave.lastFired 0 d + 1000 * max (b.rf (distCfg d) 15 8) 1 ≤ t.now ∧
          (b.restGoal d < 3 → t.distLevel d = b.restGoal d ∧ SameRegs b t [distStat d] ∧ t.qs = b.qs ∧ t.mem = b.mem) ∧
          (b.restGoal d = 3 → t.rf (distStat d) 0 0 = 1 ∧ t.distLevel d = 0 ∧ SMap.find? t.power.due d = some (t.now + 400000))) ∧
      (b.rf (distStat d) 0 0 = 1 →
        ∃ t, Completes (.offEntryDone ⟨d, []⟩) s t ∧ SMap.get b.power.due 0 d ≤ t.now ∧ t.rf (distStat d) 0 0 = 0 ∧
          (b.mayRest d 3 = true → t.distLevel d = 3 ∧
            (∀ q ∈ b.liveQuarters d, (∃ x, SMap.find? t.power.images q = some x ∧ x.frame = (b.q q).frame ∧ x.pes = (b.q q).pes ∧
                x.nodes = (b.q q).nodes ∧ x.plaza = (b.q q).plaza ∧ x.park = [] ∧ x.pend = []) ∧
              (t.q q).lanes = (b.q q).lanes ∧ (t.q q).pes = [] ∧ (t.q q).frame = []) ∧
            (b.memOk = true → (∀ q ∈ b.liveQuarters d, ∀ e ∈ (b.q q).plaza.filter, e.1 < 65536) →
              SameMem b t fun a => (b.liveQuarters d).any fun q => match b.filterMa q with
                | some lo => decide (lo ≤ a) && decide (a < lo + 32768)
                | none => false) ∧
            (b.rf 0x300044 15 0 = 0 → (∀ q ∈ b.liveQuarters d, ∀ e ∈ (b.q q).frame, e.2.bad = false ∧ e.2.ce = false) →
              SameRegs b t [distStat d, memCnt 6, memCnt 7])) ∧
          (b.mayRest d 3 = false → t.distLevel d = b.distLevel d ∧ t.qs = b.qs ∧ SameRegs b t [distStat d] ∧ t.mem = b.mem)) ∧
      (b.rf (distStat d) 0 0 = 1 →
        ∃ t, Completes (.districtWakeRequest d) s t ∧ t.rf (distStat d) 0 0 = 0 ∧ t.distLevel d = b.distLevel d ∧
          SameRegs b t [distStat d] ∧ t.qs = b.qs ∧ t.mem = b.mem) ∧
      (b.rf (distStat d) 0 0 = 0 → b.distLevel d ≠ 0 → b.rf (distStat d) 1 1 = 0 →
        ∃ t, Completes (.districtWakeRequest d) s t ∧ t.rf (distStat d) 1 1 = 1 ∧ t.distLevel d = b.distLevel d ∧
          SMap.find? t.power.due d = some (b.now + wakeNs (b.distLevel d)) ∧ SameRegs b t [distStat d] ∧ t.qs = b.qs ∧ t.mem = b.mem) ∧
      (b.rf (distStat d) 1 1 = 1 → SMap.get b.power.later [] d = [] →
        ∃ t, Completes (.districtWakeDone d) s t ∧ SMap.get b.power.due 0 d ≤ t.now ∧ t.distLevel d = 0 ∧ t.rf (distStat d) 1 1 = 0 ∧
          (b.distLevel d ≠ 3 → SameRegs b t [distStat d] ∧ t.qs = b.qs ∧ t.mem = b.mem) ∧
          (b.distLevel d = 3 → b.stops.bad = [] → b.rf 0x300044 15 0 = 0 →
            (∀ q ∈ b.liveQuarters d, ∀ x, SMap.find? b.power.images q = some x →
              (t.q q).frame = x.frame ∧ (t.q q).pes = x.pes ∧ (t.q q).nodes = x.nodes ∧ (t.q q).plaza.entries = x.plaza.entries ∧
              (t.q q).plaza.penRd = (b.q q).plaza.penRd ∧ (t.q q).lanes = (b.q q).lanes) ∧
            SameRegs b t [distStat d, memCnt 6, memCnt 7] ∧ t.mem = b.mem)))

/-- What a warm reset keeps and clears (R470 to R472): module memory, the Kerbs, FSEQ, the journal and the bank stay, and every RW field; the
Quarters and the contexts are gone. -/
def Sys2Proof.Machine.Block.warmFrom (b t : Block) (kind : Nat) : Prop :=
  t.power.held = true ∧ t.power.off = false ∧ t.power.sleeping = false ∧ t.mem = b.mem ∧ t.qs = [] ∧ t.disp.ctxs = [] ∧ t.kerb = b.kerb ∧
  t.hub.fseq = b.hub.fseq ∧ t.cont.journal = b.cont.journal ∧ t.cont.bank = b.cont.bank ∧ t.retired = b.retired ∧
  (b.power.since = none → t.rf 0x1100000 2 0 = kind ∧ t.rf 0x1100000 31 16 = min (b.rf 0x1100000 31 16 + 1) 65535) ∧
  (∀ off r, regRow off = some r → off ≠ 0x1000300 → t.reg off &&& r.rw = b.reg off &&& r.rw)

/-- The supply and the resets (R451 to R453, R456, R457, R463, R469 to R476): a warning is recorded, makes the Kerbs safe where VIN_WARN
asks for it, and re-arms; without supply everything is lost but the NOR's record of retirements, and power-on reset starts from the reset
values; RST_LONG keeps the Kerbs and the Corner; the warm resets keep what R470 and R471 keep. READY places the defaults after a cold
reset and leaves the rings to RESUME after a warm one. SLEEP ends with a wake event, and every RW field stands as before; a lost reference
clock is replaced; a NOR update goes to the slot that was not booted. -/
def Obligations.SupplyAndResets : Prop :=
  ∀ s : State,
    let b := s.blk
    (b.power.off = false →
      (∀ mv : Fin 65536, b.power.vinLow = false → mv.val < b.vinLevel →
        ∃ t, Completes (.vinWarn mv) s t ∧ t.power.vinLow = true ∧ t.rf 0x1000058 15 0 = mv ∧ (⟨19, mv, none⟩ ∈ t.evc.raised) ∧ t.mem = b.mem ∧
          ∀ n < 16, t.kerbState n =
            if b.rf 0x1100010 31 31 = 1 ∧ b.kerbOn n = true ∧ b.kerbState n < 4 then 3 else b.kerbState n) ∧
      (∀ mv : Fin 65536, b.power.vinLow = true → b.vinLevel + 200 ≤ mv.val →
        ∃ t, Completes (.vinWarnRearm mv) s t ∧ t.power.vinLow = false ∧ t.rf 0x1000058 15 0 = mv ∧ SameRegs b t [0x1000058] ∧
          t.mem = b.mem) ∧
      (∀ mv : Fin 65536, mv.val < 4000 →
        ∃ t, Completes (.uvlo mv) s t ∧ t.power.off = true ∧ t.mem = [] ∧ t.regs = [] ∧ t.qs = [] ∧ t.retired = b.retired ∧
          t.stops.remap = b.stops.remap) ∧
      (∀ mv : Fin 65536, 19500 < mv.val →
        ∃ t, Completes (.overvoltageShutdown mv) s t ∧ t.power.off = true ∧ t.mem = [] ∧ t.regs = [] ∧ t.qs = [] ∧ t.retired = b.retired ∧
          t.stops.remap = b.stops.remap) ∧
      (∀ ok, ∃ t, Completes (.rstLong ok) s t ∧ t.power.held = true ∧ t.power.released = false ∧ t.mem = [] ∧ t.qs = [] ∧ t.kerb = b.kerb ∧
        t.retired = b.retired ∧ t.disp.ctxs = []) ∧
      (∀ ok, ∃ t, Completes (.rstShort ok) s t ∧ b.warmFrom t 2 ∧ t.power.released = false) ∧
      (∀ ok, b.power.sleeping = false → b.maySleep = false →
        ∃ t, Completes (.perst ok) s t ∧ b.warmFrom t 3 ∧ t.power.released = false ∧ t.sleepPending = false) ∧
      (∀ ok, b.maySleep = true →
        ∃ t, Completes (.perst ok) s t ∧ t.power.sleeping = true ∧ t.rf 0x1000004 2 0 = 3 ∧ t.sleepPending = false ∧
          SameRegs b t [0x1000004] ∧ t.qs = b.qs ∧ t.mem = b.mem) ∧
      (∀ ok, b.up = true →
        (∃ t, Completes (.hot ok) s t ∧ b.warmFrom t 4 ∧ t.power.released = true) ∧
        (∃ t, Completes (.flr ok) s t ∧ b.warmFrom t 5 ∧ t.power.released = true) ∧
        (∃ t, Completes (.wdog ok) s t ∧ b.warmFrom t 6 ∧ t.power.released = true)) ∧
      (b.power.held = true → b.power.released = false →
        ∃ t, Completes .resetRelease s t ∧ t.power.released = true ∧
          (b.power.nor.slotA.valid = true ∨ b.power.nor.slotB.valid = true → t.power.nor.chosen = true) ∧ t.mem = b.mem) ∧
      (b.power.sleeping = false → b.rf 0x1000200 4 4 = 1 →
        ∃ t, Completes .refclkSwitch s t ∧ t.rf 0x1000200 4 4 = 0 ∧ t.reg 0x100010C = satAdd (b.reg 0x100010C) 1 ∧
          SameRegs b t [0x1000200, 0x100010C] ∧ t.evc.raised = b.evc.raised ++ [⟨21, 3, none⟩] ∧ t.mem = b.mem)) ∧
    (∀ (mv : Fin 65536) ok, b.power.off = true → 4300 < mv.val → mv.val < 19000 →
      ∃ t, Completes (.por mv ok) s t ∧ t.power.off = false ∧ t.power.held = true ∧ t.power.released = true ∧ t.mem = [] ∧ t.qs = [] ∧
        t.retired = b.retired ∧ t.reg 0x1100000 = 0 ∧ t.rf 0x1000058 15 0 = mv ∧ t.rf 0x1000200 4 4 = b2n ok ∧
        (∀ n < 16, t.kerbState n = 0)) ∧
    (b.bootable = true →
      (b.power.since.getD 0 ≤ 1 →
        ∃ t, Completes .ready s t ∧ t.power.held = false ∧ t.power.since = none ∧ t.mem = b.mem ∧ t.host.resume = b.host.resume ∧
          t.rf 0x140 15 0 = 0 ∧ (b.retired = [] → ∀ l < 64, t.qmap l = b.qmap l) ∧
          (∀ i base size type urgent, defaultRegions[i]? = some (base, size, type, urgent) →
            t.rf (0xB00000 + 8 * i) 17 0 = base ∧ t.rf (0xB00000 + 8 * i) 27 24 = type ∧ t.rf (0xB00000 + 8 * i) 31 31 = urgent ∧
            t.rf (0xB00004 + 8 * i) 17 0 = size)) ∧
      (2 ≤ b.power.since.getD 0 → b.cont.bank = none →
        ∃ t, Completes .ready s t ∧ t.power.held = false ∧ t.power.since = none ∧ t.host.resume = true ∧ t.cont.roll = b.cont.roll ∧
          (b.stops.bad = [] → b.rf 0x300044 15 0 = 0 → t.mem = b.mem))) ∧
    (b.power.sleeping = true → b.power.woken = true →
      ∃ t, Completes .sleepWake s t ∧ t.power.sleeping = false ∧ t.now = b.now + 25000000 ∧ t.rf 0xF00014 31 31 = 0 ∧
        t.rf 0x1000004 2 0 = (if b.rf 0x1000000 8 8 = 1 then 0 else 2) ∧ t.host.pcie = Pcie.initial ∧
        (∀ off r, regRow off = some r → off ∉ [0xF00014, 0x1000004] → t.reg off &&& r.rw = b.reg off &&& r.rw) ∧ t.qs = b.qs ∧
        t.mem = b.mem) ∧
    (∀ image : List Byte, b.power.off = false → b.power.held = true → b.power.released = true → b.power.nor.chosen = false →
      b.power.nor.slotA.valid = false → b.power.nor.slotB.valid = false →
      let v := Config.bootImage (((List.range image.length).zip image).filter fun e => decide (e.2 ≠ 0))
      ∃ t, Completes (.bootRomImageLoad image) s t ∧ t.power.nor.chosen = v.isSome ∧ t.regs = b.regs ∧ t.mem = b.mem) ∧
    (b.up = true →
      (∀ value : W32, b.power.nor.upd ≠ 1 →
        ∃ t, Completes (.powerNorUpd value) s t ∧ t.power.nor = { b.power.nor with
          upd := 1, image := Config.bootImage (b.imageCells (256 * value.toNat)) } ∧ t.regs = b.regs ∧ t.mem = b.mem) ∧
      (b.power.nor.upd = 1 →
        ∃ t, Completes .norUpdateDone s t ∧ t.regs = b.regs ∧ t.mem = b.mem ∧
          (b.power.nor.image = none → t.power.nor = { b.power.nor with upd := 3 }) ∧
          (∀ n, b.power.nor.image = some n → t.power.nor.upd = 2 ∧
            (b.power.nor.bootB = false → t.power.nor.slotB = ⟨true, n, 0⟩ ∧ t.power.nor.slotA = b.power.nor.slotA) ∧
            (b.power.nor.bootB = true → t.power.nor.slotA = ⟨true, n, 0⟩ ∧ t.power.nor.slotB = b.power.nor.slotB))))

/-- The adaptive loops (R464 to R467): a frequency step ends after its 2 µs and the next towards the goal begins, downwards at once; FREQ_DECISION
moves the goal by one step with the load, within FMIN and FMAX; above 110 °C a District is LIMITED and steps down, at 108 °C or less it steps
back up; more than 100 µs above 125 °C is THERM_TRIP; AVS_STEP sets VCORE to what the monitors need, within its bounds where it can. -/
def Obligations.AdaptiveLoops : Prop :=
  ∀ (s : State) (d : Fin 8),
    let b := s.blk
    let n := b.freq d
    b.up = true →
    (∀ f due, SMap.find? b.power.fstep d = some (f, due) → f < 32 →
      ∃ t, Completes (.freqStepDone d) s t ∧ due ≤ t.now ∧ SameRegs b t [distStat d] ∧ t.mem = b.mem ∧
        (b.limited d = true ∨ b.goalOf d = f → t.freq d = f ∧ SMap.find? t.power.fstep d = none) ∧
        (b.limited d = false → f < b.goalOf d → t.freq d = f ∧ SMap.find? t.power.fstep d = some (f + 1, t.now + 2000)) ∧
        (b.limited d = false → b.goalOf d < f → t.freq d = f - 1 ∧ SMap.find? t.power.fstep d = some (f - 1, t.now + 2000))) ∧
    (∀ load, b.rf 0x1100200 0 0 = 1 → b.limited d = false → SMap.find? b.power.fstep d = none →
      let g := min (max (if load < 25 then b.goalOf d - 1 else if 75 < load then b.goalOf d + 1 else b.goalOf d) (b.fmin d)) (b.fmax d)
      ∃ t, Completes (.freqDecision d load) s t ∧ t.goalOf d = g ∧ SMap.get t.power.fAt 0 d = b.now ∧ SameRegs b t [distStat d] ∧ t.mem = b.mem ∧
        (g = n → t.freq d = n ∧ SMap.find? t.power.fstep d = none) ∧
        (n < g → t.freq d = n ∧ SMap.find? t.power.fstep d = some (n + 1, b.now + 2000)) ∧
        (g < n → t.freq d = n - 1 ∧ SMap.find? t.power.fstep d = some (n - 1, b.now + 2000))) ∧
    (∀ c : BitVec 8, 110 < toInt 8 c.toNat → b.limited d = false → 4 < n →
      ∃ t, Completes (.thermalStepDown ⟨d, by omega⟩ c) s t ∧ t.limited d = true ∧ t.freq d = n - 1 ∧ t.rf (thermReg d) 7 0 = c.toNat ∧
        (⟨20, d + 256 * c.toNat, none⟩ ∈ t.evc.raised) ∧ t.mem = b.mem ∧
        (∀ since, 125 < toInt 8 c.toNat → SMap.find? b.power.hotAt d = some since → since + 100000 ≤ b.now →
          t.hub.wires = b.hub.wires ++ [⟨50, d, 0, 0, false, false, []⟩])) ∧
    (∀ c : BitVec 8, toInt 8 c.toNat ≤ 110 →
      ∃ t, Completes (.thermalStepDown ⟨d, by omega⟩ c) s t ∧ t.rf (thermReg d) 7 0 = c.toNat ∧ SameRegs b t [thermReg d] ∧ t.mem = b.mem) ∧
    (∀ c : BitVec 8, toInt 8 c.toNat ≤ 108 → b.limited d = true → b.tempOf 8 ≤ 108 → b.tempOf 9 ≤ 108 →
      ∃ t, Completes (.thermalStepUp ⟨d, by omega⟩ c) s t ∧ SMap.get b.power.therm 0 d + 10000000 ≤ t.now ∧ t.rf (thermReg d) 7 0 = c.toNat ∧
        (n < b.goalOf d → SMap.find? t.power.fstep d = some (n + 1, t.now + 2000)) ∧ t.freq d = n ∧
        t.limited d = decide (n + 1 < b.goalOf d) ∧ t.mem = b.mem) ∧
    (∀ need,
      let hi := avsBound (b.rf 0x1000050 25 16)
      let lo := min (avsBound (b.rf 0x1000050 9 0)) hi
      let v := b.rf 0x1000054 9 0
      (need ≤ hi → ∃ t, Completes (.avsStep need d) s t ∧ t.reg 0x1000054 = max need lo ∧ SameRegs b t [0x1000054] ∧ t.mem = b.mem) ∧
      (hi < need → v < hi → ∃ t, Completes (.avsStep need d) s t ∧ t.reg 0x1000054 = hi ∧ SameRegs b t [0x1000054] ∧ t.mem = b.mem) ∧
      (hi < need → hi ≤ v → v < min need 850 →
        ∃ t, Completes (.avsStep need d) s t ∧ t.reg 0x1000054 = min (v + 5) 850 ∧ t.mem = b.mem ∧
          (v = hi → t.reg 0x1000104 = satAdd (b.reg 0x1000104) 1 ∧ t.evc.raised = b.evc.raised ++ [⟨21, 1, none⟩])) ∧
      (850 < need → 850 ≤ v → 4 < n → ∃ t, Completes (.avsStep need d) s t ∧ t.freq d = n - 1 ∧ t.mem = b.mem))

/-- Time discipline and the PMBus target (R468, R493, R494): TIME_IN's offset from the nearest second is shown, and stepped or slewed out;
TIME_SET steps TIME_NS; 2 s without an offset clear LOCKED; TIME_OUT rises at a second and falls after OUT_W. The PMBus target answers its
commands while the MGC runs, NACKs everything otherwise, and NACKs an unknown command with CML set. READ_PIN's power is the model's free
value. -/
def Obligations.TimeAndPmbus : Prop :=
  ∀ s : State,
    let b := s.blk
    let answers (c : Instr) (bs : List Byte) : Prop :=
      ∃ t, Completes c s t ∧ t = { b with pmb := t.pmb } ∧ t.pmb.answer = bs ∧ t.pmb.nack = false ∧ t.pmb.cml = b.pmb.cml
    (b.up = true →
      (b.rf 0xF00000 1 0 = 1 →
        let r := b.timeNs % 1000000000
        let off : Int := if r ≤ 500000000 then (r : Int) else (r : Int) - 1000000000
        ∃ t, Completes .timeInEdge s t ∧ t.rf 0xF00014 31 31 = b2n (off.natAbs ≤ 100) ∧ t.rf 0xF00014 23 0 = satField 24 off ∧
          t.time.lastOffset = some b.now ∧ SameRegs b t [0xF00014] ∧ t.mem = b.mem ∧
          (b.rf 0xF00000 23 16 = 0 ∨ 1000 * b.rf 0xF00000 23 16 < off.natAbs →
            t.timeNs = ofInt 64 ((b.timeNs : Int) - off) ∧ t.rf 0xF00014 30 30 = 1) ∧
          (b.rf 0xF00000 23 16 ≠ 0 → off.natAbs ≤ 1000 * b.rf 0xF00000 23 16 → t.timeNs = b.timeNs ∧ t.time.slew = off)) ∧
      (∀ value : W32, ∃ t, Completes (.timeSetLo value) s t ∧ t.timeNs = (value.toNat + 2 ^ 32 * b.reg 0xF00010) % 2 ^ 64 ∧
        t.rf 0xF00014 30 30 = 1 ∧ t.time.slew = 0 ∧ SameRegs b t [0xF00014] ∧ t.now = b.now ∧ t.mem = b.mem) ∧
      (∀ last, b.time.lastOffset = some last →
        ∃ t, Completes .timeLockTimeout s t ∧ last + 2000000000 ≤ t.now ∧ t.rf 0xF00014 31 31 = 0 ∧ t.time.slew = 0 ∧
          t.time.lastOffset = none ∧ SameRegs b t [0xF00014] ∧ t.mem = b.mem) ∧
      (∀ til, b.time.outUntil = some til →
        ∃ t, Completes .timeOutPulse s t ∧ til ≤ t.now ∧ t.lands.timeOut = false ∧ t.time.outUntil = none ∧ t.regs = b.regs ∧ t.mem = b.mem) ∧
      (b.time.outUntil = none → b.rf 0xF00000 8 8 = 1 →
        ∃ t, Completes .timeOutPulse s t ∧ t.lands.timeOut = true ∧ t.time.outUntil = some (t.now + b.outWidth) ∧ t.regs = b.regs ∧
          (b.time.slew = 0 → b.timeNs + 1000000000 < 2 ^ 64 → t.timeNs = (b.timeNs / 1000000000 + 1) * 1000000000) ∧ t.mem = b.mem) ∧
      (∃ t, Completes .clearFaults s t ∧ t = { b with pmb := t.pmb } ∧ t.pmb.cml = false ∧ t.pmb.alert = 0 ∧ t.pmb.nack = false) ∧
      answers .capability [0xB0] ∧ answers .pmbusRevision [0x33] ∧
      answers .statusWord (leBytes 2 (2 * b2n b.pmb.cml + 4 * b2n ((List.range 8).any b.limited) + 8 * b2n b.power.vinLow)) ∧
      answers .readVin (leBytes 2 (linear11 (b.rf 0x1000058 15 0) 1000)) ∧
      answers .readPin (leBytes 2 (linear11 (Config.inputPower b.now).toNat 10)) ∧
      answers .readTemperature2 (leBytes 2 (linear11Temp (b.tempOf 8))) ∧ answers .readTemperature3 (leBytes 2 (linear11Temp (b.tempOf 9))) ∧
      (∀ d < 8, (∀ e < 8, b.tempOf e ≤ b.tempOf d) → answers .readTemperature1 (leBytes 2 (linear11Temp (b.tempOf d)))) ∧
      (∀ code write, pmbKnown code write = false →
        ∃ t, Completes (.pmbusInvalidCommand code write) s t ∧ t = { b with pmb := t.pmb } ∧ t.pmb.cml = true ∧ t.pmb.nack = true ∧
          t.pmb.answer = [] ∧ (b.pmb.seen.testBit 1 = false → t.pmb.alert.testBit 1 = true))) ∧
    (b.up = false → ∀ c ∈ [Instr.clearFaults, .capability, .statusWord, .readVin, .readTemperature1, .readTemperature2, .readTemperature3,
        .readPin, .pmbusRevision],
      ∃ t, Completes c s t ∧ t = { b with pmb := { b.pmb with answer := [], nack := true } })


-- The block as a whole

/-- A step takes the command at the front of the queue and carries it out on the rest. On an empty queue 1 ns passes: that the clock runs
there is the model's choice (assumption 2). -/
def Obligations.StepTakesFront : Prop :=
  (∀ (c : Instr) (rest : List Instr) (b : Block), step ⟨b, c :: rest⟩ = exec c ⟨b, rest⟩) ∧
  (∀ b : Block, step ⟨b, []⟩ = .next ⟨b.pass 1, []⟩)

/-- No command stops: whatever the state, every command of the table answers a next state, and leaves the commands that wait as they are. So
every step keeps the queue well-formed. -/
def Obligations.CommandsComplete : Prop :=
  (∀ (c : Instr) (s : State), ∃ t, Completes c s t) ∧
  (∀ s t : State, s.queueOk = true → step s = .next t → t.queueOk = true)

/-- Every legal strand instruction, with every operand at every value, is read back from its words (R127 to R131, R152); and a word that is
read is the first word of exactly that instruction, which is legal and has the next word as its extension. -/
def Obligations.WordsReadBack : Prop :=
  (∀ (x : SInstr) (nxt : W32), x.legal = true → (∀ e, x.ext = some e → nxt = e) →
    (x.op = 0x83 ∨ x.op = 0x84 → repForbids (opOf nxt).toNat = false) → decodeStrand (encodeWord x) nxt = some x) ∧
  (∀ (w nxt : W32) (x : SInstr), decodeStrand w nxt = some x →
    x.legal = true ∧ encodeWord x = w ∧ (x.ext = none ∨ x.ext = some nxt) ∧ wordLength w = (encodeStrand x).length ∧
      (x.op = 0x83 ∨ x.op = 0x84 → repForbids (opOf nxt).toNat = false))

/-- After a power-on reset (R404, R413, R449, R469): FSEQ is 1, the Kerb outputs are OFF, the epoch is 0, READY has still to be reported,
and every register stands at its reset value. Memory reads 0 and the queue is empty: these two are the model's choices (assumptions 3 and
2). -/
def Obligations.ResetState : Prop :=
  let b := State.reset.blk
  State.reset.pending = [] ∧ b.memOk = true ∧ (∀ a, memGet b.mem a = 0) ∧ b.hub.fseq = 1 ∧
  (∀ n, b.kerbState n = 0) ∧ b.cont.epoch = 0 ∧ b.cont.bank = none ∧ b.up = false ∧
  (∀ off r, regRow off = some r → b.reg off = r.reset) ∧ b.disp.ctxs = [] ∧ b.qs = []

/-- The factory mapping, which the QMAP holds after a power-on reset: logical Quarter n is physical Quarter n + ⌊n / 16⌋, and the physical
Quarters 16, 33, 50 and 67 are the spares (R25). -/
def Obligations.FactoryMapping : Prop :=
  (∀ n < 64, State.reset.blk.qmap n = n + n / 16) ∧ State.reset.blk.spares = [16, 33, 50, 67]

/-- Every step keeps both memories in canonical form, whatever command it takes: the list of bytes is then the same for equal memories. That
memory is kept so is the model's own (assumption 3). -/
def Obligations.StepKeepsMemoryForm : Prop :=
  ∀ s t : State, s.blk.memOk = true → step s = .next t → t.blk.memOk = true
end

