-- ==== Sys2Proof/Laws/Memory.lean ====
section
/-! SUPPORT. Byte memories: every operation keeps the canonical form, and a read gives what was written last. -/

namespace Sys2Proof.Machine

/-- The canonical form, said of all entries at once. -/
theorem Memory.wf_iff (m : List Host.Cell) :
    Memory.wf m = true ↔ m.Pairwise (fun a b => a.1 < b.1) ∧ ∀ c ∈ m, c.2 ≠ 0 := by
  induction m with
  | nil => simp [Memory.wf]
  | cons c m ih =>
    obtain ⟨a, v⟩ := c
    cases m with
    | nil => simp [Memory.wf]
    | cons d m =>
      obtain ⟨a', v'⟩ := d
      simp only [Memory.wf, Bool.and_eq_true, bne_iff_ne, decide_eq_true_eq, ih]
      constructor
      · rintro ⟨⟨hv, hlt⟩, hp, hz⟩
        refine ⟨List.pairwise_cons.2 ⟨?_, hp⟩, ?_⟩
        · intro x hx
          rcases List.mem_cons.1 hx with rfl | hx
          · exact hlt
          · exact lt_trans hlt ((List.pairwise_cons.1 hp).1 x hx)
        · intro x hx
          rcases List.mem_cons.1 hx with rfl | hx
          · exact hv
          · exact hz x hx
      · rintro ⟨hp, hz⟩
        exact ⟨⟨hz (a, v) (by simp), (List.pairwise_cons.1 hp).1 (a', v') (by simp)⟩, (List.pairwise_cons.1 hp).2,
          fun x hx => hz x (List.mem_cons_of_mem _ hx)⟩

theorem Memory.wf_tail {c : Host.Cell} {m : List Host.Cell} (h : Memory.wf (c :: m) = true) : Memory.wf m = true := by
  rw [Memory.wf_iff] at h ⊢
  exact ⟨(List.pairwise_cons.1 h.1).2, fun x hx => h.2 x (List.mem_cons_of_mem _ hx)⟩

/-- An address below every entry reads 0. -/
theorem memGet_below {m : List Host.Cell} {a : Nat} (h : ∀ c ∈ m, a < c.1) : memGet m a = 0 := by
  induction m with
  | nil => rfl
  | cons c m ih =>
    obtain ⟨a', v⟩ := c
    have h1 := h (a', v) (by simp)
    simp only at h1
    simp only [memGet]
    rw [if_neg (by omega)]
    exact ih fun c hc => h c (List.mem_cons_of_mem _ hc)

/-- A byte written adds no address but its own. -/
theorem mem_memPut {m : List Host.Cell} {a : Nat} {v : Byte} {c : Host.Cell} (h : c ∈ memPut m a v) : c ∈ m ∨ c = (a, v) ∧ v ≠ 0 := by
  induction m with
  | nil =>
    simp only [memPut] at h
    split at h
    · simp at h
    · next hv => exact .inr ⟨List.mem_singleton.1 h, hv⟩
  | cons d m ih =>
    obtain ⟨a', v'⟩ := d
    simp only [memPut] at h
    split at h
    · split at h
      · exact .inl (List.mem_cons_of_mem _ h)
      · next hv => rcases List.mem_cons.1 h with h | h
                   · exact .inr ⟨h, hv⟩
                   · exact .inl (List.mem_cons_of_mem _ h)
    · split at h
      · split at h
        · exact .inl h
        · next hv => rcases List.mem_cons.1 h with h | h
                     · exact .inr ⟨h, hv⟩
                     · exact .inl h
      · rcases List.mem_cons.1 h with h | h
        · exact .inl (by simp [h])
        · rcases ih h with h | h
          · exact .inl (List.mem_cons_of_mem _ h)
          · exact .inr h

/-- A byte written keeps the canonical form. -/
theorem memPut_wf (m : List Host.Cell) (a : Nat) (v : Byte) (h : Memory.wf m = true) : Memory.wf (memPut m a v) = true := by
  induction m with
  | nil =>
    simp only [memPut]
    split
    · rfl
    · next hv => simpa [Memory.wf] using hv
  | cons d m ih =>
    obtain ⟨a', v'⟩ := d
    have ht := Memory.wf_tail h
    have hh := (Memory.wf_iff _).1 h
    have hp := List.pairwise_cons.1 hh.1
    simp only [memPut]
    split
    · next he =>
      subst he
      split
      · exact ht
      · next hv =>
        rw [Memory.wf_iff]
        refine ⟨List.pairwise_cons.2 ⟨hp.1, hp.2⟩, ?_⟩
        intro c hc
        rcases List.mem_cons.1 hc with rfl | hc
        · exact hv
        · exact hh.2 c (List.mem_cons_of_mem _ hc)
    · split
      · next hlt =>
        split
        · exact h
        · next hv =>
          rw [Memory.wf_iff]
          refine ⟨List.pairwise_cons.2 ⟨?_, hh.1⟩, ?_⟩
          · intro c hc
            rcases List.mem_cons.1 hc with rfl | hc
            · exact hlt
            · exact lt_trans hlt (hp.1 c hc)
          · intro c hc
            rcases List.mem_cons.1 hc with rfl | hc
            · exact hv
            · exact hh.2 c hc
      · next hne hlt =>
        have hi := (Memory.wf_iff _).1 (ih ht)
        rw [Memory.wf_iff]
        refine ⟨List.pairwise_cons.2 ⟨?_, hi.1⟩, ?_⟩
        · intro c hc
          rcases mem_memPut hc with hc | ⟨rfl, _⟩
          · exact hp.1 c hc
          · show a' < a
            omega
        · intro c hc
          rcases List.mem_cons.1 hc with rfl | hc
          · exact hh.2 _ (by simp)
          · exact hi.2 c hc

/-- A byte written reads as written. -/
theorem memGet_memPut_same (m : List Host.Cell) (a : Nat) (v : Byte) (h : Memory.wf m = true) : memGet (memPut m a v) a = v := by
  induction m with
  | nil =>
    simp only [memPut]
    split
    · next hv => simp [memGet, hv]
    · simp [memGet]
  | cons d m ih =>
    obtain ⟨a', v'⟩ := d
    have hp := List.pairwise_cons.1 ((Memory.wf_iff _).1 h).1
    simp only [memPut]
    split
    · next he =>
      subst he
      split
      · next hv => rw [hv]; exact memGet_below fun c hc => hp.1 c hc
      · simp [memGet]
    · split
      · next hne hlt =>
        split
        · next hv =>
          rw [hv]
          apply memGet_below
          intro c hc
          rcases List.mem_cons.1 hc with rfl | hc
          · exact hlt
          · exact lt_trans hlt (hp.1 c hc)
        · simp [memGet]
      · next hne hlt => simpa [memGet, hne] using ih (Memory.wf_tail h)

/-- A byte written leaves every other one. -/
theorem memGet_memPut_ne (m : List Host.Cell) {a c : Nat} (v : Byte) (h : Memory.wf m = true) (hac : c ≠ a) :
    memGet (memPut m a v) c = memGet m c := by
  induction m with
  | nil =>
    simp only [memPut]
    split <;> simp [memGet, Ne.symm hac]
  | cons d m ih =>
    obtain ⟨a', v'⟩ := d
    have hp := List.pairwise_cons.1 ((Memory.wf_iff _).1 h).1
    simp only [memPut]
    split
    · next he =>
      subst he
      split <;> simp [memGet, Ne.symm hac]
    · split
      · next hne hlt => split <;> simp [memGet, Ne.symm hac]
      · next hne hlt => simp [memGet, ih (Memory.wf_tail h)]

theorem memGet_memPut (m : List Host.Cell) (a c : Nat) (v : Byte) (h : Memory.wf m = true) :
    memGet (memPut m a v) c = if c = a then v else memGet m c := by
  split
  · next he => rw [he]; exact memGet_memPut_same m a v h
  · next he => exact memGet_memPut_ne m v h he

/-- Bytes written keep the canonical form. -/
theorem memWrite_wf (bs : List Byte) : ∀ (m : List Host.Cell) (a : Nat), Memory.wf m = true → Memory.wf (memWrite m a bs) = true := by
  induction bs with
  | nil => intro m a h; exact h
  | cons v bs ih => intro m a h; exact ih _ _ (memPut_wf m a v h)

/-- What an address reads after bytes have been written from `a` on. -/
theorem memGet_memWrite (bs : List Byte) : ∀ (m : List Host.Cell) (a c : Nat), Memory.wf m = true →
    memGet (memWrite m a bs) c = if a ≤ c then (match bs[c - a]? with | some v => v | none => memGet m c) else memGet m c := by
  induction bs with
  | nil => intro m a c _; simp [memWrite]
  | cons v bs ih =>
    intro m a c h
    simp only [memWrite]
    rw [ih _ _ _ (memPut_wf m a v h), memGet_memPut _ _ _ _ h]
    by_cases h1 : a + 1 ≤ c
    · have e : c - a = (c - (a + 1)) + 1 := by omega
      have hne : c ≠ a := by omega
      have hle : a ≤ c := by omega
      simp only [h1, hle, hne, if_true, if_false, e, List.getElem?_cons_succ]
    · rw [if_neg h1]
      by_cases h2 : c = a
      · subst h2; simp
      · rw [if_neg h2, if_neg (by omega)]

/-- An address outside the bytes written reads as before. -/
theorem memGet_memWrite_out (m : List Host.Cell) (a c : Nat) (bs : List Byte) (h : Memory.wf m = true) (hc : c < a ∨ a + bs.length ≤ c) :
    memGet (memWrite m a bs) c = memGet m c := by
  rw [memGet_memWrite _ _ _ _ h]
  split
  · rw [List.getElem?_eq_none (by omega)]
  · rfl

/-- The bytes written read back. -/
theorem memRead_memWrite (m : List Host.Cell) (a : Nat) (bs : List Byte) (h : Memory.wf m = true) :
    memRead (memWrite m a bs) a bs.length = bs := by
  apply List.ext_getElem
  · simp [memRead]
  · intro i h1 h2
    simp only [memRead, List.getElem_map, List.getElem_range]
    rw [memGet_memWrite _ _ _ _ h]
    simp [h2]

/-- Host stores keep the canonical form. -/
theorem storeAll_wf (hw : List (Nat × Byte)) : ∀ m : List Host.Cell, Memory.wf m = true →
    Memory.wf (hw.foldl (fun m c => memPut m c.1 c.2) m) = true := by
  induction hw with
  | nil => intro m h; exact h
  | cons c hw ih => intro m h; exact ih _ (memPut_wf m c.1 c.2 h)

-- The operations of the block that write memory

@[simp] theorem Block.setReg_memOk (b : Block) (off v : Nat) : (b.setReg off v).memOk = b.memOk := rfl
@[simp] theorem Block.setRf_memOk (b : Block) (off hi lo v : Nat) : (b.setRf off hi lo v).memOk = b.memOk := rfl
@[simp] theorem Block.detect_memOk (b : Block) (code unit x : Nat) (i : Bool) (cs : List Nat) :
    (b.detect code unit x i cs).memOk = b.memOk := rfl
@[simp] theorem Block.raise_memOk (b : Block) (src arg : Nat) : (b.raise src arg).memOk = b.memOk := rfl
@[simp] theorem Block.bump_memOk (b : Block) (off n : Nat) : (b.bump off n).memOk = b.memOk := by
  unfold Block.bump; split <;> rfl
@[simp] theorem Block.rangeFault_memOk (b : Block) (ma : Nat) : (b.rangeFault ma).memOk = b.memOk := by simp [Block.rangeFault]
@[simp] theorem Block.touchPage_memOk (b : Block) (ma : Nat) : (b.touchPage ma).memOk = b.memOk := by
  unfold Block.touchPage
  dsimp only
  split
  · rfl
  · split
    · rfl
    · split
      · rw [Block.bump_memOk]; rfl
      · rw [Block.bump_memOk]
@[simp] theorem Block.undoLine_memOk (b : Block) (line : Nat) : (b.undoLine line).memOk = b.memOk := by
  unfold Block.undoLine
  split
  · rfl
  · dsimp only; repeat' (first | rfl | split)

/-- A fold of steps that each keep the canonical form keeps it. -/
theorem Block.foldl_memOk {α : Type} (f : Block → α → Block) (hf : ∀ b a, b.memOk = true → (f b a).memOk = true) (l : List α) :
    ∀ b : Block, b.memOk = true → (l.foldl f b).memOk = true := by
  induction l with
  | nil => intro b h; exact h
  | cons a l ih => intro b h; exact ih _ (hf b a h)

/-- Memories written in turn keep the canonical form. -/
theorem foldl_memWrite_wf {α : Type} (g : α → Nat) (h : α → List Byte) (l : List α) :
    ∀ m : List Host.Cell, Memory.wf m = true → Memory.wf (l.foldl (fun m x => memWrite m (g x) (h x)) m) = true := by
  induction l with
  | nil => intro m hm; exact hm
  | cons a l ih => intro m hm; exact ih _ (memWrite_wf _ _ _ hm)

theorem Block.memOk_iff (b : Block) : b.memOk = true ↔ Memory.wf b.mem = true ∧ Memory.wf b.hostMem = true := by
  simp [Block.memOk]

/-- Fewer entries of a canonical memory are canonical. -/
theorem filter_wf (p : Host.Cell → Bool) (m : List Host.Cell) (h : Memory.wf m = true) : Memory.wf (m.filter p) = true := by
  rw [Memory.wf_iff] at h ⊢
  exact ⟨h.1.filter p, fun c hc => h.2 c (List.mem_filter.mp hc).1⟩

theorem Block.undoFor_memOk (b : Block) (ls : List Nat) (h : b.memOk = true) : (b.undoFor ls).memOk = true := by
  unfold Block.undoFor
  split
  · exact h
  · exact Block.foldl_memOk _ (fun b l hb => by rw [Block.undoLine_memOk]; exact hb) ls b h

/-- A write of module memory keeps the canonical form. -/
theorem Block.stopWrite_memOk (b : Block) (ma : Nat) (bs : List Byte) (h : b.memOk = true) : (b.stopWrite ma bs).memOk = true := by
  unfold Block.stopWrite
  split
  · rw [Block.rangeFault_memOk]; exact h
  · have h1 : (((linesOf ma bs.length).foldl (fun b l => b.touchPage l) b).undoFor (linesOf ma bs.length)).memOk = true :=
      Block.undoFor_memOk _ _ (Block.foldl_memOk _ (fun b l hb => by rw [Block.touchPage_memOk]; exact hb) _ b h)
    rw [Block.memOk_iff] at h1
    dsimp only
    split
    · exact (Block.memOk_iff _).mpr ⟨memWrite_wf _ _ _ h1.1, h1.2⟩
    · exact (Block.memOk_iff _).mpr ⟨foldl_memWrite_wf _ _ _ _ h1.1, h1.2⟩

/-- A write of host memory keeps it. -/
theorem Block.hostWrite_memOk (b : Block) (a : Nat) (bs : List Byte) (h : b.memOk = true) : (b.hostWrite a bs).memOk = true := by
  rw [Block.memOk_iff] at h ⊢
  exact ⟨h.1, memWrite_wf _ _ _ h.2⟩

/-- The host's own stores keep it. -/
theorem Block.hostStores_memOk (b : Block) (hw : List (Nat × Byte)) (h : b.memOk = true) : (b.hostStores hw).memOk = true := by
  rw [Block.memOk_iff] at h ⊢
  exact ⟨h.1, storeAll_wf _ _ h.2⟩

/-- The free words of an uncorrectable line keep it. -/
theorem Block.freeLine_memOk (b : Block) (line : Nat) (h : b.memOk = true) : (b.freeLine line).memOk = true :=
  Block.foldl_memOk _ (fun b _ hb => by
    rw [Block.memOk_iff] at hb
    exact (Block.memOk_iff _).mpr ⟨memWrite_wf _ _ _ hb.1, hb.2⟩) _ b h

/-- A range set to 0 keeps it. -/
theorem Block.zeroMem_memOk (b : Block) (lo n : Nat) (h : b.memOk = true) : (b.zeroMem lo n).memOk = true := by
  have h1 := Block.foldl_memOk (fun (b : Block) i => b.touchPage (lo + 4096 * i))
    (fun b i hb => by rw [Block.touchPage_memOk]; exact hb) (List.range ((n + 4095) / 4096)) b h
  rw [Block.memOk_iff] at h1
  exact (Block.memOk_iff _).mpr ⟨filter_wf _ _ h1.1, h1.2⟩

/-- The undo entries of a rollback keep it. -/
theorem Block.applyUndo_memOk (b : Block) (epoch : Nat) (units : List Nat) (h : b.memOk = true) : (b.applyUndo epoch units).memOk = true := by
  rw [Block.memOk_iff] at h
  exact (Block.memOk_iff _).mpr ⟨foldl_memWrite_wf _ _ _ _ h.1, h.2⟩

end Sys2Proof.Machine
end

