-- ==== Sys2Proof/Laws/SMap.lean ====
section
/-! SUPPORT. Reading a finite map after writing it. -/

namespace Sys2Proof

@[simp] theorem SMap.find?_put_same {α : Type} (m : SMap α) (k : Nat) (v : α) : SMap.find? (SMap.put m k v) k = some v := by
  induction m with
  | nil => simp [SMap.put, SMap.find?]
  | cons e m ih =>
    obtain ⟨k', v'⟩ := e
    by_cases h : k' = k
    · simp [SMap.put, SMap.find?, h]
    · by_cases h2 : k < k' <;> simp [SMap.put, SMap.find?, h, h2, ih]

theorem SMap.find?_put_ne {α : Type} (m : SMap α) {k j : Nat} (v : α) (h : j ≠ k) :
    SMap.find? (SMap.put m k v) j = SMap.find? m j := by
  induction m with
  | nil => simp [SMap.put, SMap.find?, Ne.symm h]
  | cons e m ih =>
    obtain ⟨k', v'⟩ := e
    by_cases hk : k' = k
    · subst hk; simp [SMap.put, SMap.find?, Ne.symm h]
    · by_cases h2 : k < k'
      · simp [SMap.put, SMap.find?, hk, h2, Ne.symm h]
      · simp [SMap.put, SMap.find?, hk, h2, ih]

theorem SMap.find?_put {α : Type} (m : SMap α) (k j : Nat) (v : α) :
    SMap.find? (SMap.put m k v) j = if j = k then some v else SMap.find? m j := by
  split
  · next h => subst h; simp
  · next h => exact SMap.find?_put_ne m v h

@[simp] theorem SMap.get_put_same {α : Type} (m : SMap α) (d : α) (k : Nat) (v : α) : SMap.get (SMap.put m k v) d k = v := by
  simp [SMap.get]

theorem SMap.get_put_ne {α : Type} (m : SMap α) (d : α) {k j : Nat} (v : α) (h : j ≠ k) :
    SMap.get (SMap.put m k v) d j = SMap.get m d j := by
  simp [SMap.get, SMap.find?_put_ne m v h]

theorem SMap.get_put {α : Type} (m : SMap α) (d : α) (k j : Nat) (v : α) :
    SMap.get (SMap.put m k v) d j = if j = k then v else SMap.get m d j := by
  simp only [SMap.get, SMap.find?_put]; split <;> simp

@[simp] theorem SMap.find?_erase_same {α : Type} (m : SMap α) (k : Nat) : SMap.find? (SMap.erase m k) k = none := by
  induction m with
  | nil => rfl
  | cons e m ih =>
    obtain ⟨k', v'⟩ := e
    by_cases h : k' = k
    · simpa [SMap.erase, h] using ih
    · simpa [SMap.erase, SMap.find?, h] using ih

theorem SMap.find?_erase_ne {α : Type} (m : SMap α) {k j : Nat} (h : j ≠ k) : SMap.find? (SMap.erase m k) j = SMap.find? m j := by
  induction m with
  | nil => rfl
  | cons e m ih =>
    obtain ⟨k', v'⟩ := e
    by_cases hk : k' = k
    · subst hk; simpa [SMap.erase, SMap.find?, Ne.symm h] using ih
    · by_cases hj : k' = j
      · subst hj; simp [SMap.erase, SMap.find?, hk]
      · simpa [SMap.erase, SMap.find?, hk, hj] using ih

@[simp] theorem SMap.get_upd_same {α : Type} (m : SMap α) (d : α) (k : Nat) (f : α → α) :
    SMap.get (SMap.upd m d k f) d k = f (SMap.get m d k) := by simp [SMap.upd]

theorem SMap.get_upd_ne {α : Type} (m : SMap α) (d : α) {k j : Nat} (f : α → α) (h : j ≠ k) :
    SMap.get (SMap.upd m d k f) d j = SMap.get m d j := by simp [SMap.upd, SMap.get_put_ne m d _ h]

end Sys2Proof
end

