-- ==== Sys2Proof/Laws/State.lean ====
section
/-! SUPPORT. What each small update of the block leaves and what it writes, one lemma for each field and update. -/

namespace Sys2Proof.Machine

-- setReg
@[simp] theorem Block.setReg_now (b : Block) (off v : Nat) : (b.setReg off v).now = b.now := rfl
@[simp] theorem Block.setReg_timeNs (b : Block) (off v : Nat) : (b.setReg off v).timeNs = b.timeNs := rfl
@[simp] theorem Block.setReg_free (b : Block) (off v : Nat) : (b.setReg off v).free = b.free := rfl
@[simp] theorem Block.setReg_regs (b : Block) (off v : Nat) : (b.setReg off v).regs = SMap.put b.regs off (v % 2 ^ 32) := rfl
@[simp] theorem Block.setReg_retired (b : Block) (off v : Nat) : (b.setReg off v).retired = b.retired := rfl
@[simp] theorem Block.setReg_qs (b : Block) (off v : Nat) : (b.setReg off v).qs = b.qs := rfl
@[simp] theorem Block.setReg_live (b : Block) (off v : Nat) : (b.setReg off v).live = b.live := rfl
@[simp] theorem Block.setReg_ave (b : Block) (off v : Nat) : (b.setReg off v).ave = b.ave := rfl
@[simp] theorem Block.setReg_disp (b : Block) (off v : Nat) : (b.setReg off v).disp = b.disp := rfl
@[simp] theorem Block.setReg_host (b : Block) (off v : Nat) : (b.setReg off v).host = b.host := rfl
@[simp] theorem Block.setReg_evc (b : Block) (off v : Nat) : (b.setReg off v).evc = b.evc := rfl
@[simp] theorem Block.setReg_hub (b : Block) (off v : Nat) : (b.setReg off v).hub = b.hub := rfl
@[simp] theorem Block.setReg_kerb (b : Block) (off v : Nat) : (b.setReg off v).kerb = b.kerb := rfl
@[simp] theorem Block.setReg_stops (b : Block) (off v : Nat) : (b.setReg off v).stops = b.stops := rfl
@[simp] theorem Block.setReg_arch (b : Block) (off v : Nat) : (b.setReg off v).arch = b.arch := rfl
@[simp] theorem Block.setReg_cont (b : Block) (off v : Nat) : (b.setReg off v).cont = b.cont := rfl
@[simp] theorem Block.setReg_conv (b : Block) (off v : Nat) : (b.setReg off v).conv = b.conv := rfl
@[simp] theorem Block.setReg_colir (b : Block) (off v : Nat) : (b.setReg off v).colir = b.colir := rfl
@[simp] theorem Block.setReg_power (b : Block) (off v : Nat) : (b.setReg off v).power = b.power := rfl
@[simp] theorem Block.setReg_time (b : Block) (off v : Nat) : (b.setReg off v).time = b.time := rfl
@[simp] theorem Block.setReg_pmb (b : Block) (off v : Nat) : (b.setReg off v).pmb = b.pmb := rfl
@[simp] theorem Block.setReg_lands (b : Block) (off v : Nat) : (b.setReg off v).lands = b.lands := rfl
@[simp] theorem Block.setReg_mem (b : Block) (off v : Nat) : (b.setReg off v).mem = b.mem := rfl
@[simp] theorem Block.setReg_hostMem (b : Block) (off v : Nat) : (b.setReg off v).hostMem = b.hostMem := rfl
@[simp] theorem Block.setReg_q (b : Block) (off v : Nat) (o : Nat) : (b.setReg off v).q o = b.q o := rfl
@[simp] theorem Block.setReg_ctx (b : Block) (off v : Nat) (o : Nat) : (b.setReg off v).ctx? o = b.ctx? o := rfl
@[simp] theorem Block.setReg_up (b : Block) (off v : Nat) : (b.setReg off v).up = b.up := rfl
-- setRf
@[simp] theorem Block.setRf_now (b : Block) (off hi lo v : Nat) : (b.setRf off hi lo v).now = b.now := rfl
@[simp] theorem Block.setRf_timeNs (b : Block) (off hi lo v : Nat) : (b.setRf off hi lo v).timeNs = b.timeNs := rfl
@[simp] theorem Block.setRf_free (b : Block) (off hi lo v : Nat) : (b.setRf off hi lo v).free = b.free := rfl
@[simp] theorem Block.setRf_regs (b : Block) (off hi lo v : Nat) : (b.setRf off hi lo v).regs = SMap.put b.regs off (setBits (b.reg off) hi lo v % 2 ^ 32) := rfl
@[simp] theorem Block.setRf_retired (b : Block) (off hi lo v : Nat) : (b.setRf off hi lo v).retired = b.retired := rfl
@[simp] theorem Block.setRf_qs (b : Block) (off hi lo v : Nat) : (b.setRf off hi lo v).qs = b.qs := rfl
@[simp] theorem Block.setRf_live (b : Block) (off hi lo v : Nat) : (b.setRf off hi lo v).live = b.live := rfl
@[simp] theorem Block.setRf_ave (b : Block) (off hi lo v : Nat) : (b.setRf off hi lo v).ave = b.ave := rfl
@[simp] theorem Block.setRf_disp (b : Block) (off hi lo v : Nat) : (b.setRf off hi lo v).disp = b.disp := rfl
@[simp] theorem Block.setRf_host (b : Block) (off hi lo v : Nat) : (b.setRf off hi lo v).host = b.host := rfl
@[simp] theorem Block.setRf_evc (b : Block) (off hi lo v : Nat) : (b.setRf off hi lo v).evc = b.evc := rfl
@[simp] theorem Block.setRf_hub (b : Block) (off hi lo v : Nat) : (b.setRf off hi lo v).hub = b.hub := rfl
@[simp] theorem Block.setRf_kerb (b : Block) (off hi lo v : Nat) : (b.setRf off hi lo v).kerb = b.kerb := rfl
@[simp] theorem Block.setRf_stops (b : Block) (off hi lo v : Nat) : (b.setRf off hi lo v).stops = b.stops := rfl
@[simp] theorem Block.setRf_arch (b : Block) (off hi lo v : Nat) : (b.setRf off hi lo v).arch = b.arch := rfl
@[simp] theorem Block.setRf_cont (b : Block) (off hi lo v : Nat) : (b.setRf off hi lo v).cont = b.cont := rfl
@[simp] theorem Block.setRf_conv (b : Block) (off hi lo v : Nat) : (b.setRf off hi lo v).conv = b.conv := rfl
@[simp] theorem Block.setRf_colir (b : Block) (off hi lo v : Nat) : (b.setRf off hi lo v).colir = b.colir := rfl
@[simp] theorem Block.setRf_power (b : Block) (off hi lo v : Nat) : (b.setRf off hi lo v).power = b.power := rfl
@[simp] theorem Block.setRf_time (b : Block) (off hi lo v : Nat) : (b.setRf off hi lo v).time = b.time := rfl
@[simp] theorem Block.setRf_pmb (b : Block) (off hi lo v : Nat) : (b.setRf off hi lo v).pmb = b.pmb := rfl
@[simp] theorem Block.setRf_lands (b : Block) (off hi lo v : Nat) : (b.setRf off hi lo v).lands = b.lands := rfl
@[simp] theorem Block.setRf_mem (b : Block) (off hi lo v : Nat) : (b.setRf off hi lo v).mem = b.mem := rfl
@[simp] theorem Block.setRf_hostMem (b : Block) (off hi lo v : Nat) : (b.setRf off hi lo v).hostMem = b.hostMem := rfl
@[simp] theorem Block.setRf_q (b : Block) (off hi lo v : Nat) (o : Nat) : (b.setRf off hi lo v).q o = b.q o := rfl
@[simp] theorem Block.setRf_ctx (b : Block) (off hi lo v : Nat) (o : Nat) : (b.setRf off hi lo v).ctx? o = b.ctx? o := rfl
@[simp] theorem Block.setRf_up (b : Block) (off hi lo v : Nat) : (b.setRf off hi lo v).up = b.up := rfl
-- setQ
@[simp] theorem Block.setQ_now (b : Block) (p : Nat) (x : Quarter) : (b.setQ p x).now = b.now := rfl
@[simp] theorem Block.setQ_timeNs (b : Block) (p : Nat) (x : Quarter) : (b.setQ p x).timeNs = b.timeNs := rfl
@[simp] theorem Block.setQ_free (b : Block) (p : Nat) (x : Quarter) : (b.setQ p x).free = b.free := rfl
@[simp] theorem Block.setQ_regs (b : Block) (p : Nat) (x : Quarter) : (b.setQ p x).regs = b.regs := rfl
@[simp] theorem Block.setQ_retired (b : Block) (p : Nat) (x : Quarter) : (b.setQ p x).retired = b.retired := rfl
@[simp] theorem Block.setQ_qs (b : Block) (p : Nat) (x : Quarter) : (b.setQ p x).qs = SMap.put b.qs p x := rfl
@[simp] theorem Block.setQ_live (b : Block) (p : Nat) (x : Quarter) : (b.setQ p x).live = b.live := rfl
@[simp] theorem Block.setQ_ave (b : Block) (p : Nat) (x : Quarter) : (b.setQ p x).ave = b.ave := rfl
@[simp] theorem Block.setQ_disp (b : Block) (p : Nat) (x : Quarter) : (b.setQ p x).disp = b.disp := rfl
@[simp] theorem Block.setQ_host (b : Block) (p : Nat) (x : Quarter) : (b.setQ p x).host = b.host := rfl
@[simp] theorem Block.setQ_evc (b : Block) (p : Nat) (x : Quarter) : (b.setQ p x).evc = b.evc := rfl
@[simp] theorem Block.setQ_hub (b : Block) (p : Nat) (x : Quarter) : (b.setQ p x).hub = b.hub := rfl
@[simp] theorem Block.setQ_kerb (b : Block) (p : Nat) (x : Quarter) : (b.setQ p x).kerb = b.kerb := rfl
@[simp] theorem Block.setQ_stops (b : Block) (p : Nat) (x : Quarter) : (b.setQ p x).stops = b.stops := rfl
@[simp] theorem Block.setQ_arch (b : Block) (p : Nat) (x : Quarter) : (b.setQ p x).arch = b.arch := rfl
@[simp] theorem Block.setQ_cont (b : Block) (p : Nat) (x : Quarter) : (b.setQ p x).cont = b.cont := rfl
@[simp] theorem Block.setQ_conv (b : Block) (p : Nat) (x : Quarter) : (b.setQ p x).conv = b.conv := rfl
@[simp] theorem Block.setQ_colir (b : Block) (p : Nat) (x : Quarter) : (b.setQ p x).colir = b.colir := rfl
@[simp] theorem Block.setQ_power (b : Block) (p : Nat) (x : Quarter) : (b.setQ p x).power = b.power := rfl
@[simp] theorem Block.setQ_time (b : Block) (p : Nat) (x : Quarter) : (b.setQ p x).time = b.time := rfl
@[simp] theorem Block.setQ_pmb (b : Block) (p : Nat) (x : Quarter) : (b.setQ p x).pmb = b.pmb := rfl
@[simp] theorem Block.setQ_lands (b : Block) (p : Nat) (x : Quarter) : (b.setQ p x).lands = b.lands := rfl
@[simp] theorem Block.setQ_mem (b : Block) (p : Nat) (x : Quarter) : (b.setQ p x).mem = b.mem := rfl
@[simp] theorem Block.setQ_hostMem (b : Block) (p : Nat) (x : Quarter) : (b.setQ p x).hostMem = b.hostMem := rfl
@[simp] theorem Block.setQ_reg (b : Block) (p : Nat) (x : Quarter) (o : Nat) : (b.setQ p x).reg o = b.reg o := rfl
@[simp] theorem Block.setQ_ctx (b : Block) (p : Nat) (x : Quarter) (o : Nat) : (b.setQ p x).ctx? o = b.ctx? o := rfl
@[simp] theorem Block.setQ_up (b : Block) (p : Nat) (x : Quarter) : (b.setQ p x).up = b.up := rfl
-- setCtx
@[simp] theorem Block.setCtx_now (b : Block) (c : Nat) (x : Ctx) : (b.setCtx c x).now = b.now := rfl
@[simp] theorem Block.setCtx_timeNs (b : Block) (c : Nat) (x : Ctx) : (b.setCtx c x).timeNs = b.timeNs := rfl
@[simp] theorem Block.setCtx_free (b : Block) (c : Nat) (x : Ctx) : (b.setCtx c x).free = b.free := rfl
@[simp] theorem Block.setCtx_regs (b : Block) (c : Nat) (x : Ctx) : (b.setCtx c x).regs = b.regs := rfl
@[simp] theorem Block.setCtx_retired (b : Block) (c : Nat) (x : Ctx) : (b.setCtx c x).retired = b.retired := rfl
@[simp] theorem Block.setCtx_qs (b : Block) (c : Nat) (x : Ctx) : (b.setCtx c x).qs = b.qs := rfl
@[simp] theorem Block.setCtx_live (b : Block) (c : Nat) (x : Ctx) : (b.setCtx c x).live = b.live := rfl
@[simp] theorem Block.setCtx_ave (b : Block) (c : Nat) (x : Ctx) : (b.setCtx c x).ave = b.ave := rfl
@[simp] theorem Block.setCtx_disp (b : Block) (c : Nat) (x : Ctx) : (b.setCtx c x).disp = { b.disp with ctxs := SMap.put b.disp.ctxs c x } := rfl
@[simp] theorem Block.setCtx_host (b : Block) (c : Nat) (x : Ctx) : (b.setCtx c x).host = b.host := rfl
@[simp] theorem Block.setCtx_evc (b : Block) (c : Nat) (x : Ctx) : (b.setCtx c x).evc = b.evc := rfl
@[simp] theorem Block.setCtx_hub (b : Block) (c : Nat) (x : Ctx) : (b.setCtx c x).hub = b.hub := rfl
@[simp] theorem Block.setCtx_kerb (b : Block) (c : Nat) (x : Ctx) : (b.setCtx c x).kerb = b.kerb := rfl
@[simp] theorem Block.setCtx_stops (b : Block) (c : Nat) (x : Ctx) : (b.setCtx c x).stops = b.stops := rfl
@[simp] theorem Block.setCtx_arch (b : Block) (c : Nat) (x : Ctx) : (b.setCtx c x).arch = b.arch := rfl
@[simp] theorem Block.setCtx_cont (b : Block) (c : Nat) (x : Ctx) : (b.setCtx c x).cont = b.cont := rfl
@[simp] theorem Block.setCtx_conv (b : Block) (c : Nat) (x : Ctx) : (b.setCtx c x).conv = b.conv := rfl
@[simp] theorem Block.setCtx_colir (b : Block) (c : Nat) (x : Ctx) : (b.setCtx c x).colir = b.colir := rfl
@[simp] theorem Block.setCtx_power (b : Block) (c : Nat) (x : Ctx) : (b.setCtx c x).power = b.power := rfl
@[simp] theorem Block.setCtx_time (b : Block) (c : Nat) (x : Ctx) : (b.setCtx c x).time = b.time := rfl
@[simp] theorem Block.setCtx_pmb (b : Block) (c : Nat) (x : Ctx) : (b.setCtx c x).pmb = b.pmb := rfl
@[simp] theorem Block.setCtx_lands (b : Block) (c : Nat) (x : Ctx) : (b.setCtx c x).lands = b.lands := rfl
@[simp] theorem Block.setCtx_mem (b : Block) (c : Nat) (x : Ctx) : (b.setCtx c x).mem = b.mem := rfl
@[simp] theorem Block.setCtx_hostMem (b : Block) (c : Nat) (x : Ctx) : (b.setCtx c x).hostMem = b.hostMem := rfl
@[simp] theorem Block.setCtx_reg (b : Block) (c : Nat) (x : Ctx) (o : Nat) : (b.setCtx c x).reg o = b.reg o := rfl
@[simp] theorem Block.setCtx_q (b : Block) (c : Nat) (x : Ctx) (o : Nat) : (b.setCtx c x).q o = b.q o := rfl
@[simp] theorem Block.setCtx_up (b : Block) (c : Nat) (x : Ctx) : (b.setCtx c x).up = b.up := rfl
-- raise
@[simp] theorem Block.raise_now (b : Block) (src arg : Nat) : (b.raise src arg).now = b.now := rfl
@[simp] theorem Block.raise_timeNs (b : Block) (src arg : Nat) : (b.raise src arg).timeNs = b.timeNs := rfl
@[simp] theorem Block.raise_free (b : Block) (src arg : Nat) : (b.raise src arg).free = b.free := rfl
@[simp] theorem Block.raise_regs (b : Block) (src arg : Nat) : (b.raise src arg).regs = b.regs := rfl
@[simp] theorem Block.raise_retired (b : Block) (src arg : Nat) : (b.raise src arg).retired = b.retired := rfl
@[simp] theorem Block.raise_qs (b : Block) (src arg : Nat) : (b.raise src arg).qs = b.qs := rfl
@[simp] theorem Block.raise_live (b : Block) (src arg : Nat) : (b.raise src arg).live = b.live := rfl
@[simp] theorem Block.raise_ave (b : Block) (src arg : Nat) : (b.raise src arg).ave = b.ave := rfl
@[simp] theorem Block.raise_disp (b : Block) (src arg : Nat) : (b.raise src arg).disp = b.disp := rfl
@[simp] theorem Block.raise_host (b : Block) (src arg : Nat) : (b.raise src arg).host = b.host := rfl
@[simp] theorem Block.raise_evc (b : Block) (src arg : Nat) : (b.raise src arg).evc = { b.evc with raised := b.evc.raised ++ [{ src := src, arg := arg % 2 ^ 32, tag := none }] } := rfl
@[simp] theorem Block.raise_hub (b : Block) (src arg : Nat) : (b.raise src arg).hub = b.hub := rfl
@[simp] theorem Block.raise_kerb (b : Block) (src arg : Nat) : (b.raise src arg).kerb = b.kerb := rfl
@[simp] theorem Block.raise_stops (b : Block) (src arg : Nat) : (b.raise src arg).stops = b.stops := rfl
@[simp] theorem Block.raise_arch (b : Block) (src arg : Nat) : (b.raise src arg).arch = b.arch := rfl
@[simp] theorem Block.raise_cont (b : Block) (src arg : Nat) : (b.raise src arg).cont = b.cont := rfl
@[simp] theorem Block.raise_conv (b : Block) (src arg : Nat) : (b.raise src arg).conv = b.conv := rfl
@[simp] theorem Block.raise_colir (b : Block) (src arg : Nat) : (b.raise src arg).colir = b.colir := rfl
@[simp] theorem Block.raise_power (b : Block) (src arg : Nat) : (b.raise src arg).power = b.power := rfl
@[simp] theorem Block.raise_time (b : Block) (src arg : Nat) : (b.raise src arg).time = b.time := rfl
@[simp] theorem Block.raise_pmb (b : Block) (src arg : Nat) : (b.raise src arg).pmb = b.pmb := rfl
@[simp] theorem Block.raise_lands (b : Block) (src arg : Nat) : (b.raise src arg).lands = b.lands := rfl
@[simp] theorem Block.raise_mem (b : Block) (src arg : Nat) : (b.raise src arg).mem = b.mem := rfl
@[simp] theorem Block.raise_hostMem (b : Block) (src arg : Nat) : (b.raise src arg).hostMem = b.hostMem := rfl
@[simp] theorem Block.raise_reg (b : Block) (src arg : Nat) (o : Nat) : (b.raise src arg).reg o = b.reg o := rfl
@[simp] theorem Block.raise_q (b : Block) (src arg : Nat) (o : Nat) : (b.raise src arg).q o = b.q o := rfl
@[simp] theorem Block.raise_ctx (b : Block) (src arg : Nat) (o : Nat) : (b.raise src arg).ctx? o = b.ctx? o := rfl
@[simp] theorem Block.raise_up (b : Block) (src arg : Nat) : (b.raise src arg).up = b.up := rfl
-- wire
@[simp] theorem Block.wire_now (b : Block) (d : Detection) : (b.wire d).now = b.now := rfl
@[simp] theorem Block.wire_timeNs (b : Block) (d : Detection) : (b.wire d).timeNs = b.timeNs := rfl
@[simp] theorem Block.wire_free (b : Block) (d : Detection) : (b.wire d).free = b.free := rfl
@[simp] theorem Block.wire_regs (b : Block) (d : Detection) : (b.wire d).regs = b.regs := rfl
@[simp] theorem Block.wire_retired (b : Block) (d : Detection) : (b.wire d).retired = b.retired := rfl
@[simp] theorem Block.wire_qs (b : Block) (d : Detection) : (b.wire d).qs = b.qs := rfl
@[simp] theorem Block.wire_live (b : Block) (d : Detection) : (b.wire d).live = b.live := rfl
@[simp] theorem Block.wire_ave (b : Block) (d : Detection) : (b.wire d).ave = b.ave := rfl
@[simp] theorem Block.wire_disp (b : Block) (d : Detection) : (b.wire d).disp = b.disp := rfl
@[simp] theorem Block.wire_host (b : Block) (d : Detection) : (b.wire d).host = b.host := rfl
@[simp] theorem Block.wire_evc (b : Block) (d : Detection) : (b.wire d).evc = b.evc := rfl
@[simp] theorem Block.wire_hub (b : Block) (d : Detection) : (b.wire d).hub = { b.hub with wires := b.hub.wires ++ [d] } := rfl
@[simp] theorem Block.wire_kerb (b : Block) (d : Detection) : (b.wire d).kerb = b.kerb := rfl
@[simp] theorem Block.wire_stops (b : Block) (d : Detection) : (b.wire d).stops = b.stops := rfl
@[simp] theorem Block.wire_arch (b : Block) (d : Detection) : (b.wire d).arch = b.arch := rfl
@[simp] theorem Block.wire_cont (b : Block) (d : Detection) : (b.wire d).cont = b.cont := rfl
@[simp] theorem Block.wire_conv (b : Block) (d : Detection) : (b.wire d).conv = b.conv := rfl
@[simp] theorem Block.wire_colir (b : Block) (d : Detection) : (b.wire d).colir = b.colir := rfl
@[simp] theorem Block.wire_power (b : Block) (d : Detection) : (b.wire d).power = b.power := rfl
@[simp] theorem Block.wire_time (b : Block) (d : Detection) : (b.wire d).time = b.time := rfl
@[simp] theorem Block.wire_pmb (b : Block) (d : Detection) : (b.wire d).pmb = b.pmb := rfl
@[simp] theorem Block.wire_lands (b : Block) (d : Detection) : (b.wire d).lands = b.lands := rfl
@[simp] theorem Block.wire_mem (b : Block) (d : Detection) : (b.wire d).mem = b.mem := rfl
@[simp] theorem Block.wire_hostMem (b : Block) (d : Detection) : (b.wire d).hostMem = b.hostMem := rfl
@[simp] theorem Block.wire_reg (b : Block) (d : Detection) (o : Nat) : (b.wire d).reg o = b.reg o := rfl
@[simp] theorem Block.wire_q (b : Block) (d : Detection) (o : Nat) : (b.wire d).q o = b.q o := rfl
@[simp] theorem Block.wire_ctx (b : Block) (d : Detection) (o : Nat) : (b.wire d).ctx? o = b.ctx? o := rfl
@[simp] theorem Block.wire_up (b : Block) (d : Detection) : (b.wire d).up = b.up := rfl
-- detect
@[simp] theorem Block.detect_now (b : Block) (code unit da : Nat) (inj : Bool) (cs : List Nat) : (b.detect code unit da inj cs).now = b.now := rfl
@[simp] theorem Block.detect_timeNs (b : Block) (code unit da : Nat) (inj : Bool) (cs : List Nat) : (b.detect code unit da inj cs).timeNs = b.timeNs := rfl
@[simp] theorem Block.detect_free (b : Block) (code unit da : Nat) (inj : Bool) (cs : List Nat) : (b.detect code unit da inj cs).free = b.free := rfl
@[simp] theorem Block.detect_regs (b : Block) (code unit da : Nat) (inj : Bool) (cs : List Nat) : (b.detect code unit da inj cs).regs = b.regs := rfl
@[simp] theorem Block.detect_retired (b : Block) (code unit da : Nat) (inj : Bool) (cs : List Nat) : (b.detect code unit da inj cs).retired = b.retired := rfl
@[simp] theorem Block.detect_qs (b : Block) (code unit da : Nat) (inj : Bool) (cs : List Nat) : (b.detect code unit da inj cs).qs = b.qs := rfl
@[simp] theorem Block.detect_live (b : Block) (code unit da : Nat) (inj : Bool) (cs : List Nat) : (b.detect code unit da inj cs).live = b.live := rfl
@[simp] theorem Block.detect_ave (b : Block) (code unit da : Nat) (inj : Bool) (cs : List Nat) : (b.detect code unit da inj cs).ave = b.ave := rfl
@[simp] theorem Block.detect_disp (b : Block) (code unit da : Nat) (inj : Bool) (cs : List Nat) : (b.detect code unit da inj cs).disp = b.disp := rfl
@[simp] theorem Block.detect_host (b : Block) (code unit da : Nat) (inj : Bool) (cs : List Nat) : (b.detect code unit da inj cs).host = b.host := rfl
@[simp] theorem Block.detect_evc (b : Block) (code unit da : Nat) (inj : Bool) (cs : List Nat) : (b.detect code unit da inj cs).evc = b.evc := rfl
@[simp] theorem Block.detect_hub (b : Block) (code unit da : Nat) (inj : Bool) (cs : List Nat) : (b.detect code unit da inj cs).hub = { b.hub with wires := b.hub.wires ++ [{ code := code, unit := unit, detailA := BitVec.ofNat 64 da, detailB := 0, injected := inj, dry := false, ctxs := cs }] } := rfl
@[simp] theorem Block.detect_kerb (b : Block) (code unit da : Nat) (inj : Bool) (cs : List Nat) : (b.detect code unit da inj cs).kerb = b.kerb := rfl
@[simp] theorem Block.detect_stops (b : Block) (code unit da : Nat) (inj : Bool) (cs : List Nat) : (b.detect code unit da inj cs).stops = b.stops := rfl
@[simp] theorem Block.detect_arch (b : Block) (code unit da : Nat) (inj : Bool) (cs : List Nat) : (b.detect code unit da inj cs).arch = b.arch := rfl
@[simp] theorem Block.detect_cont (b : Block) (code unit da : Nat) (inj : Bool) (cs : List Nat) : (b.detect code unit da inj cs).cont = b.cont := rfl
@[simp] theorem Block.detect_conv (b : Block) (code unit da : Nat) (inj : Bool) (cs : List Nat) : (b.detect code unit da inj cs).conv = b.conv := rfl
@[simp] theorem Block.detect_colir (b : Block) (code unit da : Nat) (inj : Bool) (cs : List Nat) : (b.detect code unit da inj cs).colir = b.colir := rfl
@[simp] theorem Block.detect_power (b : Block) (code unit da : Nat) (inj : Bool) (cs : List Nat) : (b.detect code unit da inj cs).power = b.power := rfl
@[simp] theorem Block.detect_time (b : Block) (code unit da : Nat) (inj : Bool) (cs : List Nat) : (b.detect code unit da inj cs).time = b.time := rfl
@[simp] theorem Block.detect_pmb (b : Block) (code unit da : Nat) (inj : Bool) (cs : List Nat) : (b.detect code unit da inj cs).pmb = b.pmb := rfl
@[simp] theorem Block.detect_lands (b : Block) (code unit da : Nat) (inj : Bool) (cs : List Nat) : (b.detect code unit da inj cs).lands = b.lands := rfl
@[simp] theorem Block.detect_mem (b : Block) (code unit da : Nat) (inj : Bool) (cs : List Nat) : (b.detect code unit da inj cs).mem = b.mem := rfl
@[simp] theorem Block.detect_hostMem (b : Block) (code unit da : Nat) (inj : Bool) (cs : List Nat) : (b.detect code unit da inj cs).hostMem = b.hostMem := rfl
@[simp] theorem Block.detect_reg (b : Block) (code unit da : Nat) (inj : Bool) (cs : List Nat) (o : Nat) : (b.detect code unit da inj cs).reg o = b.reg o := rfl
@[simp] theorem Block.detect_q (b : Block) (code unit da : Nat) (inj : Bool) (cs : List Nat) (o : Nat) : (b.detect code unit da inj cs).q o = b.q o := rfl
@[simp] theorem Block.detect_ctx (b : Block) (code unit da : Nat) (inj : Bool) (cs : List Nat) (o : Nat) : (b.detect code unit da inj cs).ctx? o = b.ctx? o := rfl
@[simp] theorem Block.detect_up (b : Block) (code unit da : Nat) (inj : Bool) (cs : List Nat) : (b.detect code unit da inj cs).up = b.up := rfl
-- fired
@[simp] theorem Block.fired_now (b : Block) (d : Nat) : (b.fired d).now = b.now := rfl
@[simp] theorem Block.fired_timeNs (b : Block) (d : Nat) : (b.fired d).timeNs = b.timeNs := rfl
@[simp] theorem Block.fired_free (b : Block) (d : Nat) : (b.fired d).free = b.free := rfl
@[simp] theorem Block.fired_regs (b : Block) (d : Nat) : (b.fired d).regs = b.regs := rfl
@[simp] theorem Block.fired_retired (b : Block) (d : Nat) : (b.fired d).retired = b.retired := rfl
@[simp] theorem Block.fired_qs (b : Block) (d : Nat) : (b.fired d).qs = b.qs := rfl
@[simp] theorem Block.fired_live (b : Block) (d : Nat) : (b.fired d).live = b.live := rfl
@[simp] theorem Block.fired_disp (b : Block) (d : Nat) : (b.fired d).disp = b.disp := rfl
@[simp] theorem Block.fired_host (b : Block) (d : Nat) : (b.fired d).host = b.host := rfl
@[simp] theorem Block.fired_evc (b : Block) (d : Nat) : (b.fired d).evc = b.evc := rfl
@[simp] theorem Block.fired_hub (b : Block) (d : Nat) : (b.fired d).hub = b.hub := rfl
@[simp] theorem Block.fired_kerb (b : Block) (d : Nat) : (b.fired d).kerb = b.kerb := rfl
@[simp] theorem Block.fired_stops (b : Block) (d : Nat) : (b.fired d).stops = b.stops := rfl
@[simp] theorem Block.fired_arch (b : Block) (d : Nat) : (b.fired d).arch = b.arch := rfl
@[simp] theorem Block.fired_cont (b : Block) (d : Nat) : (b.fired d).cont = b.cont := rfl
@[simp] theorem Block.fired_conv (b : Block) (d : Nat) : (b.fired d).conv = b.conv := rfl
@[simp] theorem Block.fired_colir (b : Block) (d : Nat) : (b.fired d).colir = b.colir := rfl
@[simp] theorem Block.fired_power (b : Block) (d : Nat) : (b.fired d).power = b.power := rfl
@[simp] theorem Block.fired_time (b : Block) (d : Nat) : (b.fired d).time = b.time := rfl
@[simp] theorem Block.fired_pmb (b : Block) (d : Nat) : (b.fired d).pmb = b.pmb := rfl
@[simp] theorem Block.fired_lands (b : Block) (d : Nat) : (b.fired d).lands = b.lands := rfl
@[simp] theorem Block.fired_mem (b : Block) (d : Nat) : (b.fired d).mem = b.mem := rfl
@[simp] theorem Block.fired_hostMem (b : Block) (d : Nat) : (b.fired d).hostMem = b.hostMem := rfl
@[simp] theorem Block.fired_reg (b : Block) (d : Nat) (o : Nat) : (b.fired d).reg o = b.reg o := rfl
@[simp] theorem Block.fired_q (b : Block) (d : Nat) (o : Nat) : (b.fired d).q o = b.q o := rfl
@[simp] theorem Block.fired_ctx (b : Block) (d : Nat) (o : Nat) : (b.fired d).ctx? o = b.ctx? o := rfl
@[simp] theorem Block.fired_up (b : Block) (d : Nat) : (b.fired d).up = b.up := rfl
-- hostWrite
@[simp] theorem Block.hostWrite_now (b : Block) (a : Nat) (bs : List Byte) : (b.hostWrite a bs).now = b.now := rfl
@[simp] theorem Block.hostWrite_timeNs (b : Block) (a : Nat) (bs : List Byte) : (b.hostWrite a bs).timeNs = b.timeNs := rfl
@[simp] theorem Block.hostWrite_free (b : Block) (a : Nat) (bs : List Byte) : (b.hostWrite a bs).free = b.free := rfl
@[simp] theorem Block.hostWrite_regs (b : Block) (a : Nat) (bs : List Byte) : (b.hostWrite a bs).regs = b.regs := rfl
@[simp] theorem Block.hostWrite_retired (b : Block) (a : Nat) (bs : List Byte) : (b.hostWrite a bs).retired = b.retired := rfl
@[simp] theorem Block.hostWrite_qs (b : Block) (a : Nat) (bs : List Byte) : (b.hostWrite a bs).qs = b.qs := rfl
@[simp] theorem Block.hostWrite_live (b : Block) (a : Nat) (bs : List Byte) : (b.hostWrite a bs).live = b.live := rfl
@[simp] theorem Block.hostWrite_ave (b : Block) (a : Nat) (bs : List Byte) : (b.hostWrite a bs).ave = b.ave := rfl
@[simp] theorem Block.hostWrite_disp (b : Block) (a : Nat) (bs : List Byte) : (b.hostWrite a bs).disp = b.disp := rfl
@[simp] theorem Block.hostWrite_host (b : Block) (a : Nat) (bs : List Byte) : (b.hostWrite a bs).host = b.host := rfl
@[simp] theorem Block.hostWrite_evc (b : Block) (a : Nat) (bs : List Byte) : (b.hostWrite a bs).evc = b.evc := rfl
@[simp] theorem Block.hostWrite_hub (b : Block) (a : Nat) (bs : List Byte) : (b.hostWrite a bs).hub = b.hub := rfl
@[simp] theorem Block.hostWrite_kerb (b : Block) (a : Nat) (bs : List Byte) : (b.hostWrite a bs).kerb = b.kerb := rfl
@[simp] theorem Block.hostWrite_stops (b : Block) (a : Nat) (bs : List Byte) : (b.hostWrite a bs).stops = b.stops := rfl
@[simp] theorem Block.hostWrite_arch (b : Block) (a : Nat) (bs : List Byte) : (b.hostWrite a bs).arch = b.arch := rfl
@[simp] theorem Block.hostWrite_cont (b : Block) (a : Nat) (bs : List Byte) : (b.hostWrite a bs).cont = b.cont := rfl
@[simp] theorem Block.hostWrite_conv (b : Block) (a : Nat) (bs : List Byte) : (b.hostWrite a bs).conv = b.conv := rfl
@[simp] theorem Block.hostWrite_colir (b : Block) (a : Nat) (bs : List Byte) : (b.hostWrite a bs).colir = b.colir := rfl
@[simp] theorem Block.hostWrite_power (b : Block) (a : Nat) (bs : List Byte) : (b.hostWrite a bs).power = b.power := rfl
@[simp] theorem Block.hostWrite_time (b : Block) (a : Nat) (bs : List Byte) : (b.hostWrite a bs).time = b.time := rfl
@[simp] theorem Block.hostWrite_pmb (b : Block) (a : Nat) (bs : List Byte) : (b.hostWrite a bs).pmb = b.pmb := rfl
@[simp] theorem Block.hostWrite_lands (b : Block) (a : Nat) (bs : List Byte) : (b.hostWrite a bs).lands = b.lands := rfl
@[simp] theorem Block.hostWrite_mem (b : Block) (a : Nat) (bs : List Byte) : (b.hostWrite a bs).mem = b.mem := rfl
@[simp] theorem Block.hostWrite_hostMem (b : Block) (a : Nat) (bs : List Byte) : (b.hostWrite a bs).hostMem = memWrite b.hostMem a bs := rfl
@[simp] theorem Block.hostWrite_reg (b : Block) (a : Nat) (bs : List Byte) (o : Nat) : (b.hostWrite a bs).reg o = b.reg o := rfl
@[simp] theorem Block.hostWrite_q (b : Block) (a : Nat) (bs : List Byte) (o : Nat) : (b.hostWrite a bs).q o = b.q o := rfl
@[simp] theorem Block.hostWrite_ctx (b : Block) (a : Nat) (bs : List Byte) (o : Nat) : (b.hostWrite a bs).ctx? o = b.ctx? o := rfl
@[simp] theorem Block.hostWrite_up (b : Block) (a : Nat) (bs : List Byte) : (b.hostWrite a bs).up = b.up := rfl
-- hostStores
@[simp] theorem Block.hostStores_now (b : Block) (hw : List (Nat × Byte)) : (b.hostStores hw).now = b.now := rfl
@[simp] theorem Block.hostStores_timeNs (b : Block) (hw : List (Nat × Byte)) : (b.hostStores hw).timeNs = b.timeNs := rfl
@[simp] theorem Block.hostStores_free (b : Block) (hw : List (Nat × Byte)) : (b.hostStores hw).free = b.free := rfl
@[simp] theorem Block.hostStores_regs (b : Block) (hw : List (Nat × Byte)) : (b.hostStores hw).regs = b.regs := rfl
@[simp] theorem Block.hostStores_retired (b : Block) (hw : List (Nat × Byte)) : (b.hostStores hw).retired = b.retired := rfl
@[simp] theorem Block.hostStores_qs (b : Block) (hw : List (Nat × Byte)) : (b.hostStores hw).qs = b.qs := rfl
@[simp] theorem Block.hostStores_live (b : Block) (hw : List (Nat × Byte)) : (b.hostStores hw).live = b.live := rfl
@[simp] theorem Block.hostStores_ave (b : Block) (hw : List (Nat × Byte)) : (b.hostStores hw).ave = b.ave := rfl
@[simp] theorem Block.hostStores_disp (b : Block) (hw : List (Nat × Byte)) : (b.hostStores hw).disp = b.disp := rfl
@[simp] theorem Block.hostStores_host (b : Block) (hw : List (Nat × Byte)) : (b.hostStores hw).host = b.host := rfl
@[simp] theorem Block.hostStores_evc (b : Block) (hw : List (Nat × Byte)) : (b.hostStores hw).evc = b.evc := rfl
@[simp] theorem Block.hostStores_hub (b : Block) (hw : List (Nat × Byte)) : (b.hostStores hw).hub = b.hub := rfl
@[simp] theorem Block.hostStores_kerb (b : Block) (hw : List (Nat × Byte)) : (b.hostStores hw).kerb = b.kerb := rfl
@[simp] theorem Block.hostStores_stops (b : Block) (hw : List (Nat × Byte)) : (b.hostStores hw).stops = b.stops := rfl
@[simp] theorem Block.hostStores_arch (b : Block) (hw : List (Nat × Byte)) : (b.hostStores hw).arch = b.arch := rfl
@[simp] theorem Block.hostStores_cont (b : Block) (hw : List (Nat × Byte)) : (b.hostStores hw).cont = b.cont := rfl
@[simp] theorem Block.hostStores_conv (b : Block) (hw : List (Nat × Byte)) : (b.hostStores hw).conv = b.conv := rfl
@[simp] theorem Block.hostStores_colir (b : Block) (hw : List (Nat × Byte)) : (b.hostStores hw).colir = b.colir := rfl
@[simp] theorem Block.hostStores_power (b : Block) (hw : List (Nat × Byte)) : (b.hostStores hw).power = b.power := rfl
@[simp] theorem Block.hostStores_time (b : Block) (hw : List (Nat × Byte)) : (b.hostStores hw).time = b.time := rfl
@[simp] theorem Block.hostStores_pmb (b : Block) (hw : List (Nat × Byte)) : (b.hostStores hw).pmb = b.pmb := rfl
@[simp] theorem Block.hostStores_lands (b : Block) (hw : List (Nat × Byte)) : (b.hostStores hw).lands = b.lands := rfl
@[simp] theorem Block.hostStores_mem (b : Block) (hw : List (Nat × Byte)) : (b.hostStores hw).mem = b.mem := rfl
@[simp] theorem Block.hostStores_hostMem (b : Block) (hw : List (Nat × Byte)) : (b.hostStores hw).hostMem = hw.foldl (fun m c => memPut m c.1 c.2) b.hostMem := rfl
@[simp] theorem Block.hostStores_reg (b : Block) (hw : List (Nat × Byte)) (o : Nat) : (b.hostStores hw).reg o = b.reg o := rfl
@[simp] theorem Block.hostStores_q (b : Block) (hw : List (Nat × Byte)) (o : Nat) : (b.hostStores hw).q o = b.q o := rfl
@[simp] theorem Block.hostStores_ctx (b : Block) (hw : List (Nat × Byte)) (o : Nat) : (b.hostStores hw).ctx? o = b.ctx? o := rfl
@[simp] theorem Block.hostStores_up (b : Block) (hw : List (Nat × Byte)) : (b.hostStores hw).up = b.up := rfl
-- countIssue
@[simp] theorem Block.countIssue_now (b : Block) (p : Nat) : (b.countIssue p).now = b.now := rfl
@[simp] theorem Block.countIssue_timeNs (b : Block) (p : Nat) : (b.countIssue p).timeNs = b.timeNs := rfl
@[simp] theorem Block.countIssue_free (b : Block) (p : Nat) : (b.countIssue p).free = b.free := rfl
@[simp] theorem Block.countIssue_regs (b : Block) (p : Nat) : (b.countIssue p).regs = b.regs := rfl
@[simp] theorem Block.countIssue_retired (b : Block) (p : Nat) : (b.countIssue p).retired = b.retired := rfl
@[simp] theorem Block.countIssue_qs (b : Block) (p : Nat) : (b.countIssue p).qs = b.qs := rfl
@[simp] theorem Block.countIssue_live (b : Block) (p : Nat) : (b.countIssue p).live = b.live := rfl
@[simp] theorem Block.countIssue_disp (b : Block) (p : Nat) : (b.countIssue p).disp = b.disp := rfl
@[simp] theorem Block.countIssue_host (b : Block) (p : Nat) : (b.countIssue p).host = b.host := rfl
@[simp] theorem Block.countIssue_evc (b : Block) (p : Nat) : (b.countIssue p).evc = b.evc := rfl
@[simp] theorem Block.countIssue_hub (b : Block) (p : Nat) : (b.countIssue p).hub = b.hub := rfl
@[simp] theorem Block.countIssue_kerb (b : Block) (p : Nat) : (b.countIssue p).kerb = b.kerb := rfl
@[simp] theorem Block.countIssue_stops (b : Block) (p : Nat) : (b.countIssue p).stops = b.stops := rfl
@[simp] theorem Block.countIssue_arch (b : Block) (p : Nat) : (b.countIssue p).arch = b.arch := rfl
@[simp] theorem Block.countIssue_cont (b : Block) (p : Nat) : (b.countIssue p).cont = b.cont := rfl
@[simp] theorem Block.countIssue_conv (b : Block) (p : Nat) : (b.countIssue p).conv = b.conv := rfl
@[simp] theorem Block.countIssue_colir (b : Block) (p : Nat) : (b.countIssue p).colir = b.colir := rfl
@[simp] theorem Block.countIssue_power (b : Block) (p : Nat) : (b.countIssue p).power = b.power := rfl
@[simp] theorem Block.countIssue_time (b : Block) (p : Nat) : (b.countIssue p).time = b.time := rfl
@[simp] theorem Block.countIssue_pmb (b : Block) (p : Nat) : (b.countIssue p).pmb = b.pmb := rfl
@[simp] theorem Block.countIssue_lands (b : Block) (p : Nat) : (b.countIssue p).lands = b.lands := rfl
@[simp] theorem Block.countIssue_mem (b : Block) (p : Nat) : (b.countIssue p).mem = b.mem := rfl
@[simp] theorem Block.countIssue_hostMem (b : Block) (p : Nat) : (b.countIssue p).hostMem = b.hostMem := rfl
@[simp] theorem Block.countIssue_reg (b : Block) (p : Nat) (o : Nat) : (b.countIssue p).reg o = b.reg o := rfl
@[simp] theorem Block.countIssue_q (b : Block) (p : Nat) (o : Nat) : (b.countIssue p).q o = b.q o := rfl
@[simp] theorem Block.countIssue_ctx (b : Block) (p : Nat) (o : Nat) : (b.countIssue p).ctx? o = b.ctx? o := rfl
@[simp] theorem Block.countIssue_up (b : Block) (p : Nat) : (b.countIssue p).up = b.up := rfl
-- setSq
@[simp] theorem Block.setSq_now (b : Block) (r : Nat) (x : SQ) : (b.setSq r x).now = b.now := rfl
@[simp] theorem Block.setSq_timeNs (b : Block) (r : Nat) (x : SQ) : (b.setSq r x).timeNs = b.timeNs := rfl
@[simp] theorem Block.setSq_free (b : Block) (r : Nat) (x : SQ) : (b.setSq r x).free = b.free := rfl
@[simp] theorem Block.setSq_regs (b : Block) (r : Nat) (x : SQ) : (b.setSq r x).regs = b.regs := rfl
@[simp] theorem Block.setSq_retired (b : Block) (r : Nat) (x : SQ) : (b.setSq r x).retired = b.retired := rfl
@[simp] theorem Block.setSq_qs (b : Block) (r : Nat) (x : SQ) : (b.setSq r x).qs = b.qs := rfl
@[simp] theorem Block.setSq_live (b : Block) (r : Nat) (x : SQ) : (b.setSq r x).live = b.live := rfl
@[simp] theorem Block.setSq_ave (b : Block) (r : Nat) (x : SQ) : (b.setSq r x).ave = b.ave := rfl
@[simp] theorem Block.setSq_disp (b : Block) (r : Nat) (x : SQ) : (b.setSq r x).disp = b.disp := rfl
@[simp] theorem Block.setSq_host (b : Block) (r : Nat) (x : SQ) : (b.setSq r x).host = { b.host with sqs := SMap.put b.host.sqs r x } := rfl
@[simp] theorem Block.setSq_evc (b : Block) (r : Nat) (x : SQ) : (b.setSq r x).evc = b.evc := rfl
@[simp] theorem Block.setSq_hub (b : Block) (r : Nat) (x : SQ) : (b.setSq r x).hub = b.hub := rfl
@[simp] theorem Block.setSq_kerb (b : Block) (r : Nat) (x : SQ) : (b.setSq r x).kerb = b.kerb := rfl
@[simp] theorem Block.setSq_stops (b : Block) (r : Nat) (x : SQ) : (b.setSq r x).stops = b.stops := rfl
@[simp] theorem Block.setSq_arch (b : Block) (r : Nat) (x : SQ) : (b.setSq r x).arch = b.arch := rfl
@[simp] theorem Block.setSq_cont (b : Block) (r : Nat) (x : SQ) : (b.setSq r x).cont = b.cont := rfl
@[simp] theorem Block.setSq_conv (b : Block) (r : Nat) (x : SQ) : (b.setSq r x).conv = b.conv := rfl
@[simp] theorem Block.setSq_colir (b : Block) (r : Nat) (x : SQ) : (b.setSq r x).colir = b.colir := rfl
@[simp] theorem Block.setSq_power (b : Block) (r : Nat) (x : SQ) : (b.setSq r x).power = b.power := rfl
@[simp] theorem Block.setSq_time (b : Block) (r : Nat) (x : SQ) : (b.setSq r x).time = b.time := rfl
@[simp] theorem Block.setSq_pmb (b : Block) (r : Nat) (x : SQ) : (b.setSq r x).pmb = b.pmb := rfl
@[simp] theorem Block.setSq_lands (b : Block) (r : Nat) (x : SQ) : (b.setSq r x).lands = b.lands := rfl
@[simp] theorem Block.setSq_mem (b : Block) (r : Nat) (x : SQ) : (b.setSq r x).mem = b.mem := rfl
@[simp] theorem Block.setSq_hostMem (b : Block) (r : Nat) (x : SQ) : (b.setSq r x).hostMem = b.hostMem := rfl
@[simp] theorem Block.setSq_reg (b : Block) (r : Nat) (x : SQ) (o : Nat) : (b.setSq r x).reg o = b.reg o := rfl
@[simp] theorem Block.setSq_q (b : Block) (r : Nat) (x : SQ) (o : Nat) : (b.setSq r x).q o = b.q o := rfl
@[simp] theorem Block.setSq_ctx (b : Block) (r : Nat) (x : SQ) (o : Nat) : (b.setSq r x).ctx? o = b.ctx? o := rfl
@[simp] theorem Block.setSq_up (b : Block) (r : Nat) (x : SQ) : (b.setSq r x).up = b.up := rfl
-- setCq
@[simp] theorem Block.setCq_now (b : Block) (c : Nat) (x : CQ) : (b.setCq c x).now = b.now := rfl
@[simp] theorem Block.setCq_timeNs (b : Block) (c : Nat) (x : CQ) : (b.setCq c x).timeNs = b.timeNs := rfl
@[simp] theorem Block.setCq_free (b : Block) (c : Nat) (x : CQ) : (b.setCq c x).free = b.free := rfl
@[simp] theorem Block.setCq_regs (b : Block) (c : Nat) (x : CQ) : (b.setCq c x).regs = b.regs := rfl
@[simp] theorem Block.setCq_retired (b : Block) (c : Nat) (x : CQ) : (b.setCq c x).retired = b.retired := rfl
@[simp] theorem Block.setCq_qs (b : Block) (c : Nat) (x : CQ) : (b.setCq c x).qs = b.qs := rfl
@[simp] theorem Block.setCq_live (b : Block) (c : Nat) (x : CQ) : (b.setCq c x).live = b.live := rfl
@[simp] theorem Block.setCq_ave (b : Block) (c : Nat) (x : CQ) : (b.setCq c x).ave = b.ave := rfl
@[simp] theorem Block.setCq_disp (b : Block) (c : Nat) (x : CQ) : (b.setCq c x).disp = b.disp := rfl
@[simp] theorem Block.setCq_host (b : Block) (c : Nat) (x : CQ) : (b.setCq c x).host = { b.host with cqs := SMap.put b.host.cqs c x } := rfl
@[simp] theorem Block.setCq_evc (b : Block) (c : Nat) (x : CQ) : (b.setCq c x).evc = b.evc := rfl
@[simp] theorem Block.setCq_hub (b : Block) (c : Nat) (x : CQ) : (b.setCq c x).hub = b.hub := rfl
@[simp] theorem Block.setCq_kerb (b : Block) (c : Nat) (x : CQ) : (b.setCq c x).kerb = b.kerb := rfl
@[simp] theorem Block.setCq_stops (b : Block) (c : Nat) (x : CQ) : (b.setCq c x).stops = b.stops := rfl
@[simp] theorem Block.setCq_arch (b : Block) (c : Nat) (x : CQ) : (b.setCq c x).arch = b.arch := rfl
@[simp] theorem Block.setCq_cont (b : Block) (c : Nat) (x : CQ) : (b.setCq c x).cont = b.cont := rfl
@[simp] theorem Block.setCq_conv (b : Block) (c : Nat) (x : CQ) : (b.setCq c x).conv = b.conv := rfl
@[simp] theorem Block.setCq_colir (b : Block) (c : Nat) (x : CQ) : (b.setCq c x).colir = b.colir := rfl
@[simp] theorem Block.setCq_power (b : Block) (c : Nat) (x : CQ) : (b.setCq c x).power = b.power := rfl
@[simp] theorem Block.setCq_time (b : Block) (c : Nat) (x : CQ) : (b.setCq c x).time = b.time := rfl
@[simp] theorem Block.setCq_pmb (b : Block) (c : Nat) (x : CQ) : (b.setCq c x).pmb = b.pmb := rfl
@[simp] theorem Block.setCq_lands (b : Block) (c : Nat) (x : CQ) : (b.setCq c x).lands = b.lands := rfl
@[simp] theorem Block.setCq_mem (b : Block) (c : Nat) (x : CQ) : (b.setCq c x).mem = b.mem := rfl
@[simp] theorem Block.setCq_hostMem (b : Block) (c : Nat) (x : CQ) : (b.setCq c x).hostMem = b.hostMem := rfl
@[simp] theorem Block.setCq_reg (b : Block) (c : Nat) (x : CQ) (o : Nat) : (b.setCq c x).reg o = b.reg o := rfl
@[simp] theorem Block.setCq_q (b : Block) (c : Nat) (x : CQ) (o : Nat) : (b.setCq c x).q o = b.q o := rfl
@[simp] theorem Block.setCq_ctx (b : Block) (c : Nat) (x : CQ) (o : Nat) : (b.setCq c x).ctx? o = b.ctx? o := rfl
@[simp] theorem Block.setCq_up (b : Block) (c : Nat) (x : CQ) : (b.setCq c x).up = b.up := rfl
-- setEq
@[simp] theorem Block.setEq_now (b : Block) (e : Nat) (x : EQ) : (b.setEq e x).now = b.now := rfl
@[simp] theorem Block.setEq_timeNs (b : Block) (e : Nat) (x : EQ) : (b.setEq e x).timeNs = b.timeNs := rfl
@[simp] theorem Block.setEq_free (b : Block) (e : Nat) (x : EQ) : (b.setEq e x).free = b.free := rfl
@[simp] theorem Block.setEq_regs (b : Block) (e : Nat) (x : EQ) : (b.setEq e x).regs = b.regs := rfl
@[simp] theorem Block.setEq_retired (b : Block) (e : Nat) (x : EQ) : (b.setEq e x).retired = b.retired := rfl
@[simp] theorem Block.setEq_qs (b : Block) (e : Nat) (x : EQ) : (b.setEq e x).qs = b.qs := rfl
@[simp] theorem Block.setEq_live (b : Block) (e : Nat) (x : EQ) : (b.setEq e x).live = b.live := rfl
@[simp] theorem Block.setEq_ave (b : Block) (e : Nat) (x : EQ) : (b.setEq e x).ave = b.ave := rfl
@[simp] theorem Block.setEq_disp (b : Block) (e : Nat) (x : EQ) : (b.setEq e x).disp = b.disp := rfl
@[simp] theorem Block.setEq_host (b : Block) (e : Nat) (x : EQ) : (b.setEq e x).host = b.host := rfl
@[simp] theorem Block.setEq_evc (b : Block) (e : Nat) (x : EQ) : (b.setEq e x).evc = { b.evc with eqs := SMap.put b.evc.eqs e x } := rfl
@[simp] theorem Block.setEq_hub (b : Block) (e : Nat) (x : EQ) : (b.setEq e x).hub = b.hub := rfl
@[simp] theorem Block.setEq_kerb (b : Block) (e : Nat) (x : EQ) : (b.setEq e x).kerb = b.kerb := rfl
@[simp] theorem Block.setEq_stops (b : Block) (e : Nat) (x : EQ) : (b.setEq e x).stops = b.stops := rfl
@[simp] theorem Block.setEq_arch (b : Block) (e : Nat) (x : EQ) : (b.setEq e x).arch = b.arch := rfl
@[simp] theorem Block.setEq_cont (b : Block) (e : Nat) (x : EQ) : (b.setEq e x).cont = b.cont := rfl
@[simp] theorem Block.setEq_conv (b : Block) (e : Nat) (x : EQ) : (b.setEq e x).conv = b.conv := rfl
@[simp] theorem Block.setEq_colir (b : Block) (e : Nat) (x : EQ) : (b.setEq e x).colir = b.colir := rfl
@[simp] theorem Block.setEq_power (b : Block) (e : Nat) (x : EQ) : (b.setEq e x).power = b.power := rfl
@[simp] theorem Block.setEq_time (b : Block) (e : Nat) (x : EQ) : (b.setEq e x).time = b.time := rfl
@[simp] theorem Block.setEq_pmb (b : Block) (e : Nat) (x : EQ) : (b.setEq e x).pmb = b.pmb := rfl
@[simp] theorem Block.setEq_lands (b : Block) (e : Nat) (x : EQ) : (b.setEq e x).lands = b.lands := rfl
@[simp] theorem Block.setEq_mem (b : Block) (e : Nat) (x : EQ) : (b.setEq e x).mem = b.mem := rfl
@[simp] theorem Block.setEq_hostMem (b : Block) (e : Nat) (x : EQ) : (b.setEq e x).hostMem = b.hostMem := rfl
@[simp] theorem Block.setEq_reg (b : Block) (e : Nat) (x : EQ) (o : Nat) : (b.setEq e x).reg o = b.reg o := rfl
@[simp] theorem Block.setEq_q (b : Block) (e : Nat) (x : EQ) (o : Nat) : (b.setEq e x).q o = b.q o := rfl
@[simp] theorem Block.setEq_ctx (b : Block) (e : Nat) (x : EQ) (o : Nat) : (b.setEq e x).ctx? o = b.ctx? o := rfl
@[simp] theorem Block.setEq_up (b : Block) (e : Nat) (x : EQ) : (b.setEq e x).up = b.up := rfl
-- setRing
@[simp] theorem Block.setRing_now (b : Block) (k : Nat) (x : Ring) : (b.setRing k x).now = b.now := rfl
@[simp] theorem Block.setRing_timeNs (b : Block) (k : Nat) (x : Ring) : (b.setRing k x).timeNs = b.timeNs := rfl
@[simp] theorem Block.setRing_free (b : Block) (k : Nat) (x : Ring) : (b.setRing k x).free = b.free := rfl
@[simp] theorem Block.setRing_regs (b : Block) (k : Nat) (x : Ring) : (b.setRing k x).regs = b.regs := rfl
@[simp] theorem Block.setRing_retired (b : Block) (k : Nat) (x : Ring) : (b.setRing k x).retired = b.retired := rfl
@[simp] theorem Block.setRing_qs (b : Block) (k : Nat) (x : Ring) : (b.setRing k x).qs = b.qs := rfl
@[simp] theorem Block.setRing_live (b : Block) (k : Nat) (x : Ring) : (b.setRing k x).live = b.live := rfl
@[simp] theorem Block.setRing_ave (b : Block) (k : Nat) (x : Ring) : (b.setRing k x).ave = b.ave := rfl
@[simp] theorem Block.setRing_disp (b : Block) (k : Nat) (x : Ring) : (b.setRing k x).disp = b.disp := rfl
@[simp] theorem Block.setRing_host (b : Block) (k : Nat) (x : Ring) : (b.setRing k x).host = b.host := rfl
@[simp] theorem Block.setRing_evc (b : Block) (k : Nat) (x : Ring) : (b.setRing k x).evc = { b.evc with rings := SMap.put b.evc.rings k x } := rfl
@[simp] theorem Block.setRing_hub (b : Block) (k : Nat) (x : Ring) : (b.setRing k x).hub = b.hub := rfl
@[simp] theorem Block.setRing_kerb (b : Block) (k : Nat) (x : Ring) : (b.setRing k x).kerb = b.kerb := rfl
@[simp] theorem Block.setRing_stops (b : Block) (k : Nat) (x : Ring) : (b.setRing k x).stops = b.stops := rfl
@[simp] theorem Block.setRing_arch (b : Block) (k : Nat) (x : Ring) : (b.setRing k x).arch = b.arch := rfl
@[simp] theorem Block.setRing_cont (b : Block) (k : Nat) (x : Ring) : (b.setRing k x).cont = b.cont := rfl
@[simp] theorem Block.setRing_conv (b : Block) (k : Nat) (x : Ring) : (b.setRing k x).conv = b.conv := rfl
@[simp] theorem Block.setRing_colir (b : Block) (k : Nat) (x : Ring) : (b.setRing k x).colir = b.colir := rfl
@[simp] theorem Block.setRing_power (b : Block) (k : Nat) (x : Ring) : (b.setRing k x).power = b.power := rfl
@[simp] theorem Block.setRing_time (b : Block) (k : Nat) (x : Ring) : (b.setRing k x).time = b.time := rfl
@[simp] theorem Block.setRing_pmb (b : Block) (k : Nat) (x : Ring) : (b.setRing k x).pmb = b.pmb := rfl
@[simp] theorem Block.setRing_lands (b : Block) (k : Nat) (x : Ring) : (b.setRing k x).lands = b.lands := rfl
@[simp] theorem Block.setRing_mem (b : Block) (k : Nat) (x : Ring) : (b.setRing k x).mem = b.mem := rfl
@[simp] theorem Block.setRing_hostMem (b : Block) (k : Nat) (x : Ring) : (b.setRing k x).hostMem = b.hostMem := rfl
@[simp] theorem Block.setRing_reg (b : Block) (k : Nat) (x : Ring) (o : Nat) : (b.setRing k x).reg o = b.reg o := rfl
@[simp] theorem Block.setRing_q (b : Block) (k : Nat) (x : Ring) (o : Nat) : (b.setRing k x).q o = b.q o := rfl
@[simp] theorem Block.setRing_ctx (b : Block) (k : Nat) (x : Ring) (o : Nat) : (b.setRing k x).ctx? o = b.ctx? o := rfl
@[simp] theorem Block.setRing_up (b : Block) (k : Nat) (x : Ring) : (b.setRing k x).up = b.up := rfl
-- setXing
@[simp] theorem Block.setXing_now (b : Block) (x y : Nat) (c : Crossing) : (b.setXing x y c).now = b.now := rfl
@[simp] theorem Block.setXing_timeNs (b : Block) (x y : Nat) (c : Crossing) : (b.setXing x y c).timeNs = b.timeNs := rfl
@[simp] theorem Block.setXing_free (b : Block) (x y : Nat) (c : Crossing) : (b.setXing x y c).free = b.free := rfl
@[simp] theorem Block.setXing_regs (b : Block) (x y : Nat) (c : Crossing) : (b.setXing x y c).regs = b.regs := rfl
@[simp] theorem Block.setXing_retired (b : Block) (x y : Nat) (c : Crossing) : (b.setXing x y c).retired = b.retired := rfl
@[simp] theorem Block.setXing_qs (b : Block) (x y : Nat) (c : Crossing) : (b.setXing x y c).qs = b.qs := rfl
@[simp] theorem Block.setXing_live (b : Block) (x y : Nat) (c : Crossing) : (b.setXing x y c).live = b.live := rfl
@[simp] theorem Block.setXing_ave (b : Block) (x y : Nat) (c : Crossing) : (b.setXing x y c).ave = { b.ave with xings := SMap.put b.ave.xings (xk x y) c } := rfl
@[simp] theorem Block.setXing_disp (b : Block) (x y : Nat) (c : Crossing) : (b.setXing x y c).disp = b.disp := rfl
@[simp] theorem Block.setXing_host (b : Block) (x y : Nat) (c : Crossing) : (b.setXing x y c).host = b.host := rfl
@[simp] theorem Block.setXing_evc (b : Block) (x y : Nat) (c : Crossing) : (b.setXing x y c).evc = b.evc := rfl
@[simp] theorem Block.setXing_hub (b : Block) (x y : Nat) (c : Crossing) : (b.setXing x y c).hub = b.hub := rfl
@[simp] theorem Block.setXing_kerb (b : Block) (x y : Nat) (c : Crossing) : (b.setXing x y c).kerb = b.kerb := rfl
@[simp] theorem Block.setXing_stops (b : Block) (x y : Nat) (c : Crossing) : (b.setXing x y c).stops = b.stops := rfl
@[simp] theorem Block.setXing_arch (b : Block) (x y : Nat) (c : Crossing) : (b.setXing x y c).arch = b.arch := rfl
@[simp] theorem Block.setXing_cont (b : Block) (x y : Nat) (c : Crossing) : (b.setXing x y c).cont = b.cont := rfl
@[simp] theorem Block.setXing_conv (b : Block) (x y : Nat) (c : Crossing) : (b.setXing x y c).conv = b.conv := rfl
@[simp] theorem Block.setXing_colir (b : Block) (x y : Nat) (c : Crossing) : (b.setXing x y c).colir = b.colir := rfl
@[simp] theorem Block.setXing_power (b : Block) (x y : Nat) (c : Crossing) : (b.setXing x y c).power = b.power := rfl
@[simp] theorem Block.setXing_time (b : Block) (x y : Nat) (c : Crossing) : (b.setXing x y c).time = b.time := rfl
@[simp] theorem Block.setXing_pmb (b : Block) (x y : Nat) (c : Crossing) : (b.setXing x y c).pmb = b.pmb := rfl
@[simp] theorem Block.setXing_lands (b : Block) (x y : Nat) (c : Crossing) : (b.setXing x y c).lands = b.lands := rfl
@[simp] theorem Block.setXing_mem (b : Block) (x y : Nat) (c : Crossing) : (b.setXing x y c).mem = b.mem := rfl
@[simp] theorem Block.setXing_hostMem (b : Block) (x y : Nat) (c : Crossing) : (b.setXing x y c).hostMem = b.hostMem := rfl
@[simp] theorem Block.setXing_reg (b : Block) (x y : Nat) (c : Crossing) (o : Nat) : (b.setXing x y c).reg o = b.reg o := rfl
@[simp] theorem Block.setXing_q (b : Block) (x y : Nat) (c : Crossing) (o : Nat) : (b.setXing x y c).q o = b.q o := rfl
@[simp] theorem Block.setXing_ctx (b : Block) (x y : Nat) (c : Crossing) (o : Nat) : (b.setXing x y c).ctx? o = b.ctx? o := rfl
@[simp] theorem Block.setXing_up (b : Block) (x y : Nat) (c : Crossing) : (b.setXing x y c).up = b.up := rfl
-- setInj
@[simp] theorem Block.setInj_now (b : Block) (u : Nat) (i : Inj) : (b.setInj u i).now = b.now := rfl
@[simp] theorem Block.setInj_timeNs (b : Block) (u : Nat) (i : Inj) : (b.setInj u i).timeNs = b.timeNs := rfl
@[simp] theorem Block.setInj_free (b : Block) (u : Nat) (i : Inj) : (b.setInj u i).free = b.free := rfl
@[simp] theorem Block.setInj_regs (b : Block) (u : Nat) (i : Inj) : (b.setInj u i).regs = b.regs := rfl
@[simp] theorem Block.setInj_retired (b : Block) (u : Nat) (i : Inj) : (b.setInj u i).retired = b.retired := rfl
@[simp] theorem Block.setInj_qs (b : Block) (u : Nat) (i : Inj) : (b.setInj u i).qs = b.qs := rfl
@[simp] theorem Block.setInj_live (b : Block) (u : Nat) (i : Inj) : (b.setInj u i).live = b.live := rfl
@[simp] theorem Block.setInj_ave (b : Block) (u : Nat) (i : Inj) : (b.setInj u i).ave = { b.ave with inj := SMap.put b.ave.inj u i } := rfl
@[simp] theorem Block.setInj_disp (b : Block) (u : Nat) (i : Inj) : (b.setInj u i).disp = b.disp := rfl
@[simp] theorem Block.setInj_host (b : Block) (u : Nat) (i : Inj) : (b.setInj u i).host = b.host := rfl
@[simp] theorem Block.setInj_evc (b : Block) (u : Nat) (i : Inj) : (b.setInj u i).evc = b.evc := rfl
@[simp] theorem Block.setInj_hub (b : Block) (u : Nat) (i : Inj) : (b.setInj u i).hub = b.hub := rfl
@[simp] theorem Block.setInj_kerb (b : Block) (u : Nat) (i : Inj) : (b.setInj u i).kerb = b.kerb := rfl
@[simp] theorem Block.setInj_stops (b : Block) (u : Nat) (i : Inj) : (b.setInj u i).stops = b.stops := rfl
@[simp] theorem Block.setInj_arch (b : Block) (u : Nat) (i : Inj) : (b.setInj u i).arch = b.arch := rfl
@[simp] theorem Block.setInj_cont (b : Block) (u : Nat) (i : Inj) : (b.setInj u i).cont = b.cont := rfl
@[simp] theorem Block.setInj_conv (b : Block) (u : Nat) (i : Inj) : (b.setInj u i).conv = b.conv := rfl
@[simp] theorem Block.setInj_colir (b : Block) (u : Nat) (i : Inj) : (b.setInj u i).colir = b.colir := rfl
@[simp] theorem Block.setInj_power (b : Block) (u : Nat) (i : Inj) : (b.setInj u i).power = b.power := rfl
@[simp] theorem Block.setInj_time (b : Block) (u : Nat) (i : Inj) : (b.setInj u i).time = b.time := rfl
@[simp] theorem Block.setInj_pmb (b : Block) (u : Nat) (i : Inj) : (b.setInj u i).pmb = b.pmb := rfl
@[simp] theorem Block.setInj_lands (b : Block) (u : Nat) (i : Inj) : (b.setInj u i).lands = b.lands := rfl
@[simp] theorem Block.setInj_mem (b : Block) (u : Nat) (i : Inj) : (b.setInj u i).mem = b.mem := rfl
@[simp] theorem Block.setInj_hostMem (b : Block) (u : Nat) (i : Inj) : (b.setInj u i).hostMem = b.hostMem := rfl
@[simp] theorem Block.setInj_reg (b : Block) (u : Nat) (i : Inj) (o : Nat) : (b.setInj u i).reg o = b.reg o := rfl
@[simp] theorem Block.setInj_q (b : Block) (u : Nat) (i : Inj) (o : Nat) : (b.setInj u i).q o = b.q o := rfl
@[simp] theorem Block.setInj_ctx (b : Block) (u : Nat) (i : Inj) (o : Nat) : (b.setInj u i).ctx? o = b.ctx? o := rfl
@[simp] theorem Block.setInj_up (b : Block) (u : Nat) (i : Inj) : (b.setInj u i).up = b.up := rfl
-- setGate
@[simp] theorem Block.setGate_now (b : Block) (g : Nat) (x : GateBox) : (b.setGate g x).now = b.now := rfl
@[simp] theorem Block.setGate_timeNs (b : Block) (g : Nat) (x : GateBox) : (b.setGate g x).timeNs = b.timeNs := rfl
@[simp] theorem Block.setGate_free (b : Block) (g : Nat) (x : GateBox) : (b.setGate g x).free = b.free := rfl
@[simp] theorem Block.setGate_regs (b : Block) (g : Nat) (x : GateBox) : (b.setGate g x).regs = b.regs := rfl
@[simp] theorem Block.setGate_retired (b : Block) (g : Nat) (x : GateBox) : (b.setGate g x).retired = b.retired := rfl
@[simp] theorem Block.setGate_qs (b : Block) (g : Nat) (x : GateBox) : (b.setGate g x).qs = b.qs := rfl
@[simp] theorem Block.setGate_live (b : Block) (g : Nat) (x : GateBox) : (b.setGate g x).live = b.live := rfl
@[simp] theorem Block.setGate_ave (b : Block) (g : Nat) (x : GateBox) : (b.setGate g x).ave = { b.ave with gates := SMap.put b.ave.gates g x } := rfl
@[simp] theorem Block.setGate_disp (b : Block) (g : Nat) (x : GateBox) : (b.setGate g x).disp = b.disp := rfl
@[simp] theorem Block.setGate_host (b : Block) (g : Nat) (x : GateBox) : (b.setGate g x).host = b.host := rfl
@[simp] theorem Block.setGate_evc (b : Block) (g : Nat) (x : GateBox) : (b.setGate g x).evc = b.evc := rfl
@[simp] theorem Block.setGate_hub (b : Block) (g : Nat) (x : GateBox) : (b.setGate g x).hub = b.hub := rfl
@[simp] theorem Block.setGate_kerb (b : Block) (g : Nat) (x : GateBox) : (b.setGate g x).kerb = b.kerb := rfl
@[simp] theorem Block.setGate_stops (b : Block) (g : Nat) (x : GateBox) : (b.setGate g x).stops = b.stops := rfl
@[simp] theorem Block.setGate_arch (b : Block) (g : Nat) (x : GateBox) : (b.setGate g x).arch = b.arch := rfl
@[simp] theorem Block.setGate_cont (b : Block) (g : Nat) (x : GateBox) : (b.setGate g x).cont = b.cont := rfl
@[simp] theorem Block.setGate_conv (b : Block) (g : Nat) (x : GateBox) : (b.setGate g x).conv = b.conv := rfl
@[simp] theorem Block.setGate_colir (b : Block) (g : Nat) (x : GateBox) : (b.setGate g x).colir = b.colir := rfl
@[simp] theorem Block.setGate_power (b : Block) (g : Nat) (x : GateBox) : (b.setGate g x).power = b.power := rfl
@[simp] theorem Block.setGate_time (b : Block) (g : Nat) (x : GateBox) : (b.setGate g x).time = b.time := rfl
@[simp] theorem Block.setGate_pmb (b : Block) (g : Nat) (x : GateBox) : (b.setGate g x).pmb = b.pmb := rfl
@[simp] theorem Block.setGate_lands (b : Block) (g : Nat) (x : GateBox) : (b.setGate g x).lands = b.lands := rfl
@[simp] theorem Block.setGate_mem (b : Block) (g : Nat) (x : GateBox) : (b.setGate g x).mem = b.mem := rfl
@[simp] theorem Block.setGate_hostMem (b : Block) (g : Nat) (x : GateBox) : (b.setGate g x).hostMem = b.hostMem := rfl
@[simp] theorem Block.setGate_reg (b : Block) (g : Nat) (x : GateBox) (o : Nat) : (b.setGate g x).reg o = b.reg o := rfl
@[simp] theorem Block.setGate_q (b : Block) (g : Nat) (x : GateBox) (o : Nat) : (b.setGate g x).q o = b.q o := rfl
@[simp] theorem Block.setGate_ctx (b : Block) (g : Nat) (x : GateBox) (o : Nat) : (b.setGate g x).ctx? o = b.ctx? o := rfl
@[simp] theorem Block.setGate_up (b : Block) (g : Nat) (x : GateBox) : (b.setGate g x).up = b.up := rfl
-- setPlz
@[simp] theorem Block.setPlz_now (b : Block) (q : Nat) (p : Plaza) : (b.setPlz q p).now = b.now := rfl
@[simp] theorem Block.setPlz_timeNs (b : Block) (q : Nat) (p : Plaza) : (b.setPlz q p).timeNs = b.timeNs := rfl
@[simp] theorem Block.setPlz_free (b : Block) (q : Nat) (p : Plaza) : (b.setPlz q p).free = b.free := rfl
@[simp] theorem Block.setPlz_regs (b : Block) (q : Nat) (p : Plaza) : (b.setPlz q p).regs = b.regs := rfl
@[simp] theorem Block.setPlz_retired (b : Block) (q : Nat) (p : Plaza) : (b.setPlz q p).retired = b.retired := rfl
@[simp] theorem Block.setPlz_qs (b : Block) (q : Nat) (p : Plaza) : (b.setPlz q p).qs = SMap.put b.qs q { b.q q with plaza := p } := rfl
@[simp] theorem Block.setPlz_live (b : Block) (q : Nat) (p : Plaza) : (b.setPlz q p).live = b.live := rfl
@[simp] theorem Block.setPlz_ave (b : Block) (q : Nat) (p : Plaza) : (b.setPlz q p).ave = b.ave := rfl
@[simp] theorem Block.setPlz_disp (b : Block) (q : Nat) (p : Plaza) : (b.setPlz q p).disp = b.disp := rfl
@[simp] theorem Block.setPlz_host (b : Block) (q : Nat) (p : Plaza) : (b.setPlz q p).host = b.host := rfl
@[simp] theorem Block.setPlz_evc (b : Block) (q : Nat) (p : Plaza) : (b.setPlz q p).evc = b.evc := rfl
@[simp] theorem Block.setPlz_hub (b : Block) (q : Nat) (p : Plaza) : (b.setPlz q p).hub = b.hub := rfl
@[simp] theorem Block.setPlz_kerb (b : Block) (q : Nat) (p : Plaza) : (b.setPlz q p).kerb = b.kerb := rfl
@[simp] theorem Block.setPlz_stops (b : Block) (q : Nat) (p : Plaza) : (b.setPlz q p).stops = b.stops := rfl
@[simp] theorem Block.setPlz_arch (b : Block) (q : Nat) (p : Plaza) : (b.setPlz q p).arch = b.arch := rfl
@[simp] theorem Block.setPlz_cont (b : Block) (q : Nat) (p : Plaza) : (b.setPlz q p).cont = b.cont := rfl
@[simp] theorem Block.setPlz_conv (b : Block) (q : Nat) (p : Plaza) : (b.setPlz q p).conv = b.conv := rfl
@[simp] theorem Block.setPlz_colir (b : Block) (q : Nat) (p : Plaza) : (b.setPlz q p).colir = b.colir := rfl
@[simp] theorem Block.setPlz_power (b : Block) (q : Nat) (p : Plaza) : (b.setPlz q p).power = b.power := rfl
@[simp] theorem Block.setPlz_time (b : Block) (q : Nat) (p : Plaza) : (b.setPlz q p).time = b.time := rfl
@[simp] theorem Block.setPlz_pmb (b : Block) (q : Nat) (p : Plaza) : (b.setPlz q p).pmb = b.pmb := rfl
@[simp] theorem Block.setPlz_lands (b : Block) (q : Nat) (p : Plaza) : (b.setPlz q p).lands = b.lands := rfl
@[simp] theorem Block.setPlz_mem (b : Block) (q : Nat) (p : Plaza) : (b.setPlz q p).mem = b.mem := rfl
@[simp] theorem Block.setPlz_hostMem (b : Block) (q : Nat) (p : Plaza) : (b.setPlz q p).hostMem = b.hostMem := rfl
@[simp] theorem Block.setPlz_reg (b : Block) (q : Nat) (p : Plaza) (o : Nat) : (b.setPlz q p).reg o = b.reg o := rfl
@[simp] theorem Block.setPlz_ctx (b : Block) (q : Nat) (p : Plaza) (o : Nat) : (b.setPlz q p).ctx? o = b.ctx? o := rfl
@[simp] theorem Block.setPlz_up (b : Block) (q : Nat) (p : Plaza) : (b.setPlz q p).up = b.up := rfl
-- setLink
@[simp] theorem Block.setLink_now (b : Block) (k : Nat) (l : ConvLink) : (b.setLink k l).now = b.now := rfl
@[simp] theorem Block.setLink_timeNs (b : Block) (k : Nat) (l : ConvLink) : (b.setLink k l).timeNs = b.timeNs := rfl
@[simp] theorem Block.setLink_free (b : Block) (k : Nat) (l : ConvLink) : (b.setLink k l).free = b.free := rfl
@[simp] theorem Block.setLink_regs (b : Block) (k : Nat) (l : ConvLink) : (b.setLink k l).regs = b.regs := rfl
@[simp] theorem Block.setLink_retired (b : Block) (k : Nat) (l : ConvLink) : (b.setLink k l).retired = b.retired := rfl
@[simp] theorem Block.setLink_qs (b : Block) (k : Nat) (l : ConvLink) : (b.setLink k l).qs = b.qs := rfl
@[simp] theorem Block.setLink_live (b : Block) (k : Nat) (l : ConvLink) : (b.setLink k l).live = b.live := rfl
@[simp] theorem Block.setLink_ave (b : Block) (k : Nat) (l : ConvLink) : (b.setLink k l).ave = b.ave := rfl
@[simp] theorem Block.setLink_disp (b : Block) (k : Nat) (l : ConvLink) : (b.setLink k l).disp = b.disp := rfl
@[simp] theorem Block.setLink_host (b : Block) (k : Nat) (l : ConvLink) : (b.setLink k l).host = b.host := rfl
@[simp] theorem Block.setLink_evc (b : Block) (k : Nat) (l : ConvLink) : (b.setLink k l).evc = b.evc := rfl
@[simp] theorem Block.setLink_hub (b : Block) (k : Nat) (l : ConvLink) : (b.setLink k l).hub = b.hub := rfl
@[simp] theorem Block.setLink_kerb (b : Block) (k : Nat) (l : ConvLink) : (b.setLink k l).kerb = b.kerb := rfl
@[simp] theorem Block.setLink_stops (b : Block) (k : Nat) (l : ConvLink) : (b.setLink k l).stops = b.stops := rfl
@[simp] theorem Block.setLink_arch (b : Block) (k : Nat) (l : ConvLink) : (b.setLink k l).arch = b.arch := rfl
@[simp] theorem Block.setLink_cont (b : Block) (k : Nat) (l : ConvLink) : (b.setLink k l).cont = b.cont := rfl
@[simp] theorem Block.setLink_conv (b : Block) (k : Nat) (l : ConvLink) : (b.setLink k l).conv = { b.conv with links := SMap.put b.conv.links k l } := rfl
@[simp] theorem Block.setLink_colir (b : Block) (k : Nat) (l : ConvLink) : (b.setLink k l).colir = b.colir := rfl
@[simp] theorem Block.setLink_power (b : Block) (k : Nat) (l : ConvLink) : (b.setLink k l).power = b.power := rfl
@[simp] theorem Block.setLink_time (b : Block) (k : Nat) (l : ConvLink) : (b.setLink k l).time = b.time := rfl
@[simp] theorem Block.setLink_pmb (b : Block) (k : Nat) (l : ConvLink) : (b.setLink k l).pmb = b.pmb := rfl
@[simp] theorem Block.setLink_lands (b : Block) (k : Nat) (l : ConvLink) : (b.setLink k l).lands = b.lands := rfl
@[simp] theorem Block.setLink_mem (b : Block) (k : Nat) (l : ConvLink) : (b.setLink k l).mem = b.mem := rfl
@[simp] theorem Block.setLink_hostMem (b : Block) (k : Nat) (l : ConvLink) : (b.setLink k l).hostMem = b.hostMem := rfl
@[simp] theorem Block.setLink_reg (b : Block) (k : Nat) (l : ConvLink) (o : Nat) : (b.setLink k l).reg o = b.reg o := rfl
@[simp] theorem Block.setLink_q (b : Block) (k : Nat) (l : ConvLink) (o : Nat) : (b.setLink k l).q o = b.q o := rfl
@[simp] theorem Block.setLink_ctx (b : Block) (k : Nat) (l : ConvLink) (o : Nat) : (b.setLink k l).ctx? o = b.ctx? o := rfl
@[simp] theorem Block.setLink_up (b : Block) (k : Nat) (l : ConvLink) : (b.setLink k l).up = b.up := rfl
-- setDrive
@[simp] theorem Block.setDrive_now (b : Block) (d : Nat) (x : Drive) : (b.setDrive d x).now = b.now := rfl
@[simp] theorem Block.setDrive_timeNs (b : Block) (d : Nat) (x : Drive) : (b.setDrive d x).timeNs = b.timeNs := rfl
@[simp] theorem Block.setDrive_free (b : Block) (d : Nat) (x : Drive) : (b.setDrive d x).free = b.free := rfl
@[simp] theorem Block.setDrive_regs (b : Block) (d : Nat) (x : Drive) : (b.setDrive d x).regs = b.regs := rfl
@[simp] theorem Block.setDrive_retired (b : Block) (d : Nat) (x : Drive) : (b.setDrive d x).retired = b.retired := rfl
@[simp] theorem Block.setDrive_qs (b : Block) (d : Nat) (x : Drive) : (b.setDrive d x).qs = b.qs := rfl
@[simp] theorem Block.setDrive_live (b : Block) (d : Nat) (x : Drive) : (b.setDrive d x).live = b.live := rfl
@[simp] theorem Block.setDrive_ave (b : Block) (d : Nat) (x : Drive) : (b.setDrive d x).ave = b.ave := rfl
@[simp] theorem Block.setDrive_disp (b : Block) (d : Nat) (x : Drive) : (b.setDrive d x).disp = b.disp := rfl
@[simp] theorem Block.setDrive_host (b : Block) (d : Nat) (x : Drive) : (b.setDrive d x).host = b.host := rfl
@[simp] theorem Block.setDrive_evc (b : Block) (d : Nat) (x : Drive) : (b.setDrive d x).evc = b.evc := rfl
@[simp] theorem Block.setDrive_hub (b : Block) (d : Nat) (x : Drive) : (b.setDrive d x).hub = b.hub := rfl
@[simp] theorem Block.setDrive_kerb (b : Block) (d : Nat) (x : Drive) : (b.setDrive d x).kerb = b.kerb := rfl
@[simp] theorem Block.setDrive_stops (b : Block) (d : Nat) (x : Drive) : (b.setDrive d x).stops = b.stops := rfl
@[simp] theorem Block.setDrive_arch (b : Block) (d : Nat) (x : Drive) : (b.setDrive d x).arch = b.arch := rfl
@[simp] theorem Block.setDrive_cont (b : Block) (d : Nat) (x : Drive) : (b.setDrive d x).cont = b.cont := rfl
@[simp] theorem Block.setDrive_conv (b : Block) (d : Nat) (x : Drive) : (b.setDrive d x).conv = { b.conv with drives := SMap.put b.conv.drives d x } := rfl
@[simp] theorem Block.setDrive_colir (b : Block) (d : Nat) (x : Drive) : (b.setDrive d x).colir = b.colir := rfl
@[simp] theorem Block.setDrive_power (b : Block) (d : Nat) (x : Drive) : (b.setDrive d x).power = b.power := rfl
@[simp] theorem Block.setDrive_time (b : Block) (d : Nat) (x : Drive) : (b.setDrive d x).time = b.time := rfl
@[simp] theorem Block.setDrive_pmb (b : Block) (d : Nat) (x : Drive) : (b.setDrive d x).pmb = b.pmb := rfl
@[simp] theorem Block.setDrive_lands (b : Block) (d : Nat) (x : Drive) : (b.setDrive d x).lands = b.lands := rfl
@[simp] theorem Block.setDrive_mem (b : Block) (d : Nat) (x : Drive) : (b.setDrive d x).mem = b.mem := rfl
@[simp] theorem Block.setDrive_hostMem (b : Block) (d : Nat) (x : Drive) : (b.setDrive d x).hostMem = b.hostMem := rfl
@[simp] theorem Block.setDrive_reg (b : Block) (d : Nat) (x : Drive) (o : Nat) : (b.setDrive d x).reg o = b.reg o := rfl
@[simp] theorem Block.setDrive_q (b : Block) (d : Nat) (x : Drive) (o : Nat) : (b.setDrive d x).q o = b.q o := rfl
@[simp] theorem Block.setDrive_ctx (b : Block) (d : Nat) (x : Drive) (o : Nat) : (b.setDrive d x).ctx? o = b.ctx? o := rfl
@[simp] theorem Block.setDrive_up (b : Block) (d : Nat) (x : Drive) : (b.setDrive d x).up = b.up := rfl
-- setCport
@[simp] theorem Block.setCport_now (b : Block) (p : Nat) (x : CPort) : (b.setCport p x).now = b.now := rfl
@[simp] theorem Block.setCport_timeNs (b : Block) (p : Nat) (x : CPort) : (b.setCport p x).timeNs = b.timeNs := rfl
@[simp] theorem Block.setCport_free (b : Block) (p : Nat) (x : CPort) : (b.setCport p x).free = b.free := rfl
@[simp] theorem Block.setCport_regs (b : Block) (p : Nat) (x : CPort) : (b.setCport p x).regs = b.regs := rfl
@[simp] theorem Block.setCport_retired (b : Block) (p : Nat) (x : CPort) : (b.setCport p x).retired = b.retired := rfl
@[simp] theorem Block.setCport_qs (b : Block) (p : Nat) (x : CPort) : (b.setCport p x).qs = b.qs := rfl
@[simp] theorem Block.setCport_live (b : Block) (p : Nat) (x : CPort) : (b.setCport p x).live = b.live := rfl
@[simp] theorem Block.setCport_ave (b : Block) (p : Nat) (x : CPort) : (b.setCport p x).ave = b.ave := rfl
@[simp] theorem Block.setCport_disp (b : Block) (p : Nat) (x : CPort) : (b.setCport p x).disp = b.disp := rfl
@[simp] theorem Block.setCport_host (b : Block) (p : Nat) (x : CPort) : (b.setCport p x).host = b.host := rfl
@[simp] theorem Block.setCport_evc (b : Block) (p : Nat) (x : CPort) : (b.setCport p x).evc = b.evc := rfl
@[simp] theorem Block.setCport_hub (b : Block) (p : Nat) (x : CPort) : (b.setCport p x).hub = b.hub := rfl
@[simp] theorem Block.setCport_kerb (b : Block) (p : Nat) (x : CPort) : (b.setCport p x).kerb = b.kerb := rfl
@[simp] theorem Block.setCport_stops (b : Block) (p : Nat) (x : CPort) : (b.setCport p x).stops = b.stops := rfl
@[simp] theorem Block.setCport_arch (b : Block) (p : Nat) (x : CPort) : (b.setCport p x).arch = b.arch := rfl
@[simp] theorem Block.setCport_cont (b : Block) (p : Nat) (x : CPort) : (b.setCport p x).cont = b.cont := rfl
@[simp] theorem Block.setCport_conv (b : Block) (p : Nat) (x : CPort) : (b.setCport p x).conv = b.conv := rfl
@[simp] theorem Block.setCport_colir (b : Block) (p : Nat) (x : CPort) : (b.setCport p x).colir = { b.colir with ports := SMap.put b.colir.ports p x } := rfl
@[simp] theorem Block.setCport_power (b : Block) (p : Nat) (x : CPort) : (b.setCport p x).power = b.power := rfl
@[simp] theorem Block.setCport_time (b : Block) (p : Nat) (x : CPort) : (b.setCport p x).time = b.time := rfl
@[simp] theorem Block.setCport_pmb (b : Block) (p : Nat) (x : CPort) : (b.setCport p x).pmb = b.pmb := rfl
@[simp] theorem Block.setCport_lands (b : Block) (p : Nat) (x : CPort) : (b.setCport p x).lands = b.lands := rfl
@[simp] theorem Block.setCport_mem (b : Block) (p : Nat) (x : CPort) : (b.setCport p x).mem = b.mem := rfl
@[simp] theorem Block.setCport_hostMem (b : Block) (p : Nat) (x : CPort) : (b.setCport p x).hostMem = b.hostMem := rfl
@[simp] theorem Block.setCport_reg (b : Block) (p : Nat) (x : CPort) (o : Nat) : (b.setCport p x).reg o = b.reg o := rfl
@[simp] theorem Block.setCport_q (b : Block) (p : Nat) (x : CPort) (o : Nat) : (b.setCport p x).q o = b.q o := rfl
@[simp] theorem Block.setCport_ctx (b : Block) (p : Nat) (x : CPort) (o : Nat) : (b.setCport p x).ctx? o = b.ctx? o := rfl
@[simp] theorem Block.setCport_up (b : Block) (p : Nat) (x : CPort) : (b.setCport p x).up = b.up := rfl

-- bump: a saturating counter
theorem Block.bump_eq (b : Block) (off n : Nat) : b.bump off n = b ∨ b.bump off n = b.setReg off (satAdd (b.reg off) n) := by
  unfold Block.bump; split
  · exact .inl rfl
  · exact .inr rfl

@[simp] theorem Block.bump_now (b : Block) (off n : Nat) : (b.bump off n).now = b.now := by unfold Block.bump; split <;> rfl
@[simp] theorem Block.bump_timeNs (b : Block) (off n : Nat) : (b.bump off n).timeNs = b.timeNs := by unfold Block.bump; split <;> rfl
@[simp] theorem Block.bump_free (b : Block) (off n : Nat) : (b.bump off n).free = b.free := by unfold Block.bump; split <;> rfl
@[simp] theorem Block.bump_retired (b : Block) (off n : Nat) : (b.bump off n).retired = b.retired := by unfold Block.bump; split <;> rfl
@[simp] theorem Block.bump_qs (b : Block) (off n : Nat) : (b.bump off n).qs = b.qs := by unfold Block.bump; split <;> rfl
@[simp] theorem Block.bump_live (b : Block) (off n : Nat) : (b.bump off n).live = b.live := by unfold Block.bump; split <;> rfl
@[simp] theorem Block.bump_ave (b : Block) (off n : Nat) : (b.bump off n).ave = b.ave := by unfold Block.bump; split <;> rfl
@[simp] theorem Block.bump_disp (b : Block) (off n : Nat) : (b.bump off n).disp = b.disp := by unfold Block.bump; split <;> rfl
@[simp] theorem Block.bump_host (b : Block) (off n : Nat) : (b.bump off n).host = b.host := by unfold Block.bump; split <;> rfl
@[simp] theorem Block.bump_evc (b : Block) (off n : Nat) : (b.bump off n).evc = b.evc := by unfold Block.bump; split <;> rfl
@[simp] theorem Block.bump_hub (b : Block) (off n : Nat) : (b.bump off n).hub = b.hub := by unfold Block.bump; split <;> rfl
@[simp] theorem Block.bump_kerb (b : Block) (off n : Nat) : (b.bump off n).kerb = b.kerb := by unfold Block.bump; split <;> rfl
@[simp] theorem Block.bump_stops (b : Block) (off n : Nat) : (b.bump off n).stops = b.stops := by unfold Block.bump; split <;> rfl
@[simp] theorem Block.bump_arch (b : Block) (off n : Nat) : (b.bump off n).arch = b.arch := by unfold Block.bump; split <;> rfl
@[simp] theorem Block.bump_cont (b : Block) (off n : Nat) : (b.bump off n).cont = b.cont := by unfold Block.bump; split <;> rfl
@[simp] theorem Block.bump_conv (b : Block) (off n : Nat) : (b.bump off n).conv = b.conv := by unfold Block.bump; split <;> rfl
@[simp] theorem Block.bump_colir (b : Block) (off n : Nat) : (b.bump off n).colir = b.colir := by unfold Block.bump; split <;> rfl
@[simp] theorem Block.bump_power (b : Block) (off n : Nat) : (b.bump off n).power = b.power := by unfold Block.bump; split <;> rfl
@[simp] theorem Block.bump_time (b : Block) (off n : Nat) : (b.bump off n).time = b.time := by unfold Block.bump; split <;> rfl
@[simp] theorem Block.bump_pmb (b : Block) (off n : Nat) : (b.bump off n).pmb = b.pmb := by unfold Block.bump; split <;> rfl
@[simp] theorem Block.bump_lands (b : Block) (off n : Nat) : (b.bump off n).lands = b.lands := by unfold Block.bump; split <;> rfl
@[simp] theorem Block.bump_mem (b : Block) (off n : Nat) : (b.bump off n).mem = b.mem := by unfold Block.bump; split <;> rfl
@[simp] theorem Block.bump_hostMem (b : Block) (off n : Nat) : (b.bump off n).hostMem = b.hostMem := by unfold Block.bump; split <;> rfl
@[simp] theorem Block.bump_q (b : Block) (off n p : Nat) : (b.bump off n).q p = b.q p := by unfold Block.bump; split <;> rfl
@[simp] theorem Block.bump_ctx (b : Block) (off n c : Nat) : (b.bump off n).ctx? c = b.ctx? c := by unfold Block.bump; split <;> rfl
@[simp] theorem Block.bump_up (b : Block) (off n : Nat) : (b.bump off n).up = b.up := by unfold Block.bump; split <;> rfl

-- Reading registers, Quarters and contexts back
@[simp] theorem Block.reg_setReg_same (b : Block) (off v : Nat) : (b.setReg off v).reg off = v % 2 ^ 32 := by
  simp [Block.reg, Block.setReg]

theorem Block.reg_setReg_ne (b : Block) {off o : Nat} (v : Nat) (h : o ≠ off) : (b.setReg off v).reg o = b.reg o := by
  simp [Block.reg, Block.setReg, SMap.find?_put_ne _ _ h]

theorem Block.reg_setReg (b : Block) (off v o : Nat) : (b.setReg off v).reg o = if o = off then v % 2 ^ 32 else b.reg o := by
  split
  · next h => subst h; simp
  · next h => exact b.reg_setReg_ne v h

theorem Block.reg_bump_ne (b : Block) {off o : Nat} (n : Nat) (h : o ≠ off) : (b.bump off n).reg o = b.reg o := by
  rcases b.bump_eq off n with e | e <;> rw [e]
  exact b.reg_setReg_ne _ h

theorem Block.reg_bump_one (b : Block) (off : Nat) : (b.bump off).reg off = satAdd (b.reg off) 1 := by
  simp only [Block.bump, Nat.one_ne_zero, if_false, Block.reg_setReg_same]
  unfold satAdd
  omega

@[simp] theorem Block.q_setQ_same (b : Block) (p : Nat) (x : Quarter) : (b.setQ p x).q p = x := by simp [Block.q]
theorem Block.q_setQ_ne (b : Block) {p o : Nat} (x : Quarter) (h : o ≠ p) : (b.setQ p x).q o = b.q o := by
  simp [Block.q, SMap.get_put_ne _ _ _ h]
@[simp] theorem Quarter.pe_setPe_same (q : Quarter) (n : Nat) (p : PE) : (q.setPe n p).pe n = p := by simp [Quarter.pe, Quarter.setPe]
theorem Quarter.pe_setPe_ne (q : Quarter) {n m : Nat} (p : PE) (h : m ≠ n) : (q.setPe n p).pe m = q.pe m := by
  simp [Quarter.pe, Quarter.setPe, SMap.get_put_ne _ _ _ h]
@[simp] theorem PE.slot_setSlot_same (p : PE) (n : Nat) (s : Slot) : (p.setSlot n s).slot n = s := by simp [PE.slot, PE.setSlot]
theorem PE.slot_setSlot_ne (p : PE) {n m : Nat} (s : Slot) (h : m ≠ n) : (p.setSlot n s).slot m = p.slot m := by
  simp [PE.slot, PE.setSlot, SMap.get_put_ne _ _ _ h]
@[simp] theorem Quarter.slot_setSlot_same (q : Quarter) (pe n : Nat) (s : Slot) : (q.setSlot pe n s).slot pe n = s := by
  simp [Quarter.slot, Quarter.setSlot]
@[simp] theorem Slot.rd_wr_same (s : Slot) (n : BitVec 5) (x : W64) : (s.wr n x).rd n = x := by simp [Slot.rd, Slot.wr]
theorem Slot.rd_wr_ne (s : Slot) {n m : BitVec 5} (x : W64) (h : m ≠ n) : (s.wr n x).rd m = s.rd m := by
  have : m.toNat ≠ n.toNat := fun e => h (BitVec.eq_of_toNat_eq e)
  simp [Slot.rd, Slot.wr, SMap.get_put_ne _ _ _ this]
@[simp] theorem Slot.loop_setLoop_same (s : Slot) (n : Nat) (l : Loop) : (s.setLoop n l).loop n = l := by simp [Slot.loop, Slot.setLoop]
@[simp] theorem Quarter.lane_setLane_same (q : Quarter) (j : Nat) (l : Lane) : (q.setLane j l).lane j = l := by
  simp [Quarter.lane, Quarter.setLane]
@[simp] theorem Block.ctx_setCtx_same (b : Block) (c : Nat) (x : Ctx) : (b.setCtx c x).ctx? c = some x := by simp [Block.ctx?]
theorem Block.ctx_setCtx_ne (b : Block) {c d : Nat} (x : Ctx) (h : d ≠ c) : (b.setCtx c x).ctx? d = b.ctx? d := by
  simp [Block.ctx?, SMap.find?_put_ne _ _ h]
@[simp] theorem Block.sq_setSq_same (b : Block) (r : Nat) (x : SQ) : (b.setSq r x).sq r = x := by simp [Block.sq]
@[simp] theorem Block.cq_setCq_same (b : Block) (c : Nat) (x : CQ) : (b.setCq c x).cq c = x := by simp [Block.cq]
@[simp] theorem Block.eq_setEq_same (b : Block) (e : Nat) (x : EQ) : (b.setEq e x).eq e = x := by simp [Block.eq]
@[simp] theorem Block.ring_setRing_same (b : Block) (k : Nat) (x : Ring) : (b.setRing k x).ring k = x := by simp [Block.ring]
@[simp] theorem Block.cport_setCport_same (b : Block) (p : Nat) (x : CPort) : (b.setCport p x).cport p = x := by simp [Block.cport]

-- The Quarter
-- setPe
@[simp] theorem Quarter.setPe_code (q : Quarter) (n : Nat) (p : PE) : (q.setPe n p).code = q.code := rfl
@[simp] theorem Quarter.setPe_nodes (q : Quarter) (n : Nat) (p : PE) : (q.setPe n p).nodes = q.nodes := rfl
@[simp] theorem Quarter.setPe_nodesLen (q : Quarter) (n : Nat) (p : PE) : (q.setPe n p).nodesLen = q.nodesLen := rfl
@[simp] theorem Quarter.setPe_modes (q : Quarter) (n : Nat) (p : PE) : (q.setPe n p).modes = q.modes := rfl
@[simp] theorem Quarter.setPe_pes (q : Quarter) (n : Nat) (p : PE) : (q.setPe n p).pes = SMap.put q.pes n p := rfl
@[simp] theorem Quarter.setPe_frame (q : Quarter) (n : Nat) (p : PE) : (q.setPe n p).frame = q.frame := rfl
@[simp] theorem Quarter.setPe_dirty (q : Quarter) (n : Nat) (p : PE) : (q.setPe n p).dirty = q.dirty := rfl
@[simp] theorem Quarter.setPe_pend (q : Quarter) (n : Nat) (p : PE) : (q.setPe n p).pend = q.pend := rfl
@[simp] theorem Quarter.setPe_saved (q : Quarter) (n : Nat) (p : PE) : (q.setPe n p).saved = q.saved := rfl
@[simp] theorem Quarter.setPe_park (q : Quarter) (n : Nat) (p : PE) : (q.setPe n p).park = q.park := rfl
@[simp] theorem Quarter.setPe_releases (q : Quarter) (n : Nat) (p : PE) : (q.setPe n p).releases = q.releases := rfl
@[simp] theorem Quarter.setPe_lanes (q : Quarter) (n : Nat) (p : PE) : (q.setPe n p).lanes = q.lanes := rfl
@[simp] theorem Quarter.setPe_arriving (q : Quarter) (n : Nat) (p : PE) : (q.setPe n p).arriving = q.arriving := rfl
@[simp] theorem Quarter.setPe_asm (q : Quarter) (n : Nat) (p : PE) : (q.setPe n p).asm = q.asm := rfl
@[simp] theorem Quarter.setPe_pbq (q : Quarter) (n : Nat) (p : PE) : (q.setPe n p).pbq = q.pbq := rfl
@[simp] theorem Quarter.setPe_hits (q : Quarter) (n : Nat) (p : PE) : (q.setPe n p).hits = q.hits := rfl
@[simp] theorem Quarter.setPe_bankLast (q : Quarter) (n : Nat) (p : PE) : (q.setPe n p).bankLast = q.bankLast := rfl
@[simp] theorem Quarter.setPe_wb (q : Quarter) (n : Nat) (p : PE) : (q.setPe n p).wb = q.wb := rfl
@[simp] theorem Quarter.setPe_vc1Out (q : Quarter) (n : Nat) (p : PE) : (q.setPe n p).vc1Out = q.vc1Out := rfl
@[simp] theorem Quarter.setPe_plaza (q : Quarter) (n : Nat) (p : PE) : (q.setPe n p).plaza = q.plaza := rfl
@[simp] theorem Quarter.setPe_gates (q : Quarter) (n : Nat) (p : PE) : (q.setPe n p).gates = q.gates := rfl
@[simp] theorem Quarter.setPe_sfLimit (q : Quarter) (n : Nat) (p : PE) : (q.setPe n p).sfLimit = q.sfLimit := rfl
@[simp] theorem Quarter.setPe_retireIn (q : Quarter) (n : Nat) (p : PE) : (q.setPe n p).retireIn = q.retireIn := rfl
-- setSlot
@[simp] theorem Quarter.setSlot_code (q : Quarter) (pe n : Nat) (s : Slot) : (q.setSlot pe n s).code = q.code := rfl
@[simp] theorem Quarter.setSlot_nodes (q : Quarter) (pe n : Nat) (s : Slot) : (q.setSlot pe n s).nodes = q.nodes := rfl
@[simp] theorem Quarter.setSlot_nodesLen (q : Quarter) (pe n : Nat) (s : Slot) : (q.setSlot pe n s).nodesLen = q.nodesLen := rfl
@[simp] theorem Quarter.setSlot_modes (q : Quarter) (pe n : Nat) (s : Slot) : (q.setSlot pe n s).modes = q.modes := rfl
@[simp] theorem Quarter.setSlot_pes (q : Quarter) (pe n : Nat) (s : Slot) : (q.setSlot pe n s).pes = SMap.put q.pes pe ((q.pe pe).setSlot n s) := rfl
@[simp] theorem Quarter.setSlot_frame (q : Quarter) (pe n : Nat) (s : Slot) : (q.setSlot pe n s).frame = q.frame := rfl
@[simp] theorem Quarter.setSlot_dirty (q : Quarter) (pe n : Nat) (s : Slot) : (q.setSlot pe n s).dirty = q.dirty := rfl
@[simp] theorem Quarter.setSlot_pend (q : Quarter) (pe n : Nat) (s : Slot) : (q.setSlot pe n s).pend = q.pend := rfl
@[simp] theorem Quarter.setSlot_saved (q : Quarter) (pe n : Nat) (s : Slot) : (q.setSlot pe n s).saved = q.saved := rfl
@[simp] theorem Quarter.setSlot_park (q : Quarter) (pe n : Nat) (s : Slot) : (q.setSlot pe n s).park = q.park := rfl
@[simp] theorem Quarter.setSlot_releases (q : Quarter) (pe n : Nat) (s : Slot) : (q.setSlot pe n s).releases = q.releases := rfl
@[simp] theorem Quarter.setSlot_lanes (q : Quarter) (pe n : Nat) (s : Slot) : (q.setSlot pe n s).lanes = q.lanes := rfl
@[simp] theorem Quarter.setSlot_arriving (q : Quarter) (pe n : Nat) (s : Slot) : (q.setSlot pe n s).arriving = q.arriving := rfl
@[simp] theorem Quarter.setSlot_asm (q : Quarter) (pe n : Nat) (s : Slot) : (q.setSlot pe n s).asm = q.asm := rfl
@[simp] theorem Quarter.setSlot_pbq (q : Quarter) (pe n : Nat) (s : Slot) : (q.setSlot pe n s).pbq = q.pbq := rfl
@[simp] theorem Quarter.setSlot_hits (q : Quarter) (pe n : Nat) (s : Slot) : (q.setSlot pe n s).hits = q.hits := rfl
@[simp] theorem Quarter.setSlot_bankLast (q : Quarter) (pe n : Nat) (s : Slot) : (q.setSlot pe n s).bankLast = q.bankLast := rfl
@[simp] theorem Quarter.setSlot_wb (q : Quarter) (pe n : Nat) (s : Slot) : (q.setSlot pe n s).wb = q.wb := rfl
@[simp] theorem Quarter.setSlot_vc1Out (q : Quarter) (pe n : Nat) (s : Slot) : (q.setSlot pe n s).vc1Out = q.vc1Out := rfl
@[simp] theorem Quarter.setSlot_plaza (q : Quarter) (pe n : Nat) (s : Slot) : (q.setSlot pe n s).plaza = q.plaza := rfl
@[simp] theorem Quarter.setSlot_gates (q : Quarter) (pe n : Nat) (s : Slot) : (q.setSlot pe n s).gates = q.gates := rfl
@[simp] theorem Quarter.setSlot_sfLimit (q : Quarter) (pe n : Nat) (s : Slot) : (q.setSlot pe n s).sfLimit = q.sfLimit := rfl
@[simp] theorem Quarter.setSlot_retireIn (q : Quarter) (pe n : Nat) (s : Slot) : (q.setSlot pe n s).retireIn = q.retireIn := rfl
-- setLane
@[simp] theorem Quarter.setLane_code (q : Quarter) (j : Nat) (l : Lane) : (q.setLane j l).code = q.code := rfl
@[simp] theorem Quarter.setLane_nodes (q : Quarter) (j : Nat) (l : Lane) : (q.setLane j l).nodes = q.nodes := rfl
@[simp] theorem Quarter.setLane_nodesLen (q : Quarter) (j : Nat) (l : Lane) : (q.setLane j l).nodesLen = q.nodesLen := rfl
@[simp] theorem Quarter.setLane_modes (q : Quarter) (j : Nat) (l : Lane) : (q.setLane j l).modes = q.modes := rfl
@[simp] theorem Quarter.setLane_pes (q : Quarter) (j : Nat) (l : Lane) : (q.setLane j l).pes = q.pes := rfl
@[simp] theorem Quarter.setLane_frame (q : Quarter) (j : Nat) (l : Lane) : (q.setLane j l).frame = q.frame := rfl
@[simp] theorem Quarter.setLane_dirty (q : Quarter) (j : Nat) (l : Lane) : (q.setLane j l).dirty = q.dirty := rfl
@[simp] theorem Quarter.setLane_pend (q : Quarter) (j : Nat) (l : Lane) : (q.setLane j l).pend = q.pend := rfl
@[simp] theorem Quarter.setLane_saved (q : Quarter) (j : Nat) (l : Lane) : (q.setLane j l).saved = q.saved := rfl
@[simp] theorem Quarter.setLane_park (q : Quarter) (j : Nat) (l : Lane) : (q.setLane j l).park = q.park := rfl
@[simp] theorem Quarter.setLane_releases (q : Quarter) (j : Nat) (l : Lane) : (q.setLane j l).releases = q.releases := rfl
@[simp] theorem Quarter.setLane_lanes (q : Quarter) (j : Nat) (l : Lane) : (q.setLane j l).lanes = SMap.put q.lanes j l := rfl
@[simp] theorem Quarter.setLane_arriving (q : Quarter) (j : Nat) (l : Lane) : (q.setLane j l).arriving = q.arriving := rfl
@[simp] theorem Quarter.setLane_asm (q : Quarter) (j : Nat) (l : Lane) : (q.setLane j l).asm = q.asm := rfl
@[simp] theorem Quarter.setLane_pbq (q : Quarter) (j : Nat) (l : Lane) : (q.setLane j l).pbq = q.pbq := rfl
@[simp] theorem Quarter.setLane_hits (q : Quarter) (j : Nat) (l : Lane) : (q.setLane j l).hits = q.hits := rfl
@[simp] theorem Quarter.setLane_bankLast (q : Quarter) (j : Nat) (l : Lane) : (q.setLane j l).bankLast = q.bankLast := rfl
@[simp] theorem Quarter.setLane_wb (q : Quarter) (j : Nat) (l : Lane) : (q.setLane j l).wb = q.wb := rfl
@[simp] theorem Quarter.setLane_vc1Out (q : Quarter) (j : Nat) (l : Lane) : (q.setLane j l).vc1Out = q.vc1Out := rfl
@[simp] theorem Quarter.setLane_plaza (q : Quarter) (j : Nat) (l : Lane) : (q.setLane j l).plaza = q.plaza := rfl
@[simp] theorem Quarter.setLane_gates (q : Quarter) (j : Nat) (l : Lane) : (q.setLane j l).gates = q.gates := rfl
@[simp] theorem Quarter.setLane_sfLimit (q : Quarter) (j : Nat) (l : Lane) : (q.setLane j l).sfLimit = q.sfLimit := rfl
@[simp] theorem Quarter.setLane_retireIn (q : Quarter) (j : Nat) (l : Lane) : (q.setLane j l).retireIn = q.retireIn := rfl
-- markDirty
@[simp] theorem Quarter.markDirty_code (q : Quarter) (w : Nat) : (q.markDirty w).code = q.code := rfl
@[simp] theorem Quarter.markDirty_nodes (q : Quarter) (w : Nat) : (q.markDirty w).nodes = q.nodes := rfl
@[simp] theorem Quarter.markDirty_nodesLen (q : Quarter) (w : Nat) : (q.markDirty w).nodesLen = q.nodesLen := rfl
@[simp] theorem Quarter.markDirty_modes (q : Quarter) (w : Nat) : (q.markDirty w).modes = q.modes := rfl
@[simp] theorem Quarter.markDirty_pes (q : Quarter) (w : Nat) : (q.markDirty w).pes = q.pes := rfl
@[simp] theorem Quarter.markDirty_frame (q : Quarter) (w : Nat) : (q.markDirty w).frame = q.frame := rfl
@[simp] theorem Quarter.markDirty_dirty (q : Quarter) (w : Nat) : (q.markDirty w).dirty = addNew q.dirty (w / 8) := rfl
@[simp] theorem Quarter.markDirty_pend (q : Quarter) (w : Nat) : (q.markDirty w).pend = q.pend := rfl
@[simp] theorem Quarter.markDirty_saved (q : Quarter) (w : Nat) : (q.markDirty w).saved = q.saved := rfl
@[simp] theorem Quarter.markDirty_park (q : Quarter) (w : Nat) : (q.markDirty w).park = q.park := rfl
@[simp] theorem Quarter.markDirty_releases (q : Quarter) (w : Nat) : (q.markDirty w).releases = q.releases := rfl
@[simp] theorem Quarter.markDirty_lanes (q : Quarter) (w : Nat) : (q.markDirty w).lanes = q.lanes := rfl
@[simp] theorem Quarter.markDirty_arriving (q : Quarter) (w : Nat) : (q.markDirty w).arriving = q.arriving := rfl
@[simp] theorem Quarter.markDirty_asm (q : Quarter) (w : Nat) : (q.markDirty w).asm = q.asm := rfl
@[simp] theorem Quarter.markDirty_pbq (q : Quarter) (w : Nat) : (q.markDirty w).pbq = q.pbq := rfl
@[simp] theorem Quarter.markDirty_hits (q : Quarter) (w : Nat) : (q.markDirty w).hits = q.hits := rfl
@[simp] theorem Quarter.markDirty_bankLast (q : Quarter) (w : Nat) : (q.markDirty w).bankLast = q.bankLast := rfl
@[simp] theorem Quarter.markDirty_wb (q : Quarter) (w : Nat) : (q.markDirty w).wb = q.wb := rfl
@[simp] theorem Quarter.markDirty_vc1Out (q : Quarter) (w : Nat) : (q.markDirty w).vc1Out = q.vc1Out := rfl
@[simp] theorem Quarter.markDirty_plaza (q : Quarter) (w : Nat) : (q.markDirty w).plaza = q.plaza := rfl
@[simp] theorem Quarter.markDirty_gates (q : Quarter) (w : Nat) : (q.markDirty w).gates = q.gates := rfl
@[simp] theorem Quarter.markDirty_sfLimit (q : Quarter) (w : Nat) : (q.markDirty w).sfLimit = q.sfLimit := rfl
@[simp] theorem Quarter.markDirty_retireIn (q : Quarter) (w : Nat) : (q.markDirty w).retireIn = q.retireIn := rfl

-- The passing of time
/-- What the passing of time leaves: everything but `now`, TIME_NS and the slew. -/
theorem Block.pass_eq (b : Block) (n : Nat) : ∃ t u, b.pass n = { b with now := b.now + n, timeNs := t, time := u } := by
  unfold Block.pass; split
  · exact ⟨_, b.time, rfl⟩
  · exact ⟨_, _, rfl⟩
@[simp] theorem Block.pass_now (b : Block) (n : Nat) : (b.pass n).now = b.now + n := by
  obtain ⟨t, u, h⟩ := b.pass_eq n; rw [h]

@[simp] theorem Block.pass_regs (b : Block) (n : Nat) : (b.pass n).regs = b.regs := by
  obtain ⟨t, u, h⟩ := b.pass_eq n; rw [h]
@[simp] theorem Block.pass_retired (b : Block) (n : Nat) : (b.pass n).retired = b.retired := by
  obtain ⟨t, u, h⟩ := b.pass_eq n; rw [h]
@[simp] theorem Block.pass_qs (b : Block) (n : Nat) : (b.pass n).qs = b.qs := by
  obtain ⟨t, u, h⟩ := b.pass_eq n; rw [h]
@[simp] theorem Block.pass_ave (b : Block) (n : Nat) : (b.pass n).ave = b.ave := by
  obtain ⟨t, u, h⟩ := b.pass_eq n; rw [h]
@[simp] theorem Block.pass_disp (b : Block) (n : Nat) : (b.pass n).disp = b.disp := by
  obtain ⟨t, u, h⟩ := b.pass_eq n; rw [h]
@[simp] theorem Block.pass_host (b : Block) (n : Nat) : (b.pass n).host = b.host := by
  obtain ⟨t, u, h⟩ := b.pass_eq n; rw [h]
@[simp] theorem Block.pass_evc (b : Block) (n : Nat) : (b.pass n).evc = b.evc := by
  obtain ⟨t, u, h⟩ := b.pass_eq n; rw [h]
@[simp] theorem Block.pass_hub (b : Block) (n : Nat) : (b.pass n).hub = b.hub := by
  obtain ⟨t, u, h⟩ := b.pass_eq n; rw [h]
@[simp] theorem Block.pass_stops (b : Block) (n : Nat) : (b.pass n).stops = b.stops := by
  obtain ⟨t, u, h⟩ := b.pass_eq n; rw [h]
@[simp] theorem Block.pass_cont (b : Block) (n : Nat) : (b.pass n).cont = b.cont := by
  obtain ⟨t, u, h⟩ := b.pass_eq n; rw [h]
@[simp] theorem Block.pass_conv (b : Block) (n : Nat) : (b.pass n).conv = b.conv := by
  obtain ⟨t, u, h⟩ := b.pass_eq n; rw [h]
@[simp] theorem Block.pass_colir (b : Block) (n : Nat) : (b.pass n).colir = b.colir := by
  obtain ⟨t, u, h⟩ := b.pass_eq n; rw [h]
@[simp] theorem Block.pass_power (b : Block) (n : Nat) : (b.pass n).power = b.power := by
  obtain ⟨t, u, h⟩ := b.pass_eq n; rw [h]
@[simp] theorem Block.pass_lands (b : Block) (n : Nat) : (b.pass n).lands = b.lands := by
  obtain ⟨t, u, h⟩ := b.pass_eq n; rw [h]
@[simp] theorem Block.pass_mem (b : Block) (n : Nat) : (b.pass n).mem = b.mem := by
  obtain ⟨t, u, h⟩ := b.pass_eq n; rw [h]
@[simp] theorem Block.pass_hostMem (b : Block) (n : Nat) : (b.pass n).hostMem = b.hostMem := by
  obtain ⟨t, u, h⟩ := b.pass_eq n; rw [h]
theorem Block.passTo_now (b : Block) (t : Nat) : (b.passTo t).now = max b.now t := by
  unfold Block.passTo; split
  · rw [Block.pass_now]; omega
  · omega

@[simp] theorem Block.passTo_regs (b : Block) (t : Nat) : (b.passTo t).regs = b.regs := by
  unfold Block.passTo; split
  · rw [Block.pass_regs]
  · rfl
@[simp] theorem Block.passTo_qs (b : Block) (t : Nat) : (b.passTo t).qs = b.qs := by
  unfold Block.passTo; split
  · rw [Block.pass_qs]
  · rfl
@[simp] theorem Block.passTo_disp (b : Block) (t : Nat) : (b.passTo t).disp = b.disp := by
  unfold Block.passTo; split
  · rw [Block.pass_disp]
  · rfl
@[simp] theorem Block.passTo_host (b : Block) (t : Nat) : (b.passTo t).host = b.host := by
  unfold Block.passTo; split
  · rw [Block.pass_host]
  · rfl
@[simp] theorem Block.passTo_evc (b : Block) (t : Nat) : (b.passTo t).evc = b.evc := by
  unfold Block.passTo; split
  · rw [Block.pass_evc]
  · rfl
@[simp] theorem Block.passTo_hub (b : Block) (t : Nat) : (b.passTo t).hub = b.hub := by
  unfold Block.passTo; split
  · rw [Block.pass_hub]
  · rfl
@[simp] theorem Block.passTo_stops (b : Block) (t : Nat) : (b.passTo t).stops = b.stops := by
  unfold Block.passTo; split
  · rw [Block.pass_stops]
  · rfl
@[simp] theorem Block.passTo_cont (b : Block) (t : Nat) : (b.passTo t).cont = b.cont := by
  unfold Block.passTo; split
  · rw [Block.pass_cont]
  · rfl
@[simp] theorem Block.passTo_conv (b : Block) (t : Nat) : (b.passTo t).conv = b.conv := by
  unfold Block.passTo; split
  · rw [Block.pass_conv]
  · rfl
@[simp] theorem Block.passTo_colir (b : Block) (t : Nat) : (b.passTo t).colir = b.colir := by
  unfold Block.passTo; split
  · rw [Block.pass_colir]
  · rfl
@[simp] theorem Block.passTo_power (b : Block) (t : Nat) : (b.passTo t).power = b.power := by
  unfold Block.passTo; split
  · rw [Block.pass_power]
  · rfl
@[simp] theorem Block.passTo_mem (b : Block) (t : Nat) : (b.passTo t).mem = b.mem := by
  unfold Block.passTo; split
  · rw [Block.pass_mem]
  · rfl
@[simp] theorem Block.passTo_hostMem (b : Block) (t : Nat) : (b.passTo t).hostMem = b.hostMem := by
  unfold Block.passTo; split
  · rw [Block.pass_hostMem]
  · rfl

-- The form of a meaning
/-- A meaning always answers a next state, and leaves the queue. -/
@[simp] theorem act_eq (f : Block → Block) (s : State) : act f s = .next { s with blk := f s.blk } := rfl
/-- A meaning of a unit that works while the module runs. -/
theorem actUp_up (f : Block → Block) (s : State) (h : s.blk.up = true) : actUp f s = .next { s with blk := f s.blk } := by
  simp [actUp, h]
/-- Such a meaning changes nothing while the module is down. -/
theorem actUp_down (f : Block → Block) (s : State) (h : s.blk.up = false) : actUp f s = .next s := by
  simp [actUp, h]

end Sys2Proof.Machine
end

