-- ==== Sys2Proof/Laws/Strand.lean ====
section
/-! SUPPORT. What the issue of a strand instruction does, said once: the cases of `issue`, and the frame of an instruction that goes
on. -/

namespace Sys2Proof.Machine

variable {b : Block} {site : Site} {op : Nat} {x : SInstr} {body : Block → Quarter → PE → Slot → SInstr → Body}

-- What the charge of one instruction leaves in its slot

@[simp] theorem Slot.charged_rd (s : Slot) (n) : s.charged.rd n = s.rd n := by unfold Slot.charged; split <;> rfl
@[simp] theorem Slot.charged_pc (s : Slot) : s.charged.pc = s.pc := by unfold Slot.charged; split <;> rfl
@[simp] theorem Slot.charged_v (s : Slot) : s.charged.v = s.v := by unfold Slot.charged; split <;> rfl
@[simp] theorem Slot.charged_sp (s : Slot) : s.charged.sp = s.sp := by unfold Slot.charged; split <;> rfl
@[simp] theorem Slot.charged_slim (s : Slot) : s.charged.slim = s.slim := by unfold Slot.charged; split <;> rfl
@[simp] theorem Slot.charged_serial (s : Slot) : s.charged.serial = s.serial := by unfold Slot.charged; split <;> rfl
@[simp] theorem Slot.charged_rcnt (s : Slot) : s.charged.rcnt = s.rcnt := by unfold Slot.charged; split <;> rfl
@[simp] theorem Slot.charged_rep (s : Slot) : s.charged.rep = s.rep := by unfold Slot.charged; split <;> rfl
@[simp] theorem Slot.charged_tag (s : Slot) : s.charged.tag = s.tag := by unfold Slot.charged; split <;> rfl
@[simp] theorem Slot.charged_loop (s : Slot) (n) : s.charged.loop n = s.loop n := by unfold Slot.charged; split <;> rfl
@[simp] theorem Slot.charged_round (s : Slot) (n) : s.charged.round n = s.round n := by unfold Slot.charged; split <;> rfl
@[simp] theorem Slot.charged_ftz (s : Slot) : s.charged.ftz = s.ftz := by unfold Slot.charged; split <;> rfl
@[simp] theorem Slot.charged_daz (s : Slot) : s.charged.daz = s.daz := by unfold Slot.charged; split <;> rfl

/-- What `issue` comes to once an instruction can issue: its body decides. -/
theorem issue_runs (h : b.CanIssue site op x) :
    issue op site body b =
      match body b (b.q site.q) (b.peAt site) (b.slotAt site).charged x with
      | .hold => b
      | .fault cause detail => (b.issueCounted site.q site.pe site.slot).strandFault site.q site.pe site.slot cause (b.slotAt site).pc detail
      | .halt => ((b.issueCounted site.q site.pe site.slot).setQ site.q (((b.issueCounted site.q site.pe site.slot).q site.q).setSlot
          site.pe site.slot (b.slotAt site).charged)).endStrand site.q site.pe site.slot
      | .cont s2 p2 => (b.issueCounted site.q site.pe site.slot).setQ site.q
          ((b.q site.q).setPe site.pe { (p2.setSlot site.slot (advance (b.q site.q) (b.wordAt site) s2)) with last := site.slot })
      | .jump s2 p2 pc => (b.issueCounted site.q site.pe site.slot).setQ site.q
          ((b.q site.q).setPe site.pe { (p2.setSlot site.slot { s2 with pc := pc % 32768 }) with last := site.slot }) := by
  obtain ⟨h1, h2, h3, h4, h5, h6, h7, h8⟩ := h
  simp only [Block.slotAt, Block.peAt, Block.wordAt] at h3 h4 h6 h7 h8
  have e1 : (usesDivider op && ((b.q site.q).pe site.pe).div.isSome) = false := by
    cases hu : usesDivider op
    · rfl
    · simp [h6 hu]
  have e2 : (touchesFlags x && ((b.q site.q).pe site.pe).divides site.slot) = false := by
    cases hu : touchesFlags x
    · rfl
    · simpa using h7 hu
  have e3 : (((b.q site.q).slot site.pe site.slot).limited && ((b.q site.q).slot site.pe site.slot).budget == 0) = false := by
    cases hl : ((b.q site.q).slot site.pe site.slot).limited
    · rfl
    · simpa using h8 hl
  unfold issue
  simp only [h1, h2, h3, h4, h5, e1, e2, e3, beq_self_eq_true, Bool.and_self, Bool.not_true, Bool.false_eq_true, if_false]
  simp only [Block.slotAt, Block.peAt, Block.wordAt]
  generalize body b (b.q site.q) ((b.q site.q).pe site.pe) ((b.q site.q).slot site.pe site.slot).charged x = out
  cases out <;> rfl

/-- The block after an issue that replaces only the slot, the accesses and the divider meets the frame. -/
theorem strandFrame_setQ (b : Block) (site : Site) (p : PE) (sl : Slot) (hs : p.slots = (b.peAt site).slots)
    (hf : p.fireq = (b.peAt site).fireq) :
    StrandFrame b ((b.issueCounted site.q site.pe site.slot).setQ site.q
      ((b.q site.q).setPe site.pe { (p.setSlot site.slot sl) with last := site.slot })) site := by
  refine ⟨?_, ?_, ?_, ?_, ?_, ?_, ?_, ?_⟩
  · simp only [Block.issueCounted, Block.markLast]
    unfold Block.bump; split <;> rfl
  · simp [Block.issueCounted, Block.markLast, Block.reg_bump_one]
  · intro o ho
    simp only [Block.issueCounted, Block.markLast, Block.setQ_reg, Block.countIssue_reg]
    exact (b.reg_bump_ne 1 (by simpa using ho)).symm
  · intro n hn
    rw [Block.q_setQ_ne _ _ hn]
    simp only [Block.issueCounted, Block.markLast]
    rw [Block.q_setQ_ne _ _ hn]; simp
  · simp [Quarter.setPe]
  · intro n hn
    simp [Quarter.pe_setPe_ne _ _ hn]
  · intro n hn
    simp only [Block.peAt, Block.q_setQ_same, Quarter.pe_setPe_same, PE.slot, PE.setSlot]
    rw [SMap.get_put_ne _ _ _ hn, hs]; rfl
  · simpa [Block.peAt, PE.setSlot] using hf

/-- An instruction whose body goes on completes as Issues says. -/
theorem issues_of_cont {c : Instr} {s : State} {s2 : Slot} {p2 : PE} (hc : exec c s = act (issue op site body) s)
    (h : s.blk.CanIssue site op x)
    (hb : body s.blk (s.blk.q site.q) (s.blk.peAt site) (s.blk.slotAt site).charged x = .cont s2 p2)
    (hs : p2.slots = (s.blk.peAt site).slots) (hf : p2.fireq = (s.blk.peAt site).fireq) :
    Issues c s site (advance (s.blk.q site.q) (s.blk.wordAt site) s2) p2.memq p2.div := by
  refine ⟨_, ?_, strandFrame_setQ s.blk site p2 (advance (s.blk.q site.q) (s.blk.wordAt site) s2) hs hf, ?_, ?_, ?_⟩
  · rw [Completes, hc, act_eq, issue_runs h, hb]
  all_goals simp [Block.slotAt, Block.peAt, Quarter.slot, PE.slot, PE.setSlot]

/-- An instruction whose body transfers control completes as Issues says. -/
theorem issues_of_jump {c : Instr} {s : State} {s2 : Slot} {p2 : PE} {pc : Nat} (hc : exec c s = act (issue op site body) s)
    (h : s.blk.CanIssue site op x)
    (hb : body s.blk (s.blk.q site.q) (s.blk.peAt site) (s.blk.slotAt site).charged x = .jump s2 p2 pc)
    (hs : p2.slots = (s.blk.peAt site).slots) (hf : p2.fireq = (s.blk.peAt site).fireq) :
    Issues c s site { s2 with pc := pc % 32768 } p2.memq p2.div := by
  refine ⟨_, ?_, strandFrame_setQ s.blk site p2 { s2 with pc := pc % 32768 } hs hf, ?_, ?_, ?_⟩
  · rw [Completes, hc, act_eq, issue_runs h, hb]
  all_goals simp [Block.slotAt, Block.peAt, Quarter.slot, PE.slot, PE.setSlot]

end Sys2Proof.Machine
end

