-- ==== Sys2Proof/Tests/Slice0.lean ====
section
/-! SUPPORT. Tests: words written out from the spec's encodings, ill-formed terms refused, single effects computed by hand from the rules,
and for each statement with hypotheses a state and operands that meet them (its theorem is named after the statement). -/

namespace Sys2Proof.Tests
open Sys2Proof.Machine

set_option Elab.async false

/-- The block as it runs after READY, nothing placed or configured. -/
def live : Block := { Block.initial with power := { Power.initial with held := false, since := none } }

/-- A state with nothing waiting. -/
def st (b : Block) : State := ⟨b, []⟩

/-- A running strand with BUDGET 5 and V1 = 12, V2 = 5, V3 = 7. -/
def strand : Slot := { Slot.free with busy := true, v := [(1, 12), (2, 5), (3, 7)], budget := 5 }

/-- A state in which slot 0 of PE 0 of Quarter 0 holds a strand at the start of some code, beside what its PE holds. -/
def atSlot (code : List W32) (sl : Slot) (p : PE := PE.empty) : State :=
  st { live with qs := [(0, { Quarter.empty with
    code := (List.range code.length).zip code, pes := [(0, { p with slots := [(0, sl)] })] })] }

/-- Where it issues. -/
def here : Site := ⟨0, 0, 0⟩

/-- An instruction as the only code of that strand may issue. -/
def issuesAs (x : SInstr) (sl : Slot := strand) (p : PE := PE.empty) : Bool :=
  @decide ((atSlot (encodeStrand x) sl p).blk.CanIssue here x.op.toNat x) (by unfold Block.CanIssue; infer_instance)

-- Words of R127 to R131, bit by bit

theorem test_word_add : decodeStrand 0b00000001_00011_00001_00010_000_00_0000 0 = some ⟨0x01, .r 3 1 2 0 0⟩ := by decide
theorem test_word_addi : decodeStrand 0b00100000_00011_00001_0_1111111111111 0 = some ⟨0x20, .i 3 1 (-1) none⟩ := by decide
theorem test_word_addi_ext : decodeStrand 0b00100000_00011_00001_1_0000000000000 7 = some ⟨0x20, .i 3 1 0 (some 7)⟩ := by decide
theorem test_word_fma : decodeStrand 0b00110101_00100_00101_00110_001_10_0000 0 = some ⟨0x35, .r 4 5 6 1 2⟩ := by decide
theorem test_word_ld : decodeStrand 0b01010000_00111_00010_0_0000000001000 0 = some ⟨0x50, .i 7 2 8 none⟩ := by decide
theorem test_word_send : decodeStrand 0b01100000_00001_00010_0011_101_010_01_1_0 0 =
    some ⟨0x60, .send 1 2 3 5 2 1 1 none⟩ := by decide
theorem test_word_beq : decodeStrand 0b01110000_00001_00010_11111111111110 0 = some ⟨0x70, .b 1 2 (-2)⟩ := by decide
theorem test_word_jmp : decodeStrand 0b01111010_000000000_000000000010000 0 = some ⟨0x7A, .j 16⟩ := by decide
theorem test_word_loopi : decodeStrand 0b10000001_01_0000000011_000000000100 0 = some ⟨0x81, .loopi 1 3 4⟩ := by decide
theorem test_word_mfs : decodeStrand 0b10000101_00011_00000_10011_000000000 0 = some ⟨0x85, .mfs 3 19⟩ := by decide
theorem test_word_halt : decodeStrand 0b10001001_000000000000000000000000 0 = some ⟨0x89, .plain⟩ := by decide
/-- A reserved bit set, an undefined opcode, and a branch under a REP are illegal (R131, R152). -/
theorem test_words_refused : decodeStrand 0x01184401 0 = none ∧ decodeStrand 0 0 = none ∧ decodeStrand 0x83000002 0x7A000000 = none := by
  decide

-- An ill-formed term for each check of `Instr.wf`, and one that passes

theorem test_wf_passes : Instr.wf (.wakefirstStart 7) = true ∧ Instr.wf (.bar2Write 0 [1]) = true := by decide
theorem test_wf_ctx : Instr.wf (.wakefirstStart (2 ^ 20)) = false ∧ Instr.wf (.countFlush 0 (2 ^ 20)) = false ∧
    Instr.wf (.completionRound (2 ^ 20)) = false ∧ Instr.wf (.orphanWaitExpire (2 ^ 20)) = false ∧
    Instr.wf (.quarterCollect 0 (2 ^ 20)) = false ∧ Instr.wf (.collectionDone (2 ^ 20)) = false ∧
    Instr.wf (.quarantineEnd (2 ^ 20)) = false ∧ Instr.wf (.spanGiveup (2 ^ 20) 0) = false := by decide
theorem test_wf_stores : Instr.wf (.doorbellPoll [(2 ^ 64, 1)]) = false ∧ Instr.wf (.descriptorFetch 0 [(2 ^ 64, 1)]) = false ∧
    Instr.wf (.inject 0 [(2 ^ 64, 1)] none) = false ∧ Instr.wf (.dmaToModule 0 [(2 ^ 64, 1)] none) = false ∧
    Instr.wf (.resume [(2 ^ 64, 1)]) = false ∧ Instr.wf (.headReadReturn 0 [(2 ^ 64, 1)]) = false := by decide
theorem test_wf_bar2 : Instr.wf (.bar2Write 0 []) = false ∧ Instr.wf (.bar2Write 0xFFFFFFFF [1, 2]) = false := by decide
theorem test_wf_registers : Instr.wf (.registerWrite 0 []) = false ∧ Instr.wf (.registerWrite 0x3FFFFFF [1, 2]) = false ∧
    Instr.wf (.rcRead 0 0) = false ∧ Instr.wf (.rcRead 0x3FFFFFD 4) = false := by decide
theorem test_wf_stops : Instr.wf (.stopRead (2 ^ 40) 0) = false ∧ Instr.wf (.stopWrite (2 ^ 40) ⟨[1], 0⟩) = false ∧
    Instr.wf (.stopWrite 0 ⟨[], 0⟩) = false := by decide
theorem test_wf_others : Instr.wf (.prbsDwellEnd 0 [(64, true)] []) = false ∧ Instr.wf (.freqDecision 0 101) = false ∧
    Instr.wf (.bootRomImageLoad (List.replicate 1 0)) = true := by decide

-- Strand instructions

/-- An R-form instruction V3, V1, V2, with RB 0 where the opcode has none. -/
def rTerm (op : Nat) (w : BitVec 2 := 0) : SInstr :=
  ⟨BitVec.ofNat 8 op, .r 3 1 (match shapeOf op with | some (.r _ _ false) => 0 | _ => 2) 0 w⟩
/-- An I-form instruction V3, V1, 8, with RA or RD 0 where the opcode has none. -/
def iTerm (op : Nat) (ext : Option W32 := none) : SInstr :=
  ⟨BitVec.ofNat 8 op, .i (match shapeOf op with | some (.i false _) => 0 | _ => 3) (match shapeOf op with | some (.i _ false) => 0 | _ => 1)
    (if ext.isSome then 0 else 8) ext⟩
/-- A B-form instruction V1, V2, OFF −2, with RB or OFF 0 where the opcode has none. -/
def bTerm (op : Nat) : SInstr :=
  ⟨BitVec.ofNat 8 op, .b 1 (match shapeOf op with | some (.b false _) => 0 | _ => 2) (match shapeOf op with | some (.b _ false) => 0 | _ => -2)⟩

theorem test_IntegerOps_met :
    (∀ e ∈ rValues, issuesAs (rTerm e.2.1)) ∧ issuesAs (rTerm 0x19) ∧
    (∀ e ∈ iValues, issuesAs (iTerm e.2.1) ∧ issuesAs (iTerm e.2.1 (some 0x80000000))) := by
  decide +kernel
theorem test_IntegerLanes_met : ∀ op ∈ [0x01, 0x02, 0x12, 0x13], ∀ w ∈ [(0 : BitVec 2), 1], issuesAs (rTerm op w) := by
  decide +kernel
theorem test_Division_met : (∀ op ∈ [0x06, 0x07, 0x08, 0x09], issuesAs (rTerm op)) ∧
    (let d : DivOp := ⟨0, 3, 2, fIDZ⟩
     let b := (atSlot [] strand { PE.empty with div := some d }).blk
     b.qRuns 0 = true ∧ ((b.q 0).pe 0).div = some d ∧ ((b.q 0).slot 0 d.slot).ended = false) := by
  decide +kernel
theorem test_FloatingPoint_met : ∀ op ∈ [0x30, 0x31, 0x32, 0x33, 0x34, 0x35, 0x36, 0x37, 0x38, 0x39, 0x3A, 0x3B, 0x3C, 0x3D, 0x3E, 0x3F,
    0x40, 0x41, 0x43], ∀ w ∈ [(0 : BitVec 2), 1, 2], issuesAs (rTerm op w) ∧ issuesAs ⟨0x42, .r 3 1 11 0 0⟩ := by
  decide +kernel
theorem test_BranchesAndCalls_met : (∀ e ∈ branches, issuesAs (bTerm e.2.1)) ∧ issuesAs ⟨0x7A, .j 16⟩ ∧ issuesAs (bTerm 0x7B) ∧
    (let sl := { strand with sp := 0x108, slim := 0x100 }
     issuesAs ⟨0x7C, .j 16⟩ sl ∧ issuesAs (bTerm 0x7D) sl ∧ sl.slim + 8 ≤ sl.sp ∧ sl.sp < 2 ^ 24 ∧ sl.sp % 8 = 0 ∧
       frameWindow (BitVec.ofNat 64 (sl.sp - 8)) = some (0, 32) ∧ PE.empty.storesFull = false ∧
       issuesAs ⟨0x7E, .plain⟩ sl ∧ frameWindow (BitVec.ofNat 64 sl.sp) = some (0, 33)) ∧
    (let sl := { strand with sp := 0x107, slim := 0x100 }
     issuesAs ⟨0x7C, .j 16⟩ sl ∧ issuesAs (bTerm 0x7D) sl ∧ sl.sp < sl.slim + 8) ∧
    (let m : MemOp := ⟨0, .ret, 33, 0x108, 0, 0, 0, 0⟩
     let b := (atSlot [] strand { PE.empty with memq := [m] }).blk
     b.qRuns 0 = true ∧ findLoad 0 [] (b.peAt here).memq = some (m, []) ∧ ((b.q 0).fw m.word).bad = false ∧ b.rf 0x300044 15 0 = 0 ∧
       (b.slotAt here).ended = false ∧ (b.slotAt here).fence = false) := by
  decide +kernel
theorem test_HardwareLoops_met :
    (issuesAs ⟨0x80, .loop 1 2 4⟩ ∧ (strand.rd 2).toNat % 2 ^ 32 ≠ 0) ∧ (issuesAs ⟨0x80, .loop 1 9 4⟩ ∧ (strand.rd 9).toNat % 2 ^ 32 = 0) ∧
    issuesAs ⟨0x81, .loopi 3 1 4⟩ ∧ issuesAs ⟨0x81, .loopi 3 0 4⟩ ∧ issuesAs ⟨0x82, .lbrk 3⟩ ∧
    issuesAs ⟨0x83, .rep 1⟩ ∧ issuesAs ⟨0x83, .rep 0⟩ ∧ issuesAs ⟨0x84, .plain⟩ ∧ (∀ n < 4, (strand.loop n).active = false) ∧
    (let s := strand.setLoop 3 ⟨0, 0, 2, true⟩
     s.rep = none ∧ (s.loop 3).active = true ∧ (s.loop 3).stop = s.pc ∧ (∀ m < 4, m ≠ 3 → (s.loop m).active = true → (s.loop m).stop ≠ s.pc) ∧
       1 < (s.loop 3).count) := by
  decide +kernel
theorem test_SpecialRegisters_met : (∀ sr : BitVec 5, sr.toNat ≤ 22 → issuesAs ⟨0x85, .mfs 3 sr⟩) ∧
    (∀ sr : BitVec 5, sr.toNat ≤ 17 → issuesAs ⟨0x86, .mts sr 1⟩) := by
  decide +kernel
theorem test_FenceHaltTrap_met : issuesAs ⟨0x8A, .plain⟩ ∧ issuesAs ⟨0x87, .plain⟩ ∧ issuesAs ⟨0x89, .plain⟩ ∧ issuesAs ⟨0x88, .trap 7⟩ ∧
    (let b := (atSlot [0] strand).blk
     b.qRuns 0 = true ∧ (b.q 0).offered 0 0 = true ∧ shapeOf (opOf (b.wordAt here)).toNat = none) := by
  decide +kernel
theorem test_StrandFaults_met :
    (let x := rTerm 0x01
     let b := (atSlot (encodeStrand x) { strand with budget := 0 }).blk
     b.qRuns 0 = true ∧ (b.q 0).offered 0 0 = true ∧ (opOf (b.wordAt here)).toNat = 1 ∧
       decodeStrand (b.wordAt here) ((b.q 0).word ((b.slotAt here).pc + 1)) = some x ∧
       (x.reads ++ x.writes).any ((b.q 0).outstanding 0 0).contains = false ∧ (usesDivider 1 = true → (b.peAt here).div = none) ∧
       (touchesFlags x = true → (b.peAt here).divides 0 = false) ∧ (b.slotAt here).limited = true ∧ (b.slotAt here).budget = 0) ∧
    live.rf (qOff 67 0x2010) 15 15 = 0 ∧ (live.setReg (qOff 67 0x2010) 0x8000).rf (qOff 67 0x2010) 15 15 ≠ 0 := by
  decide +kernel
/-- The words that an access at V1 + 8 reaches in each window, at the lowest and the highest address (R135). -/
theorem test_MemoryAccesses_met :
    (∀ e ∈ [(0xFFFF0, 0, 131071), (0x3FFFF8, 1, 0), (0x4FFFF0, 1, 131071), (0x7FFFF8, 2, 0), (0x8FFFF0, 2, 131071)],
      let sl := { strand with v := [(1, BitVec.ofNat 64 e.1), (2, 5), (3, 7)] }
      frameWindow (sl.rd 1 + immOf 8 none) = some (e.2.1, e.2.2) ∧ (sl.rd 1 + immOf 8 none).toNat % 8 = 0 ∧
        issuesAs (iTerm 0x50) sl ∧ issuesAs (iTerm 0x52) sl) ∧
    (let sl := { strand with v := [(1, 8)] }
     frameWindow (sl.rd 1 + immOf 8 none) = some (0, 2) ∧ issuesAs (iTerm 0x51) sl ∧ issuesAs (iTerm 0x53) sl ∧ issuesAs (iTerm 0x54) sl ∧
       Quarter.empty.parkOcc < 4096 ∧ PE.empty.storesFull = false ∧ frameWindow (sl.rd 1) = some (0, 1) ∧ issuesAs (rTerm 0x55) sl ∧
       issuesAs (rTerm 0x56) sl) ∧
    (∀ e ∈ [((0xFFFF8 : W64), 4), (0x3FFFFF, 4), (0x8FFFF8, 4), (12, 5)],
      let sl := { strand with v := [(1, e.1)] }
      ∀ op ∈ [0x51, 0x53, 0x54], issuesAs (iTerm op) sl ∧ frameFault (sl.rd 1 + immOf 8 none) false = some e.2) := by
  decide +kernel

/-- `Block.storeIs` and `Block.loadIs`, evaluated at slot 0 of PE 0 of Quarter 0. -/
def storesB (b : Block) (m : MemOp) : Bool := @decide (b.storeIs 0 0 m [] []) (by unfold Block.storeIs; infer_instance)
def loadsB (b : Block) (m : MemOp) : Bool := @decide (b.loadIs here m []) (by unfold Block.loadIs; infer_instance)
/-- That PE with one access to word 131,071, the word itself, and the PENDING lines and parked reads given. -/
def accessB (k : MemKind) (w : FrameWord) (pend : List Nat := []) (park : List Park := []) : Block :=
  let b := (atSlot [] strand { PE.empty with memq := [⟨0, k, 131071, 0xFFFF8, 3, 9, 0, 0⟩] }).blk
  b.setQ 0 { b.q 0 with frame := [(131071, w)], pend := pend, park := park }
/-- That access. -/
def access (k : MemKind) : MemOp := ⟨0, k, 131071, 0xFFFF8, 3, 9, 0, 0⟩

theorem test_StoresAndLoads_met :
    (∀ k ∈ [MemKind.st, .stw, .stOr, .stAnd, .mke, .bset, .bclr], ∀ pres ∈ [(0 : BitVec 2), 1], ∀ bad ∈ [false, true],
      storesB (accessB k ⟨6, bad, pres, false⟩ [] [⟨131071, .ldd 0 0 3⟩]) (access k) = true) ∧
    (∀ on ∈ [true, false], let b0 := accessB .stw ⟨1, false, 3, false⟩
      let b := b0.setQ 0 ((b0.q 0).setSlot 0 0 { strand with serial := if on then 0 else 1 })
      storesB b (access .stw) = true ∧ ((b.q 0).fw 131071).pres = 3 ∧ ((b.q 0).slot 0 0).busy = true ∧ ((b.q 0).slot 0 0).ended = false ∧
        (((b.q 0).slot 0 0).serial = (access .stw).serial ↔ on = true)) ∧
    (let b := accessB .st FrameWord.empty [16383]
     b.qRuns 0 = true ∧ findStore [] ((b.q 0).pe 0).memq = some (access .st, [], []) ∧ (b.q 0).pbq = [] ∧
       (b.q 0).pend.contains ((access .st).word / 8) = true) := by
  decide +kernel

theorem test_StoresAndLoads_loads_met :
    (∀ k ∈ [MemKind.ld, .ldd], ∀ pres ∈ [(0 : BitVec 2), 1, 3], ∀ bad ∈ [false, true], let b := accessB k ⟨6, bad, pres, false⟩
      loadsB b (access k) = true ∧ (b.slotAt here).ended = false ∧ (b.q 0).parkOcc < 4096) ∧
    (let b := (accessB .ld FrameWord.empty).setQ 0 (((accessB .ld FrameWord.empty).q 0).setSlot 0 0 { strand with ended := true })
     loadsB b (access .ld) = true ∧ (b.slotAt here).ended = true) ∧
    (let b := accessB (.got 6 true) FrameWord.empty
     b.qRuns 0 = true ∧ findLoad 0 [] (b.peAt here).memq = some (access (.got 6 true), []) ∧ (b.slotAt here).ended = false) ∧
    (∀ who ∈ [Parker.ldd 0 0 3, .readWait 9 5], let b0 := (atSlot [] strand).blk
     let b := b0.setQ 0 { b0.q 0 with releases := [⟨who, 9, true⟩] }
     b.qRuns 0 = true ∧ (b.q 0).releases = [⟨who, 9, true⟩] ∧ ((b.q 0).slot 0 0).ended = false) := by
  decide +kernel

/-- The park table is full with n = 4,096. -/
theorem test_StoresAndLoads_full_met (n : Nat) :
    ((live.setQ 0 { Quarter.empty with park := List.replicate n ⟨4, .ldd 1 0 3⟩ }).q 0).parkOcc = n := List.length_replicate

/-- A SEND of V1 to the node that V2 names, KIND DATA, FMT U64, port 1. -/
def sendTerm : SInstr := ⟨0x60, .send 1 2 0 0 0 1 1 none⟩

/-- A token of context 7 for position `port` of node 3, and others of the same key by their KIND. -/
def tok (kind : Nat) (port : Nat := 0) (value : W64 := 5) : Token := ⟨value, mkTag 0 7 3 0 port, mkCtrl kind 6 false true false 0 0⟩
/-- The word that names entry 0 of group 0. -/
def word3 : Nat := 2 ^ 31
/-- Context 7 placed in logical Quarter 0. -/
def placed7 : Ctx := { (default : Ctx) with state := 4, started := true, groups := [(0, 0)] }
/-- The token does not wait for a NODEMAP word. -/
def goes (b : Block) : Bool := match b.routeToken 0 (tok 0) with | .wait _ => false | _ => true
/-- A strand of context 9 that holds a SEND of `tok 0`. -/
def sendB (nc skip : Bool) : Block :=
  let b := (atSlot [] { strand with tag := mkTag 0 9 3 0 0, send := some (tok 0, nc) }).blk
  b.setQ 0 { b.q 0 with lanes := [(4, { Lane.empty with skip := skip })] }

theorem test_Sends_met :
    issuesAs sendTerm = true ∧ sendToken strand sendTerm = some ⟨12, 5, mkCtrl 0 0 false true false 0 0⟩ ∧
    (∀ nc ∈ [true, false], ∀ skip ∈ [true, false], let b := sendB nc skip
     b.qRuns 0 = true ∧ (b.slotAt here).send = some (tok 0, nc) ∧ b.sendTurn 0 0 = true ∧ ((b.q 0).lane 4).full = false ∧
       ((b.q 0).lane 4).skip = skip ∧ b.migHeld (tok 0) = false ∧ b.rollHeld (tok 0) (some 0) = false ∧ goes b = true ∧
       b.unplaced (tok 0) = true ∧ b.suppressOut (tok 0) = none ∧ b.journalRoom (.cross (tok 0) 9) = true ∧
       (let b := { b.setCtx 7 placed7 with ave := { b.ave with inj := [(0, ⟨[⟨0, 3, word3⟩], none⟩)] } }
        b.unplaced (tok 0) = false ∧ b.sendTurn 0 0 = true ∧ goes b = true)) := by
  decide +kernel

/-- A word of a lane as it is stored, with its parity. -/
def wordOf (t : Token) (pt : Nat := 0) : LaneWord := ⟨t, pt, t.parity⟩
/-- A lane whose drain bank holds some tokens. -/
def laneOf (toks : List Token) : Lane := { Lane.empty with b := toks.map wordOf }

theorem test_LaneWords_met :
    (let w : LaneWord := ⟨tok 0, 0, 0⟩
     let b := live.setQ 67 { Quarter.empty with arriving := [⟨2, w⟩], vc1Out := [w], lanes := [(0, { Lane.empty with a := [w], flush := true })] }
     takeFirst (fun a => a.lane == 2) (b.q 67).arriving = some (⟨2, w⟩, []) ∧ b.retired.contains 67 = false ∧ b.distLevel (distOf 67) = 0 ∧
       ((b.q 67).lane 2).full = false ∧ ((b.q 67).lane 2).skip = false ∧ b.cont.roll = none ∧ (b.q 67).vc1Out = [w] ∧
       ((b.q 67).lane 7).full = false ∧ ((b.q 67).lane 7).skip = false ∧ b.qAwake 67 = true ∧ ((b.q 67).lane 0).drain = [] ∧
       ((b.q 67).lane 0).fill ≠ [] ∧ b.up = true ∧ ((b.q 67).lane 0).flush = true ∧ b.reg (laneReg 67 0 20) < 2 ^ 32) := by
  decide +kernel

theorem test_StrandStarts_met :
    (let f : FirePacket := ⟨16, mkTag 0 7 3 0 0, false, [(0, 5)], false, 2⟩
     let b := live.setQ 3 { Quarter.empty with pes := [(1, { PE.empty with fireq := [f], slots := [(0, strand)] })] }
     b.qRuns 3 = true ∧ ((b.q 3).pe 1).fireq = [f] ∧ ((b.q 3).slot 1 1).busy = false ∧ (∀ m, m < 1 → ((b.q 3).slot 1 m).busy = true) ∧
       b.rf 0x300044 15 0 = 0) := by
  decide +kernel

-- The Plaza

/-- Context 7 running. -/
def ctx7 : Ctx := { (default : Ctx) with state := 4, groups := [(0, 0)], started := true }
/-- A node entry with two operand positions, none sticky, CODE 16, in PE 0 alone; with a sticky position 1; and a STREAM gate's. -/
def node2 : W64 := BitVec.ofNat 64 (2 ^ 32 + 15 * 2 ^ 22 + 2 ^ 16 + 16)
/-- Quarter 0 with node 3 of context 7 known, beside what its Plaza and lane 0 hold. -/
def plazaQ (p : Plaza) (lane : List Token := []) : Quarter :=
  { Quarter.empty with nodes := [(0, ⟨node2, 0⟩)], nodesLen := 1, plaza := { p with cache := [⟨7, 3, word3⟩] }, lanes := [(0, laneOf lane)] }
/-- The block with that Quarter and context. -/
def plazaB (p : Plaza) (lane : List Token := []) : Block := (live.setCtx 7 ctx7).setQ 0 (plazaQ p lane)
/-- The operand of position 1, waiting. -/
def other : Operand := ⟨tok 0 1 6, 1, 1⟩
/-- The node as the Plaza reads it. -/
def view3 : NodeView := ⟨0, node2.toNat, 0, false, 2, 15⟩

/-- `Block.nodeIs`, `Block.inserts` and `Block.laneOffers`, evaluated. -/
def nodeIsB (b : Block) (t : Token) (v : NodeView) : Bool :=
  b.tokenState (tagCtx t.tag) == 1 && (b.plz 0).cached (tagCtx t.tag) (tagNode t.tag) == some word3 && (b.q 0).node word3 == some v
theorem nodeIs_of {b : Block} {t : Token} {v : NodeView} (h : nodeIsB b t v = true) : b.nodeIs 0 t.tag v := by
  simp only [nodeIsB, Bool.and_eq_true, beq_iff_eq] at h
  exact ⟨h.1.1, word3, h.1.2, h.2⟩
def insertsB (b : Block) (t : Token) (v : NodeView) : Bool := @decide (b.inserts 0 t v) (by unfold Block.inserts; infer_instance)
def offersB (b : Block) (t : Token) : Bool := @decide (b.laneOffers 0 0 (wordOf t) []) (by unfold Block.laneOffers; infer_instance)

theorem test_TokenMatching_met :
    (let b := plazaB { Plaza.empty with entries := [other] } [tok 0]
     offersB b (tok 0) = true ∧ nodeIsB b (tok 0) view3 = true ∧ view3.merge = false ∧ view3.pos (tok 0) < view3.n ∧
       (b.plz 0).awaiting (keyOf (tok 0).tag) = false ∧ (b.plz 0).found (keyOf (tok 0).tag) ≠ [] ∧
       pickOps ((b.plz 0).found (keyOf (tok 0).tag)) (view3.dyn.filter fun x => x ≠ view3.pos (tok 0)) = some [other] ∧
       (b.q 0).admits (tok 0) = true ∧ (b.plz 0).fireBuf = [] ∧ (b.q 0).firePe (bits view3.ctl 30 26) = 0 ∧
       ((b.q 0).pe 0).fireq.length < 32 ∧ (b.countsOf 0).length < 64) ∧
    (let b := plazaB Plaza.empty [tok 0]
     offersB b (tok 0) = true ∧ nodeIsB b (tok 0) view3 = true ∧ insertsB b (tok 0) view3 = true) ∧
    (let b := live.setQ 0 (plazaQ Plaza.empty [tok 0])
     offersB b (tok 0) = true ∧ b.tokenState 7 = 0 ∧ (b.countsOf 0).length < 64) := by
  decide +kernel

/-- A closing epoch with nothing cut but Quarter 0, and a rollback of Quarter 0 that flushes. -/
def closing (qs : List Nat) : Close := ⟨3, 0, ⟨qs.map fun q => (q, ⟨default, 0, [], []⟩), [], [], none⟩⟩
def rolling (step : Nat) : Rollback := { (default : Rollback) with quarters := [0], ctxs := [7], step := step, flush := [] }

theorem test_OtherLaneTokens_met :
    (offersB (plazaB Plaza.empty [tok 1]) (tok 1) = true ∧ nodeIsB (plazaB Plaza.empty [tok 1]) (tok 1) view3 = true) ∧
    (let b := plazaB { Plaza.empty with entries := [other] } [tok 9]
     offersB b (tok 9) = true ∧ nodeIsB b (tok 9) view3 = true ∧ (b.plz 0).awaiting (keyOf (tok 9).tag) = false ∧
       (b.plz 0).found (keyOf (tok 9).tag) ≠ [] ∧ (b.plz 0).spilt (keyOf (tok 9).tag) = [] ∧ (b.countsOf 0).length < 64) ∧
    (let m : Token := ⟨BitVec.ofNat 64 (3 * 65536 + 5 * 256 + 1), 0, mkCtrl 8 0 false true false 0 0⟩
     let b := { plazaB Plaza.empty [m] with cont := { Cont.initial with close := some (closing [0]) } }
     offersB b m = true ∧ m.kind = 8 ∧ bits m.value.toNat 7 0 = 1 ∧ (closing [0]).cutOf 0 = some ⟨default, 0, [], []⟩ ∧
       m.value.toNat / 65536 = (closing [0]).epoch % 2 ^ 48) ∧
    (let m : Token := ⟨BitVec.ofNat 64 (5 * 256 + 2), 0, mkCtrl 8 0 false true false 0 0⟩
     let b := { plazaB Plaza.empty [m] with cont := { Cont.initial with roll := some (rolling 3) } }
     b.qAwake 0 = true ∧ ((b.q 0).lane 0).closing = none ∧ ((b.q 0).lane 0).drain = [wordOf m] ∧ (wordOf m).sound = true ∧ b.rf 0x300044 15 0 = 0 ∧ m.kind = 8 ∧
       bits m.value.toNat 7 0 = 2 ∧ (rolling 3).step = 3 ∧ (rolling 3).quarters.contains 0 = true) := by
  decide +kernel

/-- The block with a spill area of 16 MiB at MiB 128 for Quarter 0, all of it the pen or half of it. -/
def withArea (b : Block) (pen : Nat) : Block := (b.setReg (qOff 0 4) 0x8000).setReg (qOff 0 8) (4 + pen * 256)

theorem test_PenReads_met :
    (∀ g < 4, ((live.setGate g { (live.gate g) with noted := 1 }).gate g).noted ≠ 0) ∧
    (let b := withArea (plazaB { Plaza.empty with noted := 1, penCount := 1 }) 4
     (b.plz 0).noted ≠ 0 ∧ b.qAwake 0 = true ∧ (b.plz 0).penCount ≠ 0 ∧ b.penBytes 0 / 32 = 524288 ∧ (b.plz 0).penRd % 524288 = 0 ∧
       min (b.plz 0).penCount (2 - 0 % 2) = 1 ∧ b.penBase 0 + 64 ≤ maEnd ∧ b.stops.bad.contains (b.penBase 0) = false ∧ b.stops.lost = [] ∧
       b.rf 0x300044 15 0 = 0) ∧
    (let b := plazaB { Plaza.empty with penTokens := [(tok 0, 9)] }
     b.qAwake 0 = true ∧ b.ave.recovering = false ∧ (b.plz 0).penTokens = [(tok 0, 9)] ∧ b.rollDiscards 0 (tok 0) = false ∧
       (b.plz 0).opened = true ∧ (b.releaseStart 0).can = false ∧ (b.internalStart 0).can = false ∧ b.soHold 0 4 (tok 0) = none ∧
       nodeIsB b (tok 0) view3 = true ∧ insertsB b (tok 0) view3 = true) := by
  decide +kernel

theorem test_WaitingTokens_met :
    (let w : WaitEntry := ⟨tok 0, 4, 0, .ready, 0⟩
     let b := plazaB { Plaza.empty with wait := [w] }
     b.qRuns 0 = true ∧ (b.plz 0).opened = true ∧ (b.plz 0).releasable = some (0, w) ∧ w.lane ≠ 5 ∧ nodeIsB b w.tok view3 = true ∧ insertsB b w.tok view3 = true) ∧
    (let o : Operand := ⟨tok 0, 0, 2⟩
     let b := plazaB { Plaza.empty with entries := [other, o], internal := [(tok 0).tag] }
     b.qRuns 0 = true ∧ b.ave.recovering = false ∧ (b.plz 0).waitFull = false ∧ (b.plz 0).opened = true ∧
       (b.releaseStart 0).can = false ∧ nodeIsB b (tok 0) view3 = true ∧
       (b.plz 0).here (keyOf (tok 0).tag) ≠ [] ∧ pickOps ((b.plz 0).here (keyOf (tok 0).tag)) view3.dyn = some [o, other] ∧
       (sortOps [o, other]).reverse = [o, other] ∧ (b.q 0).admits { value := 0, tag := (tok 0).tag, ctrl := 0 } = true ∧
       view3.merge = false ∧ (b.plz 0).fireBuf = [] ∧ (b.q 0).firePe (bits view3.ctl 30 26) = 0 ∧ ((b.q 0).pe 0).fireq.length < 32) ∧
    (let w : WaitEntry := ⟨tok 0, 0, 0, .nodemap true, 0⟩
     let b := (live.setCtx 7 ctx7).setPlz 0 { Plaza.empty with wait := [w] }
     (b.plz 0).wait.find? (fun e => match e.why with | .nodemap _ => true | _ => false) = some w ∧ b.ctx? 7 = some ctx7) ∧
    (let f : FirePacket := ⟨16, (tok 0).tag, false, [], false, 0⟩
     let b := plazaB { Plaza.empty with fireBuf := [(15, f)] }
     b.qRuns 0 = true ∧ takeFirst (fun e : Nat × FirePacket => decide (((b.q 0).pe e.1).fireq.length < 32)) (b.plz 0).fireBuf =
       some ((15, f), [])) := by
  decide +kernel

/-- A graph image at 0 whose NODEMAP names entry 0 of group 0 for node 3 (R361, R362). -/
def image3 : List Host.Cell := [(0, 4), (4, 3), (8, 1), (19, 0x80)]

theorem test_Backstreet_met :
    (let k : SpillKey := ⟨keyOf (tok 0).tag, [⟨tok 0, 0, 2⟩], false, [], [], false⟩
     let full := { withArea (plazaB { Plaza.empty with spill := [k] }) 3 with mem := [] }
     (full.plz 0).spill.find? (fun x => !x.sent && !x.failed) = some k ∧ k.taken = [] ∧ full.retired.contains 0 = false ∧ full.undoFull 0 = false ∧
       k.ops.length ≤ (full.freeInWindow 0 k.key).length ∧ full.stops.lost = [] ∧ full.memOk = true) ∧
    (let k : SpillKey := ⟨keyOf (tok 0).tag, [⟨tok 0, 0, 2⟩], false, [], [], true⟩
     let none_ := withArea (plazaB { Plaza.empty with spill := [k] }) 4
     (none_.plz 0).spill.find? (fun x => !x.sent && x.failed) = some k ∧ none_.undoFull 0 = false ∧
       (none_.freeInWindow 0 k.key).length < k.ops.length) ∧
    takeFirst (fun x : SpillKey => x.sent) [⟨0, [], true, [], [], false⟩] = some (⟨0, [], true, [], [], false⟩, []) ∧
    (let w : WaitEntry := ⟨tok 0, 0, 0, .window (keyOf (tok 0).tag) true, 0⟩
     let b := { withArea (plazaB { Plaza.empty with wait := [w] }) 3 with mem := image3 }
     b.qRuns 0 = true ∧ (b.plz 0).wait.find? (fun w => match w.why with
         | .window _ asked => asked || (decide ((b.plz 0).spillUsed < 32) && !(b.plz 0).holding) | _ => false) = some w ∧
       (b.plz 0).takeWaiting (keyOf w.tok.tag) = ([w], { (b.plz 0) with wait := [] }) ∧ (b.readWindow 0 (keyOf w.tok.tag)).2 = [] ∧ b.stops.bad = [] ∧
       b.rf 0x300044 15 0 = 0 ∧ (b.plz 0).here (keyOf w.tok.tag) = [] ∧ (b.plz 0).spilt (keyOf w.tok.tag) = [] ∧
       b.tokenState 7 = 1 ∧ b.ctx? 7 = some ctx7 ∧ (b.q 0).node (((b.plz 0).cached w.tok.ctx (tagNode w.tok.tag)).getD (b.nodemap ctx7.desc.image (tagNode w.tok.tag))) = some view3 ∧
       view3.pos w.tok < view3.n ∧ view3.pos w.tok ≠ view3.sp ∧ view3.dyn.length ≠ 1) := by
  decide +kernel

-- Port B

/-- A parcel at the parcel port of Quarter 0: its operation, a request for one word at frame word `first`, and one body word. -/
def parcelB (op : Nat) (last : Bool) (first : Nat := 131071) (qq : Quarter := Quarter.empty) : Block :=
  let h := wordOf ⟨BitVec.ofNat 64 (op * 2 ^ 24 + first * 8), mkTag 0 7 0 0 0, mkCtrl 4 6 false last false 0 0⟩ 3
  let w := wordOf ⟨21, 22, mkCtrl 4 6 false true false 0 0⟩ 3
  live.setQ 0 { qq with lanes := [(8, { Lane.empty with b := if last then [h] else [h, w] })] }
/-- The premises of `Block.parcelIs` hold there, with a body of `n` words and a request for one word at `first`. -/
def parcelMet (op n : Nat) (b : Block) (first : Nat := 131071) : Bool :=
  match (b.q 0).portItem with
  | (h :: body, new, _) => b.qAwake 0 && (b.q 0).pbq == [] && decide (b.rf 0x300044 15 0 = 0) && parcelOf op (h :: body) &&
      decide (body.length = n) && ((h :: body).drop ((h :: body).length - new)).all LaneWord.sound && decide (pbWord h.tok = first) &&
      decide (pbCount h.tok = 1)
  | _ => false

theorem test_PortB_met :
    (∀ op ∈ [0, 1, 2], parcelMet op 1 (parcelB op false) = true) ∧ parcelMet 6 0 (parcelB 15 true) = true ∧
    (∀ n ∈ [2, 64], pbHeld Quarter.empty 131071 n = false ∧ pbHeld { Quarter.empty with pend := [16383] } 131071 n = true) ∧
    (let b := parcelB 0 false 131070 { Quarter.empty with hits := [⟨131070, FrameWord.empty, live.now⟩] }
     parcelMet 0 1 b 131070 = true ∧ pbHeld (b.q 0) 131070 2 = false ∧ (b.q 0).hits = [⟨131070, FrameWord.empty, b.now⟩] ∧
       (21 : W64) ≠ ((b.q 0).fw 131070).data) ∧
    (∀ op ∈ [3, 4, 5], parcelMet op 0 (parcelB op true) = true) ∧ ((parcelB 5 true).q 0).fw 131071 = FrameWord.empty ∧
    (∀ e ∈ [(false, (3 : BitVec 2)), (true, 3), (false, 1)],
      ((parcelB 5 true 131071 { Quarter.empty with frame := [(131071, ⟨9, e.1, e.2, false⟩)] }).q 0).fw 131071 = ⟨9, e.1, e.2, false⟩) ∧
    (∀ l ∈ [0, 1], let b := live.setQ 0 { Quarter.empty with pbq := [[⟨4, some 9, none⟩]], pend := [l] }
     (b.q 0).pbq = [[⟨4, some 9, none⟩]] ∧ b.qAwake 0 = true ∧ b.rf 0x300044 15 0 = 0 ∧ (b.q 0).pend.contains (4 / 8) = decide (l = 0)) ∧
    (let b := live.setQ 0 { Quarter.empty with wb := [(4, 8)] }
     (b.q 0).wb = [(4, 8)] ∧ b.qAwake 0 = true) := by
  decide +kernel

-- The Avenue

/-- Context 7 placed in logical Quarter 0 = physical Quarter 0, whose NODE 3 some injection points know. -/
def ctxAt0 : Ctx := { (default : Ctx) with state := 4, started := true, groups := [(0, 0)] }
def aveB (units : List Nat) : Block :=
  let b := live.setCtx 7 ctxAt0
  { b with ave := { b.ave with inj := units.map fun u => (u, ⟨[⟨0, 3, word3⟩], none⟩) } }

/-- A flit of `tok 0` to Quarter `q`, on a virtual channel. -/
def flitTo (q vc : Nat) (so : Bool := false) : Flit :=
  ({ word := { tok 0 with ctrl := mkCtrl 0 6 false true so 0 0 }, dstX := (xyOf q).1, dstY := (xyOf q).2, dstP := 0, vc := vc,
     srcX := 2, srcY := 2, srcP := 0, hops := 3, ord := 0, esc := 0 } : Flit).seal
/-- A block whose Crossing (x, y) is as given. -/
def xingB (x y : Nat) (c : Crossing) (b : Block := live) : Block := b.setXing x y c

/-- Lane 4 of Quarter 0 with one token for its own context, whose CTRL and TAG R50 rewrites. -/
def injectB : Block :=
  (aveB [0]).setQ 0 { Quarter.empty with lanes := [(4, laneOf [⟨5, (tok 0).tag ||| 3, mkCtrl 12 7 false false true 0 0⟩])] }

theorem test_Injection_met :
    (let w := (⟨5, (tok 0).tag ||| 3, mkCtrl 12 7 false false true 0 0⟩ : Token)
     injectB.up = true ∧ injectB.cont.roll = none ∧ injectB.ave.mig = none ∧ injectB.rf 0x300044 15 0 = 0 ∧
       ((injectB.q 0).lane 4).closing = none ∧ ((injectB.q 0).lane 4).drain = [wordOf w] ∧ (wordOf w).sound = true ∧
       (injectB.xing 0 0).bufs = [] ∧ (injectB.xing 0 0).down.contains 4 = false ∧ w.kind ∉ [4, 5, 7, 8] ∧
       tagDev w.tag = injectB.ownId ∧ injectB.ctx? w.ctx = some ctxAt0 ∧ ctxAt0.placed = true ∧
       (injectB.inj 0).cache.find? (fun e => e.ctx = ctxAt0.desc.image ∧ e.node = tagNode w.tag) = some ⟨0, 3, word3⟩ ∧
       wordGroup word3 = some 0 ∧ SMap.find? ctxAt0.groups 0 = some 0 ∧ injectB.phys 0 = some 0) ∧
    ({ live with ave := { live.ave with inj := [(pointUnit .host, ⟨[], some (0, 3)⟩)] } }.inj (pointUnit .host)).miss = some (0, 3) := by
  decide +kernel

/-- A Crossing whose west input holds a flit for the Crossing to the east, one that has it at its Quarter, and one in the VC0 pen. -/
def eastB : Block := xingB 2 2 { Crossing.empty with bufs := [(bufKey 3 0, [flitTo 37 0])] }
def homeB : Block := xingB 3 4 { Crossing.empty with bufs := [(bufKey 3 0, [flitTo 37 0])] }
def roundB (so : Bool) : Block :=
  (xingB 3 4 { Crossing.empty with bufs := [(bufKey 3 0, [flitTo 37 0 so, flitTo 37 0])] }).setReg 0x500000 1
def penB : Block :=
  { withArea live 4 with ave := { Avenue.initial with writers := [(0, [flitTo 0 2])] } }

theorem test_Links_met :
    xyOf 37 = (3, 4) ∧
    (eastB.up = true ∧ eastB.arbitrate 2 2 1 = some 0 ∧ eastB.chosen 2 2 1 0 = some 3 ∧
      SMap.get (eastB.xing 2 2).bufs [] (bufKey 3 0) = [flitTo 37 0] ∧ (flitTo 37 0).corrupt 2 2 = false ∧ neighbour 2 2 1 = some (3, 2) ∧
      eastB.rf 0x300044 15 0 = 0 ∧ (flitTo 37 0).sound = true ∧ ({ flitTo 37 0 with crc := 0 } : Flit).sound = false ∧
      (let b := xingB 2 2 { Crossing.empty with bufs := [(bufKey 3 0, [{ flitTo 37 0 with crc := 0 }])] }
       b.arbitrate 2 2 1 = some 0 ∧ b.chosen 2 2 1 0 = some 3 ∧ ({ flitTo 37 0 with crc := 0 } : Flit).corrupt 2 2 = false)) ∧
    (homeB.arbitrate 3 4 4 = some 0 ∧ homeB.chosen 3 4 4 0 = some 3 ∧ quarterAt 3 4 = some 37 ∧ homeB.retired.contains 37 = false ∧
      homeB.distLevel (distOf 37) = 0) ∧
    (SMap.get (xingB 2 2 { Crossing.empty with freed := [(bufKey 1 0, 1)], spent := [(bufKey 1 0, 1)] } |>.xing 2 2).freed 0 (bufKey 1 0) ≠ 0) ∧
    ((eastB.xing 3 2).down.contains 3 = false ∧ neighbour 3 2 3 = some (2, 2) ∧ (eastB.chosen 2 2 (opposite 3) 0).isSome = true ∧
      SMap.get (eastB.xing 3 2).replays 0 3 < 16 ∧
      16 ≤ SMap.get ((xingB 3 2 { Crossing.empty with replays := [(3, 16)] } eastB).xing 3 2).replays 0 3) ∧
    (∀ so ∈ [true, false], SMap.get ((roundB so).xing 3 4).bufs [] (bufKey 3 0) = [flitTo 37 0 so, flitTo 37 0] ∧
      (roundB so).rf 0x500000 0 0 = 1 ∧ ((roundB so).xing 3 4).holds (flitTo 37 0 so) = false ∧ (flitTo 37 0 so).corrupt 3 4 = false) ∧
    (SMap.get penB.ave.writers [] 0 = [flitTo 0 2] ∧ quarterAt 0 0 = some 0 ∧ penB.memOk = true ∧ penB.rollDiscards 0 (flitTo 0 2).word = false ∧
      (penB.plz 0).penWr - (penB.plz 0).penRd < penB.penBytes 0 / 32 ∧ penB.undoFull 0 = false ∧ penB.stops.lost = [] ∧
      penB.penBase 0 + 32 * (penB.penBytes 0 / 32) ≤ maEnd) := by
  decide +kernel

/-- A gate of Quarter 0 for context 7, entry 3 and exit 4, with BASE at the top of the index space, and one as a STREAM gate. -/
def gate7 (base know : Nat) (stream : Bool := false) : GateEntry := ⟨true, stream, 7, 3, 4, 8, know, base, [], 0⟩
def gateB (g : GateEntry) (idx : Nat) : Block := live.setQ 0 { Quarter.empty with gates := [(2, g)], retireIn := [mkTag 0 7 4 idx 0] }
def kB : Block := (gateB (gate7 0 8) 0).setReg 0x500200 (2 * 256)

theorem test_IterationGates_met :
    (∀ idx ∈ [262143, 0], let b := gateB (gate7 262143 8) idx
      let tag := mkTag 0 7 4 idx 0
      b.qRuns 0 = true ∧ (b.q 0).retireIn = [tag] ∧ (b.q 0).gates = [(2, gate7 262143 8)] ∧ (gate7 262143 8).ctx = tagCtx tag ∧
        (gate7 262143 8).exit = tagNode tag ∧ (gate7 262143 8).map = [] ∧ gateBound false 8 = some 8 ∧ (tagIdx tag + 2 ^ 18 - 262143) % 2 ^ 18 < 8) ∧
    (let b := { gateB (gate7 5 3) 0 with ave := { Avenue.initial with regrow := some (10, 20) } }
     b.up = true ∧ b.ave.recovering = false ∧ b.allGates = [(0, 2, gate7 5 3)] ∧ gateBound false 8 = some 8 ∧ (3 : Nat) < 8) ∧
    (kB.rf 0x500200 6 0 = 0 ∧ kB.rf 0x500200 11 8 = 2 ∧ kB.retired.contains 0 = false ∧ SMap.find? (kB.q 0).gates 2 = some (gate7 0 8) ∧
      gateBound false 4 = some 4) ∧
    (let b := gateB (gate7 0 8 true) 0
     SMap.find? (b.q 0).gates 2 = some (gate7 0 8 true) ∧ SMap.find? b.ave.convGate (16 * 0 + 2) = none) := by
  decide +kernel

/-- A migration of group 0 of context 7 from logical Quarter 0 to 1. -/
def mig7 : Migration := ⟨7, 0, 0, 1, 0⟩
def gridB : Block := { (live.setReg 0x500000 2).setQ 0 { Quarter.empty with lanes := [(0, laneOf [tok 0])] } with ave := { Avenue.initial with suspect := [0], quiet := [1, 2, 3, 4, 5, 6, 7] } }

theorem test_GridlockAndMigration_met :
    (live.ave.recovering = false ∧ live.distBusy 7 = false ∧ live.distRunning 7 = true ∧ live.distWaiting 7 = false ∧
      (live.setQ 67 { Quarter.empty with lanes := [(0, laneOf [tok 0])] }).distWaiting 7 = true) ∧
    (gridB.rf 0x500000 1 1 = 1 ∧ (∀ d ∈ gridB.running, gridB.suspectNow d = true ∨ gridB.quietNow d = true) ∧
      (∃ d ∈ gridB.running, gridB.suspectNow d = true) ∧ (∀ e ∈ gridB.ave.xings, False) ∧
      (∀ e ∈ gridB.qs, (gridB.plz e.1).entries.length ≤ min (gridB.rf 0x50000C 14 0) 16384)) ∧
    (let b := { aveB [] with ave := { Avenue.initial with chosen := some mig7 } }
     b.up = true ∧ b.ave.mig = none ∧ b.cont.roll = none ∧ b.ctx? 7 = some ctxAt0 ∧ ctxAt0.placed = true ∧ SMap.find? ctxAt0.groups 0 = some 0) ∧
    (let b := { aveB [] with ave := { Avenue.initial with mig := some mig7 } }
     b.groupIdle mig7 = true ∧ b.now ≤ b.migDeadline mig7 ∧ b.ctx? mig7.ctx = some ctxAt0 ∧
       b.migDeadline mig7 < { b with now := 20000 }.now ∧
       ({ b with mem := image3 }.setQ 0 { Quarter.empty with lanes := [(0, laneOf [tok 0])] }).groupIdle mig7 = false) := by
  decide +kernel

-- Contexts and the Dispatcher

/-- A job of SQ 5 with index 9 and its record to CQ 3, from its fields (byte, value). -/
def jobOf (fields : List (Nat × Nat)) : Job :=
  ⟨9, leBytes 64 (fields.map fun f => f.2 * 256 ^ f.1).sum, 3, false, false, false, 0, 0, 0, 0⟩
/-- The block with that job next in SQ 5, and host memory in reach. -/
def withJob (j : Job) (b : Block := live) : Block :=
  { b with host := { b.host with pcie := { Pcie.initial with busMaster := true }, sqs := [(5, { SQ.empty with jobs := [j] })] } }
/-- `Block.starts`, evaluated. -/
def startsB (b : Block) (op : Nat) (j : Job) : Bool := @decide (b.starts 5 op j) (by unfold Block.starts; infer_instance)

/-- A ready context, and others by their state. -/
def ctxIn (state : Nat) (started : Bool := false) : Ctx := { (default : Ctx) with state := state, started := started }
/-- Context 7 in a state. -/
def ctxB (state : Nat) (started : Bool := false) : Block := live.setCtx 7 (ctxIn state started)
def start7 : Job := jobOf [(0, 4), (16, 7), (20, 3)]
/-- An arming of context 7 under way, its descriptor at 896 with VALID or not. -/
def armB (valid : Nat) : Block :=
  { live with disp := { Disp.initial with arming := [⟨7, 3, 5, 9⟩] }, mem := if valid = 1 then [(896, 1)] else [] }

theorem test_ContextArming_met :
    (let b := withJob start7 (live.setReg 0x400008 8)
     startsB b 4 start7 = true ∧ b.cont.roll = none ∧ b.disp.arming = [] ∧ start7.arg 16 4 % 2 ^ 20 = 7 ∧ b.ctxState 7 = 0 ∧ 7 < b.ctxLimit ∧
       b.resident < 65536) ∧
    (∀ n ∈ [1, 6, 7], (withJob start7 (ctxB n)).ctxState 7 = n ∧ startsB (withJob start7 (ctxB n)) 4 start7 = true) ∧
    ((withJob start7).ctxState 7 = 0 ∧ (withJob start7 (live.setReg 0x400008 7)).ctxLimit ≤ 7) ∧
    (∀ v ∈ [0, 1], let b := armB v
      b.up = true ∧ b.disp.arming = [⟨7, 3, 5, 9⟩] ∧ b.journalRoom (.disp 7 .arm) = true ∧ b.stops.lost = [] ∧ b.descMa 7 + 128 ≤ maEnd ∧
        (Desc.ofBytes (memRead b.mem (b.descMa 7) 128)).ctl.testBit 0 = decide (v = 1)) := by
  decide +kernel

def timerB (state tmode : Nat) (dep : Nat := 0) : Block :=
  live.setCtx 7 { (ctxIn state) with timer := true, desc := { (default : Desc) with ctl := tmode * 256, ticks := 1, dep := dep } }
def timed (state tmode : Nat) : Ctx := { (ctxIn state) with timer := true, desc := { (default : Desc) with ctl := tmode * 256, ticks := 1 } }
def setJob (sub : Nat) : Job := jobOf [(0, 6), (16, 7), (20, sub), (24, 2)]

theorem test_Counters_met :
    (timerB 2 1).nextTimer = some (7, timed 2 1) ∧ (timerB 1 2).nextTimer = some (7, timed 1 2) ∧
    (timerB 1 2).journalRoom (.disp 7 .timerDue) = true ∧ (timerB 1 2).cont.roll = none ∧ (timed 1 2).desc.tmode = 2 ∧
    (timed 2 1).desc.dep = 0 ∧ ((timerB 1 1 3).nextTimer.map fun e => (e.1, e.2.desc.tmode, e.2.desc.dep)) = some (7, 1, 3) ∧
    (∀ sub ∈ [0, 1, 2], startsB (withJob (setJob sub) (ctxB 1)) 6 (setJob sub) = true ∧ (withJob (setJob sub) (ctxB 1)).disp.arming = [] ∧ (setJob sub).byte 20 = sub ∧
      (withJob (setJob sub) (ctxB 1)).ctx? 7 = some (ctxIn 1) ∧ (withJob (setJob sub) (ctxB 1)).journalRoom (.disp 7 (.dep 0 0)) = true) ∧
    (let b := { withJob (setJob 1) (live.setReg 0x400008 8) with mem := [(896, 1), (904, 3)] }
     b.ctx? 7 = none ∧ b.defined 7 = true ∧ b.memOk = true ∧ b.stops.lost = [] ∧ b.stops.bad = [] ∧ b.rf 0x300044 15 0 = 0 ∧ b.descMa 7 + 128 ≤ maEnd ∧ startsB b 6 (setJob 1) = true) ∧
    (let b := { ctxB 1 with disp := { (ctxB 1).disp with depQ := [7] } }.setReg 0x400008 8
     b.disp.depQ = [7] ∧ b.ctx? 7 = some (ctxIn 1) ∧ 7 < b.ctxLimit ∧ b.journalRoom (.disp 7 (.dep 0 0)) = true) ∧
    (let b := { live with disp := { Disp.initial with depQ := [7] } }
     b.ctx? 7 = none ∧ b.defined 7 = false) := by
  decide +kernel

theorem test_Starts_met :
    (let b := (ctxB 3).setReg 0x400000 1
     b.up = true ∧ b.rf 0x400000 0 0 = 1 ∧ b.hub.grave = false ∧ b.journalRoom (.disp 0 .start) = true ∧ b.headOf 0 = some (7, ctxIn 3) ∧
       (ctxIn 3).blocked = false ∧ (∀ m < 16, 0 < m → b.headOf m = none) ∧ b.reserve 7 (ctxIn 3) (b.placement (ctxIn 3)) = some b ∧
       (∀ d ∈ b.districts (b.placement (ctxIn 3)), b.distLevel d = 0 ∧ b.rf (distStat d) 0 0 = 0)) ∧
    (let x := { ctxIn 4 with held := true, woken := [0] }
     let b := live.setCtx 7 x
     b.ctx? 7 = some x ∧ b.hub.grave = false ∧ (∀ d ∈ x.woken, b.distLevel d = 0 ∧ b.rf (distStat d) 1 1 = 0)) := by
  decide +kernel

/-- Context 7 in a state with a CTL_END of its own at the Host Gate. -/
def endB (state : Nat) : Block := (ctxB state true).setGate 0 { (live.gate 0) with inbox := [tok 7 0 33] }

theorem test_Completion_met :
    (∀ n ∈ [4, 5], (endB n).ctx? 7 = some (ctxIn n true) ∧ ((endB n).gate 0).penCount = 0 ∧ (tok 7 0 33).so = false ∧
      ((endB n).gate 0).inbox = [tok 7 0 33] ∧ (tok 7 0 33).ctx = 7) ∧
    SMap.find? { (ctxB 4) with live := [(liveKey 71 7, (3, 2))] }.live (liveKey 71 7) = some (3, 2) ∧
    ((ctxB 5 true).spanEntry 7 = none ∧ (ctxIn 5 true).span.waiting = false ∧ (ctxB 5 true).cont.roll = none ∧
      (ctxB 5 true).unflushed 7 = false ∧ (ctxIn 5 true).e = (ctxIn 5 true).c ∧ (ctxIn 5 true).okRounds = 0) := by
  decide +kernel

def cancel7 : Job := jobOf [(0, 5), (16, 7)]
def closing7 (cancelled : Bool) (todo : List Nat) : Ctx := { ctxIn 6 true with cancelled := cancelled, status := 1, todo := todo }

theorem test_CollectionAndCancel_met :
    (∀ n ∈ [1, 3], startsB (withJob cancel7 (ctxB n)) 5 cancel7 = true ∧ cancel7.arg 16 4 % 2 ^ 20 = 7 ∧
      (withJob cancel7 (ctxB n)).journalRoom (.disp 7 .cancel) = true ∧ (ctxIn n).started = false) ∧
    (∀ n ∈ [4, 5], startsB (withJob cancel7 (ctxB n true)) 5 cancel7 = true) ∧
    (let b := live.setCtx 7 (closing7 false [67]) |>.setQ 67 { Quarter.empty with plaza := { Plaza.empty with entries := [other] } }
     (closing7 false [67]).todo.contains 67 = true ∧ b.retired.contains 67 = false ∧ (b.plz 67).spill = [] ∧ b.usedSlots 67 = [] ∧
       (b.plz 67).penBusy = false ∧ (b.plz 67).wait = [] ∧ b.power.images = []) ∧
    (let b := live.setCtx 7 (closing7 true [])
     b.ctx? 7 = some (closing7 true []) ∧ b.spanEntry 7 = none ∧ min (b.rf 0x400014 9 0) 1000 ≠ 0 ∧
       min ((b.setReg 0x400014 0).rf 0x400014 9 0) 1000 = 0) ∧
    (ctxB 7).ctx? 7 = some (ctxIn 7) := by
  decide +kernel

-- The host interface

/-- The host interface on, polling and fetching; SQ 5, CQ 3 and EQ 2 are rings of 16. -/
def hostB : Block :=
  let b := (((live.setReg 0x100000 1).setReg (sqCfg 5) (2 ^ 31 + 4)).setReg (cqCfg 3) (2 ^ 31 + 4)).setReg (eqCfg 2) (2 ^ 31 + 4)
  { b with host := { b.host with pcie := { Pcie.initial with busMaster := true } } }
def rec0 : CqRec := .job 1 0 5 9 0 0

theorem test_HostRings_met :
    hostB.hostOn = true ∧ hostB.host.active = true ∧ ringOn (hostB.reg (sqCfg 5)) = true ∧ ringOn (hostB.reg (cqCfg 3)) = true ∧
    (hostB.setSq 5 { SQ.empty with tail := 1 }).mayFetch 5 = true ∧
    (let b := hostB.setSq 5 { SQ.empty with fetched := some (jobOf [(0, 4)]).desc }
     (b.sq 5).fetched = some (jobOf [(0, 4)]).desc ∧ descByte (jobOf [(0, 4)]).desc 0 ≠ 10 ∧
       b.journalRoom (.job 0 (jobOf [(0, 4)]).desc) = true) ∧
    ((hostB.setSq 5 { SQ.empty with accDue := true }).sq 5).accDue = true ∧ hostB.memOk = true ∧
    (let b := hostB.setCq 3 { CQ.empty with waiting := [rec0] }
     (b.cq 3).halted = false ∧ takeFirst (fun x => b.recReady 3 x) (b.cq 3).waiting = some (rec0, []) ∧
       ringDiff (b.cq 3).w (b.cq 3).head < ringSize (b.reg (cqCfg 3))) ∧
    (∀ op ∈ [2, 7], startsB (withJob (jobOf [(0, op)]) hostB) op (jobOf [(0, op)]) = true) ∧
    ((hostB.setRing 79 { (hostB.ring 79) with headRead := true }).ring 79).headRead = true ∧ hostB.hostBus = true ∧
    (∃ k ∈ hostB.polledWords, 64 ≤ k ∧ k < 64 + 4) ∧ (∃ k ∈ hostB.polledWords, 5 ≤ k ∧ k < 5 + 1) ∧
    (jobOf [(0, 2), (24, 1)]).hostRead = true ∧ (jobOf [(0, 7), (32, 1)]).hostRead = true := by
  decide +kernel

theorem test_ControlJobs_met :
    (∀ op ∈ [0, 1, 14, 255, 11], startsB (withJob (jobOf [(0, op)])) op (jobOf [(0, op)]) = true) ∧
    (∀ mode ∈ [0, 1, 2, 3], startsB (withJob (jobOf [(0, 12), (20, mode)])) 12 (jobOf [(0, 12), (20, mode)]) = true ∧
      (jobOf [(0, 12), (20, mode)]).byte 20 = mode) ∧
    (let b := withJob (jobOf [(0, 13)])
     startsB b 13 (jobOf [(0, 13)]) = true ∧ b.rf 0x1100200 0 0 = 1 ∧ (b.setReg 0x1100200 0).rf 0x1100200 0 0 = 0 ∧ b.cont.close = none ∧
       b.cont.roll = none) := by
  decide +kernel

def injectJ : Job := jobOf [(0, 2), (16, 0x4000), (24, 1)]
def toModule : Job := jobOf [(0, 7), (16, 0x4000), (24, 0x3BFFFFFFFF), (32, 1)]
def fromModule : Job := jobOf [(0, 8), (16, 0x4000), (24, 0x3BFFFFFFC0), (32, 64)]
def loadJ : Job := jobOf [(0, 3), (16, 0x1000), (24, 32)]
/-- A CODE section of one word for logical Quarter 63, at the last place of code. -/
def codeMem : List Host.Cell := [(0x1000, 2), (0x1002, 63), (0x1004, 0xFF), (0x1005, 0x7F), (0x1008, 1), (0x1013, 0x8A)]
def block0 : ABlock := { (default : ABlock) with slot := 0, nrec := 1, sealed := true }
def drainJ : Job := jobOf [(0, 9), (16, 0x4000), (24, 1)]
def keyD : List Byte := (jobOf [(0, 10), (16, 3), (32, 7)]).desc

theorem test_DataJobs_met :
    (let b := withJob injectJ
     startsB b 2 injectJ = true ∧ b.hostBus = true ∧ injectJ.arg 24 4 = 1 ∧
       b.journalUsed + min (1 * (JBody.inject { value := 0, tag := 0, ctrl := 0 }).len) b.journalSpace ≤ b.journalSpace ∧
       (Token.ofBytes (memRead b.hostMem 0x4000 32)).kind = 0) ∧
    (startsB (withJob toModule) 7 toModule = true ∧ toModule.arg 24 8 % 2 ^ 40 + toModule.arg 32 4 ≤ maEnd ∧ (withJob toModule).memOk = true) ∧
    (startsB (withJob fromModule) 8 fromModule = true ∧ fromModule.arg 24 8 % 2 ^ 40 + fromModule.arg 32 4 ≤ maEnd) ∧
    (let b := { withJob loadJ with mem := codeMem }
     startsB b 3 loadJ = true ∧ b.stops.bad = [] ∧ b.rf 0x300044 15 0 = 0 ∧ loadJ.arg 24 4 = 16 + bodyBytes 2 1 ∧ memGet b.mem 0x1000 = 2 ∧ b.loadLe 0x1002 2 = 63 ∧ b.phys 63 = some 66 ∧
       b.loadLe 0x1004 4 = 32767 ∧ b.loadLe 0x1008 4 = 1 ∧ SMap.find? b.power.images 66 = none) ∧
    (let b := { withJob drainJ with arch := { Archive.initial with blocks := [block0] } }
     startsB b 9 drainJ = true ∧ b.olderDrain drainJ.lsn = false ∧ b.stops.bad = [] ∧ b.rf 0x300044 15 0 = 0 ∧
       b.arch.drainable.take (drainJ.arg 24 4) = [block0] ∧ b.blockMa block0 + 65536 ≤ maEnd ∧ b.memOk = true) ∧
    (let b := hostB.setSq 5 { SQ.empty with fetched := some keyD }
     (b.sq 5).fetched = some keyD ∧ descByte keyD 0 = 10 ∧ (b.sq 5).keyDone = none ∧ b.hostOn = true ∧ b.hub.grave = false) := by
  decide +kernel

theorem test_HostControl_met :
    live.up = true ∧ (∀ e ∈ [(RingKind.sq, 63), (.cq, 63), (.eq, 15)], e.2 < ringKindCount e.1 ∧ live.rf (ringKindCfg e.1 e.2) 31 31 = 0) ∧
    live.host.resume = false ∧ { live with host := { live.host with resume := true } }.host.resume = true ∧
    (let b := live.setReg 0x10001C (2 ^ 31 + 2 ^ 30)
     b.rf 0x10001C 31 31 = 1 ∧ b.rf 0x10001C 31 30 = 3 ∧ b.bar2Ma (0xFFFFFFC0 / 64 * 64) + 64 ≤ maEnd ∧ live.rf 0x10001C 31 30 ≠ 3) := by
  decide +kernel

-- The Event Controller

/-- The EVC on with source 19 sent to EQ 2, which is a ring of 16. -/
def evcB (vs : List Event) : Block :=
  let b := (hostB.setReg 0x200000 (2 ^ 31)).setReg (srcReg 19) (2 ^ 31 + 2)
  { b with evc := { b.evc with raised := vs } }
def warn : Event := ⟨19, 11, none⟩
def rec19 : EqRec := ⟨19, 11, 5, false, false, false, 0⟩

theorem test_EventRecords_met :
    (let b := evcB [warn]
     b.up = true ∧ b.evc.raised = [warn] ∧ b.rf 0x200000 31 31 = 1 ∧ b.rf 0xE0000C 31 31 = 0 ∧ (b.reg (srcReg 19)).testBit 31 = true ∧
       b.reg (srcReg 19) % 16 = 2 ∧ (b.eq 2).staged.length < b.stageSize ∧
       ((b.setReg (srcReg 19) 2).reg (srcReg 19)).testBit 31 = false ∧ SMap.find? b.evc.late 19 = none) ∧
    (let b := (evcB []).setEq 2 { (hostB.eq 2) with staged := [rec19] }
     (b.eq 2).staged = [rec19] ∧ b.memOk = true ∧ b.hostBus = true ∧ ringOn (b.reg (eqCfg 2)) = true ∧ (b.eq 2).halted = false ∧
       ((b.eq 2).w + 2 ^ 32 - (b.eq 2).head % 2 ^ 32) % 2 ^ 32 < ringSize (b.reg (eqCfg 2))) ∧
    (0x80000005#32).getLsbD 31 = true ∧ (5#32).getLsbD 31 = false := by
  decide +kernel

theorem test_EventRecords_full_met :
    (evcB [warn]).stageSize ≤ (((evcB [warn]).setEq 2 { ((evcB [warn]).eq 2) with staged := List.replicate 4096 rec19 }).eq 2).staged.length := by
  show (evcB [warn]).stageSize ≤ (List.replicate 4096 rec19).length
  rw [List.length_replicate]
  decide +kernel

/-- Ring 66, which is EQ 2, with a record not signalled. -/
def dueB (due : Bool) : Block :=
  let b := hostB.setRing 66 { (hostB.ring 66) with unsig := 1, due := due }
  { b with host := { b.host with pcie := { Pcie.initial with busMaster := true, msixOn := true } } }

theorem test_InterruptsAndWakes_met :
    (let b := (dueB true).setReg 0x10800C 0
     b.hostBus = true ∧ b.host.pcie.msixOn = true ∧
       (b.dueRings.filter fun k => decide (b.evc.running ≤ b.ringPrio k)).find? (fun k => !b.vecMasked k) = some 66) ∧
    (let b := (dueB false).setRing 66 { (dueB false).ring 66 with time := 10 }
     (b.ring 66).time ≠ 0 ∧ (b.ring 66).unsig ≠ 0 ∧ (b.ring 66).signalled = false ∧ (b.ring 66).headRead = false) ∧
    { live with evc := { Evc.initial with stack := [(66, 3)] } }.evc.stack = [(66, 3)] ∧ live.evc.stack = [] ∧
    ((hostB.setRing 79 { (hostB.ring 79) with headRead := true }).ring 79).headRead = true ∧
    (∀ i < 32, wakeBit i = true → live.reg 0x1100104 < 2 ^ 32) ∧ wakeBit 16 = true ∧ (∀ v ∈ live.evc.raised, v.src ≠ 0) ∧
    { live with evc := { Evc.initial with timer := some 9 } }.evc.timer = some 9 ∧ live.power.off = false := by
  decide +kernel

-- Register accesses

theorem test_RegisterAccess_met :
    live.up = true ∧ (∀ off ∈ [0, 0x300040, 0x400000, 0xB00100, 0x600004, 0x1200000], (regRow off).isSome = true ∧ off % 4 = 0) ∧
    ((5 : Nat) % 4 + [(1 : Byte)].length < 4) ∧ ((2 : Nat) % 4 + [(1 : Byte), 2].length = 4 ∧ (2 : Nat) % 4 ≠ 0) ∧ (regRow 0xFFFFF0).isSome = false ∧
    (∀ q < 68, live.retired.contains q = false ∧ live.distLevel (distOf q) ≠ 3) ∧ quarterBlock 0x300040 = none ∧ live.latch 0x300040 = none ∧
    { live with cont := { Cont.initial with bank := some ⟨5, ⟨[], [], [], none⟩⟩ } }.cont.bank = some ⟨5, ⟨[], [], [], none⟩⟩ := by
  decide +kernel

-- Faults

/-- A detection of a source at unit 2, and the block with it on the fault wires. -/
def det (code : Nat) : Detection := ⟨code, 2, 3, 4, false, false, []⟩
def detB (code : Nat) : Block := { live with hub := { FaultHub.initial with wires := [det code] } }

theorem test_FaultDetections_met :
    (∀ e ∈ [(5, 0), (8, 1), (48, 4)], let b := detB e.1
      b.classOf e.1 = some e.2 ∧ b.shadowOf (det e.1) e.2 = none ∧ (b.hub.pend.any fun p => p.cls == e.2) = false ∧ (b.qtrCount (det e.1)).2 = false ∧
        b.stops.lost = [] ∧ b.memOk = true ∧ b.rf 0x300010 27 0 * 4096 + 64 * (b.hub.fseq % b.logEntries) + 64 ≤ maEnd) ∧
    (State.reset.blk.up = false ∧ State.reset.blk.power.off = false ∧ State.reset.blk.classOf 48 = some 4) ∧
    (let b := { live with hub := { FaultHub.initial with quietDue := [(1, 50)], f0Due := [(7, 60)], windows := [⟨.stop 3, 1, some 70⟩] } }
     SMap.find? b.hub.quietDue 1 = some 50 ∧ (∀ c < 64, b.rf (srcStat c) 31 31 = 0) ∧ SMap.find? b.hub.f0Due 7 = some 60 ∧
       b.hub.windows = [⟨.stop 3, 1, some 70⟩]) := by
  decide +kernel

theorem test_KerbsAndHeartbeats_met :
    live.up = true ∧ live.power.off = false ∧ live.kerb.inputs.testBit 7 ≠ true ∧
    (let b := { live with hub := { FaultHub.initial with beatWait := [67] } }
     b.hub.beatWait.contains 67 = true ∧ b.retired.contains 67 = false) ∧
    (live.setReg (kerbCfg 15) (2 ^ 31)).kerbOn 15 = true ∧ { live with kerb := { live.kerb with state := [(15, 5)] } }.kerbState 15 = 5 := by
  decide +kernel

-- Continuity

/-- The block while the epoch of `closing` closes. -/
def closeB (c : Close) : Block := { live with cont := { Cont.initial with epoch := 4, close := some c } }
/-- A close whose cuts and MARKs are all made and all of whose MARKERs have come. -/
def closed : Close :=
  ⟨3, 0, ⟨(live.mapped).map fun q => (q, ⟨default, 0, [], live.senders⟩), [0, 1, 2, 3].map fun g => (g, 0, []), [], some Disp.initial⟩⟩

theorem test_EpochCloses_met :
    (live.rf 0x1100200 0 0 = 1 ∧ live.stops.bad = [] ∧ live.rf 0x300044 15 0 = 0 ∧ live.cont.close = none ∧ live.cont.roll = none ∧ live.cont.epochAsked = [] ∧ live.undoHigh = false) ∧
    ((closeB (closing [])).mapped.contains 66 = true ∧ SMap.find? (closing []).cuts.quarters 66 = none ∧ (closeB (closing [])).power.images = []) ∧
    SMap.find? { live with power := { live.power with images := [(66, Quarter.empty)] } }.power.images 66 = some Quarter.empty ∧
    (∀ g < 4, SMap.find? (closing []).cuts.marks g = none) ∧ (closeB (closing [])).journalRoom (.mark 3) = true ∧
    (let b := live.setQ 67 { Quarter.empty with pend := [9, 4] }
     (b.q 67).pend ≠ [] ∧ b.qAwake 67 = true ∧ (b.q 67).heldLine = none ∧
       ({ b.q 67 with pes := [(0, { PE.empty with memq := [⟨0, .st, 72, 576, 0, 5, 0, 0⟩] })] } : Quarter).heldLine = some 9 ∧
       (∀ i < 8, ((b.q 67).fw (8 * 4 + i)).bad = false ∧ ((b.q 67).fw (8 * 4 + i)).ce = false)) ∧
    ((closeB closed).closeComplete closed = true ∧ (closeB closed).journalRoom (.epochDone 3) = true ∧ (closeB closed).cont.epochAsked = []) ∧
    (let b := { live with cont := { Cont.initial with fullSince := some 0 } }
     b.cont.fullSince = some 0 ∧ b.journalUsed < b.journalSpace ∧ b.reg (contCnt 6) < 2 ^ 32) := by
  decide +kernel

theorem test_Rollbacks_met :
    (let b := { ctxB 4 with cont := { Cont.initial with roll := some (rolling 4), bank := some ⟨3, closed.cuts⟩ } }
     b.up = true ∧ b.cont.roll = some (rolling 4) ∧ (rolling 4).lost = [] ∧ (rolling 4).quarters.Nodup ∧ (∀ q ∈ (rolling 4).quarters, q < 68) ∧
       b.decsOf ⟨3, closed.cuts⟩ (rolling 4).ctxs = []) ∧
    ((rolling 5).feed = [] ∧ (rolling 5).decs = [] ∧ (∀ e ∈ (rolling 5).merges, e.2 = []) ∧ (rolling 5).slow = false) := by
  decide +kernel

-- Module memory and the Archive

theorem test_Stops_met :
    live.up = true ∧ live.rf 0x300044 15 0 = 0 ∧ 64 * (0x3BFFFFFFFF / 64) + 64 = maEnd ∧ live.onLost 0x3BFFFFFFC0 = false ∧
    live.stops.bad.contains 0x3BFFFFFFC0 = false ∧ maEnd < 64 * (0x3C00000000 / 64) + 64 ∧ live.memOk = true ∧
    { live with stops := { MemUnit.initial with bad := [64] } }.stops.bad.contains 64 = true ∧
    { live with stops := { MemUnit.initial with lost := [0] } }.onLost 0 = true ∧
    live.rebuilt 0x3BFFFFFFC0 = none ∧
    { live with stops := { MemUnit.initial with bad := [0x3BFFFFFFC0] } }.rebuilt 0x3BFFFFFFC0 = none ∧
    { live with stops := { MemUnit.initial with lost := [7] } }.onLost 0x3BFFFFFFC0 = true ∧
    { live with stops := { MemUnit.initial with lost := [7] } }.rebuilt 0x3BFFFFFFC0 = none ∧
    ({ live with stops := { MemUnit.initial with bad := [64] } }.rebuilt 64).isSome = true ∧
    ({ live with stops := { MemUnit.initial with lost := [0] } }.rebuilt 0).isSome = true ∧
    64 * (0x3BFFFFFFFF / 64) < 0x3BFFFFFFFF ∧ 0x3BFFFFFFFF + [(1 : Byte)].length ≤ maEnd ∧ maEnd < 0x3BFFFFFFFF + [(1 : Byte), 2].length := by
  decide +kernel

/-- Module memory with bytes in one stripe and an uncorrectable line. -/
def striped : State :=
  st { live with mem := [(64, 5), (4160, 7), (28737, 3)], stops := { MemUnit.initial with bad := [64] } }

/-- R431: the line is the XOR of the other seven pages of its stripe. -/
theorem test_rebuild : (match exec (.stopRead 70 0) striped with
    | .next t => (t.blk.lands.line.take 3, t.blk.lands.lineBad, t.blk.stops.bad)
    | _ => ([], true, [])) = ([7, 3, 0], false, []) := by decide +kernel

theorem test_Sweepers_met :
    (live.sweepFree 7 = true ∧ (∀ i < 64, live.stops.bad.contains (4096 * 7 + 64 * i) = false)) ∧
    (let b := (live.setReg (0xB00110 + 4 * 7) 1)
     let b := { b with stops := { MemUnit.initial with borrow := [(7, ⟨15, true⟩)] } }
     SMap.find? b.stops.borrow 7 = some ⟨15, true⟩ ∧ b.rf (0xB00110 + 4 * (15 % 8)) 15 0 ≠ 0) ∧
    (∀ n ∈ [15, 16], let b := { live with stops := { MemUnit.initial with revisit := [(7, [(15, 40)])], aborts := [(15, n)] } }
      SMap.get b.stops.revisit [] 7 = [(15, 40)] ∧ b.sweepFree 7 = true ∧ SMap.get b.stops.aborts 0 15 = n) ∧
    SMap.get { live with stops := { MemUnit.initial with hist := [(7, [(15, 3)])] } }.stops.hist [] 7 = [(15, 3)] := by
  decide +kernel

def open0 : ABlock := { block0 with nrec := 2042, sealed := false }
/-- The Archive with a LOG token, an open block with room for one record, and a block to be sealed. -/
def archB (blocks : List ABlock) (keys : SMap (List Byte)) : Block :=
  let b := ((live.setReg 0xC00000 0x800001F0).setGate 3 { (live.gate 3) with inbox := [tok 3] })
  { b with arch := { Archive.initial with open_ := some open0, blocks := blocks, keys := keys } }

theorem test_ArchiveBlocks_met :
    (let b := archB [] []
     b.up = true ∧ b.stops.lost = [] ∧ b.memOk = true ∧ (b.gate 3).penCount = 0 ∧ (tok 3).so = false ∧ (b.gate 3).inbox = [tok 3] ∧ b.cont.outs = [] ∧
       b.rf 0xC00000 31 31 = 1 ∧ b.journalRoom (.out (tok 3).tag (tok 3).value 0) = true ∧ b.arch.lost = 0 ∧ b.arch.open_ = some open0 ∧
       open0.nrec < 2043 ∧ b.blockMa open0 + 128 + 32 * open0.nrec + 32 ≤ maEnd ∧ open0.nrec ≠ 0 ∧ b.rf 0xC00000 23 8 ≠ 0) ∧
    (let b := archB [{ block0 with sealed := false }] [(0, [1])]
     b.arch.sealing = none ∧ b.unsealed = some { block0 with sealed := false } ∧ b.rf 0xC00000 2 0 = 0 ∧ SMap.find? b.arch.keys 0 = some [1] ∧
       SMap.find? (archB [{ block0 with sealed := false }] []).arch.keys 0 = none ∧
       b.blockMa { block0 with sealed := false } + (b.blockHeader { block0 with sealed := false } 0 true (List.replicate 32 0)).length ≤ maEnd) := by
  decide +kernel


-- The Converter Gate

/-- Link 0 in a state: one converter of 16 bits on one lane, one sample a frame; and one that transmits. -/
def linkL : ConvLink :=
  { ConvLink.empty with p0 := 1 + 2 * 2 ^ 8 + 16 * 2 ^ 16 + 16 * 2 ^ 22, p1 := 1 + 2 ^ 4 + 2 ^ 8 + 2 ^ 16, rate := 1000000, ke := 32 }
def linkT : ConvLink := { linkL with tx := true }
def linkB (state : Nat) (l : ConvLink := linkL) (b : Block := live) : Block := (b.setReg (linkReg 0 8) state).setLink 0 l

theorem test_ConverterLinks_met :
    live.conv.script = none ∧ (∀ j < 8, live.linkState j ≠ 1) ∧
    (∀ eye ∈ [0, 9], let b := linkB 1 { linkL with dwellAt := some 7, eyeMin := eye }
      b.up = true ∧ b.linkState 0 = 1 ∧ (b.link 0).dwellAt = some 7 ∧ (b.link 0).entry < 8 ∧ (b.link 0).tx = false ∧ (b.link 0).todo = [] ∧
        b.stops.bad = [] ∧ b.rf 0x300044 15 0 = 0 ∧ bits (b.loadLe ((b.link 0).field 16 8 % 2 ^ 40) 8) 63 60 = 0 ∧
        bits (b.loadLe ((b.link 0).field 24 8 % 2 ^ 40) 8) 63 60 = 0 ∧
        rxOutcome (b.link 0).eyeMin ((List.range (b.link 0).cL).map fun i => [(5, false)].getD i (0, false)) = if eye = 0 then 1 else 6) ∧
    (let b := (linkB 2 { linkL with subclass := 1, edge := true }).setReg 0xD00000 1
     b.linkState 0 = 2 ∧ b.slotsTurned 0 = true ∧ (b.link 0).edge = true ∧ b.sysrefMode ≠ 0 ∧ (b.link 0).cEnc = false ∧ (b.link 0).tx = false ∧
       (∀ i < (b.link 0).cL, (b.link 0).ilasAgrees i (((List.range (b.link 0).cL).map (b.link 0).ilas).getD i []) = true) ∧
       ¬∀ i < (b.link 0).cL, (b.link 0).ilasAgrees i (([] : List (List Byte)).getD i []) = true) ∧
    (let b := (linkB 2 { linkL with subclass := 1 }).setReg 0xD00000 1
     b.sysrefMode ≠ 0 ∧ (b.link 0).subclass = 1 ∧ b.linkState 0 = 2 ∧ (b.link 0).edge = false) ∧
    (let b := (linkB 3 { linkL with subclass := 1, slots := [2] }).setReg 0xD00000 1
     b.sysrefMode = 1 ∧ (b.setReg 0xD00000 2).sysrefMode = 2 ∧ (b.link 0).subclass = 1 ∧ b.linkState 0 = 3 ∧
       (b.link 0).onBoundary b.now = true ∧ (b.link 0).onBoundary (b.now + 1) = false ∧ (b.reg 0xD00004).testBit 2 ≠ (4#32).getLsbD 2 ∧
       (b.reg 0xD00004).testBit 2 = (0#32).getLsbD 2) ∧
    (let b := { live with conv := { Conv.initial with script := some 256, settleWait := [0] } }
     b.conv.script = some 256 ∧ b.stops.bad = [] ∧ b.rf 0x300044 15 0 = 0 ∧ bits (b.loadLe (256 % 2 ^ 40) 8) 63 60 = 0 ∧ 0 ∈ b.conv.settleWait) := by
  decide +kernel

/-- A frame in staging, released or not, with a token of context 7 for node 3. -/
def frame0 (released : Bool) : StgFrame := ⟨0, false, released, 0, none, [], [tok 0], 18, false, 0⟩

theorem test_SamplesIn_met :
    (let b := linkB 3 linkL (live.setReg (bindReg 0) (2 ^ 31 + 7))
     let a := b.startChannels 0 0
     b.up = true ∧ b.linkState 0 = 3 ∧ b.linkTx 0 = false ∧ (b.link 0).lockLost = none ∧ b.hub.grave = false ∧ b.rf 0x300044 15 0 = 0 ∧
       (a.frameTokens 0 0 (some [5]) false).length = 1 ∧
       b.journalRoom (.samples 0 0 2 (a.stampToken 0 0) (a.frameTokens 0 0 (some [5]) false)) = true ∧ 18 ≤ b.stgBytes 0 ∧
       (let c := b.setLink 0 { linkL with staging := [{ (frame0 false) with bytes := b.stgBytes 0 }] }
        c.stgBytes 0 < (((c.link 0).staging.map (·.bytes)).sum) + 18)) ∧
    ((linkB 3 { linkL with staging := [frame0 false] }).link 0).staging.find? (fun f => !f.released) = some (frame0 false) ∧
    (let b := linkB 3 { linkL with staging := [frame0 true] } (aveB [69])
     (b.link 0).staging = [frame0 true] ∧ (frame0 true).toks.any b.notAdmitted = false ∧ b.cont.roll = none ∧ b.ave.mig = none ∧
       (b.xing 8 2).down.contains 4 = false ∧ (tok 0).kind ∉ [4, 5, 7, 8] ∧ (SMap.get (b.xing 8 2).bufs [] (bufKey 4 0)).length < 8 ∧ tagDev (tok 0).tag = b.ownId ∧
       b.ctx? 7 = some ctxAt0 ∧ ctxAt0.placed = true ∧
       (b.inj 69).cache.find? (fun e => e.ctx = ctxAt0.desc.image ∧ e.node = tagNode (tok 0).tag) = some ⟨0, 3, word3⟩ ∧
       wordGroup word3 = some 0 ∧ SMap.find? ctxAt0.groups 0 = some 0 ∧ b.phys 0 = some 0) ∧
    (linkB 3 { linkL with lockLost := some 40 }).linkState 0 = 3 ∧ linkL.realigns = [] := by
  decide +kernel

/-- Drive channel 0 plays on link 0, which transmits. -/
def driveB (x : Drive) (inbox : List Token) : Block :=
  let b := (linkB 3 { linkT with dataAt := 100000 } ((live.setReg (outReg 0) (2 ^ 31)).setReg 0xD00004 1)).setDrive 0 x
  b.setGate 1 { (b.gate 1) with inbox := inbox }
/-- A token for an index of drive channel 0. -/
def driveTok (idx : Nat) : Token := ⟨5, mkTag 0 7 0 idx 0, (tok 0).ctrl⟩

theorem test_DriveOut_met :
    (let b := live.setGate 1 { (live.gate 1) with inbox := [driveTok 0] }
     b.up = true ∧ (b.gate 1).penCount = 0 ∧ (driveTok 0).so = false ∧ (b.gate 1).inbox = [driveTok 0] ∧ b.driveOn 0 = false) ∧
    (∀ e ∈ [(131072, 1), (64, 2), (63, 3)], let b := driveB { Drive.empty with start := some 2 } [driveTok e.1]
      let off := (tagIdx (driveTok e.1).tag + 2 ^ 18 - (b.drive 0).next % 2 ^ 18) % 2 ^ 18
      b.driveOn 0 = true ∧ b.now < b.deadline 0 (b.drive 0).next ∧
        (if e.2 = 1 then 131072 ≤ off else if e.2 = 2 then b.drvDepth ≤ off ∧ off < 131072 else off < b.drvDepth ∧ off < 131072) ∧
        (driveTok e.1).poison = false ∧ badDrive (driveTok e.1) = false ∧
        SMap.find? (b.drive 0).buffer ((b.drive 0).next + off) = none) ∧
    (let b := driveB { Drive.empty with buffer := [(0, driveTok 0)] } []
     b.driveOn 0 = true ∧ SMap.find? (b.drive 0).buffer (b.drive 0).next = some (driveTok 0)) ∧
    SMap.find? ((driveB Drive.empty []).drive 0).buffer 0 = none ∧
    (let b := driveB { Drive.empty with start := some 0, queue := [(0, 9)] } []
     b.linkState 0 = 3 ∧ b.linkTx 0 = true ∧ (b.link 0).cM = 1 ∧ (b.link 0).cS = 1 ∧ b.hub.grave = false ∧ (b.drive 0).start = some 0 ∧
       (b.drive 0).queue.find? (fun e => e.1 = (0 * 1 + 0 - 0 * 1) / 1) = some (0, 9)) ∧
    live.driveOn 0 = false ∧ (driveB Drive.empty []).rf (outReg 0) 31 31 = 1 := by
  decide +kernel

-- The Colir Gate

/-- Port 0 in a state, with its record. -/
def portB (state : Nat) (c : CPort := CPort.empty) : Block := (live.setReg (portReg 0 4) state).setCport 0 c
/-- A cell as it comes over the lanes. -/
def cellOf (type seq : Nat) (payload : BitVec 144) (hops : Nat := 0) : BitVec 256 := fullCell (coreCell type seq hops payload) 0 0 0
/-- The payload of a CAPS cell: a word and its ECHO. -/
def capsCell (w echo : Nat) : BitVec 256 := cellOf 2 0 (BitVec.ofNat 144 (w + 2 ^ 64 * echo))

theorem test_PortNegotiation_met :
    live.up = true ∧ live.rf (portReg 0 0) 0 0 = 0 ∧ ((portB 4).setReg (portReg 0 0) 1).rf (portReg 0 0) 0 0 = 1 ∧ (portB 4).portState 0 ≠ 0 ∧ (portB 1).portState 0 = 1 ∧
    (∀ by_ ∈ [some 1, none], (tok 0, 3, by_) ∈ ((portB 4 { CPort.empty with tokQ := [(tok 0, 3, by_)] }).cport 0).tokQ ∧ by_ ≠ some 0) ∧
    (let b := portB 2 { CPort.empty with said := true }
     b.portState 0 = 2 ∧ (b.cport 0).said = true ∧ cellSound (capsCell 5 0) = true ∧ cellType (capsCell 5 0) = 2 ∧ b.rf 0x300044 15 0 = 0 ∧
       bits (cellPayload (capsCell 5 0)) 127 64 = (b.cport 0).sentWord.toNat ∧ (b.cport 0).capsCount = 0) ∧
    (let b := ((portB 2 { CPort.empty with capsCount := 1, signal := 15, said := true }).setReg (portReg 0 8) 5).setReg (portReg 0 12) 0
     b.capsIn 0 = 5 ∧ (b.cport 0).capsCount ≠ 0 ∧ bits 5 23 16 ≠ 1) ∧
    (∀ e ∈ [(15, 4, 0), (8, 4, 0)], let b := ((portB 3 { CPort.empty with ctl := e.2.1 }).setRf (portReg 0 4) 15 12 15)
      b.portState 0 = 3 ∧ b.portLanes 0 = 15 ∧ b.portRate 0 = 0 ∧ (15#4).toNat &&& 15 &&& bits (15 * 2 ^ 24) 27 24 = 15 ∧
        (0#4).toNat &&& 15 &&& bits (15 * 2 ^ 24) 27 24 = 0) ∧
    ((portB 3).setRf (portReg 0 4) 10 8 2).portRate 0 = 2 ∧
    (let b := (portB 4 { CPort.empty with fails := List.replicate 1001 5 }).setReg (portReg 0 4) (4 + 2 * 2 ^ 8 + 15 * 2 ^ 12)
     b.portState 0 = 4 ∧ (b.portLanes 0).testBit 3 = true ∧ b.portRate 0 ≠ 0 ∧ b.portLanes 0 ≠ 0 ∧
       1000 < ((b.cport 0).fails.filter fun x => decide (b.now < x + 1000000000)).length) ∧
    (portB 5).portState 0 = 5 ∧ (let b := portB 1 { CPort.empty with leftAt := some 9 }
      (b.cport 0).leftAt = some 9 ∧ b.portState 0 ≠ 4) := by
  decide +kernel

def receivesB (b : Block) (cell : BitVec 256) : Bool := @decide (b.receives 0 cell) (by unfold Block.receives; infer_instance)
def inTurnB (b : Block) (cell : BitVec 256) : Bool := @decide (b.inTurn 0 cell) (by unfold Block.inTurn Block.receives; infer_instance)
/-- An unacknowledged cell, whose SEQ is 0. -/
def old0 : BitVec 256 := coreCell 1 0 0 (tokenPayload (tok 0))
/-- ACK 1. -/
def ack1 : BitVec 256 := fullCell (coreCell 0 0 0 0) 1 3 2

theorem test_ColirCells_met :
    (let b := portB 4
     b.up = true ∧ b.portState 0 = 4 ∧ (b.cport 0).rxHeld = [] ∧ bits (b.cport 0).ctl 1 1 = 0 ∧ (b.cport 0).nakDue = false ∧
       (b.cport 0).again = none ∧ (b.cport 0).replay.length < 128 ∧ (b.cport 0).run < 15 ∧ (b.cport 0).dispQ = [] ∧ (b.cport 0).tokQ = [] ∧
       (b.cport 0).evQ = [] ∧ (b.cport 0).ledQ = []) ∧
    ((portB 4 { CPort.empty with nakDue := true }).cport 0).nakDue = true ∧
    (let c := { CPort.empty with again := some 0, replay := [old0] }
     c.nakDue = false ∧ c.again = some 0 ∧ c.replay[0]? = some old0 ∧ bits old0.toNat 211 192 = 0) ∧
    (let c := { CPort.empty with dispQ := [(6, 1)], ocred := 1 }
     c.dispQ = [(6, 1)] ∧ c.ocred ≠ 0) ∧
    (let c := { CPort.empty with tokQ := [(tok 0, 1, none)], tcred := 1 }
     c.dispQ = [] ∧ c.tokQ = [(tok 0, 1, none)] ∧ c.tcred ≠ 0) ∧
    (let b := portB 4 { CPort.empty with replay := [old0] }
     receivesB b ack1 = true ∧ cellType ack1 = 0 ∧ (b.cport 0).replay = [old0] ∧ (cellAck ack1 + 256 - cellSeq old0) % 256 = 1 ∧
       receivesB b (cellOf 7 0 0) = true ∧ cellType (cellOf 7 0 0) = 7 ∧ ((b.takeCounts 0 (cellOf 7 0 0)).cport 0).replay ≠ []) ∧
    receivesB (portB 4) ack1 = true ∧ receivesB ((portB 4).setRf (portReg 0 4) 11 11 1) ack1 = true ∧
    ((portB 4).setRf (portReg 0 4) 11 11 1).rf (portReg 0 4) 11 11 = 1 := by
  decide +kernel

theorem test_ColirCells_received_met :
    (let b := portB 4
     let c := cellOf 1 0 (tokenPayload (tok 0))
     inTurnB b c = true ∧ cellType c = 1 ∧ tokenOfPayload (cellPayload c) = tok 0 ∧ (b.takeCounts 0 c).journalRoom (.colirIn (tok 0)) = true ∧
       tagDev (tok 0).tag = b.ownId) ∧
    (let b := ((portB 4).setReg (portReg 1 4) 4).setReg 0xE00004 0x10
     let x : Token := { tok 0 with tag := BitVec.ofNat 64 (1 * 2 ^ 60 + 7 * 2 ^ 40) }
     let c := cellOf 1 0 (tokenPayload x) 13
     inTurnB b c = true ∧ tokenOfPayload (cellPayload c) = x ∧ tagDev x.tag ≠ b.ownId ∧ cellHops c < 14 ∧ b.colirRoute (tagDev x.tag) = some 1) ∧
    (receivesB (portB 4) (cellOf 1 9 0) = true ∧ cellSeq (cellOf 1 9 0) ≠ ((portB 4).cport 0).expect ∧ cellSound (cellOf 1 9 0 + 1) = false) ∧
    (∀ ty ∈ [4, 5], inTurnB (portB 4) (cellOf ty 0 0) = true ∧ cellType (cellOf ty 0 0) = ty ∧
      bits (cellPayload (cellOf ty 0 0)) 143 140 = (portB 4).ownId) ∧
    ((portB 4).eq 0).staged.length < (portB 4).stageSize ∧
    bits ((portB 4 { CPort.empty with ctl := 2 }).cport 0).ctl 1 1 = 1 ∧
    (receivesB (portB 4) (cellOf 3 0 0) = true ∧ cellType (cellOf 3 0 0) = 3 ∧ ((portB 4).cport 0).meas = none ∧
      ((portB 4 { CPort.empty with meas := some (1, 2, 3) }).cport 0).meas = some (1, 2, 3)) ∧
    (let b := portB 4 { CPort.empty with ledQ := [(6, 0, 9)] }
     b.mirrorHeld 0 = some 9) := by
  decide +kernel

/-- A DISP cell of a kind about context 7 from module 1, and the block with a span of the context between modules 0 and 1 with a home. -/
def dispCell (kind : Nat) : BitVec 256 := cellOf 6 0 (dispPayload kind 1 7 0 0 0 0 0 0)
def spanB (home : Nat) (y : Option Ctx) : Block :=
  let b := ((((portB 4).setReg (portReg 1 4) 4).setReg 0xE00004 0x10).setReg 0xE02000 (2 ^ 31 + home * 2 ^ 20 + 7)).setReg 0xE02004 7
  match y with | some y => b.setCtx 7 y | none => b

theorem test_Spans_met :
    (∀ kind ∈ [0, 1, 2, 3, 4, 5, 6, 7, 15], inTurnB (spanB 0 none) (dispCell kind) = true ∧ cellType (dispCell kind) = 6 ∧
      bits (cellPayload (dispCell kind)) 143 140 = (spanB 0 none).ownId ∧ bits (cellPayload (dispCell kind)) 3 0 = kind ∧
      bits (cellPayload (dispCell kind)) 27 8 = 7 ∧ bits (cellPayload (dispCell kind)) 7 4 = 1) ∧
    (spanB 1 none).colirRoute 1 = some 1 ∧ (((spanB 1 none).takeCounts 0 (dispCell 1)).gather 7).ctx? 7 = none ∧
    ((((spanB 1 (some (ctxIn 4))).takeCounts 0 (dispCell 1)).gather 7).ctx? 7).isSome = true ∧
    (let y : Ctx := { ctxIn 5 with span := { Span.empty with waiting := true } }
     let b := spanB 0 (some y)
     (b.takeCounts 0 (dispCell 2)).ctx? 7 = some y ∧ y.state = 5 ∧ y.span.waiting = true ∧ y.span.round = bits (cellPayload (dispCell 2)) 35 28 ∧
       b.members 7 = [1, 2] ∧ 1 ∉ y.span.answered ∧ 2 ∉ y.span.answered) ∧
    (let b := spanB 1 (some (closing7 true []))
     (b.takeCounts 0 (dispCell 4)).ctx? 7 = some (closing7 true []) ∧ (closing7 true []).state = 6 ∧ (closing7 true []).cancelled = true) ∧
    (∀ st ∈ [1, 4, 5, 6, 7], let b := spanB 1 (some (ctxIn st))
      (b.takeCounts 0 (dispCell 3)).ctx? 7 = some (ctxIn st) ∧ b.spanEntry 7 = some (1, [0, 2]) ∧ 1 ≠ b.ownId ∧ b.cont.roll = none) ∧
    (let b := spanB 0 (some (ctxIn 6))
     (b.takeCounts 0 (dispCell 5)).ctx? 7 = some (ctxIn 6) ∧ 1 ∉ (ctxIn 6).span.collected ∧ b.up = true ∧ b.ctx? 7 = some (ctxIn 6) ∧
       (ctxIn 6).cancelled = false ∧ 1 ∈ b.members 7) := by
  decide +kernel

-- Power, clocks and resets

theorem test_PowerAndDistricts_met :
    live.up = true ∧ (∀ target < 3, target < 3) ∧
    (∀ lvl ∈ [1, 2, 3], let b := live.setReg (distCfg 2) (lvl + 256)
      b.distLevel 2 < b.restGoal 2 ∧ b.restGoal 2 = lvl ∧ b.distSteady 2 = true ∧ b.rf (distStat 2) 0 0 = 0 ∧ b.mayRest 2 (b.restGoal 2) = true) ∧
    (let b := (live.setRf (distStat 2) 5 4 1).setRf 0x1000004 8 8 1
     b.distLevel 2 < b.restGoal 2 ∧ b.restGoal 2 = 3 ∧ b.distSteady 2 = true ∧ b.mayRest 2 (b.restGoal 2) = true) ∧
    (let b := live.setReg (distStat 2) 1
     b.rf (distStat 2) 0 0 = 1 ∧ b.mayRest 2 3 = true ∧ (b.liveQuarters 2).length = 8 ∧ b.memOk = true ∧ b.stops.bad = [] ∧
       b.rf 0x300044 15 0 = 0 ∧ (∀ q ∈ b.liveQuarters 2, (b.q q).frame = [] ∧ (b.q q).plaza.filter = []) ∧
       (b.setReg (distCfg 2) 0).mayRest 2 3 = true ∧
       ((b.setQ 22 { Quarter.empty with lanes := [(0, laneOf [tok 0])] }).mayRest 2 3 = false)) ∧
    (∀ lvl ∈ [1, 2, 3], let b := live.setRf (distStat 2) 5 4 lvl
      b.rf (distStat 2) 0 0 = 0 ∧ b.distLevel 2 = lvl ∧ b.rf (distStat 2) 1 1 = 0) ∧
    (let b := { (live.setRf (distStat 2) 5 4 3).setRf (distStat 2) 1 1 1 with power := { live.power with images := [(22, Quarter.empty)] } }
     b.rf (distStat 2) 1 1 = 1 ∧ SMap.get b.power.later [] 2 = [] ∧ b.distLevel 2 = 3 ∧ 22 ∈ b.liveQuarters 2 ∧
       SMap.find? b.power.images 22 = some Quarter.empty) := by
  decide +kernel

/-- The block with its power unit as given. -/
def powerB (p : Power) (b : Block := live) : Block := { b with power := p }

theorem test_SupplyAndResets_met :
    live.power.off = false ∧ live.power.vinLow = false ∧ 10800 < (live.setReg 0x1100010 (2 ^ 31 + 12000)).vinLevel ∧ (live.setReg 0x1100010 (2 ^ 31 + 12000)).rf 0x1100010 31 31 = 1 ∧ (powerB { live.power with vinLow := true }).power.vinLow = true ∧
    (live.setReg 0x1100010 65535).vinLevel + 200 ≤ 65535 ∧ live.power.sleeping = false ∧ live.maySleep = false ∧
    ((List.range 8).foldl (fun b d => b.setRf (distStat d) 5 4 3) (live.setRf 0x1000004 8 8 1)).maySleep = true ∧ live.up = true ∧
    (let b := powerB { Power.initial with released := false }
     b.power.held = true ∧ b.power.released = false ∧ b.power.nor.slotA.sound = true) ∧
    (live.setReg 0x1000200 16).rf 0x1000200 4 4 = 1 ∧ (powerB { Power.initial with off := true }).power.off = true ∧
    (∀ since ∈ [none, some 0, some 1, some 2], (powerB { Power.initial with since := since }).bootable = true) ∧ live.cont.bank = none ∧
    (let t := (powerB { live.power with sleeping := true } (live.setReg 0x1100100 (2 ^ 16))).wakeCause 16
     t.power.sleeping = true ∧ t.power.woken = true) ∧
    (let b := powerB { Power.initial with nor := { Power.initial.nor with slotA := ⟨false, 1, 0⟩, chosen := false } }
     b.power.held = true ∧ b.power.released = true ∧ b.power.nor.chosen = false ∧ b.power.nor.slotA.sound = false ∧ b.power.nor.slotB.sound = false) ∧
    live.power.nor.upd ≠ 1 ∧ (powerB { live.power with nor := { live.power.nor with upd := 1, image := some 4 } }).power.nor.upd = 1 := by
  decide +kernel

theorem test_AdaptiveLoops_met :
    live.up = true ∧
    (∀ e ∈ [(16, 16), (9, 16), (20, 10)], let b := powerB { live.power with fstep := [(2, (e.1, 50))], goal := [(2, e.2)] }
      b.power.fstep = [(2, (e.1, 50))] ∧ b.limited 2 = false ∧ b.goalOf 2 = e.2 ∧ e.1 < 32) ∧
    (let b := live.setReg 0x1100200 1
     b.rf 0x1100200 0 0 = 1 ∧ b.limited 2 = false ∧ SMap.find? b.power.fstep 2 = none) ∧
    (110 < toInt 8 (126#8).toNat ∧ 125 < toInt 8 (126#8).toNat ∧ 4 < live.freq 2 ∧
      (let b := powerB { live.power with hotAt := [(2, 0)] } { live with now := 100000 }
       SMap.find? b.power.hotAt 2 = some 0 ∧ 0 + 100000 ≤ b.now)) ∧
    (let b := live.setRf (distStat 2) 12 12 1
     toInt 8 (108#8).toNat ≤ 108 ∧ b.tempOf 8 ≤ 108 ∧ b.tempOf 9 ≤ 108) ∧
    (let b := live.setReg 0x1000050 (700 * 2 ^ 16 + 600)
     let hi := avsBound (b.rf 0x1000050 25 16)
     hi < 850 ∧ (∀ v ∈ [hi - 1, hi, 850], let b := b.setReg 0x1000054 v
       b.rf 0x1000054 9 0 = v ∧ avsBound (b.rf 0x1000050 25 16) = hi)) := by
  decide +kernel

theorem test_TimeAndPmbus_met :
    live.up = true ∧ (live.setReg 0xF00000 1).rf 0xF00000 1 0 = 1 ∧
    (let b := live.setReg 0xF00000 (1 + 2 * 2 ^ 16)
     b.rf 0xF00000 23 16 = 2) ∧
    { live with time := { TimeUnit.initial with lastOffset := some 3, outUntil := some 9 } }.time.lastOffset = some 3 ∧
    live.time.outUntil = none ∧ (live.setReg 0xF00000 256).rf 0xF00000 8 8 = 1 ∧ live.time.slew = 0 ∧ live.timeNs + 1000000000 < 2 ^ 64 ∧
    (∀ e < 8, live.tempOf e ≤ live.tempOf 0) ∧ pmbKnown 0x10 false = false ∧ live.pmb.seen.testBit 1 = false ∧ State.reset.blk.up = false := by
  decide +kernel

-- The block as a whole

theorem test_WordsReadBack_met :
    (rTerm 1).legal = true ∧ (iTerm 0x20 (some 7)).legal = true ∧ repForbids (opOf (0x01184400 : W32)).toNat = false ∧
    decodeStrand 0x01184400 0 = some (rTerm 1) := by
  decide

theorem test_StepKeepsMemoryForm_met : live.memOk = true ∧ step ⟨live, [.stopWrite 0 ⟨[1], 0⟩]⟩ = exec (.stopWrite 0 ⟨[1], 0⟩) (st live) := ⟨by decide, rfl⟩
end Sys2Proof.Tests
end

/-! Register accesses over BAR0: the rows of the register tables, what a write and a read of one word do, and the RC_READ, LO_READ,
REGISTER_WRITE, QMAP_WRITE and PLZ_BS_RECONFIG commands. -/

namespace Sys2Proof.Machine

-- Completion

/-- A command whose meaning is a unit's effect completes with that effect while the module runs. -/
theorem completes_of_actUp {c : Instr} {s : State} {f : Block → Block} (hc : exec c s = actUp f s) (hup : s.blk.up = true) :
    Completes c s (f s.blk) :=
  hc.trans (actUp_up f s hup)

theorem sameRegs_refl (b : Block) (but : List Nat) : SameRegs b b but := fun _ _ => rfl

theorem SameRegs.trans {a b c : Block} {but : List Nat} (h : SameRegs a b but) (h' : SameRegs b c but) : SameRegs a c but :=
  fun off ho => (h off ho).trans (h' off ho)

theorem SameRegs.mono {b c : Block} {but more : List Nat} (h : SameRegs b c but) (hs : but ⊆ more) : SameRegs b c more :=
  fun off ho => h off fun hm => ho (hs hm)

theorem sameRegs_setReg (b : Block) (off v : Nat) : SameRegs b (b.setReg off v) [off] :=
  fun _ ho => (b.reg_setReg_ne v (by simpa using ho)).symm

-- The rows of the register tables (R14, R36)

/-- What the register tables keep for every register: its WO and RC bits lie in its 32 bits, and no bit is both RW and W1C. -/
theorem regRow_masks {off : Nat} {r : RegRow} (h : regRow off = some r) : r.wo < 2 ^ 32 ∧ r.rc < 2 ^ 32 ∧ r.rw &&& r.w1c = 0 := by
  have rows : ∀ r ∈ Config.regRows, r.wo < 2 ^ 32 ∧ r.rc < 2 ^ 32 ∧ r.rw &&& r.w1c = 0 := by decide +kernel
  exact rows r (List.mem_of_find?_eq_some h)

/-- One more than the offset of the last copy of a row's register from its first. -/
def dimsSpan : List (Nat × Nat) → Nat
  | [] => 1
  | (s, n) :: ds => s * (n - 1) + dimsSpan ds

theorem lt_dimsSpan_of_dimsHit {ds : List (Nat × Nat)} {x : Nat} (h : dimsHit ds x = true) : x < dimsSpan ds := by
  induction ds generalizing x with
  | nil => simp_all [dimsHit, dimsSpan]
  | cons d ds ih =>
    obtain ⟨s, n⟩ := d
    simp only [dimsHit, Bool.and_eq_true, decide_eq_true_eq] at h
    obtain ⟨hn, hrest⟩ := h
    have hmul : s * (x / s) ≤ s * (n - 1) := Nat.mul_le_mul_left s (by omega)
    have hrem := ih hrest
    have hx := Nat.div_add_mod x s
    simp only [dimsSpan]
    omega

theorem dimsHit_of_dimsSpan_le {ds : List (Nat × Nat)} {x : Nat} (h : dimsSpan ds ≤ x) : dimsHit ds x = false := by
  by_contra hit
  have := lt_dimsSpan_of_dimsHit (eq_true_of_ne_false hit)
  omega

/-- Every row's copies lie below the Quarters' blocks, above them, or once in each. -/
theorem regRows_byQuarter : ∀ r ∈ Config.regRows,
    r.base + dimsSpan r.dims ≤ 0x600000 ∨ 0xA40000 ≤ r.base ∨
      r.dims = (0x10000, 68) :: r.dims.tail ∧ 0x600000 ≤ r.base ∧ r.base + dimsSpan r.dims.tail ≤ 0x610000 := by
  decide +kernel

theorem dimsHit_quarterBlocks {ds : List (Nat × Nat)} {base q o : Nat} (hq : q < 68) (ho : o < 0x10000) (hlo : 0x600000 ≤ base)
    (hhi : base + dimsSpan ds ≤ 0x610000) :
    (decide (base ≤ qOff q o) && dimsHit ((0x10000, 68) :: ds) (qOff q o - base)) =
      (decide (base ≤ 0x600000 + o) && dimsHit ds (0x600000 + o - base)) := by
  simp only [qOff, dimsHit]
  by_cases hb : base ≤ 0x600000 + o
  · have hdiv : (0x600000 + 0x10000 * q + o - base) / 0x10000 = q := by omega
    have hmod : (0x600000 + 0x10000 * q + o - base) % 0x10000 = 0x600000 + o - base := by omega
    have hle : base ≤ 0x600000 + 0x10000 * q + o := by omega
    simp [hdiv, hmod, hb, hle, hq]
  · have hmiss : base ≤ 0x600000 + 0x10000 * q + o →
        dimsHit ds ((0x600000 + 0x10000 * q + o - base) % 0x10000) = false := fun hle =>
      dimsHit_of_dimsSpan_le (by omega)
    by_cases hle : base ≤ 0x600000 + 0x10000 * q + o <;> simp [hb, hle, hmiss]

/-- The Quarters' blocks hold the same registers at the same offsets (R13). -/
theorem regRow_qOff {q o : Nat} (hq : q < 68) (ho : o < 0x10000) : regRow (qOff q o) = regRow (qOff 0 o) := by
  unfold regRow
  refine List.find?_congr fun r hr => ?_
  rcases regRows_byQuarter r hr with below | above | ⟨hdims, hlo, hhi⟩
  · rw [dimsHit_of_dimsSpan_le (by simp only [qOff]; omega), dimsHit_of_dimsSpan_le (by simp only [qOff]; omega)]
    simp
  · have hq : ¬ r.base ≤ qOff q o := by simp only [qOff]; omega
    have h0 : ¬ r.base ≤ qOff 0 o := by simp only [qOff]; omega
    simp [hq, h0]
  · rw [hdims, dimsHit_quarterBlocks hq ho hlo hhi, dimsHit_quarterBlocks (by decide) ho hlo hhi]

theorem regRow_plzCnt (q : Fin 68) (k : Fin 16) :
    regRow (plzCnt q k) = some ⟨0x600100, [(0x10000, 68), (0x4, 16)], 0, 0, 0, 0, 0, 0xFFFFFFFF⟩ := by
  have first : ∀ k : Fin 16,
      regRow (plzCnt 0 k) = some ⟨0x600100, [(0x10000, 68), (0x4, 16)], 0, 0, 0, 0, 0, 0xFFFFFFFF⟩ := by decide +kernel
  exact (regRow_qOff q.isLt (by omega)).trans (first k)

/-- The RW bits of each QMAP register are its four fields of 7 bits (R30). -/
theorem regRow_qmap (k : Fin 16) : ∃ r, regRow (0x100 + 4 * k) = some r ∧ r.rw = 0x7F7F7F7F := by
  have rows : ∀ k : Fin 16, (regRow (0x100 + 4 * k)).map RegRow.rw = some 0x7F7F7F7F := by decide +kernel
  simpa [Option.map_eq_some_iff] using rows k

-- Bits of numbers and words

theorem testBit_bits (x hi lo n : Nat) : (bits x hi lo).testBit n = (decide (n < hi + 1 - lo) && x.testBit (lo + n)) := by
  simp [bits, Nat.testBit_mod_two_pow, Nat.testBit_shiftRight]

/-- In a mask of 32 bits, the bits that a mask does not hold. -/
theorem testBit_maskNot (m n : Nat) (h : n < 32) : (0xFFFFFFFF ^^^ m).testBit n = !m.testBit n := by
  have all : (0xFFFFFFFF : Nat).testBit n = true := by
    rw [show (0xFFFFFFFF : Nat) = 2 ^ 32 - 1 from rfl, Nat.testBit_two_pow_sub_one]; simpa using h
  rw [Nat.testBit_xor, all, Bool.true_xor]

theorem and_maskNot_lt (x : Nat) {m : Nat} (h : m < 2 ^ 32) : x &&& (0xFFFFFFFF ^^^ m) < 2 ^ 32 :=
  Nat.and_lt_two_pow x (Nat.xor_lt_two_pow (by decide) h)

theorem and_allOnes32 (x : Nat) : x &&& 0xFFFFFFFF = x % 2 ^ 32 := Nat.and_two_pow_sub_one_eq_mod x 32

/-- The four bytes of a word spell it. -/
theorem ofBytes_word {v : Nat} (h : v < 2 ^ 32) : ofBytes ((List.range 4).map fun i => BitVec.ofNat 8 (v >>> (8 * i))) = v := by
  simp [List.range_succ, ofBytes, Nat.shiftRight_eq_div_pow]
  omega

-- The words of an access (R17)

/-- An access within one word touches that word alone. -/
theorem wordsOf_within {off n : Nat} (hoff : off < 0x4000000) (hpos : 0 < n) (hn : off % 4 + n ≤ 4) :
    wordsOf off n = [4 * (off / 4)] := by
  have hone : (off + n - 1) / 4 - off / 4 + 1 = 1 := by omega
  have hbar : 4 * (off / 4) < 67108864 := by omega
  simp [wordsOf, hone, hbar, Nat.ne_of_gt hpos]

-- Writes of one register (R14)

theorem Block.writePlain_eq (b : Block) {off : Nat} {r : RegRow} (hr : regRow off = some r) (v : Nat) :
    b.writePlain off v =
      b.setReg off (((b.reg off &&& (0xFFFFFFFF ^^^ r.rw)) ||| (v &&& r.rw)) &&& (0xFFFFFFFF ^^^ (v &&& r.w1c))) := by
  simp only [Block.writePlain, hr]

/-- What a plain write leaves in each bit: RW bits take the value, W1C bits written 1 become 0, the others stay. -/
theorem Block.testBit_reg_writePlain (b : Block) {off : Nat} {r : RegRow} (hr : regRow off = some r) (v : Nat) {n : Nat} (hn : n < 32) :
    ((b.writePlain off v).reg off).testBit n =
      if r.rw.testBit n then v.testBit n else (b.reg off).testBit n && !(r.w1c.testBit n && v.testBit n) := by
  obtain ⟨-, -, hrw1c⟩ := regRow_masks hr
  have hdisj : (r.rw.testBit n && r.w1c.testBit n) = false := by rw [← Nat.testBit_and, hrw1c, Nat.zero_testBit]
  rw [b.writePlain_eq hr, Block.reg_setReg_same, Nat.testBit_mod_two_pow]
  simp only [Nat.testBit_and, Nat.testBit_or, testBit_maskNot _ _ hn, hn, decide_true, Bool.true_and]
  cases hrw : r.rw.testBit n
  · simp [Bool.and_comm]
  · simp_all

/-- The registers of DISPATCH but for TICK, FAULT, MEMORY and the QMAP have no behaviour of their own. -/
theorem Block.writeReg_plain (b : Block) {off : Nat} (v : Nat)
    (h : off < 0x100000 ∨ (0x300000 ≤ off ∧ off < 0x500000 ∧ off ≠ 0x40000C) ∨ (0xB00000 ≤ off ∧ off < 0xC00000)) :
    b.writeReg off v = b.writePlain off v := by
  have hq : quarterBlock off = none := if_neg (by omega)
  simp only [Block.writeReg, hq]
  repeat rw [if_neg (by omega)]

-- The part of a write that falls into one word (R17)

theorem Block.writeBytes_within (b : Block) {off : Nat} {bytes : List Byte} (hoff : off < 0x4000000) (hpos : bytes ≠ [])
    (hn : off % 4 + bytes.length ≤ 4) : b.writeBytes off bytes = b.writeWord off bytes (4 * (off / 4)) := by
  rw [Block.writeBytes, wordsOf_within hoff (List.length_pos_iff.mpr hpos) hn, List.foldl_cons, List.foldl_nil]

/-- A write of a whole aligned word that holds a register is that register's write. -/
theorem Block.writeBytes_word (b : Block) {off : Nat} {bytes : List Byte} (hoff : off < 0x4000000) (halign : off % 4 = 0)
    (hlen : bytes.length = 4) (hreg : (regRow off).isSome = true) : b.writeBytes off bytes = b.writeReg off (ofBytes bytes) := by
  have hpos : bytes ≠ [] := List.ne_nil_of_length_pos (by omega)
  have hword : 4 * (off / 4) = off := by omega
  rw [b.writeBytes_within hoff hpos (by omega), hword, Block.writeWord, if_pos ⟨le_rfl, by omega, hreg⟩, Nat.sub_self, List.drop_zero,
    ← hlen, List.take_length]

/-- A word written in part, or one that holds no register, is discarded and counted. -/
theorem Block.writeBytes_discarded (b : Block) {off : Nat} {bytes : List Byte} (hoff : off < 0x4000000) (hpos : bytes ≠ [])
    (h : off % 4 + bytes.length < 4 ∨ off % 4 + bytes.length = 4 ∧ (off % 4 ≠ 0 ∨ (regRow off).isSome = false)) :
    b.writeBytes off bytes = b.bump (hostCnt 0) := by
  rw [b.writeBytes_within hoff hpos (by omega), Block.writeWord, if_neg]
  rintro ⟨hlo, hhi, hreg⟩
  have hword : 4 * (off / 4) = off := by omega
  rw [hword] at hreg hhi
  have hnone : (regRow off).isSome = false := by
    rcases h with h | ⟨_, h | h⟩
    · omega
    · omega
    · exact h
  simp [hnone] at hreg

-- The Quarters' blocks (R13, R32, R459)

/-- The Quarter whose block an offset of Quarter q's block lies in. -/
theorem quarterBlock_qOff {q o : Nat} (hq : q < 68) (ho : o < 0x10000) : quarterBlock (qOff q o) = some q := by
  rw [quarterBlock, if_pos (by simp only [qOff]; omega)]
  simp only [qOff, Option.some.injEq]
  omega

theorem qOff_mod {q o : Nat} (ho : o < 0x10000) : qOff q o % 0x10000 = o := by
  simp only [qOff]; omega

/-- A Quarter that is not retired, in a District that is not OFF, takes reads and writes. -/
theorem Block.frozen_qOff (b : Block) {q o : Nat} (hq : q < 68) (ho : o < 0x10000) (hret : b.retired.contains q = false)
    (hon : b.distLevel (distOf q) ≠ 3) : b.frozen (qOff q o) = false := by
  simp only [Block.frozen, quarterBlock_qOff hq ho, hret, Bool.false_or]
  simp [hon]

-- A write of QTRnn_PLZ_BS_BASE or _SIZE (R97)

/-- What the presence filter's counting leaves: memory, every register but PLZ_STATUS, and of the Plaza all but the filter. -/
def FilterFrame (q : Nat) (b t : Block) : Prop :=
  t.mem = b.mem ∧ SameRegs b t [qOff q 0xC] ∧ ∃ f, t.plz q = { b.plz q with filter := f }

theorem filterFrame_refl (q : Nat) (b : Block) : FilterFrame q b b := ⟨rfl, sameRegs_refl b _, _, rfl⟩

theorem FilterFrame.trans {q : Nat} {a b c : Block} (h : FilterFrame q a b) (h' : FilterFrame q b c) : FilterFrame q a c := by
  obtain ⟨hmem, hregs, f, hplz⟩ := h
  obtain ⟨hmem', hregs', g, hplz'⟩ := h'
  exact ⟨hmem'.trans hmem, hregs.trans hregs', g, by rw [hplz', hplz]⟩

theorem Block.plz_setPlz_same (b : Block) (q : Nat) (p : Plaza) : (b.setPlz q p).plz q = p := by
  simp [Block.plz, Block.setPlz]

theorem Block.filterUp_frame (b : Block) (q k : Nat) : FilterFrame q b (b.filterUp q k) := by
  unfold Block.filterUp
  extract_lets p i n b'
  have count : FilterFrame q b b' := ⟨rfl, sameRegs_refl b _, _, b.plz_setPlz_same q _⟩
  split
  · exact count.trans ⟨rfl, sameRegs_setReg b' _ _, _, rfl⟩
  · exact count

theorem filterFrame_foldl_filterUp (q : Nat) (keys : List SpillKey) (b : Block) :
    FilterFrame q b (keys.foldl (fun b s => b.filterUp q s.key) b) :=
  List.foldlRecOn keys _ (filterFrame_refl q b) fun c hc s _ => hc.trans (c.filterUp_frame q s.key)

/-- A Plaza whose Backstreet, pen positions and filter have returned to 0; keys not yet sent stay in the spill buffer. -/
def Plaza.backstreetEmptied (p : Plaza) : Plaza :=
  { p with bsOcc := 0, penWr := 0, penRd := 0, penCount := 0, noted := 0, filter := [], spill := p.spill.filter fun s => !s.sent,
           short := none }

/-- A write of BS_BASE or BS_SIZE stores the register's bits of the value and empties the Backstreet; then the filter counts. -/
theorem Block.bsReconfig_frame (b : Block) {q : Nat} (size : Bool) (value : Nat) (hq : b.retired.contains q = false) :
    FilterFrame q
      ((b.setReg (qOff q (if size then 8 else 4)) (value &&& if size then 0x70F else 0xFFFFFFF)).setPlz q (b.plz q).backstreetEmptied)
      (b.bsReconfig q size value) := by
  rw [Block.bsReconfig, hq, if_neg Bool.false_ne_true, ← apply_ite]
  exact filterFrame_foldl_filterUp q _ _

theorem Block.reg_bsReconfig (b : Block) {q : Nat} (size : Bool) (value : Nat) (hq : b.retired.contains q = false) :
    (b.bsReconfig q size value).reg (qOff q (if size then 8 else 4)) = value &&& if size then 0x70F else 0xFFFFFFF := by
  obtain ⟨-, hregs, -⟩ := b.bsReconfig_frame size value hq
  have hstatus : qOff q (if size then 8 else 4) ∉ [qOff q 0xC] := by
    cases size <;> simp [qOff]
  have hmask : (value &&& if size then 0x70F else 0xFFFFFFF) < 2 ^ 32 :=
    Nat.and_lt_two_pow _ (by cases size <;> decide)
  rw [← hregs _ hstatus, Block.setPlz_reg, Block.reg_setReg_same, Nat.mod_eq_of_lt hmask]

theorem Block.sameRegs_bsReconfig (b : Block) {q : Nat} (size : Bool) (value : Nat) (hq : b.retired.contains q = false) :
    SameRegs b (b.bsReconfig q size value) [qOff q (if size then 8 else 4), qOff q 0xC] := by
  obtain ⟨-, hregs, -⟩ := b.bsReconfig_frame size value hq
  exact ((sameRegs_setReg b _ _).mono (by simp)).trans (hregs.mono (by simp))

theorem Block.plaza_bsReconfig (b : Block) {q : Nat} (size : Bool) (value : Nat) (hq : b.retired.contains q = false) :
    ∃ f, ((b.bsReconfig q size value).q q).plaza = { (b.plz q).backstreetEmptied with filter := f } := by
  obtain ⟨-, -, f, hplz⟩ := b.bsReconfig_frame size value hq
  rw [Block.plz_setPlz_same] at hplz
  exact ⟨f, hplz⟩

theorem Block.mem_bsReconfig (b : Block) {q : Nat} (size : Bool) (value : Nat) (hq : b.retired.contains q = false) :
    (b.bsReconfig q size value).mem = b.mem := by
  obtain ⟨hmem, -, -⟩ := b.bsReconfig_frame size value hq
  exact hmem

/-- A write of BS_BASE or BS_SIZE that reaches its Quarter empties the Backstreet (R97). -/
theorem Block.writeReg_backstreet (b : Block) (q : Fin 68) (size : Bool) (value : Nat) (hq : b.retired.contains q = false)
    (hon : b.distLevel (distOf q) ≠ 3) :
    b.writeReg (qOff q (if size then 8 else 4)) value = b.bsReconfig q size value := by
  have ho : (if size then 8 else 4) < 0x10000 := by cases size <;> decide
  simp only [Block.writeReg, quarterBlock_qOff q.isLt ho, Block.writeQuarterBlock, hq, b.frozen_qOff q.isLt ho hq hon, Bool.false_eq_true,
    if_false, Block.writeQuarter, qOff_mod ho]
  cases size <;> rfl

-- Reads of one register (R14)

theorem Block.clearRc_none (b : Block) (off : Nat) {r : RegRow} (hrc : r.rc = 0) : b.clearRc off r = b := by
  simp [Block.clearRc, hrc]

/-- A read outside the Quarters' blocks clears the RC bits. -/
theorem Block.clearRc_global (b : Block) {off : Nat} {r : RegRow} (hrc : r.rc ≠ 0) (hq : quarterBlock off = none) :
    b.clearRc off r = b.setReg off (b.reg off &&& (0xFFFFFFFF ^^^ r.rc)) := by
  simp [Block.clearRc, Block.frozen, hrc, hq]

theorem Block.readWord_plain (b : Block) {off : Nat} {r : RegRow} (hr : regRow off = some r) (hl : b.latch off = none) :
    b.readWord off = (b.clearRc off r, b.view off &&& (0xFFFFFFFF ^^^ r.wo)) := by
  simp only [Block.readWord, hr, hl]

theorem Block.readWord_latch (b : Block) {off hi x : Nat} {r : RegRow} (hr : regRow off = some r) (hl : b.latch off = some (hi, x)) :
    b.readWord off = ((b.setReg hi (x / 2 ^ 32)).clearRc off r, b.view off &&& (0xFFFFFFFF ^^^ r.wo)) := by
  simp only [Block.readWord, hr, hl]

/-- A read of an aligned word answers the register there. -/
theorem Block.readReg_word (b : Block) {off v : Nat} {c : Block} (hoff : off < 0x4000000) (halign : off % 4 = 0)
    (hw : b.readWord off = (c, v)) (hv : v < 2 ^ 32) : b.readReg off 4 = { c with lands := { c.lands with read := v } } := by
  have hword : 4 * (off / 4) = off := by omega
  have hbyte : ∀ i ∈ List.range 4, BitVec.ofNat 8 (SMap.get [(off, v)] 0 (4 * ((off + i) / 4)) >>> (8 * ((off + i) % 4)))
      = BitVec.ofNat 8 (v >>> (8 * i)) := by
    intro i hi
    have hi4 : i < 4 := List.mem_range.mp hi
    rw [show 4 * ((off + i) / 4) = off by omega, show (off + i) % 4 = i by omega]
    simp [SMap.get, SMap.find?]
  simp only [Block.readReg, wordsOf_within hoff (by decide : 0 < 4) (by omega), hword, List.foldl_cons, List.foldl_nil, hw,
    List.nil_append]
  rw [List.map_congr_left hbyte, ofBytes_word hv]

/-- What a read of a LO register leaves: the lower half answered, the upper half in HI, and nothing else changed (R16). -/
def Latched (b t : Block) (hi x : Nat) : Prop :=
  t.lands.read = x % 2 ^ 32 ∧ t.reg hi = x / 2 ^ 32 % 2 ^ 32 ∧ SameRegs b t [hi] ∧ t = { b with regs := t.regs, lands := t.lands }

theorem Block.readReg_latched (b : Block) {off hi x : Nat} {r : RegRow} (hoff : off < 0x4000000) (halign : off % 4 = 0)
    (hr : regRow off = some r) (hrc : r.rc = 0) (hwo : r.wo = 0) (hl : b.latch off = some (hi, x)) (hv : b.view off = x % 2 ^ 32) :
    Latched b (b.readReg off 4) hi x := by
  have hlow : b.view off &&& (0xFFFFFFFF ^^^ r.wo) = x % 2 ^ 32 := by
    rw [hwo, hv, Nat.xor_zero, and_allOnes32, Nat.mod_mod]
  have hw := b.readWord_latch hr hl
  rw [Block.clearRc_none _ _ hrc, hlow] at hw
  rw [b.readReg_word hoff halign hw (Nat.mod_lt _ (by decide))]
  exact ⟨rfl, Block.reg_setReg_same b _ _, sameRegs_setReg b _ _, rfl⟩

/-- A read of a register outside the Quarters' blocks that latches nothing (R14). -/
theorem Block.readReg_plain (b : Block) {off : Nat} {r : RegRow} (hoff : off < 0x4000000) (halign : off % 4 = 0)
    (hr : regRow off = some r) (hl : b.latch off = none) :
    b.readReg off 4 =
      { b.clearRc off r with lands := { (b.clearRc off r).lands with read := b.view off &&& (0xFFFFFFFF ^^^ r.wo) } } :=
  b.readReg_word hoff halign (b.readWord_plain hr hl) (and_maskNot_lt _ (regRow_masks hr).1)

-- FIRST and LAST of a cause record (R408)

/-- FIRST_LO or LAST_LO of a cause record. -/
def srcTimeLo (src : Nat) (last : Bool) : Nat := 0x301008 + 0x20 * src + if last then 8 else 0

/-- FIRST or LAST of a cause record. -/
def Block.srcTime (b : Block) (src : Nat) (last : Bool) : Nat :=
  if last then (SMap.get b.hub.times (0, 0) src).2 else (SMap.get b.hub.times (0, 0) src).1

theorem srcTimeLo_first (src : Nat) : srcTimeLo src false = 0x301008 + 0x20 * src := rfl

theorem srcTimeLo_last (src : Nat) : srcTimeLo src true = 0x301010 + 0x20 * src := by
  simp only [srcTimeLo, if_true]
  omega

theorem srcTimeLo_index (src : Nat) (last : Bool) : (srcTimeLo src last - 0x301000) / 0x20 = src := by
  cases last
  · rw [srcTimeLo_first]; omega
  · rw [srcTimeLo_last]; omega

theorem regRow_srcTimeLo (src : Fin 64) (last : Bool) :
    ∃ r, regRow (srcTimeLo src last) = some r ∧ r.rc = 0 ∧ r.wo = 0 := by
  have rows : ∀ (src : Fin 64) (last : Bool), (regRow (srcTimeLo src last)).map (fun r => (r.rc, r.wo)) = some (0, 0) := by
    decide +kernel
  simpa [Option.map_eq_some_iff] using rows src last

theorem Block.latch_srcTimeLo (b : Block) (src : Fin 64) (last : Bool) :
    b.latch (srcTimeLo src last) = some (srcTimeLo src last + 4, b.srcTime src last) := by
  have hidx := srcTimeLo_index src last
  unfold Block.latch
  cases last
  · have hoff := srcTimeLo_first src
    repeat rw [if_neg (by omega)]
    rw [if_pos (by omega), hidx]
    rfl
  · have hoff := srcTimeLo_last src
    repeat rw [if_neg (by omega)]
    rw [if_pos (by omega), hidx]
    rfl

/-- A FAULT register shows what the Fault Hub shows of it. -/
theorem Block.view_fault (b : Block) {off : Nat} (hlo : 0x300000 ≤ off) (hhi : off < 0x400000) : b.view off = b.viewFault off := by
  unfold Block.view
  repeat rw [if_neg (by omega)]
  rw [if_pos hhi]

theorem Block.view_srcTimeLo (b : Block) (src : Fin 64) (last : Bool) :
    b.view (srcTimeLo src last) = b.srcTime src last % 2 ^ 32 := by
  have hidx := srcTimeLo_index src last
  cases last
  · have hoff := srcTimeLo_first src
    rw [b.view_fault (by omega) (by omega)]
    unfold Block.viewFault
    repeat rw [if_neg (by omega)]
    rw [if_pos (by omega), hidx]
    rfl
  · have hoff := srcTimeLo_last src
    rw [b.view_fault (by omega) (by omega)]
    unfold Block.viewFault
    repeat rw [if_neg (by omega)]
    rw [if_pos (by omega), hidx]
    rfl

/-- A read of FIRST_LO or LAST_LO latches its upper half. -/
theorem Block.readReg_srcTimeLo (b : Block) (src : Fin 64) (last : Bool) :
    Latched b (b.readReg (srcTimeLo src last) 4) (srcTimeLo src last + 4) (b.srcTime src last) := by
  have hbar : srcTimeLo src last < 0x4000000 := by simp only [srcTimeLo]; split <;> omega
  have halign : srcTimeLo src last % 4 = 0 := by simp only [srcTimeLo]; split <;> omega
  obtain ⟨r, hr, hrc, hwo⟩ := regRow_srcTimeLo src last
  exact b.readReg_latched hbar halign hr hrc hwo (b.latch_srcTimeLo src last) (b.view_srcTimeLo src last)

-- PLZ_CNTk

/-- Above PEN_OCC, a Plaza register shows what is stored. -/
theorem Block.viewPlaza_stored (b : Block) (q : Nat) {o : Nat} (x : Quarter) (ho : 0x18 < o) :
    b.viewPlaza q o x = b.reg (qOff q o) := by
  unfold Block.viewPlaza
  split
  case h_5 => rfl
  all_goals omega

theorem Block.view_plzCnt (b : Block) (q : Fin 68) (k : Fin 16) : b.view (plzCnt q k) = b.reg (plzCnt q k) := by
  have hoff : plzCnt q k = 0x600000 + 0x10000 * q + (0x100 + 4 * k) := rfl
  have hidx : (plzCnt q k - 0x600000) / 0x10000 = q := by omega
  have hmod : plzCnt q k % 0x10000 = 0x100 + 4 * k := by omega
  unfold Block.view
  repeat rw [if_neg (by omega)]
  rw [if_pos (by omega), hidx, hmod, Block.viewQuarter, if_pos (by omega), b.viewPlaza_stored _ _ (by omega)]
  rfl

theorem Block.latch_plzCnt (b : Block) (q : Fin 68) (k : Fin 16) : b.latch (plzCnt q k) = none := by
  have hoff : plzCnt q k = 0x600000 + 0x10000 * q + (0x100 + 4 * k) := rfl
  unfold Block.latch
  repeat rw [if_neg (by omega)]

theorem Block.peakNow_plzCnt (b : Block) (q : Nat) (k : Fin 16) : b.peakNow q (0x100 + 4 * k) = 0 := by
  unfold Block.peakNow
  repeat rw [if_neg (by omega)]

/-- A read of a PLZ counter clears it whole. -/
theorem Block.clearRc_plzCnt (b : Block) (q : Fin 68) (k : Fin 16) {r : RegRow} (hrc : r.rc = 0xFFFFFFFF)
    (hret : b.retired.contains q.val = false) (hon : b.distLevel (distOf q) ≠ 3) :
    b.clearRc (plzCnt q k) r = b.setReg (plzCnt q k) 0 := by
  have ho : 0x100 + 4 * k.val < 0x10000 := by omega
  simp only [plzCnt, Block.clearRc, hrc, b.frozen_qOff q.isLt ho hret hon, quarterBlock_qOff q.isLt ho, qOff_mod ho, b.peakNow_plzCnt]
  simp

/-- A read of a PLZ counter answers it and clears it (R14). -/
theorem Block.readReg_plzCnt (b : Block) (q : Fin 68) (k : Fin 16) (hret : b.retired.contains q.val = false)
    (hon : b.distLevel (distOf q) ≠ 3) :
    b.readReg (plzCnt q k) 4 =
      { b.setReg (plzCnt q k) 0 with lands := { b.lands with read := b.reg (plzCnt q k) % 2 ^ 32 } } := by
  have hoff : plzCnt q k = 0x600000 + 0x10000 * q + (0x100 + 4 * k) := rfl
  rw [b.readReg_plain (by omega) (by omega) (regRow_plzCnt q k) (b.latch_plzCnt q k), b.clearRc_plzCnt q k rfl hret hon,
    b.view_plzCnt, Nat.xor_zero, and_allOnes32]
  rfl

-- The fields of the QMAP (R24, R30)

/-- A write of a QMAP register names the physical Quarters of its four logical ones. -/
theorem Block.qmap_writePlain (b : Block) (k : Fin 16) (v : Nat) {i : Nat} (hi : i < 4) :
    (b.writePlain (0x100 + 4 * k) v).qmap (4 * k + i) = bits v (8 * i + 6) (8 * i) := by
  obtain ⟨r, hr, hrw⟩ := regRow_qmap k
  have hdiv : (4 * k.val + i) / 4 = k := by omega
  have hmod : (4 * k.val + i) % 4 = i := by omega
  have fields : ∀ i < 4, ∀ n < 7, (0x7F7F7F7F : Nat).testBit (8 * i + n) = true := by decide
  rw [Block.qmap, Block.rf, hdiv, hmod]
  refine Nat.eq_of_testBit_eq fun n => ?_
  rw [testBit_bits, testBit_bits]
  by_cases hn : n < 7
  · rw [b.testBit_reg_writePlain hr v (by omega), hrw, fields i hi n hn, if_pos rfl]
  · simp [show ¬ n < 8 * i + 6 + 1 - 8 * i by omega]

-- The commands

/-- REGISTER_WRITE (R14, R17, R38). -/
theorem registerWrite_completes (s : State) (off : Nat) (bytes : List Byte) (hup : s.blk.up = true) :
    Completes (.registerWrite off bytes) s (s.blk.writeBytes off bytes) :=
  completes_of_actUp (f := fun b => b.writeBytes off bytes) rfl hup

/-- REGISTER_WRITE of a word that holds a plain register: what its bits become, and what stays. -/
theorem registerWrite_plain (s : State) {off : Nat} {bytes : List Byte} {r : RegRow} (hup : s.blk.up = true) (halign : off % 4 = 0)
    (hlen : bytes.length = 4) (hr : regRow off = some r)
    (hblock : (0x300000 ≤ off ∧ off < 0x500000 ∧ off ≠ 0x40000C) ∨ (0xB00000 ≤ off ∧ off < 0xC00000)) :
    Completes (.registerWrite off bytes) s (s.blk.writePlain off (ofBytes bytes)) := by
  have h := registerWrite_completes s off bytes hup
  rwa [s.blk.writeBytes_word (by omega) halign hlen (by rw [hr]; rfl), s.blk.writeReg_plain _ (.inr hblock)] at h

/-- QMAP_WRITE where the hardware substitutes no Quarter in that cycle (R30). -/
theorem qmapWrite_completes (s : State) (k : Fin 16) (value : W32) (hup : s.blk.up = true) :
    Completes (.qmapWrite k value false) s (s.blk.writePlain (0x100 + 4 * k) value.toNat) := by
  rw [← s.blk.writeReg_plain _ (.inl (by omega))]
  exact completes_of_actUp (f := fun b => b.writeReg (0x100 + 4 * k) value.toNat) rfl hup

/-- QMAP_WRITE in the cycle of a substitution changes nothing (R30). -/
theorem qmapWrite_substituted (s : State) (k : Fin 16) (value : W32) (hup : s.blk.up = true) :
    Completes (.qmapWrite k value true) s s.blk :=
  completes_of_actUp (f := fun b => b) rfl hup

/-- PLZ_BS_RECONFIG where the write reaches its Quarter (R97). -/
theorem plzBsReconfig_completes (s : State) (q : Fin 68) (size : Bool) (value : W32) (hup : s.blk.up = true)
    (hret : s.blk.retired.contains q.val = false) (hon : s.blk.distLevel (distOf q) ≠ 3) :
    Completes (.plzBsReconfig q size value) s (s.blk.bsReconfig q size value.toNat) := by
  rw [← s.blk.writeReg_backstreet q size value.toNat hret hon]
  exact completes_of_actUp (f := fun b => b.writeReg (qOff q (if size then 8 else 4)) value.toNat) rfl hup

/-- RC_READ (R14, R17). -/
theorem rcRead_completes (s : State) (off n : Nat) (hup : s.blk.up = true) :
    Completes (.rcRead off n) s (s.blk.readReg off n) :=
  completes_of_actUp (f := fun b => b.readReg off n) rfl hup

/-- A command that reads a LO register leaves what that read leaves. -/
theorem latched_of_readReg {c : Instr} {s : State} {off hi x : Nat} (hup : s.blk.up = true)
    (hc : exec c s = actUp (fun b => b.readReg off 4) s) (h : Latched s.blk (s.blk.readReg off 4) hi x) :
    ∃ t, Completes c s t ∧ Latched s.blk t hi x :=
  ⟨_, completes_of_actUp hc hup, h⟩

/-- Settles O37: each access completes with the block's `writeBytes` or `readReg`, which come down to the write or the read of the one
register the access touches. -/
theorem registerAccess : Obligations.RegisterAccess := by
  unfold Obligations.RegisterAccess
  constructor
  · intro s b hup
    refine ⟨?word, ?plain, ?discarded, ?qmap, ?backstreet⟩
    case word =>
      intro off bytes halign hoff hlen hreg
      rw [← b.writeBytes_word hoff halign hlen hreg]
      exact registerWrite_completes s off bytes hup
    case plain =>
      intro off bytes r halign hlen hr hblock
      refine ⟨_, registerWrite_plain s hup halign hlen hr hblock, fun n hn => b.testBit_reg_writePlain hr _ hn, ?_⟩
      rw [s.blk.writePlain_eq hr]
      exact ⟨sameRegs_setReg b _ _, rfl, rfl, rfl, rfl⟩
    case discarded =>
      intro off bytes hoff hpos h
      refine ⟨_, registerWrite_completes s off bytes hup, ?_⟩
      rw [s.blk.writeBytes_discarded hoff hpos h]
      exact ⟨rfl, b.reg_bump_one _, sameRegs_setReg b _ _⟩
    case qmap =>
      intro k value
      refine ⟨⟨_, qmapWrite_completes s k value hup, fun i hi => b.qmap_writePlain k _ hi, ?_⟩, qmapWrite_substituted s k value hup⟩
      obtain ⟨r, hr, -⟩ := regRow_qmap k
      rw [s.blk.writePlain_eq hr]
      exact ⟨sameRegs_setReg b _ _, rfl⟩
    case backstreet =>
      intro q size value hret hon
      refine ⟨_, plzBsReconfig_completes s q size value hup hret hon, b.reg_bsReconfig size _ hret, b.sameRegs_bsReconfig size _ hret, ?_⟩
      obtain ⟨f, hplaza⟩ := b.plaza_bsReconfig size value.toNat hret
      rw [hplaza]
      exact ⟨rfl, rfl, rfl, rfl, rfl, b.mem_bsReconfig size _ hret⟩
  · intro s b latches hup
    refine ⟨?plain, ?plzCnt, ?timeNow, ?sysref, ?faultSeq, ?srcTime, ?epoch⟩
    case plain =>
      intro off r halign hoff hr hq hl
      refine ⟨_, rcRead_completes s off 4 hup, ?_⟩
      rw [s.blk.readReg_plain hoff halign hr hl]
      by_cases hrc : r.rc = 0
      · rw [s.blk.clearRc_none off hrc]
        exact ⟨rfl, fun _ => rfl, fun h => absurd hrc h, rfl⟩
      · obtain ⟨-, hrcLt, -⟩ := regRow_masks hr
        have hreg := Nat.mod_eq_of_lt (and_maskNot_lt (b.reg off) hrcLt)
        rw [s.blk.clearRc_global hrc hq]
        exact ⟨rfl, fun h => absurd h hrc, fun _ => ⟨(b.reg_setReg_same off _).trans hreg, sameRegs_setReg b _ _⟩, rfl⟩
    case plzCnt =>
      intro q k hret hon
      refine ⟨_, rcRead_completes s (plzCnt q k) 4 hup, ?_⟩
      rw [s.blk.readReg_plzCnt q k hret hon]
      exact ⟨rfl, b.reg_setReg_same _ _, sameRegs_setReg b _ _, rfl⟩
    case timeNow =>
      exact latched_of_readReg hup rfl (b.readReg_latched (by decide) (by decide) rfl rfl rfl rfl rfl)
    case sysref =>
      exact latched_of_readReg hup rfl (b.readReg_latched (by decide) (by decide) rfl rfl rfl rfl rfl)
    case faultSeq =>
      exact latched_of_readReg hup rfl (b.readReg_latched (by decide) (by decide) rfl rfl rfl rfl rfl)
    case srcTime =>
      intro src
      have first := latched_of_readReg (c := .faultSrcTimeLoRead src false) hup rfl (b.readReg_srcTimeLo src false)
      have last := latched_of_readReg (c := .faultSrcTimeLoRead src true) hup rfl (b.readReg_srcTimeLo src true)
      rw [show srcTimeLo src false + 4 = 0x30100C + 0x20 * src by rw [srcTimeLo_first]; omega] at first
      rw [show srcTimeLo src true + 4 = 0x301014 + 0x20 * src by rw [srcTimeLo_last]; omega] at last
      exact ⟨first, last⟩
    case epoch =>
      intro k hk
      have hl : b.latch 0x1100208 = some (0x110020C, k.epoch) := by simp [Block.latch, hk]
      have hv : b.view 0x1100208 = k.epoch % 2 ^ 32 := by simp [Block.view, Block.viewCorner, hk]
      exact latched_of_readReg hup rfl (b.readReg_latched (by decide) (by decide) rfl rfl rfl hl hv)

end Sys2Proof.Machine

/-! The factory mapping: what the reset values of the QMAP registers name, and the spares they leave. -/

namespace Sys2Proof.Machine

/-- At reset a register of the tables holds its row's reset value. -/
theorem reg_reset {off : Nat} {r : RegRow} (hr : regRow off = some r) : State.reset.blk.reg off = r.reset := by
  simp [State.reset, Block.initial, Block.reg, SMap.find?, hr]

/-- The reset values of the QMAP registers spell the factory mapping, four logical Quarters in each (R25, R30). -/
theorem regRow_qmap_reset :
    ∀ k < 16, ∃ r, regRow (0x100 + 4 * k) = some r ∧ ∀ i < 4, bits r.reset (8 * i + 6) (8 * i) = factory (4 * k + i) := by
  have rows : ∀ k < 16, ∀ i < 4,
      (regRow (0x100 + 4 * k)).map (fun r => bits r.reset (8 * i + 6) (8 * i)) = some (factory (4 * k + i)) := by decide +kernel
  intro k hk
  obtain ⟨r, hr, -⟩ := Option.map_eq_some_iff.mp (rows k hk 0 (by decide))
  exact ⟨r, hr, fun i hi => by simpa [hr] using rows k hk i hi⟩

/-- The QMAP at reset is the factory mapping (R25). -/
theorem qmap_reset {l : Nat} (hl : l < 64) : State.reset.blk.qmap l = factory l := by
  obtain ⟨r, hr, fields⟩ := regRow_qmap_reset (l / 4) (by omega)
  rw [Block.qmap, Block.rf, reg_reset hr, fields (l % 4) (by omega), Nat.div_add_mod]

/-- Of each 17 physical Quarters the factory mapping names the first 16: it leaves out the last. -/
theorem exists_factory_eq_iff {p : Nat} (hp : p < 68) : (∃ l < 64, factory l = p) ↔ p % 17 ≠ 16 := by
  unfold factory
  constructor
  · rintro ⟨l, -, rfl⟩
    omega
  · intro h
    exact ⟨p - p / 17, by omega, by omega⟩

theorem Block.logical_isNone_iff (b : Block) (p : Nat) : (b.logical p).isNone = true ↔ ¬ ∃ l < 64, b.qmap l = p := by
  simp [Block.logical]

/-- Under the factory mapping, with no Quarter retired, the spares are the last of each 17 physical Quarters (R25, R26). -/
theorem Block.spares_of_factory {b : Block} (hmap : ∀ l < 64, b.qmap l = factory l) (hret : b.retired = []) :
    b.spares = (List.range 68).filter fun p => p % 17 = 16 := by
  refine List.filter_congr fun p hp => ?_
  have named : (∃ l < 64, b.qmap l = p) ↔ ∃ l < 64, factory l = p :=
    exists_congr fun l => and_congr_right fun hl => by rw [hmap l hl]
  have free : (b.logical p).isNone = true ↔ p % 17 = 16 := by
    rw [b.logical_isNone_iff, named, exists_factory_eq_iff (List.mem_range.mp hp), not_not]
  rw [Bool.eq_iff_iff]
  simpa [hret] using free

/-- Settles O59: the reset values of the QMAP registers are the factory mapping, and with nothing retired at reset the spares are the
physical Quarters it leaves out. -/
theorem factoryMapping : Obligations.FactoryMapping := by
  refine ⟨fun n hn => qmap_reset hn, ?_⟩
  calc State.reset.blk.spares
    _ = (List.range 68).filter fun p => p % 17 = 16 := Block.spares_of_factory (fun _ hl => qmap_reset hl) rfl
    _ = [16, 33, 50, 67] := by decide

end Sys2Proof.Machine

/-! Flits on the Avenue: the Crossings and their buffers, FLIT_FORWARD, CREDIT_RETURN, LINK_REPLAY, ROUNDABOUT_ESCAPE and PEN_WRITE. -/

namespace Sys2Proof.Machine

-- Crossings (R216)

@[simp] theorem Block.xing_setXing_same (b : Block) (x y : Nat) (c : Crossing) : (b.setXing x y c).xing x y = c := by
  simp [Block.xing]

theorem Block.xing_setXing_ne (b : Block) {x y x' y' : Nat} (c : Crossing) (h : xk x' y' ≠ xk x y) :
    (b.setXing x y c).xing x' y' = b.xing x' y' := by
  simp [Block.xing, SMap.get_put_ne _ _ _ h]

theorem Block.xing_of_ave {b c : Block} (h : c.ave = b.ave) (x y : Nat) : c.xing x y = b.xing x y := by
  simp only [Block.xing, h]

/-- A link leads to another Crossing. -/
theorem xk_neighbour_ne {x y port nx ny : Nat} (h : neighbour x y port = some (nx, ny)) : xk nx ny ≠ xk x y := by
  unfold neighbour at h
  unfold xk
  split at h <;> grind

@[simp] theorem Crossing.push_bufs_same (c : Crossing) (now k : Nat) (fs : List Flit) :
    SMap.get (c.push now k fs).bufs [] k = SMap.get c.bufs [] k ++ fs.map Flit.seal := by
  simp [Crossing.push]

theorem Crossing.push_bufs_ne (c : Crossing) (now : Nat) {k j : Nat} (fs : List Flit) (h : j ≠ k) :
    SMap.get (c.push now k fs).bufs [] j = SMap.get c.bufs [] j := by
  simp [Crossing.push, SMap.get_put_ne _ _ _ h]

@[simp] theorem Crossing.pop_bufs_same (c : Crossing) (now k n : Nat) :
    SMap.get (c.pop now k n).bufs [] k = (SMap.get c.bufs [] k).drop n := by
  simp [Crossing.pop]

theorem Crossing.pop_bufs_ne (c : Crossing) (now : Nat) {k j : Nat} (n : Nat) (h : j ≠ k) :
    SMap.get (c.pop now k n).bufs [] j = SMap.get c.bufs [] j := by
  simp [Crossing.pop, SMap.get_upd_ne _ _ _ h]

-- What credits on their way back to an upstream Crossing leave (R217)

/-- Two blocks differ in their Crossings alone. -/
def XingsFrame (b t : Block) : Prop := t = { b with ave := { b.ave with xings := t.ave.xings } }

theorem xingsFrame_refl (b : Block) : XingsFrame b b := rfl
theorem xingsFrame_setXing (b : Block) (x y : Nat) (c : Crossing) : XingsFrame b (b.setXing x y c) := rfl
theorem XingsFrame.trans {a b c : Block} (h : XingsFrame a b) (h' : XingsFrame b c) : XingsFrame a c := by
  unfold XingsFrame at *
  rw [h', h]

theorem Block.freeUpstream_frame (b : Block) (x y port vc n : Nat) : XingsFrame b (b.freeUpstream x y port vc n) := by
  unfold Block.freeUpstream
  split
  · exact xingsFrame_refl b
  · exact xingsFrame_setXing b _ _ _

/-- The Crossing whose buffer has the free place is not the one that gets the credit. -/
theorem Block.xing_freeUpstream_same (b : Block) (x y port vc n : Nat) : (b.freeUpstream x y port vc n).xing x y = b.xing x y := by
  unfold Block.freeUpstream
  split
  · rfl
  · next h => exact b.xing_setXing_ne _ (xk_neighbour_ne h).symm

theorem Block.bufs_freeUpstream (b : Block) (x y port vc n x' y' : Nat) :
    ((b.freeUpstream x y port vc n).xing x' y').bufs = (b.xing x' y').bufs := by
  unfold Block.freeUpstream
  split
  · rfl
  · next ux uy _ =>
    by_cases h : xk x' y' = xk ux uy
    · simp [Block.xing, h]
    · rw [b.xing_setXing_ne _ h]

-- A flit leaves its input buffer for an output (R57, R217, R218, R221)

/-- A Crossing once a flit of an input buffer has gone to an output. -/
def Crossing.forwards (c : Crossing) (now out vc i : Nat) (f : Flit) : Crossing :=
  let c := c.pop now (bufKey i vc) 1
  { c with
    turn := SMap.put c.turn (bufKey out vc) i
    vcRun := SMap.put c.vcRun out (if vc = 2 then SMap.get c.vcRun 0 out + 1 else 0)
    vcLast := if vc = 2 then c.vcLast else SMap.put c.vcLast out vc
    vc1Hold := if vc ≠ 1 then c.vc1Hold else if f.word.last then SMap.erase c.vc1Hold out else SMap.put c.vc1Hold out i
    : Crossing }.sends out { f with hops := if out < 4 then f.hops + 1 else f.hops }

@[simp] theorem Crossing.forwards_bufs (c : Crossing) (now out vc i : Nat) (f : Flit) :
    SMap.get (c.forwards now out vc i f).bufs [] (bufKey i vc) = (SMap.get c.bufs [] (bufKey i vc)).drop 1 :=
  c.pop_bufs_same now (bufKey i vc) 1

@[simp] theorem Crossing.forwards_spent (c : Crossing) (now out vc i : Nat) (f : Flit) : (c.forwards now out vc i f).spent = c.spent := rfl

/-- The block once a flit has left its input buffer: the sender of that buffer gets its credit back, but for an escaped flit at the
Crossing where it moved onto VC2. -/
def Block.leavesBuffer (b : Block) (x y out vc i : Nat) (f : Flit) : Block :=
  let b := b.setXing x y ((b.xing x y).forwards b.now out vc i f)
  if vc == 2 && f.esc == xk x y + 1 then b else b.freeUpstream x y i vc 1

theorem Block.leavesBuffer_frame (b : Block) (x y out vc i : Nat) (f : Flit) : XingsFrame b (b.leavesBuffer x y out vc i f) := by
  unfold Block.leavesBuffer
  split
  · exact xingsFrame_setXing b _ _ _
  · exact (xingsFrame_setXing b _ _ _).trans (Block.freeUpstream_frame _ _ _ _ _ _)

theorem Block.xing_leavesBuffer_same (b : Block) (x y out vc i : Nat) (f : Flit) :
    (b.leavesBuffer x y out vc i f).xing x y = (b.xing x y).forwards b.now out vc i f := by
  unfold Block.leavesBuffer
  split
  · exact b.xing_setXing_same x y _
  · rw [Block.xing_freeUpstream_same, Block.xing_setXing_same]

theorem Block.bufs_leavesBuffer_ne (b : Block) {x y x' y' : Nat} (out vc i : Nat) (f : Flit) (h : xk x' y' ≠ xk x y) :
    ((b.leavesBuffer x y out vc i f).xing x' y').bufs = (b.xing x' y').bufs := by
  unfold Block.leavesBuffer
  split
  · rw [b.xing_setXing_ne _ h]
  · rw [Block.bufs_freeUpstream, b.xing_setXing_ne _ h]

/-- Onto a mesh link: the credit is spent, and the flit goes behind the neighbour's buffer with HOPS increased. -/
theorem Block.sendFlit_mesh (b : Block) {x y out nx ny : Nat} (vc i : Nat) (f : Flit) (hn : neighbour x y out = some (nx, ny)) :
    b.sendFlit x y out vc i f =
      let b1 := b.leavesBuffer x y out vc i f
      let c := b1.xing x y
      let b2 := b1.setXing x y { c with spent := SMap.upd c.spent 0 (bufKey out vc) (· + 1) }
      let m := (b2.xing nx ny).push b2.now (bufKey (opposite out) vc) [{ f with hops := f.hops + 1 }]
      b2.setXing nx ny { m with replays := SMap.erase m.replays (opposite out) } := by
  unfold Block.sendFlit
  simp only [hn]
  rfl

theorem Block.sendFlit_mesh_frame (b : Block) {x y out nx ny : Nat} (vc i : Nat) (f : Flit) (hn : neighbour x y out = some (nx, ny)) :
    XingsFrame b (b.sendFlit x y out vc i f) := by
  rw [b.sendFlit_mesh vc i f hn]
  exact ((b.leavesBuffer_frame x y out vc i f).trans (xingsFrame_setXing _ _ _ _)).trans (xingsFrame_setXing _ _ _ _)

theorem Block.xing_sendFlit_mesh (b : Block) {x y out nx ny : Nat} (vc i : Nat) (f : Flit) (hn : neighbour x y out = some (nx, ny)) :
    (b.sendFlit x y out vc i f).xing x y =
      let c := (b.xing x y).forwards b.now out vc i f
      { c with spent := SMap.upd c.spent 0 (bufKey out vc) (· + 1) } := by
  rw [b.sendFlit_mesh vc i f hn]
  dsimp only
  rw [Block.xing_setXing_ne _ _ (xk_neighbour_ne hn).symm, Block.xing_setXing_same, Block.xing_leavesBuffer_same]

theorem Block.bufs_sendFlit_neighbour (b : Block) {x y out nx ny : Nat} (vc i : Nat) (f : Flit) (hn : neighbour x y out = some (nx, ny)) :
    SMap.get ((b.sendFlit x y out vc i f).xing nx ny).bufs [] (bufKey (opposite out) vc) =
      SMap.get (b.xing nx ny).bufs [] (bufKey (opposite out) vc) ++ [({ f with hops := f.hops + 1 } : Flit).seal] := by
  rw [b.sendFlit_mesh vc i f hn]
  dsimp only
  rw [Block.xing_setXing_same, Crossing.push_bufs_same, Block.xing_setXing_ne _ _ (xk_neighbour_ne hn),
    b.bufs_leavesBuffer_ne _ _ _ _ (xk_neighbour_ne hn)]
  rfl

theorem Block.deliver_quarter (b : Block) {x y p : Nat} (vc : Nat) (f : Flit) (hp : quarterAt x y = some p)
    (hret : b.retired.contains p = false) :
    b.deliver x y vc f =
      (b.setQ p { b.q p with arriving := (b.q p).arriving ++
        [{ lane := if vc = 1 then 8 else inLane f.srcX f.srcY f.srcP,
           word := { tok := f.word, pt := 2 * xk f.srcX f.srcY + f.srcP } }] }).setXing x y
        { b.xing x y with spent := SMap.upd (b.xing x y).spent 0 (bufKey 4 vc) (· + 1) } := by
  unfold Block.deliver
  simp only [hp, hret]
  rfl

-- Arbitration (R218)

theorem Block.mayLeave_of_chosen {b : Block} {x y out vc i : Nat} (h : b.chosen x y out vc = some i) : b.mayLeave x y out vc i = true := by
  unfold Block.chosen at h
  split at h
  · split at h
    · next hm => rwa [← Option.some.inj h]
    · exact absurd h (by simp)
  · exact List.find?_some h

/-- A VC0 flit that arbitration gives L0 of a Quarter goes to a District that is awake (R23). -/
theorem Block.awake_of_chosen {b : Block} {x y i p : Nat} (h : b.chosen x y 4 0 = some i) (hp : quarterAt x y = some p)
    (hret : b.retired.contains p = false) : b.distLevel (distOf p) = 0 := by
  have hm := Block.mayLeave_of_chosen h
  unfold Block.mayLeave at hm
  dsimp only at hm
  split at hm
  · exact absurd hm (by simp)
  · have hin : p ∉ b.retired := by simpa using hret
    simp only [hp] at hm
    simp_all

/-- No checker is armed (R418). -/
theorem Block.inject_unarmed (b : Block) (checker unit sub : Nat) (h : b.rf 0x300044 15 0 = 0) : b.inject checker unit sub = (b, none) := by
  simp [Block.inject, h]

-- FLIT_FORWARD

/-- No input buffer of the virtual channel has a corrupt header at its head. -/
def Block.headersPass (b : Block) (x y vc : Nat) : Prop :=
  ∀ k < 6, ∀ g gs, SMap.get (b.xing x y).bufs [] (bufKey k vc) = g :: gs → g.corrupt x y = false

/-- What becomes of the flit that arbitration chose: over a mesh link one whose CRC fails is replayed (R221). -/
def Block.passesOutput (b : Block) (x y out vc i : Nat) (f : Flit) : Block :=
  match neighbour x y out with
  | none => b.sendFlit x y out vc i f
  | some (nx, ny) => if f.sound then b.sendFlit x y out vc i f else b.replay nx ny (opposite out) false

theorem flitForward_completes {s : State} {x : Fin 9} {y : Fin 8} {port : Port} {vc : Fin 3} {i : Nat} {f : Flit} {fs : List Flit}
    (hup : s.blk.up = true) (harb : s.blk.arbitrate x y (portIdx port) = some vc.val) (hch : s.blk.chosen x y (portIdx port) vc = some i)
    (hbuf : SMap.get (s.blk.xing x y).bufs [] (bufKey i vc) = f :: fs) (hpass : s.blk.headersPass x y vc)
    (harm : s.blk.rf 0x300044 15 0 = 0) :
    Completes (.flitForward x y port vc) s
      (s.blk.passesOutput x y (portIdx port) vc i f) := by
  have hwake : ∀ p, quarterAt x y = some p → portIdx port = 4 → vc.val = 0 → s.blk.retired.contains p = false →
      s.blk.distLevel (distOf p) = 0 := by
    intro p hp hout hvc hret
    rw [hout, hvc] at hch
    exact Block.awake_of_chosen hch hp hret
  unfold Completes
  show execFlitForward x y port vc s = _
  rw [execFlitForward, actUp_up _ _ hup]
  congr 2
  extract_lets out c b
  split
  · next k hk =>
    have hbad := List.find?_some hk
    have hlt := List.mem_range.1 (List.mem_of_find?_eq_some hk)
    split at hbad
    · next g gs hg => rw [hpass k hlt g gs hg] at hbad; exact absurd hbad (by simp)
    · exact absurd hbad (by simp)
  · have hb : b = s.blk := by
      simp only [b]
      split
      · next p hp =>
        refine if_neg fun ⟨hout, hvc, hc⟩ => ?_
        simp only [Bool.and_eq_true, decide_eq_true_eq, Bool.not_eq_true'] at hc
        exact hc.1.1 (hwake p hp hout hvc hc.1.2)
      · rfl
    clear_value b
    subst hb
    simp only [out, c, harb, hch, hbuf, Block.inject_unarmed _ _ _ _ harm, ne_eq, not_true_eq_false, if_false]
    unfold Block.passesOutput
    cases neighbour x y (portIdx port) <;> rfl

-- CREDIT_RETURN

theorem creditReturn_completes {s : State} {x : Fin 9} {y : Fin 8} {port : Port} {vc : Fin 3} (hup : s.blk.up = true)
    (hfree : SMap.get (s.blk.xing x y).freed 0 (bufKey (portIdx port) vc) ≠ 0) :
    Completes (.creditReturn x y port vc) s (s.blk.setXing x y { s.blk.xing x y with
      freed := SMap.put (s.blk.xing x y).freed (bufKey (portIdx port) vc) (SMap.get (s.blk.xing x y).freed 0 (bufKey (portIdx port) vc) - 1)
      spent := SMap.put (s.blk.xing x y).spent (bufKey (portIdx port) vc)
        (SMap.get (s.blk.xing x y).spent 0 (bufKey (portIdx port) vc) - 1) }) := by
  unfold Completes
  show execCreditReturn x y port vc s = _
  rw [execCreditReturn, actUp_up _ _ hup]
  simp only [hfree, if_false]

-- LINK_REPLAY (R221, R222)

theorem linkReplay_completes {s : State} {x : Fin 9} {y : Fin 8} {port : Port} {vc : Fin 3} {ux uy : Nat} (hup : s.blk.up = true)
    (hlink : (s.blk.xing x y).down.contains (portIdx port) = false) (hn : neighbour x y (portIdx port) = some (ux, uy))
    (hch : (s.blk.chosen ux uy (opposite (portIdx port)) vc).isSome = true) :
    Completes (.linkReplay x y port) s (s.blk.replay x y (portIdx port) false) := by
  have hany : ([0, 1, 2].any fun v => (s.blk.chosen ux uy (opposite (portIdx port)) v).isSome) = true := by
    refine List.any_eq_true.2 ⟨vc, ?_, hch⟩
    fin_cases vc <;> simp
  unfold Completes
  show execLinkReplay x y port s = _
  rw [execLinkReplay, actUp_up _ _ hup]
  simp only [hlink, hn, hany, if_true, Bool.false_eq_true, if_false]

@[simp] theorem Block.replay_qs (b : Block) (x y port : Nat) (injected : Bool) : (b.replay x y port injected).qs = b.qs := by
  unfold Block.replay
  dsimp only
  split
  · simp
  · split <;> simp

@[simp] theorem Block.replay_mem (b : Block) (x y port : Nat) (injected : Bool) : (b.replay x y port injected).mem = b.mem := by
  unfold Block.replay
  dsimp only
  split
  · simp
  · split <;> simp

/-- One of the first 16 replays in a row is counted and goes out on the fault wires. -/
theorem Block.replay_counted (b : Block) (x y port : Nat) (injected : Bool) (h : SMap.get (b.xing x y).replays 0 port < 16) :
    SMap.get ((b.replay x y port injected).xing x y).replays 0 port = SMap.get (b.xing x y).replays 0 port + 1 ∧
    (b.replay x y port injected).reg (aveCnt 4) = satAdd (b.reg (aveCnt 4)) 1 ∧
    ((b.replay x y port injected).xing x y).down = (b.xing x y).down ∧
    (b.replay x y port injected).hub.wires.length = b.hub.wires.length + 1 := by
  unfold Block.replay
  dsimp only
  rw [if_pos h]
  refine ⟨?_, ?_, ?_, ?_⟩
  · rw [Block.xing_of_ave (Block.detect_ave ..), Block.xing_of_ave (Block.bump_ave ..), Block.xing_setXing_same, SMap.get_put_same]
  · rw [Block.detect_reg, Block.reg_bump_one, Block.setXing_reg]
  · rw [Block.xing_of_ave (Block.detect_ave ..), Block.xing_of_ave (Block.bump_ave ..), Block.xing_setXing_same]
  · simp [Block.detect, Block.wire]

theorem addNew_contains (l : List Nat) (n : Nat) : (addNew l n).contains n = true := by
  unfold addNew
  split
  · assumption
  · simp

/-- After 16 replays in a row the link is DOWN, and AVENUE_LINK_DOWN is valid. -/
theorem Block.replay_down (b : Block) (x y port : Nat) (injected : Bool) (hport : port < 8) (h : 16 ≤ SMap.get (b.xing x y).replays 0 port) :
    ((b.replay x y port injected).xing x y).down.contains port = true ∧ (b.replay x y port injected).rf 0x500020 31 31 = 1 := by
  unfold Block.replay
  dsimp only
  rw [if_neg (by omega)]
  split
  · next hv =>
    exact ⟨by rw [Block.xing_of_ave (Block.detect_ave ..), Block.xing_setXing_same]; exact addNew_contains _ _, hv⟩
  · refine ⟨?_, ?_⟩
    · rw [Block.xing_of_ave (Block.detect_ave ..), Block.xing_of_ave (Block.setReg_ave ..), Block.xing_setXing_same]
      exact addNew_contains _ _
    · simp only [Block.rf, Block.detect_reg, Block.reg_setReg_same, bits, field, Nat.shiftLeft_eq, Nat.shiftRight_eq_div_pow,
        Nat.reduceAdd, Nat.reduceSub, Nat.reducePow]
      omega

-- ROUNDABOUT_ESCAPE (R60, R231)

@[simp] theorem Block.passTo_ave (b : Block) (t : Nat) : (b.passTo t).ave = b.ave := by
  unfold Block.passTo
  split
  · simp
  · rfl

@[simp] theorem Block.passTo_reg (b : Block) (t o : Nat) : (b.passTo t).reg o = b.reg o := by
  simp [Block.reg]

/-- A flit as it goes onto VC2 at a Crossing, its CRC made afresh. -/
def Flit.escaped (f : Flit) (x y : Nat) : Flit := { f with vc := 2, hops := 0, esc := xk x y + 1 }

theorem Block.reg_bump (b : Block) (off : Nat) {n : Nat} (h : n ≠ 0) : (b.bump off n).reg off = satAdd (b.reg off) n := by
  simp only [Block.bump, h, if_false, Block.reg_setReg_same]
  unfold satAdd
  omega

theorem Block.escape_frame (b : Block) (x y port n : Nat) :
    (b.escape x y port n).qs = b.qs ∧ (b.escape x y port n).mem = b.mem ∧ (b.escape x y port n).now = b.now := by
  unfold Block.escape
  dsimp only
  rw [Block.freeUpstream_frame]
  simp

/-- The front flits of a VC0 input buffer, as they stand on VC2. -/
def Crossing.escapes (c : Crossing) (now x y port n : Nat) : Crossing :=
  (c.pop now (bufKey port 0) n).push now (bufKey port 2) (((SMap.get c.bufs [] (bufKey port 0)).take n).map fun g => g.escaped x y)

theorem Crossing.escapes_bufs (c : Crossing) (now x y port n : Nat) :
    SMap.get (c.escapes now x y port n).bufs [] (bufKey port 0) = (SMap.get c.bufs [] (bufKey port 0)).drop n ∧
    SMap.get (c.escapes now x y port n).bufs [] (bufKey port 2) = SMap.get c.bufs [] (bufKey port 2) ++
      ((SMap.get c.bufs [] (bufKey port 0)).take n).map fun g => (g.escaped x y).seal := by
  have h02 : bufKey port 0 ≠ bufKey port 2 := by unfold bufKey; omega
  unfold Crossing.escapes
  rw [Crossing.push_bufs_ne _ _ _ h02, Crossing.pop_bufs_same, Crossing.push_bufs_same, Crossing.pop_bufs_ne _ _ _ h02.symm,
    List.map_map]
  exact ⟨rfl, rfl⟩

/-- The destinations held back for the escaped flits leave the buffers as they are. -/
theorem Block.bufs_escape (b : Block) (x y port n : Nat) :
    ((b.escape x y port n).xing x y).bufs = ((b.xing x y).escapes b.now x y port n).bufs := by
  unfold Block.escape
  dsimp only
  rw [Block.xing_of_ave (Block.bump_ave ..), Block.xing_freeUpstream_same, Block.xing_setXing_same]
  split <;> rfl

theorem Block.reg_escape (b : Block) (x y port : Nat) {n : Nat} (h : n ≠ 0) :
    (b.escape x y port n).reg (aveCnt 6) = satAdd (b.reg (aveCnt 6)) n := by
  unfold Block.escape
  dsimp only
  rw [Block.reg_bump _ _ h, Block.freeUpstream_frame]
  rfl

/-- What flits that escape once a moment has come leave. -/
theorem Block.escape_effect (b : Block) (x y port until_ : Nat) {n : Nat} (h : n ≠ 0) :
    let t := (b.passTo until_).escape x y port n
    SMap.get (t.xing x y).bufs [] (bufKey port 0) = (SMap.get (b.xing x y).bufs [] (bufKey port 0)).drop n ∧
    SMap.get (t.xing x y).bufs [] (bufKey port 2) = SMap.get (b.xing x y).bufs [] (bufKey port 2) ++
      ((SMap.get (b.xing x y).bufs [] (bufKey port 0)).take n).map (fun g => (g.escaped x y).seal) ∧
    t.reg (aveCnt 6) = satAdd (b.reg (aveCnt 6)) n ∧ until_ ≤ t.now ∧ t.qs = b.qs ∧ t.mem = b.mem := by
  obtain ⟨hqs, hmem, hnow⟩ := (b.passTo until_).escape_frame x y port n
  obtain ⟨hvc0, hvc2⟩ := (b.xing x y).escapes_bufs (b.passTo until_).now x y port n
  have hx : (b.passTo until_).xing x y = b.xing x y := Block.xing_of_ave (Block.passTo_ave ..) x y
  refine ⟨?_, ?_, ?_, ?_, ?_, ?_⟩
  · rw [Block.bufs_escape, hx, hvc0]
  · rw [Block.bufs_escape, hx, hvc2]
  · rw [Block.reg_escape _ _ _ _ h, Block.passTo_reg]
  · rw [hnow, Block.passTo_now]
    exact le_max_right _ _
  · rw [hqs, Block.passTo_qs]
  · rw [hmem, Block.passTo_mem]

theorem roundaboutEscape_completes {s : State} {x : Fin 9} {y : Fin 8} {port : Port} {f : Flit} {fs : List Flit} (hup : s.blk.up = true)
    (hbuf : SMap.get (s.blk.xing x y).bufs [] (bufKey (portIdx port) 0) = f :: fs) (hen : s.blk.rf 0x500000 0 0 = 1)
    (hheld : (s.blk.xing x y).holds f = false) (hpass : f.corrupt x y = false) :
    Completes (.roundaboutEscape x y port) s
      ((s.blk.passTo (SMap.get (s.blk.xing x y).since 0 (bufKey (portIdx port) 0) + s.blk.roundWait)).escape x y (portIdx port)
        (if ordered f.word then fs.length + 1 else 1)) := by
  unfold Completes
  show execRoundaboutEscape x y port s = _
  rw [execRoundaboutEscape, actUp_up _ _ hup]
  simp [hbuf, hen, hheld, hpass]

-- What accesses of module memory leave (R328)

/-- Two blocks differ only in what an access of module memory can touch: registers, the fault wires, the Stops, the undo ring, memory
and the free values drawn. -/
def MemFrame (b t : Block) : Prop :=
  t = { b with free := t.free, regs := t.regs, hub := t.hub, stops := t.stops, cont := { b.cont with undo := t.cont.undo }, mem := t.mem }

theorem memFrame_refl (b : Block) : MemFrame b b := rfl
theorem MemFrame.trans {a b c : Block} (h : MemFrame a b) (h' : MemFrame b c) : MemFrame a c := by
  unfold MemFrame at *
  rw [h', h]

theorem memFrame_foldl {α : Type} {f : Block → α → Block} (hf : ∀ b a, MemFrame b (f b a)) (l : List α) (b : Block) :
    MemFrame b (l.foldl f b) :=
  List.foldlRecOn l f (memFrame_refl b) fun c hc a _ => hc.trans (hf c a)

theorem MemFrame.qs {b t : Block} (h : MemFrame b t) : t.qs = b.qs := by rw [h]
theorem MemFrame.ave {b t : Block} (h : MemFrame b t) : t.ave = b.ave := by rw [h]
theorem MemFrame.disp {b t : Block} (h : MemFrame b t) : t.disp = b.disp := by rw [h]
theorem MemFrame.host {b t : Block} (h : MemFrame b t) : t.host = b.host := by rw [h]

theorem memFrame_bump (b : Block) (off n : Nat) : MemFrame b (b.bump off n) := by
  rcases b.bump_eq off n with h | h <;> rw [h] <;> rfl

theorem Block.touchPage_frame (b : Block) (ma : Nat) : MemFrame b (b.touchPage ma) := by
  unfold Block.touchPage
  dsimp only
  split
  · exact memFrame_refl b
  · split
    · exact memFrame_refl b
    · split
      · refine MemFrame.trans ?_ (memFrame_bump _ _ _)
        rfl
      · exact memFrame_bump _ _ _

/-- A borrowed page that is met keeps memory and the Stops that answer. -/
theorem Block.touchPage_mem (b : Block) (ma : Nat) : (b.touchPage ma).mem = b.mem ∧ (b.touchPage ma).stops.lost = b.stops.lost := by
  unfold Block.touchPage
  dsimp only
  split
  · exact ⟨rfl, rfl⟩
  · split
    · exact ⟨rfl, rfl⟩
    · split <;> simp

/-- Two blocks differ in the undo ring alone. -/
def UndoFrame (b t : Block) : Prop := t = { b with cont := { b.cont with undo := t.cont.undo } }

theorem undoFrame_refl (b : Block) : UndoFrame b b := rfl
theorem UndoFrame.trans {a b c : Block} (h : UndoFrame a b) (h' : UndoFrame b c) : UndoFrame a c := by
  unfold UndoFrame at *
  rw [h', h]
theorem UndoFrame.memFrame {b t : Block} (h : UndoFrame b t) : MemFrame b t := by
  unfold MemFrame
  rw [h]

theorem Block.undoLine_frame (b : Block) (line : Nat) : UndoFrame b (b.undoLine line) := by
  unfold Block.undoLine
  split
  · exact undoFrame_refl b
  · next u _ =>
    dsimp only
    generalize (if u < 68 then b.qEpoch u else b.gEpoch (u - 68)) = e
    split
    · exact undoFrame_refl b
    · rfl

theorem Block.undoFor_frame (b : Block) (ls : List Nat) : UndoFrame b (b.undoFor ls) := by
  unfold Block.undoFor
  split
  · exact undoFrame_refl b
  · exact List.foldlRecOn ls _ (undoFrame_refl b) fun c hc l _ => hc.trans (c.undoLine_frame l)

/-- The block as a write finds it once the pages it meets and the undo copies are dealt with. -/
def Block.readiedFor (b : Block) (ls : List Nat) : Block := (ls.foldl (fun b l => b.touchPage l) b).undoFor ls

theorem Block.readiedFor_frame (b : Block) (ls : List Nat) : MemFrame b (b.readiedFor ls) :=
  (memFrame_foldl Block.touchPage_frame ls b).trans (Block.undoFor_frame _ _).memFrame

theorem Block.readiedFor_mem (b : Block) (ls : List Nat) : (b.readiedFor ls).mem = b.mem ∧ (b.readiedFor ls).stops.lost = b.stops.lost := by
  unfold Block.readiedFor
  rw [Block.undoFor_frame]
  exact List.foldlRecOn (motive := fun c : Block => c.mem = b.mem ∧ c.stops.lost = b.stops.lost) ls _ ⟨rfl, rfl⟩ fun c hc l _ =>
    ⟨(c.touchPage_mem l).1.trans hc.1, (c.touchPage_mem l).2.trans hc.2⟩

theorem Block.stopWrite_frame (b : Block) (ma : Nat) (bs : List Byte) : MemFrame b (b.stopWrite ma bs) := by
  unfold Block.stopWrite
  split
  · exact (memFrame_bump b _ _).trans rfl
  · dsimp only
    split <;> refine (b.readiedFor_frame (linesOf ma bs.length)).trans ?_ <;> rfl

/-- A write within MA space with every Stop answering writes its bytes. -/
theorem Block.stopWrite_mem (b : Block) {ma : Nat} {bs : List Byte} (hin : ma + bs.length ≤ maEnd) (hlost : b.stops.lost = []) :
    (b.stopWrite ma bs).mem = memWrite b.mem ma bs := by
  obtain ⟨hm, hl⟩ := b.readiedFor_mem (linesOf ma bs.length)
  unfold Block.readiedFor at hm hl
  unfold Block.stopWrite
  rw [if_neg (by omega)]
  dsimp only
  rw [hl, hlost, hm]
  rfl

-- PEN_WRITE (R84, R233)

theorem leBytes_length (n x : Nat) : (leBytes n x).length = n := by
  induction n generalizing x with
  | zero => rfl
  | succ n ih => simp [leBytes, ih]

theorem slotBytes_length (o : Operand) : (slotBytes o).length = 32 := by
  simp [slotBytes, Token.bytes, leBytes_length]

theorem Block.chanCopy_qs (b : Block) (q : Nat) (t : Token) (sender : Option Nat) : (b.chanCopy q t sender).qs = b.qs := by
  unfold Block.chanCopy
  split
  · split
    · split <;> rfl
    · rfl
  · rfl

theorem Block.chanCopy_mem (b : Block) (q : Nat) (t : Token) (sender : Option Nat) : (b.chanCopy q t sender).mem = b.mem := by
  unfold Block.chanCopy
  split
  · split
    · split <;> rfl
    · rfl
  · rfl

theorem Block.ackEscape_frame (b : Block) (f : Flit) : XingsFrame b (b.ackEscape f) := by
  unfold Block.ackEscape
  split
  · exact xingsFrame_refl b
  · exact xingsFrame_setXing b _ _ _

/-- The address of the pen slot that is written next. -/
def Block.penSlot (b : Block) (p : Nat) : Nat := b.penBase p + 32 * ((b.plz p).penWr % (b.penBytes p / 32))

/-- A pen with a free slot takes a token of a Quarter that is not retired. -/
theorem Block.penWrite_quarter (b : Block) {f : Flit} {p : Nat} (hp : quarterAt f.dstX f.dstY = some p)
    (hret : b.retired.contains p = false) (hroll : b.rollDiscards p f.word = false)
    (hroom : (b.plz p).penWr - (b.plz p).penRd < b.penBytes p / 32) (hundo : b.undoFull p = false) :
    b.penWrite f = some (((b.stopWrite (b.penSlot p) (slotBytes { tok := f.word, pos := 0, ord := f.ord })).setPlz p
      { b.plz p with penWr := (b.plz p).penWr + 1, noted := (b.plz p).noted + 1, penRun := false }).chanCopy p f.word
        (senderOf (2 * xk f.srcX f.srcY + f.srcP))) := by
  unfold Block.penWrite
  have hfull : ¬ (b.penBytes p / 32 ≤ (b.plz p).penWr - (b.plz p).penRd ∨ b.undoFull p = true) := by
    rw [hundo]
    simpa using hroom
  simp only [hp, hret, hroll, hfull, Bool.false_eq_true, if_false]
  rfl

/-- A writer goes on with the tokens behind the one it has written, whose place is free again. -/
def Block.writerGoesOn (b : Block) (stop : Nat) (fs : List Flit) : Block :=
  let b := { b with ave := { b.ave with writers := SMap.put b.ave.writers stop fs } }
  let c := b.xing (stopXY stop).1 (stopXY stop).2
  b.setXing (stopXY stop).1 (stopXY stop).2 { c with freed := SMap.upd c.freed 0 (bufKey 5 2) (· + 1) }

theorem penWrite_completes {s : State} {stop : Fin 8} {f : Flit} {fs : List Flit} {b : Block} (hup : s.blk.up = true)
    (hw : SMap.get s.blk.ave.writers [] stop = f :: fs) (htake : s.blk.penWrite f = some b) :
    Completes (.penWrite stop) s ((b.writerGoesOn stop fs).ackEscape f) := by
  unfold Completes
  show execPenWrite stop s = _
  rw [execPenWrite, actUp_up _ _ hup, hw]
  simp only [Block.penScan, htake, List.any_nil, Bool.false_eq_true, if_false, List.nil_append]
  rfl

/-- A flit of a mesh link whose CRC fails is replayed. -/
theorem Block.passesOutput_unsound (b : Block) {x y out nx ny : Nat} (vc i : Nat) {f : Flit} (hn : neighbour x y out = some (nx, ny))
    (hf : f.sound = false) : b.passesOutput x y out vc i f = b.replay nx ny (opposite out) false := by
  simp [Block.passesOutput, hn, hf]

theorem Block.passesOutput_sound (b : Block) {x y out nx ny : Nat} (vc i : Nat) {f : Flit} (hn : neighbour x y out = some (nx, ny))
    (hf : f.sound = true) : b.passesOutput x y out vc i f = b.sendFlit x y out vc i f := by
  simp [Block.passesOutput, hn, hf]

/-- L0 is no mesh link. -/
theorem Block.passesOutput_local (b : Block) (x y vc i : Nat) (f : Flit) :
    b.passesOutput x y 4 vc i f = (b.leavesBuffer x y 4 vc i f).deliver x y vc f := rfl

/-- What a flit sent over a mesh link leaves. -/
theorem Block.sendFlit_mesh_effect (b : Block) {x y out vc i nx ny : Nat} {f : Flit} {fs : List Flit}
    (hn : neighbour x y out = some (nx, ny)) (hbuf : SMap.get (b.xing x y).bufs [] (bufKey i vc) = f :: fs) :
    let t := b.sendFlit x y out vc i f
    SMap.get (t.xing x y).bufs [] (bufKey i vc) = fs ∧
    SMap.get (t.xing nx ny).bufs [] (bufKey (opposite out) vc) =
      SMap.get (b.xing nx ny).bufs [] (bufKey (opposite out) vc) ++ [({ f with hops := f.hops + 1 } : Flit).seal] ∧
    SMap.get (t.xing x y).spent 0 (bufKey out vc) = SMap.get (b.xing x y).spent 0 (bufKey out vc) + 1 ∧
    t.qs = b.qs ∧ t.regs = b.regs ∧ t.mem = b.mem := by
  have hframe := b.sendFlit_mesh_frame vc i f hn
  refine ⟨?_, b.bufs_sendFlit_neighbour vc i f hn, ?_, ?_, ?_, ?_⟩
  · rw [b.xing_sendFlit_mesh vc i f hn]
    simp [hbuf]
  · rw [b.xing_sendFlit_mesh vc i f hn]
    simp
  all_goals rw [hframe]

/-- What a flit sent over L0 to a Quarter leaves. -/
theorem Block.sendFlit_local_effect (b : Block) {x y vc i p : Nat} {f : Flit} {fs : List Flit} (hp : quarterAt x y = some p)
    (hret : b.retired.contains p = false) (hbuf : SMap.get (b.xing x y).bufs [] (bufKey i vc) = f :: fs) :
    let t := (b.leavesBuffer x y 4 vc i f).deliver x y vc f
    SMap.get (t.xing x y).bufs [] (bufKey i vc) = fs ∧
    (t.q p).arriving = (b.q p).arriving ++ [{ lane := if vc = 1 then 8 else inLane f.srcX f.srcY f.srcP,
                                              word := { tok := f.word, pt := 2 * xk f.srcX f.srcY + f.srcP } }] ∧
    SMap.get (t.xing x y).spent 0 (bufKey 4 vc) = SMap.get (b.xing x y).spent 0 (bufKey 4 vc) + 1 ∧
    t.regs = b.regs ∧ t.mem = b.mem := by
  have hframe := b.leavesBuffer_frame x y 4 vc i f
  have hx := b.xing_leavesBuffer_same x y 4 vc i f
  have hq : (b.leavesBuffer x y 4 vc i f).q p = b.q p := by rw [hframe]; rfl
  have hr : (b.leavesBuffer x y 4 vc i f).retired.contains p = false := by rw [hframe]; exact hret
  dsimp only
  rw [Block.deliver_quarter _ vc f hp hr, hq]
  refine ⟨?_, ?_, ?_, ?_, ?_⟩
  · rw [Block.xing_setXing_same, hx]
    simp [hbuf]
  · simp
  · rw [Block.xing_setXing_same, hx]
    simp
  · rw [Block.setXing_regs, Block.setQ_regs, hframe]
  · rw [Block.setXing_mem, Block.setQ_mem, hframe]

theorem portIdx_lt (port : Port) : portIdx port < 8 := by
  cases port <;> decide

/-- What a token written into a pen leaves: memory changes in the pen's next slot alone. -/
theorem Block.penWrite_mem (b : Block) {p : Nat} (hok : b.memOk = true)
    (hroom : (b.plz p).penWr - (b.plz p).penRd < b.penBytes p / 32) (hlost : b.stops.lost = [])
    (hend : b.penBase p + 32 * (b.penBytes p / 32) ≤ maEnd) (o : Operand) :
    memRead (b.stopWrite (b.penSlot p) (slotBytes o)).mem (b.penSlot p) 32 = slotBytes o ∧
    ∀ a, a < b.penSlot p ∨ b.penSlot p + 32 ≤ a → memGet (b.stopWrite (b.penSlot p) (slotBytes o)).mem a = memGet b.mem a := by
  have hwf : Memory.wf b.mem = true := ((Block.memOk_iff b).1 hok).1
  have hlt : (b.plz p).penWr % (b.penBytes p / 32) < b.penBytes p / 32 := Nat.mod_lt _ (by omega)
  have hin : b.penSlot p + (slotBytes o).length ≤ maEnd := by
    rw [slotBytes_length]
    unfold Block.penSlot
    omega
  rw [b.stopWrite_mem hin hlost]
  refine ⟨?_, fun a ha => memGet_memWrite_out _ _ _ _ hwf ?_⟩
  · have h := memRead_memWrite b.mem (b.penSlot p) (slotBytes o) hwf
    rwa [slotBytes_length] at h
  · rwa [slotBytes_length]

theorem Block.plz_of_qs {b t : Block} (h : t.qs = b.qs) (p : Nat) : t.plz p = b.plz p := by
  simp only [Block.plz, Block.q, h]

theorem Block.penWrite_effect (b : Block) {f : Flit} {p : Nat} (hp : quarterAt f.dstX f.dstY = some p)
    (hret : b.retired.contains p = false) (hroll : b.rollDiscards p f.word = false)
    (hroom : (b.plz p).penWr - (b.plz p).penRd < b.penBytes p / 32) (hundo : b.undoFull p = false) :
    ∃ t, b.penWrite f = some t ∧ (t.plz p).penWr = (b.plz p).penWr + 1 ∧ (t.plz p).noted = (b.plz p).noted + 1 ∧
      t.mem = (b.stopWrite (b.penSlot p) (slotBytes { tok := f.word, pos := 0, ord := f.ord })).mem := by
  refine ⟨_, b.penWrite_quarter hp hret hroll hroom hundo, ?_, ?_, ?_⟩
  · rw [Block.plz_of_qs (Block.chanCopy_qs ..), Block.plz_setPlz_same]
  · rw [Block.plz_of_qs (Block.chanCopy_qs ..), Block.plz_setPlz_same]
  · rw [Block.chanCopy_mem, Block.setPlz_mem]

/-- Going on and the acknowledgement leave the Quarters and memory. -/
theorem Block.writerGoesOn_effect (b : Block) (stop : Nat) (fs : List Flit) (f : Flit) :
    let t := (b.writerGoesOn stop fs).ackEscape f
    SMap.get t.ave.writers [] stop = fs ∧ t.qs = b.qs ∧ t.mem = b.mem := by
  dsimp only
  rw [Block.ackEscape_frame]
  exact ⟨SMap.get_put_same _ _ _ _, rfl, rfl⟩

/-- Settles O23. Each command comes to one operation of the block (`flitForward_completes` and its like); what that operation leaves is
read off the frames of the Crossings and of module memory. -/
theorem links : Obligations.Links := by
  refine ⟨fun s x y port vc hup => ⟨?_, ?_, ?_⟩, ?_, ?_⟩
  · intro i f fs harb hch hbuf hpass harm hi
    have hdone := flitForward_completes hup harb hch hbuf hpass harm
    refine ⟨?_, ?_, ?_⟩
    · intro nx ny hn hf
      rwa [s.blk.passesOutput_unsound vc i hn hf] at hdone
    · intro nx ny hn hf
      rw [s.blk.passesOutput_sound vc i hn hf] at hdone
      exact ⟨_, hdone, s.blk.sendFlit_mesh_effect hn hbuf⟩
    · intro p hout hp hret _
      rw [hout, Block.passesOutput_local] at hdone
      exact ⟨_, hdone, s.blk.sendFlit_local_effect hp hret hbuf⟩
  · intro hfree
    refine ⟨_, creditReturn_completes hup hfree, ?_, ?_, rfl, rfl, rfl⟩ <;> rw [Block.xing_setXing_same] <;> exact SMap.get_put_same _ _ _ _
  · intro ux uy hlink hn hch
    exact ⟨_, linkReplay_completes hup hlink hn hch, Block.replay_qs .., Block.replay_mem ..,
      s.blk.replay_counted x y (portIdx port) false, s.blk.replay_down x y (portIdx port) false (portIdx_lt port)⟩
  · intro s x y port f fs b c n hup hbuf hen hheld hpass
    have hn : n ≠ 0 := by
      simp only [n]
      split <;> simp
    have heffect := b.escape_effect x y (portIdx port) (SMap.get c.since 0 (bufKey (portIdx port) 0) + b.roundWait) hn
    rw [hbuf] at heffect
    exact ⟨_, roundaboutEscape_completes hup hbuf hen hheld hpass, heffect⟩
  · intro s stop f fs p b slots hup hw hp hret hok hroll hroom hundo hlost hend
    obtain ⟨b1, htake, hwr, hnoted, hbytes⟩ := b.penWrite_effect hp hret hroll hroom hundo
    obtain ⟨hwriters, hqs, hmem⟩ := b1.writerGoesOn_effect stop fs f
    obtain ⟨hread, hrest⟩ := b.penWrite_mem hok hroom hlost hend { tok := f.word, pos := 0, ord := f.ord }
    refine ⟨_, penWrite_completes hup hw htake, hwriters, ?_, ?_, ?_, ?_⟩
    · rw [Block.plz_of_qs hqs, hwr]
    · rw [Block.plz_of_qs hqs, hnoted]
    · rw [hmem, hbytes]
      exact hread
    · rw [hmem, hbytes]
      exact hrest

end Sys2Proof.Machine

/-! Injection: the rewrites of R50, the route of a token, TOKEN_INJECT and NODEMAP_MISS_FILL. -/

namespace Sys2Proof

-- Bits of a word with a field replaced

theorem setBits_eq (x hi lo v : Nat) :
    setBits x hi lo v =
      2 ^ lo * (2 ^ (hi + 1 - lo) * (x / 2 ^ lo / 2 ^ (hi + 1 - lo)) + v % 2 ^ (hi + 1 - lo)) + x % 2 ^ lo := by
  have hx := Nat.div_add_mod x (2 ^ lo)
  have hX := Nat.div_add_mod (x / 2 ^ lo) (2 ^ (hi + 1 - lo))
  rw [setBits, bits, field, Nat.shiftLeft_eq, Nat.shiftLeft_eq, Nat.shiftRight_eq_div_pow]
  generalize x / 2 ^ lo = X at *
  generalize 2 ^ (hi + 1 - lo) = W at *
  have hsub : x - X % W * 2 ^ lo = 2 ^ lo * (W * (X / W)) + x % 2 ^ lo := by
    refine Nat.sub_eq_of_eq_add ?_
    calc x = 2 ^ lo * X + x % 2 ^ lo := hx.symm
      _ = 2 ^ lo * (W * (X / W) + X % W) + x % 2 ^ lo := by rw [hX]
      _ = _ := by ring
  rw [hsub]
  ring

theorem testBit_setBits (x v n : Nat) {hi lo : Nat} :
    (setBits x hi lo v).testBit n = if lo ≤ n ∧ n < hi + 1 then v.testBit (n - lo) else x.testBit n := by
  rw [setBits_eq, Nat.testBit_two_pow_mul_add _ (Nat.mod_lt _ (by positivity)),
    Nat.testBit_two_pow_mul_add _ (Nat.mod_lt _ (by positivity)), Nat.testBit_mod_two_pow, Nat.testBit_mod_two_pow, Nat.testBit_div_two_pow,
    Nat.testBit_div_two_pow]
  split
  · grind
  · split <;> grind

-- CTRL and TAG with a field replaced (R40, R46)

@[simp] theorem Token.setCtrl_tag (t : Token) (hi lo v : Nat) : (t.setCtrl hi lo v).tag = t.tag := rfl

theorem Token.testBit_setCtrl (t : Token) (v n : Nat) {hi lo : Nat} (hn : n < 16) :
    (t.setCtrl hi lo v).ctrl.toNat.testBit n = if lo ≤ n ∧ n < hi + 1 then v.testBit (n - lo) else t.ctrl.toNat.testBit n := by
  simp only [Token.setCtrl, BitVec.toNat_ofNat, Nat.testBit_mod_two_pow, hn, decide_true, Bool.true_and, testBit_setBits]

theorem Token.bits_setCtrl_same (t : Token) (v : Nat) {hi lo : Nat} (h : hi < 16) :
    bits (t.setCtrl hi lo v).ctrl.toNat hi lo = v % 2 ^ (hi + 1 - lo) := by
  refine Nat.eq_of_testBit_eq fun n => ?_
  rw [Machine.testBit_bits, Nat.testBit_mod_two_pow]
  by_cases hn : n < hi + 1 - lo
  · rw [t.testBit_setCtrl v _ (by omega), if_pos (by omega), Nat.add_sub_cancel_left]
  · simp [hn]

theorem Token.bits_setCtrl_ne (t : Token) (v : Nat) {hi lo hi' lo' : Nat} (h : hi' < 16) (hd : hi' < lo ∨ hi < lo') :
    bits (t.setCtrl hi lo v).ctrl.toNat hi' lo' = bits t.ctrl.toNat hi' lo' := by
  refine Nat.eq_of_testBit_eq fun n => ?_
  rw [Machine.testBit_bits, Machine.testBit_bits]
  by_cases hn : n < hi' + 1 - lo'
  · rw [t.testBit_setCtrl v _ (by omega), if_neg (by omega)]
  · simp [hn]

/-- A TAG with its two low bits cleared. -/
theorem tagSet_low_toNat (t : W64) : (tagSet t 1 0 0).toNat = t.toNat / 4 * 4 := by
  rw [tagSet, BitVec.toNat_ofNat, setBits_eq, Nat.mod_eq_of_lt] <;> norm_num <;> omega

-- The rewrites of R50

/-- A token with KIND and FMT rewritten where they are not defined, and with TAG[1:0] cleared. -/
def Token.defined (t : Token) : Token :=
  let t := { t with tag := tagSet t.tag 1 0 0 }
  let t := if 10 ≤ t.kind then t.setCtrl 15 12 0 else t
  if t.fmt = 7 then t.setCtrl 11 9 6 else t

theorem Token.defined_value (t : Token) : t.defined.value = t.value := by
  unfold Token.defined
  dsimp only
  split <;> split <;> rfl

theorem Token.defined_tag (t : Token) : t.defined.tag = tagSet t.tag 1 0 0 := by
  unfold Token.defined
  dsimp only
  split <;> split <;> rfl

theorem Token.defined_kind (t : Token) : t.defined.kind = if 10 ≤ t.kind then 0 else t.kind := by
  unfold Token.defined Token.kind Token.fmt
  dsimp only
  split <;> split
  · rw [Token.bits_setCtrl_ne _ _ (by omega) (by omega), Token.bits_setCtrl_same _ _ (by omega), Nat.zero_mod]
  · rw [Token.bits_setCtrl_same _ _ (by omega), Nat.zero_mod]
  · rw [Token.bits_setCtrl_ne _ _ (by omega) (by omega)]
  · rfl

theorem Token.defined_fmt (t : Token) : t.defined.fmt = if t.fmt = 7 then 6 else t.fmt := by
  have hkind : ∀ u : Token, (if 10 ≤ u.kind then u.setCtrl 15 12 0 else u).fmt = u.fmt := by
    intro u
    split
    · exact u.bits_setCtrl_ne 0 (by decide) (by decide)
    · rfl
  have hfmt : ∀ u : Token, (if u.fmt = 7 then u.setCtrl 11 9 6 else u).fmt = if u.fmt = 7 then 6 else u.fmt := by
    intro u
    split
    · exact u.bits_setCtrl_same 6 (by decide)
    · rfl
  unfold Token.defined
  dsimp only
  rw [hfmt, hkind]
  rfl

/-- Only KIND and FMT are rewritten. -/
theorem Token.defined_testBit (t : Token) {n : Nat} (hn : n < 9) : t.defined.ctrl.toNat.testBit n = t.ctrl.toNat.testBit n := by
  have hset : ∀ (u : Token) {hi lo v : Nat}, 9 ≤ lo → (u.setCtrl hi lo v).ctrl.toNat.testBit n = u.ctrl.toNat.testBit n := by
    intro u hi lo v hlo
    rw [u.testBit_setCtrl _ _ (by omega), if_neg (by omega)]
  unfold Token.defined
  dsimp only
  split <;> split
  · rw [hset _ (by decide), hset _ (by decide)]
  · rw [hset _ (by decide)]
  · rw [hset _ (by decide)]
  · rfl

end Sys2Proof

namespace Sys2Proof.Machine

theorem fixToken_fst (t : Token) (so : Bool) : (fixToken t so).1 = (t.defined.setCtrl 7 7 1).setCtrl 6 6 (b2n so) := rfl

@[simp] theorem fixToken_value (t : Token) (so : Bool) : (fixToken t so).1.value = t.value := t.defined_value

theorem fixToken_tag (t : Token) (so : Bool) : (fixToken t so).1.tag.toNat = t.tag.toNat / 4 * 4 := by
  rw [fixToken_fst, Token.setCtrl_tag, Token.setCtrl_tag, t.defined_tag, tagSet_low_toNat]

theorem fixToken_kind (t : Token) (so : Bool) : (fixToken t so).1.kind = if 10 ≤ t.kind then 0 else t.kind := by
  rw [← t.defined_kind, fixToken_fst, Token.kind, Token.bits_setCtrl_ne _ _ (by decide) (by decide),
    Token.bits_setCtrl_ne _ _ (by decide) (by decide), Token.kind]

theorem fixToken_fmt (t : Token) (so : Bool) : (fixToken t so).1.fmt = if t.fmt = 7 then 6 else t.fmt := by
  rw [← t.defined_fmt, fixToken_fst, Token.fmt, Token.bits_setCtrl_ne _ _ (by decide) (by decide),
    Token.bits_setCtrl_ne _ _ (by decide) (by decide), Token.fmt]

/-- Of the bits below FMT, injection rewrites END and SO alone. -/
theorem fixToken_testBit (t : Token) (so : Bool) {n : Nat} (hn : n < 9) :
    (fixToken t so).1.ctrl.toNat.testBit n = if n = 6 then so else if n = 7 then true else t.ctrl.toNat.testBit n := by
  rw [fixToken_fst, Token.testBit_setCtrl _ _ _ (by omega), Token.testBit_setCtrl _ _ _ (by omega), t.defined_testBit hn]
  by_cases h6 : n = 6
  · subst h6
    cases so <;> rfl
  · by_cases h7 : n = 7
    · subst h7
      rfl
    · rw [if_neg (by omega), if_neg (by omega), if_neg h6, if_neg h7]

theorem fixToken_bits (t : Token) (so : Bool) {hi lo : Nat} (h : hi < 6) :
    bits (fixToken t so).1.ctrl.toNat hi lo = bits t.ctrl.toNat hi lo := by
  refine Nat.eq_of_testBit_eq fun n => ?_
  rw [testBit_bits, testBit_bits]
  by_cases hn : n < hi + 1 - lo
  · rw [fixToken_testBit t so (by omega), if_neg (by omega), if_neg (by omega)]
  · simp [hn]

/-- Which of the counted rewrites were made (R51). -/
theorem mem_fixToken_snd (t : Token) (so : Bool) (n : Nat) : n ∈ (fixToken t so).2 ↔
    (n = 0 ∧ t.tag.toNat % 4 ≠ 0) ∨ (n = 1 ∧ 10 ≤ t.kind) ∨ (n = 2 ∧ t.fmt = 7) ∨ (n = 3 ∧ t.last = false) := by
  have hone : ∀ (P : Prop) [Decidable P] (m : Nat), n ∈ (if P then [m] else []) ↔ n = m ∧ P := by
    intro P _ m
    split <;> simp [*]
  have hend : n ∈ (if t.last then [] else [3]) ↔ n = 3 ∧ t.last = false := by
    split <;> simp [*]
  simp only [fixToken, List.mem_append, hone, hend, or_assoc]

/-- Each rewrite is counted once. -/
theorem nodup_fixToken_snd (t : Token) (so : Bool) : (fixToken t so).2.Nodup := by
  unfold fixToken
  dsimp only
  split <;> split <;> split <;> split <;> decide

/-- R50 as a whole. -/
theorem fixToken_spec (t : Token) (so : Bool) :
    let u := (fixToken t so).1
    u.value = t.value ∧ u.last = true ∧ u.so = so ∧ u.poison = t.poison ∧ u.gop = t.gop ∧ u.epl = t.epl ∧ u.tag.toNat % 4 = 0 ∧
    u.tag.toNat / 4 = t.tag.toNat / 4 ∧ (t.kind < 10 → u.kind = t.kind) ∧ (10 ≤ t.kind → u.kind = 0) ∧
    (t.fmt ≠ 7 → u.fmt = t.fmt) ∧ (t.fmt = 7 → u.fmt = 6) := by
  refine ⟨fixToken_value t so, ?_, ?_, ?_, fixToken_bits t so (by decide), fixToken_bits t so (by decide), ?_, ?_, ?_, ?_, ?_, ?_⟩
  · exact fixToken_testBit t so (n := 7) (by decide)
  · exact fixToken_testBit t so (n := 6) (by decide)
  · exact fixToken_testBit t so (n := 8) (by decide)
  · rw [fixToken_tag, Nat.mul_mod_left]
  · rw [fixToken_tag, Nat.mul_div_cancel _ (by decide)]
  · intro h
    rw [fixToken_kind, if_neg (by omega)]
  · intro h
    rw [fixToken_kind, if_pos h]
  · intro h
    rw [fixToken_fmt, if_neg h]
  · intro h
    rw [fixToken_fmt, if_pos h]

/-- The fields above TAG[1:0] are kept. -/
theorem fixToken_tagField (t : Token) (so : Bool) {hi lo : Nat} (h : 2 ≤ lo) :
    bits (fixToken t so).1.tag.toNat hi lo = bits t.tag.toNat hi lo := by
  rw [fixToken_tag]
  refine Nat.eq_of_testBit_eq fun n => ?_
  rw [testBit_bits, testBit_bits, show 4 = 2 ^ 2 from rfl, Nat.testBit_mul_two_pow, Nat.testBit_div_two_pow]
  simp [show 2 ≤ lo + n by omega]

theorem fixToken_ctx (t : Token) (so : Bool) : (fixToken t so).1.ctx = t.ctx := fixToken_tagField t so (by decide)
theorem fixToken_dev (t : Token) (so : Bool) : tagDev (fixToken t so).1.tag = tagDev t.tag := fixToken_tagField t so (by decide)
theorem fixToken_node (t : Token) (so : Bool) : tagNode (fixToken t so).1.tag = tagNode t.tag := fixToken_tagField t so (by decide)

-- Counting and reporting

/-- Two blocks differ only in the events raised and in some registers. -/
def CountFrame (but : List Nat) (b t : Block) : Prop := t = { b with regs := t.regs, evc := t.evc } ∧ SameRegs b t but

theorem countFrame_refl (but : List Nat) (b : Block) : CountFrame but b b := ⟨rfl, sameRegs_refl b but⟩

theorem CountFrame.trans {but : List Nat} {a b c : Block} (h : CountFrame but a b) (h' : CountFrame but b c) : CountFrame but a c := by
  obtain ⟨he, hr⟩ := h
  obtain ⟨he', hr'⟩ := h'
  exact ⟨by rw [he', he], hr.trans hr'⟩

theorem countFrame_setReg (b : Block) (v : Nat) {off : Nat} {but : List Nat} (h : off ∈ but) : CountFrame but b (b.setReg off v) :=
  ⟨rfl, (sameRegs_setReg b off v).mono (by simpa using h)⟩

theorem countFrame_bump (b : Block) (n : Nat) {off : Nat} {but : List Nat} (h : off ∈ but) : CountFrame but b (b.bump off n) := by
  rcases b.bump_eq off n with e | e <;> rw [e]
  · exact countFrame_refl but b
  · exact countFrame_setReg b _ h

theorem countFrame_raise (but : List Nat) (b : Block) (src arg : Nat) : CountFrame but b (b.raise src arg) := ⟨rfl, fun _ _ => rfl⟩

theorem CountFrame.qs {but : List Nat} {b t : Block} (h : CountFrame but b t) : t.qs = b.qs := by rw [h.1]
theorem CountFrame.ave {but : List Nat} {b t : Block} (h : CountFrame but b t) : t.ave = b.ave := by rw [h.1]
theorem CountFrame.retired {but : List Nat} {b t : Block} (h : CountFrame but b t) : t.retired = b.retired := by rw [h.1]
theorem CountFrame.disp {but : List Nat} {b t : Block} (h : CountFrame but b t) : t.disp = b.disp := by rw [h.1]
theorem CountFrame.cont {but : List Nat} {b t : Block} (h : CountFrame but b t) : t.cont = b.cont := by rw [h.1]
theorem CountFrame.live {but : List Nat} {b t : Block} (h : CountFrame but b t) : t.live = b.live := by rw [h.1]
theorem CountFrame.mem {but : List Nat} {b t : Block} (h : CountFrame but b t) : t.mem = b.mem := by rw [h.1]

/-- The level registers of a lane: LEVEL and its watermark's counter (R112, R113). -/
def levelRegs (q j : Nat) : List Nat := [laneReg q j 8, laneReg q j 12]

/-- A lane put back: the Quarter holds it, and beyond that only its level registers and events can change. -/
theorem Block.putLane_frame (b : Block) (q j : Nat) (l : Lane) :
    CountFrame (levelRegs q j) (b.setQ q ((b.q q).setLane j l)) (b.putLane q j l) := by
  have hpeak : laneReg q j 8 ∈ levelRegs q j := by simp [levelRegs]
  have hcount : laneReg q j 12 ∈ levelRegs q j := by simp [levelRegs]
  unfold Block.putLane
  extract_lets before after b1 b2 wm dir up down
  split
  · exact countFrame_refl _ _
  · have h2 : CountFrame (levelRegs q j) b1 b2 := by
      simp only [b2]
      split
      · exact countFrame_setReg b1 _ hpeak
      · exact countFrame_refl _ _
    refine h2.trans ?_
    split
    · refine (countFrame_bump b2 1 hcount).trans ?_
      split
      · exact countFrame_refl _ _
      · exact (countFrame_setReg _ _ hpeak).trans (countFrame_raise _ _ _ _)
    · exact countFrame_refl _ _

/-- The counters of R51. -/
def fixCounters (rs : List Nat) : List Nat := rs.map aveCnt

theorem countFrame_foldl_bump (but rs : List Nat) (h : ∀ r ∈ rs, aveCnt r ∈ but) (b : Block) :
    CountFrame but b (rs.foldl (fun b r => b.bump (aveCnt r)) b) :=
  List.foldlRecOn rs _ (countFrame_refl but b) fun _ hc r hr => hc.trans (countFrame_bump _ 1 (h r hr))

theorem Block.countFixes_frame (b : Block) (x y port : Nat) (rs : List Nat) :
    CountFrame (fixCounters rs) b (b.countFixes x y port rs) := by
  unfold Block.countFixes
  split
  · exact countFrame_refl _ b
  · exact (countFrame_foldl_bump _ rs (fun r hr => List.mem_map_of_mem hr) b).trans (countFrame_raise _ _ _ _)

theorem aveCnt_injective : Function.Injective aveCnt := fun m n h => by
  unfold aveCnt at h
  omega

theorem reg_foldl_bump {rs : List Nat} (hnd : rs.Nodup) {n : Nat} (hn : n ∈ rs) (b : Block) :
    (rs.foldl (fun b r => b.bump (aveCnt r)) b).reg (aveCnt n) = satAdd (b.reg (aveCnt n)) 1 := by
  induction rs generalizing b with
  | nil => exact absurd hn (by simp)
  | cons r rs ih =>
    obtain ⟨hr, hnd⟩ := List.nodup_cons.1 hnd
    rw [List.foldl_cons]
    by_cases h : n ∈ rs
    · rw [ih hnd h, b.reg_bump_ne 1 fun e => hr (by rwa [← aveCnt_injective e])]
    · obtain rfl : n = r := by simpa [h] using hn
      have hsame := (countFrame_foldl_bump (fixCounters rs) rs (fun r hr => List.mem_map_of_mem hr) (b.bump (aveCnt n))).2
      rw [← hsame _ fun hm => h (by simpa [fixCounters, aveCnt_injective.eq_iff] using hm), b.reg_bump_one]

theorem Block.reg_countFixes (b : Block) (x y port : Nat) {rs : List Nat} (hnd : rs.Nodup) {n : Nat} (hn : n ∈ rs) :
    (b.countFixes x y port rs).reg (aveCnt n) = satAdd (b.reg (aveCnt n)) 1 := by
  unfold Block.countFixes
  rw [if_neg (by simpa using List.ne_nil_of_mem hn), Block.raise_reg]
  exact reg_foldl_bump hnd hn b

-- The route of a token (R41, R43, R47)

/-- A token is for a node of this module, and its context's placement names a physical Quarter for the node's group, as far as the
NODEMAP cache of a unit knows. -/
def Block.routesTo (b : Block) (unit : Nat) (t : Token) (p : Nat) : Prop :=
  t.kind ∉ [4, 5, 7, 8] ∧ tagDev t.tag = b.ownId ∧ ∃ x c g lq, b.ctx? t.ctx = some x ∧ x.placed = true ∧
    (b.inj unit).cache.find? (fun e => e.ctx = x.desc.image ∧ e.node = tagNode t.tag) = some c ∧ wordGroup c.word = some g ∧
    SMap.find? x.groups g = some lq ∧ b.phys lq = some p

theorem Block.routeToken_of_routesTo {b : Block} {unit p : Nat} {t : Token} (h : b.routesTo unit t p) :
    b.routeToken unit t = .to (xyOf p).1 (xyOf p).2 := by
  obtain ⟨hkind, hdev, x, c, g, lq, hctx, hplaced, hword, hgroup, hlq, hp⟩ := h
  simp only [List.mem_cons, List.not_mem_nil, or_false, not_or] at hkind
  obtain ⟨h4, h5, h7, h8⟩ := hkind
  unfold Block.routeToken
  simp only [h4, h5, h7, h8, hdev, hctx, hplaced, hword, hgroup, hlq, hp, Option.bind_some, ne_eq, not_true_eq_false,
    Bool.not_true, Bool.false_eq_true, if_false]

/-- The QMAP names the same Quarters while its registers and the retired Quarters stay. -/
theorem Block.phys_of_same {b t : Block} (hret : t.retired = b.retired) (hreg : ∀ k < 16, t.reg (0x100 + 4 * k) = b.reg (0x100 + 4 * k))
    (lq : Nat) : t.phys lq = b.phys lq := by
  unfold Block.phys
  dsimp only
  by_cases h : lq < 64
  · rw [hret, Block.qmap, Block.qmap, Block.rf, Block.rf, hreg _ (by omega)]
  · simp [h]

/-- A route stands while contexts, caches and retirements do, whatever counters and lane registers change. -/
theorem Block.routesTo_of_same {b t : Block} {unit p : Nat} {tok : Token} (h : b.routesTo unit tok p) (hav : t.ave = b.ave)
    (hdisp : t.disp = b.disp) (hret : t.retired = b.retired)
    (hreg : ∀ off, off < 0x500000 ∨ 0xB00000 ≤ off → t.reg off = b.reg off) : t.routesTo unit tok p := by
  have hown : t.ownId = b.ownId := congrArg (bits · 3 0) (hreg 0xE00000 (by decide))
  obtain ⟨hkind, hdev, x, c, g, lq, hctx, hplaced, hword, hgroup, hlq, hp⟩ := h
  refine ⟨hkind, hdev.trans hown.symm, x, c, g, lq, ?_, hplaced, ?_, hgroup, hlq, ?_⟩
  · rw [Block.ctx?, hdisp]
    exact hctx
  · rw [Block.inj, hav]
    exact hword
  · rw [Block.phys_of_same hret fun k hk => hreg _ (by omega), hp]

/-- A token has the same route after the rewrites of R50. -/
theorem Block.routesTo_fixToken {b : Block} {unit p : Nat} {t : Token} (so : Bool) (h : b.routesTo unit t p) :
    b.routesTo unit (fixToken t so).1 p := by
  obtain ⟨hkind, hdev, hrest⟩ := h
  refine ⟨?_, by rw [fixToken_dev, hdev], by rw [fixToken_ctx, fixToken_node]; exact hrest⟩
  rw [fixToken_kind]
  split
  · decide
  · exact hkind

theorem mem_fixCounters {t : Token} {so : Bool} {off : Nat} (h : off ∈ fixCounters (fixToken t so).2) :
    0x500100 ≤ off ∧ off < 0x500110 := by
  obtain ⟨n, hn, rfl⟩ := List.mem_map.1 h
  rw [mem_fixToken_snd] at hn
  unfold aveCnt
  omega

-- A token at its injection point

/-- The flit that a token becomes at the L0 of a Crossing (R57). -/
def tokenFlit (t : Token) (src dst : Nat × Nat) : Flit :=
  { word := t, dstX := dst.1, dstY := dst.2, dstP := 0, vc := 0, srcX := src.1, srcY := src.2, srcP := 0, hops := 0, ord := 0, esc := 0 }

/-- A Quarter's token has entered the Avenue for another Quarter, rewritten, with its rewrites counted. -/
def Block.injected (b : Block) (q : Nat) (so : Bool) (t : Token) (p : Nat) : Block :=
  (b.countFixes (xyOf q).1 (xyOf q).2 0 (fixToken t so).2).enter (xyOf q).1 (xyOf q).2 4 0
    (tokenFlit (fixToken t so).1 (xyOf q) (xyOf p))

/-- A token that nothing holds and that has a route enters the Avenue. -/
theorem Block.injectToken_goes {b : Block} {q p : Nat} {so feed : Bool} {fromQ : Option Nat} {t : Token} (hq : q < 68)
    (hmig : b.ave.mig = none) (hroll : b.cont.roll = none)
    (hroom : (SMap.get (b.xing (xyOf q).1 (xyOf q).2).bufs [] (bufKey 4 0)).length < 8)
    (hlink : (b.xing (xyOf q).1 (xyOf q).2).down.contains 4 = false) (hroute : b.routesTo q t p) :
    b.injectToken q so fromQ feed t = (some (b.injected q so t p), b.injected q so t p) := by
  have hframe := b.countFixes_frame (xyOf q).1 (xyOf q).2 0 (fixToken t so).2
  have hto := Block.routeToken_of_routesTo (Block.routesTo_of_same (Block.routesTo_fixToken so hroute) hframe.ave hframe.disp
    hframe.retired fun off ho => (hframe.2 off fun hm => by have := mem_fixCounters hm; omega).symm)
  have hmig' : ∀ t, b.migHeld t = false := fun t => by simp only [Block.migHeld, hmig]
  have hroll' : ∀ t, b.rollHeld t fromQ = false := fun t => by simp only [Block.rollHeld, hroll]
  have hgate : ¬ 68 ≤ q := by omega
  have hfull : ¬ 8 ≤ (SMap.get (b.xing (xyOf q).1 (xyOf q).2).bufs [] (bufKey 4 0)).length := by omega
  unfold Block.injectToken
  simp only [hq, hgate, hmig', hroll', hfull, hlink, if_true, if_false, false_and, decide_false, Bool.and_false, Bool.or_false,
    Bool.false_eq_true, hto]
  rfl

theorem Block.enter_frame (b : Block) (x y port vc : Nat) (f : Flit) : XingsFrame b (b.enter x y port vc f) :=
  xingsFrame_setXing b _ _ _

theorem Block.bufs_enter (b : Block) (x y port vc : Nat) (f : Flit) :
    SMap.get ((b.enter x y port vc f).xing x y).bufs [] (bufKey port vc) =
      SMap.get (b.xing x y).bufs [] (bufKey port vc) ++ [f.seal] := by
  unfold Block.enter
  dsimp only
  rw [Block.xing_setXing_same, Crossing.push_bufs_same]
  rfl

/-- What a token that enters the Avenue leaves. -/
theorem Block.injected_effect (b : Block) (q : Nat) (so : Bool) (t : Token) (p : Nat) :
    (b.injected q so t p).qs = b.qs ∧
    SMap.get ((b.injected q so t p).xing (xyOf q).1 (xyOf q).2).bufs [] (bufKey 4 0) =
      SMap.get (b.xing (xyOf q).1 (xyOf q).2).bufs [] (bufKey 4 0) ++ [(tokenFlit (fixToken t so).1 (xyOf q) (xyOf p)).seal] ∧
    (∀ n ∈ (fixToken t so).2, (b.injected q so t p).reg (aveCnt n) = satAdd (b.reg (aveCnt n)) 1) ∧
    (b.injected q so t p).live = b.live ∧ (b.injected q so t p).mem = b.mem := by
  have hframe := b.countFixes_frame (xyOf q).1 (xyOf q).2 0 (fixToken t so).2
  have henter := Block.enter_frame (b.countFixes (xyOf q).1 (xyOf q).2 0 (fixToken t so).2) (xyOf q).1 (xyOf q).2 4 0
    (tokenFlit (fixToken t so).1 (xyOf q) (xyOf p))
  unfold Block.injected
  refine ⟨?_, ?_, fun n hn => ?_, ?_, ?_⟩
  · rw [henter]
    exact hframe.qs
  · rw [Block.bufs_enter, Block.xing_of_ave hframe.ave]
  · rw [← b.reg_countFixes (xyOf q).1 (xyOf q).2 0 (nodup_fixToken_snd t so) hn, henter]
    rfl
  · rw [henter]
    exact hframe.live
  · rw [henter]
    exact hframe.mem

-- The word at the head of a lane

theorem Lane.setDrain_drain (l : Lane) (ws : List LaneWord) : (l.setDrain ws).drain = ws := by
  unfold Lane.setDrain Lane.drain
  split <;> simp [*]

/-- A lane once the word at its head has been taken. -/
def Lane.taken (l : Lane) (w : LaneWord) (ws : List LaneWord) : Lane :=
  { l.setDrain ws with consMid := if w.tok.last then none else some w.pt }

theorem Lane.taken_drain (l : Lane) (w : LaneWord) (ws : List LaneWord) : (l.taken w ws).drain = ws := l.setDrain_drain ws

/-- A sound word is taken as it stands while no checker is armed. -/
theorem Block.takeWord_sound {b : Block} {q j : Nat} {w : LaneWord} {ws : List LaneWord} (hclose : ((b.q q).lane j).closing = none)
    (hdrain : ((b.q q).lane j).drain = w :: ws) (hw : w.sound = true)
    (harm : (b.putLane q j (((b.q q).lane j).taken w ws)).rf 0x300044 15 0 = 0) :
    b.takeWord q j false = (b.putLane q j (((b.q q).lane j).taken w ws), some w) := by
  unfold Block.takeWord
  simp only [hclose, hdrain]
  change ((Block.putLane b q j (((b.q q).lane j).taken w ws)).checkWord q j false w |> fun r => (r.1, some r.2)) = _
  unfold Block.checkWord Block.parityCheck
  simp only [Block.inject_unarmed _ _ _ _ harm, hw]
  rfl

theorem mem_levelRegs {q j off : Nat} (hq : q < 68) (hj : j < 8) (h : off ∈ levelRegs q j) : 0x600000 ≤ off ∧ off < 0xB00000 := by
  simp only [levelRegs, List.mem_cons, List.not_mem_nil, or_false, laneReg, qOff] at h
  rw [if_neg (by omega)] at h
  omega

/-- A block once the word at the head of an outbound lane has been taken. -/
def Block.laneTaken (b : Block) (q j : Nat) (w : LaneWord) (ws : List LaneWord) : Block :=
  b.putLane q j (((b.q q).lane j).taken w ws)

section
variable {b : Block} {q j : Nat} {w : LaneWord} {ws : List LaneWord}

theorem Block.reg_laneTaken (hq : q < 68) (hj : j < 8) {off : Nat} (h : off < 0x600000 ∨ 0xB00000 ≤ off) :
    (b.laneTaken q j w ws).reg off = b.reg off := by
  have hsame := (b.putLane_frame q j (((b.q q).lane j).taken w ws)).2
  refine (hsame off fun hm => ?_).symm
  have := mem_levelRegs hq hj hm
  omega

theorem Block.lane_laneTaken : (((b.laneTaken q j w ws).q q).lane j).drain = ws := by
  have hqs := (b.putLane_frame q j (((b.q q).lane j).taken w ws)).qs
  have hquarter : (b.laneTaken q j w ws).q q = (b.setQ q ((b.q q).setLane j (((b.q q).lane j).taken w ws))).q q := by
    exact congrArg (SMap.get · Quarter.empty q) hqs
  rw [hquarter, Block.q_setQ_same, Quarter.lane_setLane_same, Lane.taken_drain]

theorem Block.laneTaken_keeps : (b.laneTaken q j w ws).ave = b.ave ∧ (b.laneTaken q j w ws).disp = b.disp ∧
    (b.laneTaken q j w ws).retired = b.retired ∧ (b.laneTaken q j w ws).cont = b.cont ∧ (b.laneTaken q j w ws).live = b.live ∧
    (b.laneTaken q j w ws).mem = b.mem := by
  have h := b.putLane_frame q j (((b.q q).lane j).taken w ws)
  exact ⟨h.ave, h.disp, h.retired, h.cont, h.live, h.mem⟩

end

/-- The head of an outbound VC0 lane, once taken, is offered to the Avenue as it stands. -/
theorem Block.laneInject_takes {b : Block} {q j : Nat} {w : LaneWord} {ws : List LaneWord} {t t' : Block} (hj : j ≠ 3)
    (hlink : (b.xing (xyOf q).1 (xyOf q).2).down.contains 4 = false) (hclose : ((b.q q).lane (4 + j)).closing = none)
    (hdrain : ((b.q q).lane (4 + j)).drain = w :: ws) (hkind : w.tok.kind ≠ 8)
    (htake : b.takeWord q (4 + j) false = (b.laneTaken q (4 + j) w ws, some w))
    (hgo : (b.laneTaken q (4 + j) w ws).injectToken q false (some q) false w.tok = (some t, t')) :
    b.laneInject q j false = t := by
  have hhead : (b.q q).laneHead (4 + j) = some w := by
    simp [Quarter.laneHead, hclose, hdrain]
  unfold Block.laneInject
  simp only [hhead, hlink, hj, hkind, htake, hgo, Bool.false_eq_true, if_false]

/-- With no rollback nothing is fed, and a lane's word is what its Quarter injects. -/
theorem tokenInject_completes {s : State} {q : Fin 68} {j : Fin 4} (hup : s.blk.up = true) (hret : s.blk.retired.contains q.val = false)
    (hroll : s.blk.cont.roll = none) : Completes (.tokenInject (.lane q j false)) s (s.blk.laneInject q j false) := by
  have hfeed : (if j = 0 then s.blk.feedInject q else none) = none := by
    simp [Block.feedInject, Block.feedNext, hroll]
  unfold Completes
  show execTokenInject (.lane q j false) s = _
  rw [execTokenInject, actUp_up _ _ hup]
  simp only [hret, hfeed, Bool.false_eq_true, if_false]

/-- The head of an outbound VC0 lane of a Quarter, with a route and nothing that holds it, enters the Avenue. -/
theorem tokenInject_lane {s : State} {q : Fin 68} {j : Fin 4} {w : LaneWord} {ws : List LaneWord} {p : Nat}
    (hj : j.val < 3) (hup : s.blk.up = true) (hret : s.blk.retired.contains q.val = false) (hroll : s.blk.cont.roll = none)
    (hmig : s.blk.ave.mig = none) (harm : s.blk.rf 0x300044 15 0 = 0) (hclose : ((s.blk.q q).lane (4 + j)).closing = none)
    (hdrain : ((s.blk.q q).lane (4 + j)).drain = w :: ws) (hw : w.sound = true)
    (hroom : (SMap.get (s.blk.xing (xyOf q).1 (xyOf q).2).bufs [] (bufKey 4 0)).length < 8)
    (hlink : (s.blk.xing (xyOf q).1 (xyOf q).2).down.contains 4 = false) (hroute : s.blk.routesTo q w.tok p) :
    Completes (.tokenInject (.lane q j false)) s ((s.blk.laneTaken q (4 + j) w ws).injected q false w.tok p) := by
  obtain ⟨hav, hdisp, hretired, hcont, -, -⟩ := Block.laneTaken_keeps (b := s.blk) (q := q) (j := 4 + j) (w := w) (ws := ws)
  have hreg {off : Nat} (h : off < 0x600000 ∨ 0xB00000 ≤ off) := Block.reg_laneTaken (b := s.blk) (w := w) (ws := ws) q.isLt
    (show 4 + j.val < 8 by omega) h
  have hx := Block.xing_of_ave hav (xyOf q).1 (xyOf q).2
  have htake : s.blk.takeWord q (4 + j) false = (s.blk.laneTaken q (4 + j) w ws, some w) :=
    Block.takeWord_sound hclose hdrain hw ((congrArg (bits · 15 0) (hreg (off := 0x300044) (by decide))).trans harm)
  have hgo := Block.injectToken_goes (b := s.blk.laneTaken q (4 + j) w ws) (so := false) (feed := false) (fromQ := some q.val) (t := w.tok)
    q.isLt (by rw [hav, hmig]) (by rw [hcont, hroll]) (by rw [hx]; exact hroom) (by rw [hx]; exact hlink)
    (Block.routesTo_of_same hroute hav hdisp hretired fun off ho => hreg (by omega))
  rw [← Block.laneInject_takes (by omega) hlink hclose hdrain (fun e => hroute.1 (by simp [e])) htake hgo]
  exact tokenInject_completes hup hret hroll

-- NODEMAP_MISS_FILL (R362)

/-- A word put into a NODEMAP cache is found there. -/
theorem find?_cachePut (cache : List CacheWord) (image node word : Nat) :
    (cachePut cache image node word).find? (fun w => w.ctx = image ∧ w.node = node) = some { ctx := image, node := node, word := word } := by
  have hnone : ∀ l : List CacheWord, (∀ w ∈ l, ¬ (w.ctx = image ∧ w.node = node)) → l.find? (fun w => w.ctx = image ∧ w.node = node) = none :=
    fun l hl => List.find?_eq_none.2 fun w hw => by simpa using hl w hw
  have hkept : ∀ w ∈ cache.filter fun w => !(w.ctx == image && w.node == node), ¬ (w.ctx = image ∧ w.node = node) := by
    intro w hw
    simpa [imp_iff_not_or] using (List.mem_filter.1 hw).2
  unfold cachePut
  dsimp only
  rw [List.find?_append, hnone]
  · simp
  · intro w hw
    split at hw
    · exact hkept w (List.mem_of_mem_tail hw)
    · exact hkept w hw

theorem Block.inj_setInj_same (b : Block) (unit : Nat) (i : Inj) : (b.setInj unit i).inj unit = i := by
  simp [Block.inj]

theorem nodemapMissFill_completes {s : State} {point : InjPoint} {image node : Nat} (hup : s.blk.up = true)
    (hmiss : (s.blk.inj (pointUnit point)).miss = some (image, node)) :
    Completes (.nodemapMissFill point) s ((s.blk.readNodemap image node).setInj (pointUnit point)
      { cache := cachePut (s.blk.inj (pointUnit point)).cache image node (s.blk.nodemap image node), miss := none }) := by
  unfold Completes
  show execNodemapMissFill point s = _
  rw [execNodemapMissFill, actUp_up _ _ hup]
  simp only [hmiss]

/-- Settles O22: the rewrites field by field, the word of a lane as it is taken, routed and put into the L0 buffer, and the word that a
NODEMAP cache takes. -/
theorem injection : Obligations.Injection := by
  refine ⟨fun t so => ?_, ?_, ?_⟩
  · obtain ⟨hvalue, hlast, hso, hpoison, hgop, hepl, hlow, hhigh, hkind, hkind', hfmt, hfmt'⟩ := fixToken_spec t so
    exact ⟨hvalue, hlast, hso, hpoison, hgop, hepl, hlow, hhigh, hkind, hkind', hfmt, hfmt', mem_fixToken_snd t so⟩
  · intro s q j w ws x c g lq p b old hj hup hret hroll hmig harm hclose hdrain hw hkind hroom hlink hdev hctx hplaced hword hgroup hlq hp
    have hroute : b.routesTo q w.tok p := ⟨hkind, hdev, x, c, g, lq, hctx, hplaced, hword, hgroup, hlq, hp⟩
    obtain ⟨hav, -, -, -, hlive, hmem⟩ := Block.laneTaken_keeps (b := b) (q := q) (j := 4 + j) (w := w) (ws := ws)
    obtain ⟨hqs, hbufs, hcount, hlive', hmem'⟩ := (b.laneTaken q (4 + j) w ws).injected_effect q false w.tok p
    refine ⟨_, tokenInject_lane hj hup hret hroll hmig harm hclose hdrain hw hroom hlink hroute, ?_, ?_, fun n hn => ?_,
      hlive'.trans hlive, hmem'.trans hmem⟩
    · rw [Block.q, hqs]
      exact Block.lane_laneTaken
    · rw [hbufs, Block.xing_of_ave hav]
      rfl
    · have hlow : aveCnt n < 0x600000 := by
        have := mem_fixCounters (List.mem_map_of_mem hn)
        omega
      rw [hcount n hn, Block.reg_laneTaken q.isLt (by omega) (.inl hlow)]
  · intro s point image node hup hmiss
    refine ⟨_, nodemapMissFill_completes hup hmiss, ?_, ?_, rfl, rfl⟩
    · rw [Block.inj_setInj_same]
    · rw [Block.inj_setInj_same]
      exact find?_cachePut _ _ _ _

end Sys2Proof.Machine

/-! How a context without a span completes: CTL_END, COUNT_FLUSH, COMPLETION_ROUND and ORPHAN_WAIT_EXPIRE. -/

namespace Sys2Proof

-- Entries of a finite map

theorem SMap.mem_of_find? {α : Type} {m : SMap α} {k : Nat} {v : α} (h : SMap.find? m k = some v) : (k, v) ∈ m := by
  induction m with
  | nil => simp [SMap.find?] at h
  | cons e m ih =>
    obtain ⟨k', v'⟩ := e
    simp only [SMap.find?] at h
    split at h
    · next hk =>
      obtain rfl := Option.some.inj h
      simp [hk]
    · exact List.mem_cons_of_mem _ (ih h)

theorem SMap.find?_isSome_of_mem {α : Type} {m : SMap α} {e : Nat × α} (h : e ∈ m) : (SMap.find? m e.1).isSome = true := by
  induction m with
  | nil => simp at h
  | cons d m ih =>
    simp only [SMap.find?]
    split
    · rfl
    · next hk =>
      refine ih ((List.mem_cons.1 h).resolve_left fun he => hk ?_)
      rw [he]

end Sys2Proof

namespace Sys2Proof.Machine

-- Emission and consumption counts (R91, R92)

/-- Two blocks differ only in the unflushed counts and the resident contexts. -/
def CountsFrame (b t : Block) : Prop := t = { b with disp := { b.disp with ctxs := t.disp.ctxs }, live := t.live }

theorem countsFrame_refl (b : Block) : CountsFrame b b := rfl
theorem countsFrame_setCtx (b : Block) (c : Nat) (x : Ctx) : CountsFrame b (b.setCtx c x) := rfl
theorem CountsFrame.trans {a b c : Block} (h : CountsFrame a b) (h' : CountsFrame b c) : CountsFrame a c := by
  unfold CountsFrame at *
  rw [h', h]

theorem CountsFrame.now {b t : Block} (h : CountsFrame b t) : t.now = b.now := by rw [h]
theorem CountsFrame.regs {b t : Block} (h : CountsFrame b t) : t.regs = b.regs := by rw [h]
theorem CountsFrame.ave {b t : Block} (h : CountsFrame b t) : t.ave = b.ave := by rw [h]
theorem CountsFrame.cont {b t : Block} (h : CountsFrame b t) : t.cont = b.cont := by rw [h]
theorem CountsFrame.mem {b t : Block} (h : CountsFrame b t) : t.mem = b.mem := by rw [h]

theorem Block.modCtx_frame (b : Block) (c : Nat) (f : Ctx → Ctx) : CountsFrame b (b.modCtx c f) := by
  unfold Block.modCtx
  split
  · exact countsFrame_setCtx b _ _
  · exact countsFrame_refl b

theorem Block.ctx_modCtx_same {b : Block} {c : Nat} {x : Ctx} (f : Ctx → Ctx) (h : b.ctx? c = some x) : (b.modCtx c f).ctx? c = some (f x) := by
  simp [Block.modCtx, h]

theorem Block.ctx_modCtx_ne (b : Block) {c d : Nat} (f : Ctx → Ctx) (h : d ≠ c) : (b.modCtx c f).ctx? d = b.ctx? d := by
  unfold Block.modCtx
  split
  · exact b.ctx_setCtx_ne _ h
  · rfl

theorem Block.flushCount_some {b : Block} {unit c e k : Nat} (h : SMap.find? b.live (liveKey unit c) = some (e, k)) :
    b.flushCount unit c = { b.modCtx c (fun x => { x with e := x.e + e, c := x.c + k }) with live := SMap.erase b.live (liveKey unit c) } := by
  simp only [Block.flushCount, h]

theorem Block.flushCount_frame (b : Block) (unit c : Nat) : CountsFrame b (b.flushCount unit c) := by
  unfold Block.flushCount
  split
  · exact countsFrame_refl b
  · next e k _ =>
    refine (b.modCtx_frame c fun x => { x with e := x.e + e, c := x.c + k }).trans ?_
    rfl

theorem Block.ctx_flushCount_ne (b : Block) (unit : Nat) {c d : Nat} (h : d ≠ c) : (b.flushCount unit c).ctx? d = b.ctx? d := by
  unfold Block.flushCount
  split
  · rfl
  · exact b.ctx_modCtx_ne _ h

/-- A unit holds a count of every context that it lists. -/
theorem Block.find?_live_of_mem_countsOf {b : Block} {unit c : Nat} (h : c ∈ b.countsOf unit) :
    (SMap.find? b.live (liveKey unit c)).isSome = true := by
  obtain ⟨e, he, rfl⟩ := List.mem_map.1 h
  obtain ⟨hmem, hunit⟩ := List.mem_filter.1 he
  have hkey : liveKey unit (e.1 % 2 ^ 20) = e.1 := by
    rw [← of_decide_eq_true hunit, liveKey]
    omega
  rw [hkey]
  exact SMap.find?_isSome_of_mem hmem

theorem Block.count_frame (b : Block) (unit c e k : Nat) : CountsFrame b (b.count unit c e k) := by
  unfold Block.count
  extract_lets b1
  have h : CountsFrame b b1 := by
    simp only [b1]
    split
    · exact b.flushCount_frame unit _
    · exact countsFrame_refl b
  refine h.trans ?_
  rfl

/-- A count flushes another context at most. -/
theorem Block.ctx_count_same (b : Block) (unit c e k : Nat) : (b.count unit c e k).ctx? c = b.ctx? c := by
  unfold Block.count
  extract_lets b1
  change b1.ctx? c = b.ctx? c
  simp only [b1]
  split
  · next h =>
    obtain ⟨hnew, hfull⟩ := h
    refine b.ctx_flushCount_ne unit fun hc => ?_
    obtain ⟨d, ds, hd⟩ := List.exists_cons_of_length_pos (show 0 < (b.countsOf unit).length by omega)
    have hheld := Block.find?_live_of_mem_countsOf (b := b) (unit := unit) (c := c) (by simp [hc, hd])
    rw [Option.isNone_iff_eq_none.1 hnew] at hheld
    exact absurd hheld (by simp)
  · rfl

theorem Block.consume_frame (b : Block) (unit c n : Nat) : CountsFrame b (b.consume unit c n) := by
  unfold Block.consume
  split
  · exact countsFrame_refl b
  · exact b.count_frame unit c 0 n

theorem Block.ctx_consume_same (b : Block) (unit c n : Nat) : (b.consume unit c n).ctx? c = b.ctx? c := by
  unfold Block.consume
  split
  · rfl
  · exact b.ctx_count_same unit c 0 n

-- CTL_END (R47, R93, R501)

/-- A Gate with no pen to read first hands over the head of its inbox. -/
def Block.gateTaken (b : Block) (g : Nat) (ts : List Token) : Block :=
  (b.setGate g { b.gate g with inbox := ts }).setXing (gateXY g).1 (gateXY g).2
    { b.xing (gateXY g).1 (gateXY g).2 with freed := SMap.upd (b.xing (gateXY g).1 (gateXY g).2).freed 0 (bufKey 4 0) (· + 1) }

theorem Block.gateTake_inbox {b : Block} {g : Nat} {t : Token} {ts : List Token} (hpen : (b.gate g).penCount = 0)
    (hso : t.so = false ∨ (b.gate g).penWr ≤ (b.gate g).penRd) (hin : (b.gate g).inbox = t :: ts) :
    b.gateTake g = some (b.gateTaken g ts, t) := by
  have hwait : (t.so && decide ((b.gate g).penRd < (b.gate g).penWr)) = false := by
    rcases hso with h | h
    · simp [h]
    · simp [h]
  unfold Block.gateTake
  extract_lets x
  rw [if_neg (not_not.2 hpen), hin]
  dsimp only
  rw [hwait, if_neg Bool.false_ne_true, Block.gateTaken]

theorem Block.gate_gateTaken (b : Block) (g : Nat) (ts : List Token) : ((b.gateTaken g ts).gate g).inbox = ts := by
  simp [Block.gateTaken, Block.gate]

theorem Block.gate_of_ave {b t : Block} (h : t.ave = b.ave) (g : Nat) : t.gate g = b.gate g := by
  simp only [Block.gate, h]

/-- The block once the Dispatcher has taken a CTL_END: the token is consumed at the Host Gate. -/
def Block.endTaken (b : Block) (c : Nat) (ts : List Token) : Block := (b.gateTaken 0 ts).consume 68 c

theorem Block.endTaken_keeps (b : Block) (c : Nat) (ts : List Token) :
    ((b.endTaken c ts).gate 0).inbox = ts ∧ (b.endTaken c ts).ctx? c = b.ctx? c ∧ (b.endTaken c ts).now = b.now ∧
    (b.endTaken c ts).regs = b.regs ∧ (b.endTaken c ts).mem = b.mem := by
  have h := (b.gateTaken 0 ts).consume_frame 68 c 1
  refine ⟨?_, Block.ctx_consume_same _ 68 c 1, h.now, h.regs, h.mem⟩
  rw [Block.endTaken, Block.gate_of_ave h.ave, Block.gate_gateTaken]

theorem Block.reg_of_regs {b t : Block} (h : t.regs = b.regs) (off : Nat) : t.reg off = b.reg off := by
  simp only [Block.reg, h]

/-- A context that has had its CTL_END: it is ENDING, its rounds start now, and ORPHAN_WAIT runs. -/
def Ctx.ending (x : Ctx) (t : Token) (now wait : Nat) : Ctx :=
  { x with
    endSeen := true, value := t.value, poisoned := x.poisoned || t.poison, state := 5, okRounds := 0, when_ := now,
    orphWait := now + min (max wait 1) 1000000 * 1000 }

section
variable {s : State} {x : Ctx} {t : Token} {ts : List Token}

theorem ctlEnd_first (hup : s.blk.up = true) (hpen : (s.blk.gate 0).penCount = 0)
    (hso : t.so = false ∨ (s.blk.gate 0).penWr ≤ (s.blk.gate 0).penRd) (hin : (s.blk.gate 0).inbox = t :: ts)
    (hctx : s.blk.ctx? t.ctx = some x) (hst : x.state = 4) :
    Completes .ctlEnd s ((s.blk.endTaken t.ctx ts).setCtx t.ctx (x.ending t s.blk.now (s.blk.rf 0x400F00 19 0))) := by
  obtain ⟨-, -, hnow, hregs, -⟩ := s.blk.endTaken_keeps t.ctx ts
  have hwait : (s.blk.endTaken t.ctx ts).rf 0x400F00 19 0 = s.blk.rf 0x400F00 19 0 := congrArg (bits · 19 0) (Block.reg_of_regs hregs _)
  have hctx' : (s.blk.gateTaken 0 ts).ctx? t.ctx = some x := hctx
  rw [← hnow, ← hwait]
  unfold Completes
  show execCtlEnd s = _
  rw [execCtlEnd, actUp_up _ _ hup, Block.gateTake_inbox hpen hso hin]
  simp only [hctx', hst, if_true]
  rfl

theorem ctlEnd_again (hup : s.blk.up = true) (hpen : (s.blk.gate 0).penCount = 0)
    (hso : t.so = false ∨ (s.blk.gate 0).penWr ≤ (s.blk.gate 0).penRd) (hin : (s.blk.gate 0).inbox = t :: ts)
    (hctx : s.blk.ctx? t.ctx = some x) (hst : x.state = 5) :
    Completes .ctlEnd s ((s.blk.endTaken t.ctx ts).bump (dispCnt 10)) := by
  have hctx' : (s.blk.gateTaken 0 ts).ctx? t.ctx = some x := hctx
  unfold Completes
  show execCtlEnd s = _
  rw [execCtlEnd, actUp_up _ _ hup, Block.gateTake_inbox hpen hso hin]
  simp only [hctx', hst, Nat.reduceEqDiff, if_true, if_false]
  rfl

end

-- COUNT_FLUSH (R92)

theorem countFlush_completes {s : State} (unit : Fin 72) (c : Nat) (hup : s.blk.up = true) :
    Completes (.countFlush unit c) s (s.blk.flushCount unit c) :=
  completes_of_actUp (f := fun b => b.flushCount unit c) rfl hup

-- The passing of time and a round's gathering (R93)

/-- Two blocks differ in the time alone. -/
def TimeFrame (b t : Block) : Prop := t = { b with now := t.now, timeNs := t.timeNs, time := t.time }

theorem Block.passTo_frame (b : Block) (t : Nat) : TimeFrame b (b.passTo t) := by
  unfold Block.passTo
  split
  · obtain ⟨n, u, h⟩ := b.pass_eq (t - b.now)
    rw [h]
    rfl
  · rfl

theorem Block.ctx_passTo (b : Block) (t c : Nat) : (b.passTo t).ctx? c = b.ctx? c := by
  simp only [Block.ctx?, Block.passTo_disp]

theorem Block.live_passTo (b : Block) (t : Nat) : (b.passTo t).live = b.live := by
  rw [b.passTo_frame t]

theorem Block.retired_passTo (b : Block) (t : Nat) : (b.passTo t).retired = b.retired := by
  rw [b.passTo_frame t]

/-- Every count that units still hold of a context is of nothing. -/
def Block.flushed (b : Block) (c : Nat) : Prop := ∀ e ∈ b.live, e.1 % 2 ^ 20 = c → e.2 = (0, 0)

theorem Block.flushed_of_unflushed {b : Block} {c : Nat} (h : b.unflushed c = false) : b.flushed c := by
  intro e he hc
  have hnone : e.1 % 2 ^ 20 = c → e.2 = (0, 0) := by simpa using List.any_eq_false.1 h e he
  exact hnone hc

/-- Flushing counts of nothing leaves the context as it is. -/
theorem Block.flushCount_of_flushed {b : Block} {k c : Nat} {x : Ctx} (hk : k % 2 ^ 20 = c) (hctx : b.ctx? c = some x) (hf : b.flushed c) :
    (b.flushCount (k / 2 ^ 20) c).ctx? c = some x ∧ (b.flushCount (k / 2 ^ 20) c).flushed c := by
  have hkey : liveKey (k / 2 ^ 20) c = k := by
    rw [← hk, liveKey]
    omega
  cases h : SMap.find? b.live (liveKey (k / 2 ^ 20) c) with
  | none => simpa only [Block.flushCount, h] using And.intro hctx hf
  | some ek =>
    obtain ⟨e, n⟩ := ek
    have hzero : (e, n) = (0, 0) := hf _ (SMap.mem_of_find? h) (by rw [hkey, hk])
    obtain ⟨rfl, rfl⟩ := Prod.mk.inj hzero
    rw [Block.flushCount_some h]
    exact ⟨Block.ctx_modCtx_same _ hctx, fun d hd hc => hf d (List.mem_of_mem_filter hd) hc⟩

theorem Block.gather_of_flushed {b : Block} {c : Nat} {x : Ctx} (hctx : b.ctx? c = some x) (hf : b.flushed c) :
    (b.gather c).ctx? c = some x ∧ CountsFrame b (b.gather c) := by
  have hrun := List.foldlRecOn (motive := fun t : Block => (t.ctx? c = some x ∧ t.flushed c) ∧ CountsFrame b t)
    ((b.live.map fun e => e.1).filter fun k => k % 2 ^ 20 = c) (fun t k => t.flushCount (k / 2 ^ 20) c) ⟨⟨hctx, hf⟩, countsFrame_refl b⟩
    fun t ht k hk => ⟨Block.flushCount_of_flushed (by simpa using (List.mem_filter.1 hk).2) ht.1.1 ht.1.2,
      ht.2.trans (t.flushCount_frame _ c)⟩
  exact ⟨hrun.1.1, hrun.2⟩

-- Contexts without a span (R317)

theorem Block.isMember_of_no_span {b : Block} {c : Nat} (h : b.spanEntry c = none) : b.isMember c = false := by
  simp [Block.isMember, h]

theorem Block.members_of_no_span {b : Block} {c : Nat} (h : b.spanEntry c = none) : b.members c = [] := by
  simp [Block.members, h]

/-- The spans are as the COLIR_SPAN registers say. -/
theorem Block.spanEntry_of_same {b t : Block} (h : ∀ off, 0xB00000 ≤ off → t.reg off = b.reg off) (c : Nat) : t.spanEntry c = b.spanEntry c := by
  have hreg : ∀ n, t.reg (0xE02000 + n) = b.reg (0xE02000 + n) := fun n => h _ (by omega)
  have hreg4 : ∀ n, t.reg (0xE02004 + n) = b.reg (0xE02004 + n) := fun n => h _ (by omega)
  unfold Block.spanEntry Block.rf
  simp only [hreg, hreg4]

@[simp] theorem Block.tellAll_nil (b : Block) (op ctx round status : Nat) : b.tellAll [] op ctx round status = b := rfl

-- COMPLETION_ROUND (R93)

/-- The block as a round of a context finds it once time has come and every unit has given up its counts. -/
def Block.gathered (b : Block) (c : Nat) (x : Ctx) : Block := (b.passTo x.when_).gather c

theorem Block.gathered_keeps {b : Block} {c : Nat} {x : Ctx} (hctx : b.ctx? c = some x) (hf : b.unflushed c = false) :
    (b.gathered c x).ctx? c = some x ∧ x.when_ ≤ (b.gathered c x).now ∧ (b.gathered c x).regs = b.regs ∧
    (b.gathered c x).cont = b.cont ∧ (b.gathered c x).mem = b.mem := by
  have hf' : (b.passTo x.when_).flushed c := by
    unfold Block.flushed
    rw [b.live_passTo]
    exact Block.flushed_of_unflushed hf
  obtain ⟨hctx', hframe⟩ := Block.gather_of_flushed ((b.ctx_passTo x.when_ c).trans hctx) hf'
  refine ⟨hctx', ?_, ?_, ?_, ?_⟩ <;> unfold Block.gathered
  · rw [hframe.now, Block.passTo_now]
    exact le_max_right _ _
  · rw [hframe.regs, Block.passTo_regs]
  · rw [hframe.cont, Block.passTo_cont]
  · rw [hframe.mem, Block.passTo_mem]

/-- A round of a context without a span, for which no unit holds a count, ends at once. -/
theorem completionRound_completes {s : State} {c : Nat} {x : Ctx} (hup : s.blk.up = true) (hctx : s.blk.ctx? c = some x)
    (hst : x.state = 5) (hspan : s.blk.spanEntry c = none) (hwait : x.span.waiting = false) (hf : s.blk.unflushed c = false) :
    Completes (.completionRound c) s ((s.blk.gathered c x).roundEnd c (x.e == x.c) false) := by
  obtain ⟨hctx', -, hregs, -, -⟩ := Block.gathered_keeps hctx hf
  have hmem : (s.blk.gathered c x).members c = [] :=
    Block.members_of_no_span ((Block.spanEntry_of_same (fun off _ => Block.reg_of_regs hregs off) c).trans hspan)
  have hf' : (s.blk.passTo x.when_).unflushed c = false := by
    rw [Block.unflushed, Block.live_passTo]
    exact hf
  unfold Block.gathered at hctx' hmem ⊢
  unfold Completes
  show execCompletionRound c s = _
  rw [execCompletionRound, actUp_up _ _ hup]
  simp only [hctx, hst, Block.isMember_of_no_span hspan, hwait, hf', hctx', hmem, ne_eq, not_true_eq_false, decide_false, Bool.or_false,
    Bool.false_eq_true, if_false]

theorem Block.roundEnd_unbalanced {b : Block} {c : Nat} {x : Ctx} (hctx : b.ctx? c = some x) (found : Bool) :
    b.roundEnd c false found = b.setCtx c { x with okRounds := 0, when_ := b.now + 10000 } := by
  simp [Block.roundEnd, hctx]

theorem Block.roundEnd_first {b : Block} {c : Nat} {x : Ctx} (hctx : b.ctx? c = some x) (h : x.okRounds = 0) (found : Bool) :
    b.roundEnd c true found = b.setCtx c { x with okRounds := 1, when_ := b.now } := by
  simp [Block.roundEnd, hctx, h]

theorem Block.roundEnd_second {b : Block} {c : Nat} {x : Ctx} (hctx : b.ctx? c = some x) (h : 1 ≤ x.okRounds)
    (hspan : b.members c = []) : b.roundEnd c true false = b.complete c 0 x.value 0 := by
  simp [Block.roundEnd, hctx, h, hspan]

-- What an access of module memory leaves to the Dispatcher and the rings (R328)

/-- The Dispatcher and the host's rings are as they were. -/
def DispKept (b t : Block) : Prop := t.disp = b.disp ∧ t.host = b.host

theorem dispKept_refl (b : Block) : DispKept b b := ⟨rfl, rfl⟩
theorem DispKept.trans {a b c : Block} (h : DispKept a b) (h' : DispKept b c) : DispKept a c := ⟨h'.1.trans h.1, h'.2.trans h.2⟩
theorem MemFrame.dispKept {b t : Block} (h : MemFrame b t) : DispKept b t := ⟨h.disp, h.host⟩

theorem dispKept_setReg (b : Block) (off v : Nat) : DispKept b (b.setReg off v) := ⟨rfl, rfl⟩
theorem dispKept_detect (b : Block) (code unit d : Nat) (i : Bool) (cs : List Nat) : DispKept b (b.detect code unit d i cs) := ⟨rfl, rfl⟩
theorem dispKept_bump (b : Block) (off n : Nat) : DispKept b (b.bump off n) := ⟨Block.bump_disp .., Block.bump_host ..⟩
theorem dispKept_setStops (b : Block) (m : MemUnit) : DispKept b { b with stops := m } := ⟨rfl, rfl⟩

theorem Block.inject_dispKept (b : Block) (checker unit sub : Nat) : DispKept b (b.inject checker unit sub).1 := by
  unfold Block.inject
  dsimp only
  split
  · exact dispKept_setReg b _ _
  · exact dispKept_refl b

theorem Block.uncorrectable_dispKept (b : Block) (line : Nat) (i : Bool) : DispKept b (b.uncorrectable line i) := by
  unfold Block.uncorrectable
  extract_lets b1 b2 t
  have h : DispKept b1 b2 := by
    simp only [b2]
    split
    · exact (dispKept_setReg b1 _ _).trans (dispKept_setReg _ _ _)
    · exact dispKept_refl b1
  exact ((dispKept_bump b _ _).trans h).trans (dispKept_detect b2 _ _ _ _ _)

theorem Block.rebuildLine_dispKept (b : Block) (line : Nat) : DispKept b (b.rebuildLine line).1 := by
  unfold Block.rebuildLine
  split
  · exact dispKept_refl b
  · exact ⟨rfl, rfl⟩

theorem Block.freeLine_dispKept (b : Block) (line : Nat) : DispKept b (b.freeLine line) := by
  unfold Block.freeLine
  exact List.foldlRecOn (motive := fun t => DispKept b t) _ _ (dispKept_refl b) fun c hc _ _ => hc.trans ⟨rfl, rfl⟩

theorem Block.retirePage_dispKept (b : Block) (page : Nat) (i : Bool) : DispKept b (b.retirePage page i) := by
  unfold Block.retirePage
  dsimp only
  split
  · exact dispKept_setReg b _ _
  · refine DispKept.trans (DispKept.trans ?_ (dispKept_bump _ _ _)) (dispKept_detect _ _ _ _ _ _)
    exact (dispKept_setStops b _).trans (dispKept_setReg _ _ _)

theorem Block.corrected_dispKept (b : Block) (line : Nat) (i : Bool) : DispKept b (b.corrected line i) := by
  have hseen (off code unit d : Nat) : DispKept b ((b.bump off).detect code unit d i) :=
    (dispKept_bump b _ _).trans (dispKept_detect _ _ _ _ _ _)
  unfold Block.corrected
  dsimp only
  split
  · exact ((hseen _ _ _ _).trans (dispKept_setStops _ _)).trans (Block.retirePage_dispKept _ _ _)
  · refine DispKept.trans ?_ (dispKept_setStops _ _)
    split
    · exact (hseen _ _ _ _).trans (dispKept_bump _ _ _)
    · exact hseen _ _ _ _

theorem Block.lineCheck_dispKept (b : Block) (upset line : Nat) : DispKept b (b.lineCheck upset line).1 := by
  have hinj := b.inject_dispKept 8 (stopOf line) 0
  unfold Block.lineCheck
  generalize b.inject 8 (stopOf line) 0 = r at hinj
  obtain ⟨b1, inj⟩ := r
  dsimp -zeta only
  extract_lets cleared stops b2 t
  have h2 : DispKept b b2 := by
    simp only [b2]
    split
    · exact (hinj.trans (b1.freeLine_dispKept line)).trans (dispKept_setStops _ _)
    · exact hinj
  clear_value b2
  split
  · exact (h2.trans (b2.uncorrectable_dispKept line false)).trans (Block.rebuildLine_dispKept _ _)
  · split
    · exact h2.trans ⟨rfl, rfl⟩
    · split
      · exact h2.trans (b2.corrected_dispKept line true)
      · exact (h2.trans (b2.uncorrectable_dispKept line true)).trans (Block.rebuildLine_dispKept _ _)
    · split
      · exact h2.trans (b2.corrected_dispKept line false)
      · exact h2

theorem Block.stopReadLines_dispKept (b : Block) (ma n upset : Nat) : DispKept b (b.stopReadLines ma n upset).1 := by
  unfold Block.stopReadLines
  split
  · exact (dispKept_bump b _ _).trans (dispKept_detect _ _ _ _ _ _)
  · refine List.foldlRecOn (motive := fun acc : Block × List Nat => DispKept b acc.1) _ _ (dispKept_refl b) fun acc hacc l _ => ?_
    have htouch := hacc.trans (acc.1.touchPage_frame l).dispKept
    dsimp only
    split
    · exact htouch
    · exact htouch.trans (Block.lineCheck_dispKept _ _ _)

theorem Block.stopRead_dispKept (b : Block) (ma n upset : Nat) : DispKept b (b.stopRead ma n upset).1 :=
  b.stopReadLines_dispKept ma n upset

-- The journal and the messages to other modules (R318, R323, R432)

theorem dispKept_raise (b : Block) (src arg : Nat) : DispKept b (b.raise src arg) := ⟨rfl, rfl⟩
theorem dispKept_setCport (b : Block) (p : Nat) (x : CPort) : DispKept b (b.setCport p x) := ⟨rfl, rfl⟩

theorem Block.mirror_dispKept (b : Block) (r : JRec) : DispKept b (b.mirror r) := by
  unfold Block.mirror
  extract_lets dev
  split
  · exact dispKept_refl b
  · split
    · exact dispKept_refl b
    · split
      · exact (dispKept_bump b _ _).trans (dispKept_raise _ _ _)
      · exact dispKept_setCport b _ _

theorem Block.decide_dispKept (b : Block) (c : Nat) (d : Decision) : DispKept b (b.decide_ c d) := by
  unfold Block.decide_ Block.journal
  split
  · exact dispKept_refl b
  · refine DispKept.trans ?_ (Block.mirror_dispKept _ _)
    exact ⟨rfl, rfl⟩

theorem Block.sendDisp_dispKept {b t : Block} {op c round changed status l x dst : Nat}
    (h : b.sendDisp op c round changed status l x dst = some t) : DispKept b t := by
  unfold Block.sendDisp at h
  split at h
  · exact absurd h (by simp)
  · obtain rfl := Option.some.inj h
    exact dispKept_setCport b _ _

-- What decrements leave of the resident contexts and the completion records (R255, R268)

/-- No record is queued, no context becomes resident, and each keeps its REARM. -/
def ResidentsKept (b t : Block) : Prop :=
  t.host = b.host ∧ ∀ c y, t.ctx? c = some y → ∃ x, b.ctx? c = some x ∧ y.rearm = x.rearm

theorem residentsKept_refl (b : Block) : ResidentsKept b b := ⟨rfl, fun _ y h => ⟨y, h, rfl⟩⟩

theorem ResidentsKept.trans {a b c : Block} (h : ResidentsKept a b) (h' : ResidentsKept b c) : ResidentsKept a c := by
  refine ⟨h'.1.trans h.1, fun d z hz => ?_⟩
  obtain ⟨y, hy, hyz⟩ := h'.2 d z hz
  obtain ⟨x, hx, hxy⟩ := h.2 d y hy
  exact ⟨x, hx, hyz.trans hxy⟩

theorem residentsKept_of_ctxs {b t : Block} (hhost : t.host = b.host) (hctxs : t.disp.ctxs = b.disp.ctxs) : ResidentsKept b t :=
  ⟨hhost, fun c y h => ⟨y, by rwa [Block.ctx?, hctxs] at h, rfl⟩⟩

theorem DispKept.residentsKept {b t : Block} (h : DispKept b t) : ResidentsKept b t :=
  residentsKept_of_ctxs h.2 (congrArg Disp.ctxs h.1)

theorem residentsKept_setCtx {b : Block} {c : Nat} {x y : Ctx} (hctx : b.ctx? c = some x) (h : y.rearm = x.rearm) :
    ResidentsKept b (b.setCtx c y) := by
  refine ⟨rfl, fun d z hz => ?_⟩
  by_cases hd : d = c
  · subst hd
    rw [Block.ctx_setCtx_same] at hz
    exact ⟨x, hctx, by rw [← Option.some.inj hz, h]⟩
  · rw [b.ctx_setCtx_ne y hd] at hz
    exact ⟨z, hz, rfl⟩

theorem Block.makeReady_residentsKept (b : Block) (c : Nat) : ResidentsKept b (b.makeReady c) := by
  unfold Block.makeReady
  split
  · exact residentsKept_refl b
  · next x hctx =>
    refine ResidentsKept.trans ?_ (Block.decide_dispKept _ _ _).residentsKept
    have hset := residentsKept_setCtx (y := { x with state := 3, readySeq := b.disp.readySeq, timer := false, blocked := false }) hctx rfl
    exact hset.trans (residentsKept_of_ctxs rfl rfl)

theorem Block.settleDep_residentsKept (b : Block) (c : Nat) : ResidentsKept b (b.settleDep c) := by
  unfold Block.settleDep
  split
  · exact residentsKept_refl b
  · next x hctx =>
    split
    · exact residentsKept_setCtx hctx rfl
    · split
      · exact residentsKept_refl b
      · split
        · exact residentsKept_setCtx hctx rfl
        · exact b.makeReady_residentsKept c

theorem dispKept_bumpIf (b : Block) (P : Prop) [Decidable P] (off : Nat) : DispKept b (if P then b.bump off else b) := by
  split
  · exact dispKept_bump b off 1
  · exact dispKept_refl b

theorem Block.changeDep_residentsKept (b : Block) (c : Nat) (sub : Bool) (n : Nat) : ResidentsKept b (b.changeDep c sub n).1 := by
  unfold Block.changeDep
  dsimp only
  split
  · next x hctx =>
    refine ResidentsKept.trans (ResidentsKept.trans ?_ (Block.decide_dispKept _ _ _).residentsKept) (Block.settleDep_residentsKept _ _)
    have hbump := dispKept_bumpIf b (sub = true ∧ x.desc.dep < n) (dispCnt 5)
    exact hbump.residentsKept.trans (residentsKept_setCtx (x := x) (by rw [Block.ctx?, hbump.1]; exact hctx) rfl)
  · refine DispKept.residentsKept (DispKept.trans ?_ (Block.decide_dispKept _ _ _))
    refine DispKept.trans ?_ (Block.stopWrite_frame _ _ _).dispKept
    exact (b.stopRead_dispKept (b.descMa c + 8) 4 0).trans (dispKept_bumpIf _ _ _)

theorem Block.decrement_residentsKept (b : Block) (c : Nat) : ResidentsKept b (b.decrement c) := by
  unfold Block.decrement
  split
  · split
    · exact b.changeDep_residentsKept c true 1
    · exact (dispKept_bump b _ _).residentsKept
  · split
    · exact b.changeDep_residentsKept c true 1
    · exact (dispKept_bump b _ _).residentsKept

theorem Block.notify_residentsKept (b : Block) (c dev : Nat) : ResidentsKept b (b.notify c dev) := by
  unfold Block.notify
  split
  · exact residentsKept_of_ctxs rfl rfl
  · split
    · next t h => exact (Block.sendDisp_dispKept h).residentsKept
    · exact (dispKept_bump b _ _).residentsKept

-- Completion (R267, R268, R271)

theorem Block.writeBack_frame (b : Block) (c : Nat) (x : Ctx) (status : Nat) (value : W64) : MemFrame b (b.writeBack c x status value) :=
  ((b.stopWrite_frame _ _).trans (Block.stopWrite_frame _ _ _)).trans (Block.stopWrite_frame _ _ _)

/-- The context's record goes behind those that wait at its CQ (R267). -/
theorem Block.recorded_setCq (b : Block) (c : Nat) (x : Ctx) (status : Nat) (value : W64) (time orphans unfound : Nat) :
    (b.setCq x.cring { b.cq x.cring with waiting := (b.cq x.cring).waiting ++
      [.ctx time (b2n x.faulted + 2 * b2n x.poisoned + 4 * b2n x.orphaned) status c value orphans unfound x.armRing x.armIndex] }).recorded
        c x status value :=
  ⟨time, orphans, unfound, by simp⟩

theorem Block.recorded_of_host {b t : Block} {c : Nat} {x : Ctx} {status : Nat} {value : W64} (h : t.host = b.host)
    (hr : b.recorded c x status value) : t.recorded c x status value := by
  simpa only [Block.recorded, Block.cq, h] using hr

/-- A context whose record is queued enters quarantine, arms itself again or leaves residency. -/
def Block.completionEnd (b : Block) (c : Nat) (x : Ctx) (status unfound : Nat) : Block :=
  let wait := min (b.rf 0x400014 9 0) 1000
  if x.started && wait ≠ 0 && (status == 1 || status == 3 || unfound ≠ 0) then
    b.setCtx c { x with state := 7, when_ := b.now + wait * 1000000, timer := false }
  else if x.rearm then b.rearm c
  else b.leave c x

/-- Outside a rollback a completion queues the context's record, and then the context ends with the REARM it had. -/
theorem Block.complete_ends {b : Block} {c : Nat} {x : Ctx} (status : Nat) (value : W64) (unfound : Nat) (hctx : b.ctx? c = some x)
    (hroll : b.cont.roll = none) :
    ∃ (t : Block) (y : Ctx), b.complete c status value unfound = t.completionEnd c y status unfound ∧ y.rearm = x.rearm ∧
      t.recorded c x status value := by
  have hrep : b.repeats c status value = false := by simp only [Block.repeats, hroll]
  unfold Block.complete
  rw [hctx]
  dsimp -zeta only
  extract_lets again b1 b2 b3 dep desc x1 b4 b5 b6 flags q b7 told b8 wait y
  have hagain : again = false := hrep
  have h7 : b7 = b6.setCq x1.cring { q with waiting := q.waiting ++
      [.ctx x1.endTime flags status c value (min x1.orphans 0xFFFFFFFF) (min unfound 0xFFFFFFFF) x1.armRing x1.armIndex] } := by
    simp only [b7, hagain, Bool.false_eq_true, if_false]
  have hctx7 : b7.ctx? c = some x1 := by
    have h6 : DispKept (b3.setCtx c x1) b6 :=
      ((Block.writeBack_frame _ c x1 status value).dispKept.trans (dispKept_bump b4 _ _)).trans (dispKept_bumpIf b5 _ _)
    rw [h7, Block.setCq_ctx, Block.ctx?, h6.1]
    exact b3.ctx_setCtx_same c x1
  have hrec7 : b7.recorded c x status value := by
    rw [h7]
    exact b6.recorded_setCq c x status value _ _ _
  have h8 : ResidentsKept b7 b8 := by
    simp only [b8]
    split
    · refine List.foldlRecOn (motive := fun t => ResidentsKept b7 t) _ _ (residentsKept_refl b7) fun t ht w _ => ht.trans ?_
      split
      · exact residentsKept_refl t
      · split
        · split
          · exact residentsKept_of_ctxs rfl rfl
          · exact t.decrement_residentsKept _
        · exact t.notify_residentsKept _ _
    · exact residentsKept_refl b7
  refine ⟨b8, y, rfl, ?_, Block.recorded_of_host h8.1 hrec7⟩
  simp only [y]
  split
  · next z hz =>
    obtain ⟨z7, hz7, hrearm⟩ := h8.2 c z hz
    rw [hctx7] at hz7
    rw [hrearm, ← Option.some.inj hz7]
  · rfl

theorem Block.leave_host (b : Block) (c : Nat) (x : Ctx) : (b.leave c x).host = b.host :=
  (b.stopWrite_frame _ _).host

theorem Block.ctx_leave (b : Block) (c : Nat) (x : Ctx) : (b.leave c x).ctx? c = none :=
  SMap.find?_erase_same _ c

/-- A context that is not armed again and owes no quarantine is gone once it has completed, and its record is queued. -/
theorem Block.complete_leaves {b : Block} {c : Nat} {x : Ctx} {status : Nat} (value : W64) (hctx : b.ctx? c = some x)
    (hroll : b.cont.roll = none) (hrearm : x.rearm = false) (hstatus : status ≠ 1 ∧ status ≠ 3) :
    (b.complete c status value 0).ctx? c = none ∧ (b.complete c status value 0).recorded c x status value := by
  obtain ⟨t, y, ht, hy, hrec⟩ := Block.complete_ends status value 0 hctx hroll
  have hend : t.completionEnd c y status 0 = t.leave c y := by
    simp [Block.completionEnd, hstatus.1, hstatus.2, hy, hrearm]
  rw [ht, hend]
  exact ⟨t.ctx_leave c y, Block.recorded_of_host (t.leave_host c y) hrec⟩

-- ORPHAN_WAIT_EXPIRE (R94): the parked reads of a context end

/-- What the ending of parked reads leaves: contexts, memory, the time, and the registers beyond the Quarters' blocks. -/
def ParkFrame (b t : Block) : Prop :=
  t.disp = b.disp ∧ t.mem = b.mem ∧ t.now = b.now ∧ ∀ off, 0xB00000 ≤ off → t.reg off = b.reg off

theorem parkFrame_refl (b : Block) : ParkFrame b b := ⟨rfl, rfl, rfl, fun _ _ => rfl⟩

theorem ParkFrame.trans {a b c : Block} (h : ParkFrame a b) (h' : ParkFrame b c) : ParkFrame a c := by
  obtain ⟨hdisp, hmem, hnow, hreg⟩ := h
  obtain ⟨hdisp', hmem', hnow', hreg'⟩ := h'
  exact ⟨hdisp'.trans hdisp, hmem'.trans hmem, hnow'.trans hnow, fun off ho => (hreg' off ho).trans (hreg off ho)⟩

theorem parkFrame_setQ (b : Block) (p : Nat) (q : Quarter) : ParkFrame b (b.setQ p q) := ⟨rfl, rfl, rfl, fun _ _ => rfl⟩

theorem Block.endStrand_parkFrame (b : Block) (q pe slot : Nat) : ParkFrame b (b.endStrand q pe slot) :=
  ⟨rfl, rfl, rfl, fun _ _ => rfl⟩

theorem parkFrame_bump (b : Block) {off : Nat} (h : off < 0xB00000) : ParkFrame b (b.bump off) :=
  ⟨Block.bump_disp .., Block.bump_mem .., Block.bump_now .., fun o ho => b.reg_bump_ne 1 (by omega)⟩

theorem Block.abortParks_frame (b : Block) (c : Nat) : ParkFrame b (b.abortParks c) := by
  unfold Block.abortParks
  refine List.foldlRecOn (motive := fun t => ParkFrame b t) _ _ (parkFrame_refl b) fun t ht q hq => ht.trans ?_
  have hq : q < 68 := List.mem_range.1 hq
  extract_lets qq mine gone strands t1 t2
  split
  · exact parkFrame_refl t
  · have h1 : ParkFrame t t1 := parkFrame_setQ t _ _
    have h2 : ParkFrame t1 t2 :=
      List.foldlRecOn (motive := fun u => ParkFrame t1 u) _ _ (parkFrame_refl t1) fun u hu n _ =>
        (hu.trans (u.endStrand_parkFrame _ _ _)).trans (parkFrame_bump _ (by unfold qOff; omega))
    refine List.foldlRecOn (motive := fun u => ParkFrame t u) _ _ (h1.trans h2) fun u hu p _ => hu.trans ?_
    split
    · exact parkFrame_refl u
    · exact parkFrame_setQ u _ _

/-- A started context as it enters CLOSING, collected without a cancel. -/
def Ctx.closing (x : Ctx) (now : Nat) (todo : List Nat) : Ctx :=
  { x with
    state := 6, cancelled := false, status := 0, todo := todo, held := false,
    span := { x.span with asked := true, askedAt := now, collected := [], gaveUp := false, orphans := 0 } }

/-- A context in CLOSING with its parked reads ended, before its members are told. -/
def Block.closed (b : Block) (c : Nat) : Block := (b.modCtx c fun x => x.closing b.now b.collectors).abortParks c

theorem Block.close_eq (b : Block) (c : Nat) : b.close c false 0 = (b.closed c).tellAll ((b.closed c).members c) 4 c 0 0 := rfl

/-- A context without a span that closes tells no other module. -/
theorem Block.close_effect {b : Block} {c : Nat} {x : Ctx} (hctx : b.ctx? c = some x) (hspan : b.spanEntry c = none) :
    (b.close c false 0).ctx? c = some (x.closing b.now b.collectors) ∧ (b.close c false 0).mem = b.mem ∧ (b.close c false 0).now = b.now := by
  have hmod := b.modCtx_frame c fun x => x.closing b.now b.collectors
  obtain ⟨hdisp, hmem, hnow, hreg⟩ := (b.modCtx c fun x => x.closing b.now b.collectors).abortParks_frame c
  have hnone : (b.closed c).members c = [] := Block.members_of_no_span ((Block.spanEntry_of_same (b := b) (fun off ho =>
    (hreg off ho).trans (Block.reg_of_regs hmod.regs off)) c).trans hspan)
  rw [b.close_eq, hnone, Block.tellAll_nil, Block.closed]
  refine ⟨?_, hmem.trans hmod.mem, hnow.trans hmod.now⟩
  rw [Block.ctx?, hdisp]
  exact Block.ctx_modCtx_same _ hctx

theorem orphanWaitExpire_completes {s : State} {c : Nat} {x : Ctx} (hup : s.blk.up = true) (hctx : s.blk.ctx? c = some x) (hst : x.state = 5)
    (hspan : s.blk.spanEntry c = none) : Completes (.orphanWaitExpire c) s ((s.blk.passTo x.orphWait).close c false 0) := by
  unfold Completes
  show execOrphanWaitExpire c s = _
  rw [execOrphanWaitExpire, actUp_up _ _ hup]
  simp only [hctx, hst, Block.isMember_of_no_span hspan, ne_eq, not_true_eq_false, decide_false, Bool.or_false, Bool.false_eq_true, if_false]

theorem Block.collectors_passTo (b : Block) (t : Nat) : (b.passTo t).collectors = b.collectors := by
  simp only [Block.collectors, Block.retired_passTo]

/-- Settles O29: what CTL_END, a flush of counts, a round and the end of ORPHAN_WAIT leave, each from the operation that its command comes
to. A round finds nothing unflushed, so the totals it compares are those of the context as it stands. -/
theorem completion : Obligations.Completion := by
  intro s c x b hup hctx
  refine ⟨?_, ?_, ?_, ?_⟩
  · rintro t ts hpen hso hin rfl
    obtain ⟨hinbox, hctx', hnow, hregs, hmem⟩ := b.endTaken_keeps t.ctx ts
    refine ⟨fun hst => ?_, fun hst => ?_⟩
    · refine ⟨_, ctlEnd_first hup hpen hso hin hctx hst, hinbox, ?_, hmem⟩
      rw [Block.ctx_setCtx_same]
      rfl
    · refine ⟨_, ctlEnd_again hup hpen hso hin hctx hst, ?_, ?_, ?_, ?_⟩
      · rw [Block.gate_of_ave (Block.bump_ave ..), hinbox]
      · rw [Block.bump_ctx, hctx', hctx]
      · rw [Block.reg_bump_one, Block.reg_of_regs hregs]
      · rw [Block.bump_mem, hmem]
  · intro unit e k hlive
    have hframe := b.flushCount_frame unit c
    refine ⟨_, countFlush_completes unit c hup, ?_, ?_, ?_, hframe.regs, hframe.mem⟩ <;> rw [Block.flushCount_some hlive]
    · exact Block.ctx_modCtx_same _ hctx
    · exact SMap.find?_erase_same _ _
    · exact fun u hu => SMap.find?_erase_ne _ hu
  · intro hst hspan hwait hroll hf
    obtain ⟨hctx', hwhen, hregs, hcont, hmem⟩ := Block.gathered_keeps hctx hf
    have hdone := completionRound_completes hup hctx hst hspan hwait hf
    refine ⟨fun hne => ?_, fun heq hfirst => ?_, fun heq hsecond hrearm => ?_⟩
    · rw [beq_eq_false_iff_ne.2 hne, Block.roundEnd_unbalanced hctx'] at hdone
      exact ⟨_, hdone, hwhen, Block.ctx_setCtx_same _ c _, hmem⟩
    · rw [beq_iff_eq.2 heq, Block.roundEnd_first hctx' hfirst] at hdone
      exact ⟨_, hdone, hwhen, Block.ctx_setCtx_same _ c _, hmem⟩
    · have hnone := Block.members_of_no_span ((Block.spanEntry_of_same (fun off _ => Block.reg_of_regs hregs off) c).trans hspan)
      rw [beq_iff_eq.2 heq, Block.roundEnd_second hctx' hsecond hnone] at hdone
      exact ⟨_, hdone, Block.complete_leaves x.value hctx' (by rw [hcont, hroll]) hrearm (by decide)⟩
  · intro hst hspan
    have hspan' := (Block.spanEntry_of_same (b := b) (t := b.passTo x.orphWait) (fun off _ => Block.passTo_reg ..) c).trans hspan
    obtain ⟨hctx', hmem, hnow⟩ := Block.close_effect ((b.ctx_passTo x.orphWait c).trans hctx) hspan'
    refine ⟨_, _, orphanWaitExpire_completes hup hctx hst hspan, ?_, hctx', rfl, b.collectors_passTo x.orphWait, rfl, rfl, rfl, ?_⟩
    · rw [hnow, Block.passTo_now]
      exact le_max_right _ _
    · rw [hmem, Block.passTo_mem]

end Sys2Proof.Machine

/-! The Plaza's lookups: what a lookup reads and leaves, insertions, firings, and the commands that offer tokens to a Plaza. -/

namespace Sys2Proof.Machine

-- Steps of one Plaza

/-- A step within one Quarter's Plaza, which then is `p`: beyond it, only the registers named can change. -/
structure PlazaStep (but : List Nat) (q : Nat) (p : Plaza) (b t : Block) : Prop where
  rest : t = { b with regs := t.regs, qs := t.qs }
  regs : SameRegs b t but
  quarter : t.q q = { b.q q with plaza := p }

section
variable {but : List Nat} {q : Nat} {p p' : Plaza} {b c t : Block}

theorem PlazaStep.plz (h : PlazaStep but q p b t) : t.plz q = p := by rw [Block.plz, h.quarter]
theorem PlazaStep.disp (h : PlazaStep but q p b t) : t.disp = b.disp := by rw [h.rest]
theorem PlazaStep.live (h : PlazaStep but q p b t) : t.live = b.live := by rw [h.rest]
theorem PlazaStep.cont (h : PlazaStep but q p b t) : t.cont = b.cont := by rw [h.rest]
theorem PlazaStep.mem (h : PlazaStep but q p b t) : t.mem = b.mem := by rw [h.rest]

theorem PlazaStep.reg (h : PlazaStep but q p b t) {off : Nat} (ho : off ∉ but) : t.reg off = b.reg off := (h.regs off ho).symm

theorem plazaStep_refl : PlazaStep but q (b.plz q) b b := ⟨rfl, sameRegs_refl b but, rfl⟩

theorem plazaStep_setPlz : PlazaStep but q p b (b.setPlz q p) :=
  ⟨rfl, fun _ _ => rfl, by simp [Block.setPlz]⟩

theorem PlazaStep.trans (h : PlazaStep but q p b c) (h' : PlazaStep but q p' c t) : PlazaStep but q p' b t := by
  obtain ⟨hrest, hregs, hq⟩ := h
  obtain ⟨hrest', hregs', hq'⟩ := h'
  exact ⟨by rw [hrest', hrest], hregs.trans hregs', by rw [hq', hq]⟩

theorem PlazaStep.mono {more : List Nat} (h : PlazaStep but q p b t) (hs : but ⊆ more) : PlazaStep more q p b t :=
  ⟨h.rest, h.regs.mono hs, h.quarter⟩

theorem PlazaStep.setReg (h : PlazaStep but q p b t) {off : Nat} (v : Nat) (ho : off ∈ but) : PlazaStep but q p b (t.setReg off v) :=
  ⟨by rw [h.rest]; rfl, h.regs.trans ((sameRegs_setReg t off v).mono (by simpa using ho)), h.quarter⟩

theorem PlazaStep.bump (h : PlazaStep but q p b t) {off : Nat} (ho : off ∈ but) : PlazaStep but q p b (t.bump off) := by
  rcases t.bump_eq off 1 with e | e <;> rw [e]
  · exact h
  · exact h.setReg _ ho

theorem PlazaStep.setPlz (h : PlazaStep but q p b t) (p' : Plaza) : PlazaStep but q p' b (t.setPlz q p') := h.trans plazaStep_setPlz

end

/-- A step that counts on a condition. -/
theorem PlazaStep.bumpIf {but : List Nat} {q : Nat} {p : Plaza} {b t : Block} (h : PlazaStep but q p b t) {P : Prop} [Decidable P] {off : Nat}
    (ho : off ∈ but) : PlazaStep but q p b (if P then t.bump off else t) := by
  split
  · exact h.bump ho
  · exact h

theorem Block.q_of_qs {b t : Block} (h : t.qs = b.qs) (p : Nat) : t.q p = b.q p := by
  simp only [Block.q, h]

-- The registers of a Quarter (R13)

@[simp] theorem qOff_inj (q m n : Nat) : qOff q m = qOff q n ↔ m = n := by
  unfold qOff
  omega

-- The start of a lookup (R72, R73), ordinals (R79) and the peak

/-- The counters of a lookup's start. -/
def startRegs (q : Nat) : List Nat := [plzCnt q 0, plzCnt q 7]

theorem Block.startLookup_step (b : Block) (q k : Nat) :
    ∃ pipe, PlazaStep (startRegs q) q { b.plz q with pipe := pipe, short := none } b (b.startLookup q k) := by
  have hstart : PlazaStep (startRegs q) q (b.plz q) b (b.bump (plzCnt q 0)) := plazaStep_refl.bump (by simp [startRegs])
  have hplz := hstart.plz
  unfold Block.startLookup
  dsimp only
  rw [hplz]
  split
  · split
    · exact ⟨_, (hstart.bump (by simp [startRegs])).setPlz _⟩
    · exact ⟨_, hstart.setPlz _⟩
  · exact ⟨_, hstart.setPlz _⟩

/-- A Plaza that has given out an ordinal, unless the token brings its own. -/
def Plaza.numbered (p : Plaza) (ord : Nat) : Plaza := { p with ordinal := if ord = 0 then p.ordinal + 1 else p.ordinal }

/-- The ordinal a token gets or brings. -/
def Plaza.ordFor (p : Plaza) (ord : Nat) : Nat := if ord = 0 then p.ordinal + 1 else ord

theorem Block.ordinal_step (b : Block) (but : List Nat) (q ord : Nat) :
    PlazaStep but q ((b.plz q).numbered ord) b (b.ordinal q ord).1 ∧ (b.ordinal q ord).2 = (b.plz q).ordFor ord := by
  unfold Block.ordinal Plaza.numbered Plaza.ordFor
  by_cases h : ord = 0
  · simp only [h, ne_eq, not_true_eq_false, if_false, if_true]
    exact ⟨plazaStep_setPlz, trivial⟩
  · simp only [h, ne_eq, not_false_eq_true, if_true, if_false]
    exact ⟨plazaStep_refl, trivial⟩

theorem PlazaStep.plzPeak {but : List Nat} {q : Nat} {p : Plaza} {b t : Block} (h : PlazaStep but q p b t) (ho : qOff q 0x10 ∈ but) :
    PlazaStep but q p b (t.plzPeak q) := by
  unfold Block.plzPeak
  dsimp only
  split
  · exact h.setReg _ ho
  · exact h

-- Insertion (R70, R76)

/-- A Plaza into which an operand has been inserted with its ordinal. -/
def Plaza.inserted (p : Plaza) (t : Token) (pos ord : Nat) : Plaza :=
  { p.numbered ord with entries := p.entries ++ [{ tok := t, pos := pos, ord := p.ordFor ord }] }

/-- The registers that an insertion touches. -/
def insertRegs (q : Nat) : List Nat := [plzCnt q 2, plzCnt q 8, qOff q 0x10]

/-- A set with room takes one operand without an eviction. -/
theorem Block.tryPlace_room {b : Block} {q k : Nat} {o : Operand}
    (hroom : ((b.plz q).entries.filter fun x => setOf x.key = setOf k).length < 8) :
    ∃ c, b.tryPlace q k [o] = some c ∧ PlazaStep (insertRegs q) q { b.plz q with entries := (b.plz q).entries ++ [o] } b c ∧
      c.reg (plzCnt q 2) = satAdd (b.reg (plzCnt q 2)) 1 := by
  have hput : PlazaStep (insertRegs q) q { b.plz q with entries := (b.plz q).entries ++ [o] } b
      ((b.setPlz q { b.plz q with entries := (b.plz q).entries ++ [o] }).bump (plzCnt q 2)) :=
    plazaStep_setPlz.bump (by simp [insertRegs])
  have hpeak : ∀ t : Block, (t.plzPeak q).reg (plzCnt q 2) = t.reg (plzCnt q 2) := fun t =>
    (plazaStep_refl (but := [qOff q 0x10]).plzPeak (by simp)).reg (by simp [plzCnt])
  have hplace : b.place q k [o] = (((b.setPlz q { b.plz q with entries := (b.plz q).entries ++ [o] }).bump (plzCnt q 2)).plzPeak q).plzPeak q := by
    simp only [Block.place, hroom, if_true]
  have hstep := (hput.plzPeak (by simp [insertRegs])).plzPeak (by simp [insertRegs])
  refine ⟨_, ?_, hstep, ?_⟩
  · simp only [Block.tryPlace, hplace, hstep.plz, lt_irrefl, decide_false, Bool.false_and, Bool.false_eq_true, if_false]
  · rw [hpeak, hpeak, Block.reg_bump_one, Block.setPlz_reg]

/-- An operand whose match is incomplete is inserted, where none of its key lie in the spill buffer alone and its set has room. -/
theorem Block.lookLocal_inserts {b : Block} {q : Nat} {v : NodeView} {t : Token} (ord : Nat)
    (hback : (b.plz q).here (keyOf t.tag) ≠ [] ∨ (b.plz q).spilt (keyOf t.tag) = [])
    (hnone : pickOps ((b.plz q).found (keyOf t.tag)) (v.dyn.filter fun x => x ≠ v.pos t) = none)
    (hroom : ((b.plz q).entries.filter fun o => setOf o.key = setOf (keyOf t.tag)).length < 8) :
    ∃ c, b.lookLocal q v t ord [] = .done c ∧ PlazaStep (insertRegs q) q ((b.plz q).inserted t (v.pos t) ord) b c ∧
      c.reg (plzCnt q 2) = satAdd (b.reg (plzCnt q 2)) 1 := by
  have hdup (P : Prop) [Decidable P] : PlazaStep [plzCnt q 8] q (b.plz q) b (if P then b.bump (plzCnt q 8) else b) :=
    plazaStep_refl.bumpIf (by simp)
  unfold Block.lookLocal
  extract_lets k pos p cur b1 admitted turn back
  have hback' : back = [] := by
    rcases hback with h | h <;> simp [back, k, p, h]
  have h1 : PlazaStep [plzCnt q 8] q (b.plz q) b b1 := hdup _
  clear_value b1
  obtain ⟨hnum, hord⟩ := b1.ordinal_step [plzCnt q 8] q ord
  rw [h1.plz] at hnum hord
  have h2 := h1.trans hnum
  simp only [hord, cur, List.append_nil, hnone, List.isEmpty_nil, hback', k, p, pos, if_true, List.nil_append]
  obtain ⟨c, hc, hstep, hcount⟩ := Block.tryPlace_room (b := (b1.ordinal q ord).1) (q := q) (k := keyOf t.tag)
    (o := { tok := t, pos := v.pos t, ord := (b.plz q).ordFor ord }) (by rw [h2.plz]; exact hroom)
  rw [hc]
  refine ⟨c, rfl, ?_, ?_⟩
  · have h := (h2.mono (by simp [insertRegs])).trans hstep
    rwa [h2.plz] at h
  · rw [hcount, h2.reg (by simp [plzCnt])]

-- What a lookup reads

theorem Block.tokenState_of_disp {b t : Block} (h : t.disp = b.disp) (ctx : Nat) : t.tokenState ctx = b.tokenState ctx := by
  unfold Block.tokenState Block.ctxState Block.ctx?
  rw [h]

/-- A lookup at a Quarter finds the same in two blocks: contexts, rollbacks, node table, gates, PEs and what the Plaza holds, but that
fewer tokens may wait. -/
structure SameLookup (q : Nat) (b c : Block) : Prop where
  disp : c.disp = b.disp
  cont : c.cont = b.cont
  live : c.live = b.live
  mem : c.mem = b.mem
  quarter : c.q q = { b.q q with lanes := (c.q q).lanes, plaza := c.plz q }
  plaza : c.plz q = { b.plz q with
    wait := (c.plz q).wait, penTokens := (c.plz q).penTokens, internal := (c.plz q).internal, lastLane := (c.plz q).lastLane,
    pipe := (c.plz q).pipe, short := (c.plz q).short }
  wait : ∀ e ∈ (c.plz q).wait, e ∈ (b.plz q).wait
  ctl : c.reg (qOff q 0) = b.reg (qOff q 0)

section
variable {q : Nat} {b c d : Block}

theorem SameLookup.trans (h : SameLookup q b c) (h' : SameLookup q c d) : SameLookup q b d where
  disp := h'.disp.trans h.disp
  cont := h'.cont.trans h.cont
  live := h'.live.trans h.live
  mem := h'.mem.trans h.mem
  quarter := by rw [h'.quarter, h.quarter]
  plaza := by rw [h'.plaza, h.plaza]
  wait := fun e he => h.wait e (h'.wait e he)
  ctl := h'.ctl.trans h.ctl

theorem SameLookup.here (h : SameLookup q b c) (k : Nat) : (c.plz q).here k = (b.plz q).here k := by rw [h.plaza]; rfl
theorem SameLookup.spilt (h : SameLookup q b c) (k : Nat) : (c.plz q).spilt k = (b.plz q).spilt k := by rw [h.plaza]; rfl
theorem SameLookup.found (h : SameLookup q b c) (k : Nat) : (c.plz q).found k = (b.plz q).found k := by rw [h.plaza]; rfl
theorem SameLookup.entries (h : SameLookup q b c) : (c.plz q).entries = (b.plz q).entries := by rw [h.plaza]
theorem SameLookup.spill (h : SameLookup q b c) : (c.plz q).spill = (b.plz q).spill := by rw [h.plaza]
theorem SameLookup.ordinal (h : SameLookup q b c) : (c.plz q).ordinal = (b.plz q).ordinal := by rw [h.plaza]
theorem SameLookup.fireBuf (h : SameLookup q b c) : (c.plz q).fireBuf = (b.plz q).fireBuf := by rw [h.plaza]
theorem SameLookup.cached (h : SameLookup q b c) (ctx node : Nat) : (c.plz q).cached ctx node = (b.plz q).cached ctx node := by
  rw [h.plaza]; rfl
theorem SameLookup.pes (h : SameLookup q b c) : (c.q q).pes = (b.q q).pes := by rw [h.quarter]

theorem SameLookup.awaiting (h : SameLookup q b c) {k : Nat} (hk : (b.plz q).awaiting k = false) : (c.plz q).awaiting k = false := by
  unfold Plaza.awaiting at hk ⊢
  rw [List.any_eq_false] at hk ⊢
  exact fun e he => hk e (h.wait e he)

theorem SameLookup.filterMaybe (h : SameLookup q b c) (k : Nat) : c.filterMaybe q k = b.filterMaybe q k := by
  have hctl : c.rf (qOff q 0) 1 1 = b.rf (qOff q 0) 1 1 := congrArg (bits · 1 1) h.ctl
  unfold Block.filterMaybe
  rw [h.plaza, hctl]

theorem SameLookup.tokenState (h : SameLookup q b c) (ctx : Nat) : c.tokenState ctx = b.tokenState ctx :=
  Block.tokenState_of_disp h.disp ctx

theorem SameLookup.node (h : SameLookup q b c) (word : Nat) : (c.q q).node word = (b.q q).node word := by rw [h.quarter]; rfl
theorem SameLookup.admits (h : SameLookup q b c) (t : Token) : (c.q q).admits t = (b.q q).admits t := by rw [h.quarter]; rfl

theorem SameLookup.nodeIs (h : SameLookup q b c) {tag : W64} {v : NodeView} (hn : b.nodeIs q tag v) : c.nodeIs q tag v := by
  obtain ⟨hst, w, hw, hv⟩ := hn
  exact ⟨(h.tokenState _).trans hst, w, (h.cached _ _).trans hw, (h.node w).trans hv⟩

theorem SameLookup.inserts (h : SameLookup q b c) {t : Token} {v : NodeView} (hi : b.inserts q t v) : c.inserts q t v := by
  obtain ⟨h1, h8, h9, hpos, hsp, hdyn, hwait, hseen, hback, hnone, hroom⟩ := hi
  refine ⟨h1, h8, h9, hpos, hsp, hdyn, h.awaiting hwait, ?_, ?_, ?_, ?_⟩
  · rwa [h.found, h.filterMaybe]
  · rwa [h.here, h.spilt]
  · rwa [h.found]
  · rwa [h.entries]

theorem SameLookup.of_step {but : List Nat} {p : Plaza} (h : PlazaStep but q p b c) (hctl : qOff q 0 ∉ but)
    (hp : p = { b.plz q with
      wait := p.wait, penTokens := p.penTokens, internal := p.internal, lastLane := p.lastLane, pipe := p.pipe, short := p.short })
    (hwait : ∀ e ∈ p.wait, e ∈ (b.plz q).wait) : SameLookup q b c where
  disp := h.disp
  cont := h.cont
  live := h.live
  mem := h.mem
  quarter := by rw [h.plz, h.quarter]
  plaza := by rw [h.plz]; exact hp
  wait := by rwa [h.plz]
  ctl := h.reg hctl

theorem sameLookup_startLookup (b : Block) (q k : Nat) : SameLookup q b (b.startLookup q k) := by
  obtain ⟨pipe, h⟩ := b.startLookup_step q k
  exact .of_step h (by simp [startRegs, plzCnt]) rfl fun _ he => he

end

-- The lookup of an operand (R42, R70, R76)

/-- The lookup of a token whose node the Plaza's cache names. -/
theorem Block.look_node {b : Block} {q : Nat} {t : Token} {v : NodeView} (ord : Nat) (hkind : t.kind ≠ 8) (hn : b.nodeIs q t.tag v) :
    b.look q t ord = (b.startLookup q (keyOf t.tag)).lookNode q v t ord := by
  obtain ⟨hst, w, hw, hv⟩ := (sameLookup_startLookup b q (keyOf t.tag)).nodeIs hn
  unfold Block.look
  simp only [hkind, if_false, Token.ctx, hst, hw, hv]

/-- An operand for a dynamic position is looked up by its key, once nothing of the key waits and what is not found cannot lie in the
Backstreet. -/
theorem Block.lookNode_operand {b : Block} {q : Nat} {t : Token} {v : NodeView} (ord : Nat) (h1 : t.kind ≠ 1) (h9 : t.kind ≠ 9)
    (hpos : v.pos t < v.n) (hsp : v.pos t ≠ v.sp)
    (hgo : (v.dyn.length = 1 ∧ (b.q q).admits t = true ∧ v.merge = false) ∨ (b.plz q).awaiting (keyOf t.tag) = false ∧
      ((b.plz q).found (keyOf t.tag) ≠ [] ∨ b.filterMaybe q (keyOf t.tag) = false)) :
    b.lookNode q v t ord = b.lookLocal q v t ord [] := by
  have hpos' : ¬ v.n ≤ v.pos t := by omega
  unfold Block.lookNode
  simp only [h1, h9, hpos', hsp, if_false]
  rcases hgo with ⟨hone, hadm, hmerge⟩ | ⟨hwait, hseen⟩
  · simp [hone, hadm, Block.mergeTurn, hmerge]
  · have hunseen : ((b.plz q).found (keyOf t.tag)).isEmpty = false ∨ b.filterMaybe q (keyOf t.tag) = false := by simpa using hseen
    split
    · rfl
    · rcases hunseen with h | h <;> simp [hwait, h]

/-- The registers that the lookup of an operand that is inserted touches. -/
def lookInsertRegs (q : Nat) : List Nat := startRegs q ++ insertRegs q

theorem Block.look_inserts {b : Block} {q : Nat} {t : Token} {v : NodeView} (ord : Nat) (hn : b.nodeIs q t.tag v) (hi : b.inserts q t v) :
    ∃ c pipe, b.look q t ord = .done c ∧
      PlazaStep (lookInsertRegs q) q { (b.plz q).inserted t (v.pos t) ord with pipe := pipe, short := none } b c ∧
      c.reg (plzCnt q 2) = satAdd (b.reg (plzCnt q 2)) 1 := by
  obtain ⟨pipe, hstart⟩ := b.startLookup_step q (keyOf t.tag)
  obtain ⟨h1, h8, h9, hpos, hsp, hdyn, hwait, hseen, hback, hnone, hroom⟩ := (sameLookup_startLookup b q (keyOf t.tag)).inserts hi
  obtain ⟨c, hc, hstep, hcount⟩ := Block.lookLocal_inserts ord hback hnone hroom
  refine ⟨c, pipe, ?_, ?_, ?_⟩
  · rw [Block.look_node ord h8 hn, Block.lookNode_operand ord h1 h9 hpos hsp (.inr ⟨hwait, hseen⟩), hc]
  · rw [hstart.plz] at hstep
    exact (hstart.mono (by simp [lookInsertRegs])).trans (hstep.mono (by simp [lookInsertRegs]))
  · rw [hcount, hstart.reg (by simp [startRegs, plzCnt])]

end Sys2Proof.Machine

/-! Firing: operands that leave the spill buffer, consumption, complete matches, and the words at the heads of the inbound lanes. -/

namespace Sys2Proof.Machine

-- Operands leave the spill buffer (R77, R80)

/-- A step within one Quarter's Plaza that changes the presence filter alone. -/
def FilterStep (q : Nat) (b t : Block) : Prop := ∃ filter, PlazaStep [] q { b.plz q with filter := filter } b t

theorem filterStep_refl (q : Nat) (b : Block) : FilterStep q b b := ⟨_, plazaStep_refl⟩

theorem FilterStep.trans {q : Nat} {b c t : Block} (h : FilterStep q b c) (h' : FilterStep q c t) : FilterStep q b t := by
  obtain ⟨_, h⟩ := h
  obtain ⟨filter, h'⟩ := h'
  rw [h.plz] at h'
  exact ⟨filter, h.trans h'⟩

theorem Block.filterDown_step (b : Block) (q k : Nat) : FilterStep q b (b.filterDown q k) := ⟨_, plazaStep_setPlz⟩

theorem Block.filterReset_step (b : Block) (q : Nat) : FilterStep q b (b.filterReset q) := by
  unfold Block.filterReset
  dsimp only
  split
  · exact ⟨_, plazaStep_setPlz⟩
  · exact filterStep_refl q b

theorem Block.spillTake_step (b : Block) (q k : Nat) (gone : List Operand) :
    ∃ spill filter, PlazaStep [] q { b.plz q with spill := spill, filter := filter } b (b.spillTake q k gone) := by
  unfold Block.spillTake
  extract_lets p cut sp dead n b1 b2
  have h1 : PlazaStep [] q { p with spill := sp.filter fun s => !dead s } b b1 := plazaStep_setPlz
  have h2 : FilterStep q b1 b2 :=
    List.foldlRecOn (motive := FilterStep q b1) _ _ (filterStep_refl q b1) fun c hc _ _ => hc.trans (c.filterDown_step q k)
  obtain ⟨filter, h⟩ := h2.trans (b2.filterReset_step q)
  rw [h1.plz] at h
  exact ⟨_, filter, h1.trans h⟩

-- Consumption (R91, R92)

/-- A unit that counts fewer than 64 contexts has counted n more consumptions of a context. -/
def Block.CountsConsumed (b : Block) (unit ctx n : Nat) (t : Block) : Prop :=
  (b.countsOf unit).length < 64 →
    SMap.get t.live (0, 0) (liveKey unit ctx) =
      ((SMap.get b.live (0, 0) (liveKey unit ctx)).1, (SMap.get b.live (0, 0) (liveKey unit ctx)).2 + n)

theorem Block.consume_counts (b : Block) (unit ctx : Nat) {n : Nat} (hn : n ≠ 0) : b.CountsConsumed unit ctx n (b.consume unit ctx n) := by
  intro hroom
  have hfull : ¬ ((SMap.find? b.live (liveKey unit ctx)).isNone = true ∧ 64 ≤ (b.countsOf unit).length) := by omega
  simp only [Block.consume, hn, if_false, Block.count, hfull, SMap.get_put_same, Nat.add_zero]

theorem Block.countsConsumed_of_live {b c t : Block} {unit ctx n : Nat} (h : c.live = b.live) (hc : c.CountsConsumed unit ctx n t) :
    b.CountsConsumed unit ctx n t := by
  unfold Block.CountsConsumed Block.countsOf at *
  rwa [h] at hc

theorem Block.consume_qs (b : Block) (unit ctx n : Nat) : (b.consume unit ctx n).qs = b.qs := by
  rw [b.consume_frame unit ctx n]

-- Firing (R69, R88, R91)

/-- A Quarter with one packet more in a PE's fire queue. -/
def Quarter.queued (q : Quarter) (n : Nat) (f : FirePacket) : Quarter := q.setPe n { q.pe n with fireq := (q.pe n).fireq ++ [f] }

theorem Block.queueFire_step (b : Block) (q n : Nat) (f : FirePacket) :
    (b.queueFire q n f).q q = (b.q q).queued n f ∧ b.queueFire q n f = { b with regs := (b.queueFire q n f).regs, qs := (b.queueFire q n f).qs } := by
  unfold Block.queueFire
  dsimp only
  split
  · exact ⟨by rw [Block.setRf_q, Block.q_setQ_same]; rfl, rfl⟩
  · exact ⟨by rw [Block.q_setQ_same]; rfl, rfl⟩

/-- Retire words go to the Quarters whose gates name the node; nothing else changes. -/
theorem Block.retires_frame (b : Block) (t : Token) : b.retires t = { b with qs := (b.retires t).qs } := by
  unfold Block.retires
  refine List.foldlRecOn (motive := fun c : Block => c = { b with qs := c.qs }) _ _ rfl fun c hc p _ => ?_
  dsimp only
  split
  · rw [hc]
    rfl
  · exact hc

theorem Block.retires_mem (b : Block) (t : Token) : (b.retires t).mem = b.mem := by rw [b.retires_frame t]
theorem Block.retires_live (b : Block) (t : Token) : (b.retires t).live = b.live := by rw [b.retires_frame t]

theorem Block.retires_quarter (b : Block) (t : Token) (q : Nat) :
    (b.retires t).q q = { b.q q with retireIn := ((b.retires t).q q).retireIn } := by
  unfold Block.retires
  refine List.foldlRecOn (motive := fun c : Block => c.q q = { b.q q with retireIn := (c.q q).retireIn }) _ _ rfl fun c hc p _ => ?_
  dsimp only
  split
  · by_cases h : q = p
    · subst h
      rw [Block.q_setQ_same, hc]
    · rw [c.q_setQ_ne _ h]
      exact hc
  · exact hc

theorem Block.countFire_frame (b : Block) (t : W64) : b.countFire t = { b with ave := (b.countFire t).ave } := by
  unfold Block.countFire
  split
  · rfl
  · split <;> rfl

theorem Block.countFire_mem (b : Block) (t : W64) : (b.countFire t).mem = b.mem := by rw [b.countFire_frame t]
theorem Block.countFire_live (b : Block) (t : W64) : (b.countFire t).live = b.live := by rw [b.countFire_frame t]
theorem Block.countFire_qs (b : Block) (t : W64) : (b.countFire t).qs = b.qs := by rw [b.countFire_frame t]

/-- What a firing leaves: a packet more in the fire queue of a PE, the Plaza `p`, the consumption of the operands, and memory. -/
structure Fired (q n ctx count : Nat) (f : FirePacket) (p : Plaza) (b t : Block) : Prop where
  mem : t.mem = b.mem
  consumed : b.CountsConsumed q ctx count t
  quarter : t.q q = { (b.q q).queued n f with plaza := p, retireIn := (t.q q).retireIn }

section
variable {q n ctx count : Nat} {f : FirePacket} {p p' : Plaza} {b c t : Block}

theorem Fired.plz (h : Fired q n ctx count f p b t) : t.plz q = p := by rw [Block.plz, h.quarter]

theorem Fired.lane (h : Fired q n ctx count f p b t) (j : Nat) : (t.q q).lane j = (b.q q).lane j := by rw [h.quarter]; rfl

theorem Fired.fireq (h : Fired q n ctx count f p b t) : ((t.q q).pe n).fireq = ((b.q q).pe n).fireq ++ [f] := by
  rw [h.quarter]
  exact congrArg PE.fireq (Quarter.pe_setPe_same (b.q q) n _)

/-- A firing after a step within the Plaza. -/
theorem PlazaStep.fired {but : List Nat} (h : PlazaStep but q p b c) (h' : Fired q n ctx count f p' c t) : Fired q n ctx count f p' b t where
  mem := h'.mem.trans h.mem
  consumed := Block.countsConsumed_of_live h.live h'.consumed
  quarter := by rw [h'.quarter, h.quarter]; rfl

end

/-- A firing counts its operands as consumed, sends retire words and is counted for the placement engine. -/
def Block.fireCounted (b : Block) (q : Nat) (t : Token) (count : Nat) : Block := ((b.consume q t.ctx count).retires t).countFire t.tag

theorem Block.fireCounted_effect (b : Block) (q : Nat) (t : Token) {count : Nat} (hcount : count ≠ 0) :
    let c := b.fireCounted q t count
    c.mem = b.mem ∧ b.CountsConsumed q t.ctx count c ∧ c.q q = { b.q q with retireIn := (c.q q).retireIn } := by
  have hconsume := b.consume_counts q t.ctx hcount
  have hq := (b.consume q t.ctx count).retires_quarter t q
  rw [Block.q_of_qs (b.consume_qs ..)] at hq
  unfold Block.fireCounted Block.CountsConsumed
  refine ⟨?_, ?_, ?_⟩
  · rw [Block.countFire_mem, Block.retires_mem, (b.consume_frame ..).mem]
  · rw [Block.countFire_live, Block.retires_live]
    exact hconsume
  · rw [Block.q_of_qs (Block.countFire_qs ..)]
    exact hq

/-- The firing of a node without a sticky operand, to a PE with room. -/
theorem Block.fire_fired {b : Block} {q n : Nat} {v : NodeView} {t : Token} (pos : Nat) (used : List Operand) (ord : Nat)
    (hsp : v.sp = 15) (hmerge : v.merge = false) (hbuf : (b.plz q).fireBuf = []) (hpe : (b.q q).firePe (bits v.ctl 30 26) = n)
    (hroom : ((b.q q).pe n).fireq.length < 32) :
    Fired q n t.ctx (1 + used.length) (packet v t pos used) (b.plz q) b (b.fire q v t pos used ord) := by
  obtain ⟨hmem, hcounts, hcq⟩ := b.fireCounted_effect q t (count := 1 + used.length) (by omega)
  have hfold : ((b.consume q t.ctx (1 + used.length)).retires t).countFire t.tag = b.fireCounted q t (1 + used.length) := rfl
  generalize b.fireCounted q t (1 + used.length) = c at *
  have hplz : c.plz q = b.plz q := by rw [Block.plz, hcq]; rfl
  have hpes : (c.q q).pes = (b.q q).pes := by rw [hcq]
  have hn : (c.q q).firePe (bits v.ctl 30 26) = n := by
    rw [← hpe, hcq]
    rfl
  have hfree : ¬ 32 ≤ ((c.q q).pe n).fireq.length := by
    rw [Quarter.pe, hpes]
    exact not_le.2 hroom
  have hfire : b.fire q v t pos used ord = c.queueFire q n (packet v t pos used) := by
    unfold Block.fire
    simp only [hsp, hmerge, hfold, hn, hplz, hbuf, hfree, Plaza.buffered, List.any_nil, ne_eq, not_true_eq_false, false_and, if_false,
      decide_false, Bool.false_and, Bool.or_false, Bool.false_eq_true]
    rfl
  obtain ⟨hqueue, hrest⟩ := c.queueFire_step q n (packet v t pos used)
  rw [hfire]
  refine ⟨?_, ?_, ?_⟩
  · rw [hrest]
    exact hmem
  · unfold Block.CountsConsumed at *
    rw [hrest]
    exact hcounts
  · rw [hqueue, hcq]
    rfl

/-- The counters of a match and of a duplicate position. -/
def matchRegs (q : Nat) : List Nat := [plzCnt q 1, plzCnt q 8]

/-- A firing once the Plaza is as `p` says. -/
theorem PlazaStep.fires {but : List Nat} {b c : Block} {q n : Nat} {p : Plaza} {v : NodeView} {t : Token} (h : PlazaStep but q p b c) (pos : Nat)
    (used : List Operand) (ord : Nat) (hsp : v.sp = 15) (hmerge : v.merge = false) (hbuf : p.fireBuf = [])
    (hpe : (b.q q).firePe (bits v.ctl 30 26) = n) (hroom : ((b.q q).pe n).fireq.length < 32) :
    Fired q n t.ctx (1 + used.length) (packet v t pos used) p b (c.fire q v t pos used ord) := by
  have hpe' : (c.q q).firePe (bits v.ctl 30 26) = n := by
    rw [← hpe, h.quarter]
    rfl
  have hroom' : ((c.q q).pe n).fireq.length < 32 := by
    rw [h.quarter]
    exact hroom
  have hfired := Block.fire_fired (t := t) pos used ord hsp hmerge (by rw [h.plz, hbuf]) hpe' hroom'
  rw [h.plz] at hfired
  exact h.fired hfired

/-- A complete match of an admitted operand fires its node; the operands taken leave the Plaza. -/
theorem Block.lookLocal_fires {b : Block} {q n : Nat} {v : NodeView} {t : Token} {used : List Operand} (ord : Nat)
    (hmatch : pickOps ((b.plz q).found (keyOf t.tag)) (v.dyn.filter fun x => x ≠ v.pos t) = some used)
    (hadm : (b.q q).admits t = true) (hsp : v.sp = 15) (hmerge : v.merge = false) (hbuf : (b.plz q).fireBuf = [])
    (hpe : (b.q q).firePe (bits v.ctl 30 26) = n) (hroom : ((b.q q).pe n).fireq.length < 32) :
    ∃ c p, b.lookLocal q v t ord [] = .done c ∧ Fired q n t.ctx (1 + used.length) (packet v t (v.pos t) used) p b c ∧
      ((b.plz q).here (keyOf t.tag) ≠ [] → p.entries = (b.plz q).entries.filter fun o => !used.contains o) := by
  unfold Block.lookLocal
  extract_lets k pos p cur b1 admitted turn
  have h1 : PlazaStep (matchRegs q) q (b.plz q) b b1 := plazaStep_refl.bumpIf (by simp [matchRegs])
  clear_value b1
  obtain ⟨hnum, -⟩ := b1.ordinal_step (matchRegs q) q ord
  rw [h1.plz] at hnum
  have h2 := h1.trans hnum
  generalize b1.ordinal q ord = r at *
  obtain ⟨b2, m⟩ := r
  have hturn : turn = true := by simp [turn, Block.mergeTurn, hmerge]
  simp only [cur, k, pos, p, List.append_nil, hmatch, admitted, hadm, hturn, hbuf, hmerge, Bool.not_true, Bool.false_eq_true, if_false,
    List.length_nil, Nat.reduceLeDiff, false_and, Look.done.injEq, List.isEmpty_iff]
  have h3 : PlazaStep (matchRegs q) q ((b.plz q).numbered ord) b (if 1 < v.dyn.length then b2.bump (plzCnt q 1) else b2) :=
    h2.bumpIf (by simp [matchRegs])
  generalize (if 1 < v.dyn.length then b2.bump (plzCnt q 1) else b2) = b3 at *
  split
  · next hhere =>
    obtain ⟨spill, filter, hspill⟩ : ∃ spill filter, PlazaStep [] q { b3.plz q with spill := spill, filter := filter } b3
        (if used = [] then b3 else b3.spillTake q (keyOf t.tag) used) := by
      split
      · exact ⟨_, _, plazaStep_refl⟩
      · exact b3.spillTake_step q _ used
    rw [h3.plz] at hspill
    exact ⟨_, _, rfl, (h3.trans (hspill.mono (List.nil_subset _))).fires _ _ _ hsp hmerge hbuf hpe hroom, fun h => absurd hhere h⟩
  · refine ⟨_, _, rfl, (h3.setPlz _).fires _ _ _ hsp hmerge ?_ hpe hroom, fun _ => ?_⟩ <;> rw [h3.plz]
    · exact hbuf
    · rfl

/-- A node has at most eight operand positions (R64). -/
theorem Quarter.node_positions {q : Quarter} {word : Nat} {v : NodeView} (h : q.node word = some v) : v.n ≤ 8 := by
  unfold Quarter.node at h
  dsimp only at h
  split at h
  · simp at h
  · split at h
    · simp at h
    · obtain rfl := Option.some.inj h
      have harity : bits (SMap.get q.nodes ⟨0, 0⟩ (word % 2 ^ 13)).ctl.toNat 17 16 < 4 := Nat.mod_lt _ (by decide)
      dsimp only
      split <;> omega

/-- The lookup of an operand that completes a match. -/
theorem Block.look_fires {b : Block} {q n : Nat} {v : NodeView} {t : Token} {used : List Operand} (ord : Nat) (hn : b.nodeIs q t.tag v)
    (h1 : t.kind ≠ 1) (h8 : t.kind ≠ 8) (h9 : t.kind ≠ 9) (hpos : v.pos t < v.n)
    (hgo : v.dyn.length = 1 ∨ ((b.plz q).awaiting (keyOf t.tag) = false ∧ (b.plz q).found (keyOf t.tag) ≠ []))
    (hmatch : pickOps ((b.plz q).found (keyOf t.tag)) (v.dyn.filter fun x => x ≠ v.pos t) = some used)
    (hadm : (b.q q).admits t = true) (hsp : v.sp = 15) (hmerge : v.merge = false) (hbuf : (b.plz q).fireBuf = [])
    (hpe : (b.q q).firePe (bits v.ctl 30 26) = n) (hroom : ((b.q q).pe n).fireq.length < 32) :
    ∃ c p, b.look q t ord = .done c ∧ Fired q n t.ctx (1 + used.length) (packet v t (v.pos t) used) p b c ∧
      ((b.plz q).here (keyOf t.tag) ≠ [] → p.entries = (b.plz q).entries.filter fun o => !used.contains o) := by
  obtain ⟨pipe, hstart⟩ := b.startLookup_step q (keyOf t.tag)
  have hsame := sameLookup_startLookup b q (keyOf t.tag)
  have hle : v.n ≤ 8 := by
    obtain ⟨-, w, -, hw⟩ := hn
    exact Quarter.node_positions hw
  rw [Block.look_node ord h8 hn]
  generalize b.startLookup q (keyOf t.tag) = d at *
  have hadm' : (d.q q).admits t = true := by rwa [hsame.admits]
  rw [Block.lookNode_operand ord h1 h9 hpos (by omega) (hgo.imp (fun h => ⟨h, hadm', hmerge⟩) fun ⟨hwait, hfound⟩ =>
    ⟨hsame.awaiting hwait, .inl (by rwa [hsame.found])⟩)]
  obtain ⟨c, p, hc, hfired, hentries⟩ := Block.lookLocal_fires (b := d) (n := n) ord (by rwa [hsame.found]) hadm' hsp hmerge
    (by rw [hsame.fireBuf, hbuf]) (by rw [← hpe, hstart.quarter]; rfl) (by rw [Quarter.pe, hsame.pes]; exact hroom)
  refine ⟨c, p, hc, hstart.fired hfired, fun hhere => ?_⟩
  rw [← hsame.here] at hhere
  rw [hentries hhere, hsame.entries]

/-- The lookup of a token of no resident context: it is counted and consumed (R42). -/
theorem Block.look_stale {b : Block} {q : Nat} {t : Token} (ord : Nat) (hkind : t.kind ≠ 8) (hst : b.tokenState t.ctx = 0) :
    ∃ (c : Block) (pipe : Option Bool), b.look q t ord = .done (c.consume q t.ctx) ∧
      PlazaStep (plzCnt q 9 :: startRegs q) q { b.plz q with pipe := pipe, short := none } b c ∧
      c.reg (plzCnt q 9) = satAdd (b.reg (plzCnt q 9)) 1 := by
  obtain ⟨pipe, hstart⟩ := b.startLookup_step q (keyOf t.tag)
  refine ⟨(b.startLookup q (keyOf t.tag)).bump (plzCnt q 9), pipe, ?_, (hstart.mono (by simp)).bump (by simp), ?_⟩
  · unfold Block.look
    simp only [hkind, if_false, (sameLookup_startLookup b q (keyOf t.tag)).tokenState, hst]
  · rw [Block.reg_bump_one, hstart.reg (by simp [startRegs, plzCnt])]

/-- The node-table entry that a STICKY token writes (R69). -/
def NodeView.stuck (v : NodeView) (t : Token) : NodeEntry :=
  { sticky := t.value
    ctl := BitVec.ofNat 64 (setBits (setBits (setBits (setBits v.ctl 33 33 1) 36 34 (v.pos t)) 39 37 t.fmt) 40 40 (b2n t.poison)) }

/-- The lookup of a STICKY token writes its node's sticky operand (R47, R69). -/
theorem Block.look_sticky {b : Block} {q : Nat} {t : Token} {v : NodeView} (ord : Nat) (hkind : t.kind = 1) (hn : b.nodeIs q t.tag v) :
    ∃ (c : Block) (pipe : Option Bool), b.look q t ord = .done (c.consume q t.ctx) ∧ c.mem = b.mem ∧
      c.q q = { b.q q with
        nodes := SMap.put (b.q q).nodes v.entry (v.stuck t)
        plaza := { b.plz q with pipe := pipe, short := none } } := by
  obtain ⟨pipe, hstart⟩ := b.startLookup_step q (keyOf t.tag)
  rw [Block.look_node ord (by omega) hn]
  generalize b.startLookup q (keyOf t.tag) = d at *
  refine ⟨d.setQ q { d.q q with nodes := SMap.put (d.q q).nodes v.entry (v.stuck t) }, pipe, ?_, hstart.mem, ?_⟩
  · unfold Block.lookNode
    simp only [hkind, if_true]
    rfl
  · rw [Block.q_setQ_same, hstart.quarter]

/-- The lookup of a FREE token whose key is not in the Backstreet removes the operands of the key that wait (R47, R81). -/
theorem Block.look_free {b : Block} {q : Nat} {t : Token} {v : NodeView} (ord : Nat) (hkind : t.kind = 9) (hn : b.nodeIs q t.tag v)
    (hwait : (b.plz q).awaiting (keyOf t.tag) = false)
    (hseen : (b.plz q).found (keyOf t.tag) ≠ [] ∨ b.filterMaybe q (keyOf t.tag) = false) (hspilt : (b.plz q).spilt (keyOf t.tag) = []) :
    ∃ (c : Block) (pipe : Option Bool), b.look q t ord = .done (c.consume q t.ctx (1 + ((b.plz q).here (keyOf t.tag)).length)) ∧
      PlazaStep (startRegs q) q
        { b.plz q with entries := (b.plz q).entries.filter fun o => o.key ≠ keyOf t.tag, pipe := pipe, short := none } b c := by
  obtain ⟨pipe, hstart⟩ := b.startLookup_step q (keyOf t.tag)
  have hsame := sameLookup_startLookup b q (keyOf t.tag)
  have hunseen : (((b.plz q).found (keyOf t.tag)).isEmpty && b.filterMaybe q (keyOf t.tag)) = false := by
    rcases hseen with h | h <;> simp [h]
  rw [Block.look_node ord (by omega) hn]
  generalize b.startLookup q (keyOf t.tag) = d at *
  refine ⟨d.setPlz q { d.plz q with entries := (d.plz q).entries.filter fun o => o.key ≠ keyOf t.tag }, pipe, ?_, ?_⟩
  · unfold Block.lookNode
    simp only [hkind, hsame.awaiting hwait, hsame.found, hsame.filterMaybe, hunseen, hsame.spilt, hspilt, hsame.here, Nat.reduceEqDiff,
      Bool.false_eq_true, if_false, if_true, List.isEmpty_nil, List.length_nil, Nat.add_zero]
  · have h := hstart.setPlz { d.plz q with entries := (d.plz q).entries.filter fun o => o.key ≠ keyOf t.tag }
    rwa [hstart.plz] at h ⊢

/-- The lookup of a MARKER hands it to the snapshot logic (R425, R426). -/
theorem Block.look_marker {b : Block} {q : Nat} {t : Token} (ord : Nat) (hkind : t.kind = 8) :
    b.look q t ord = .done ((b.startLookup q (keyOf t.tag)).takeMarker q t) := by
  unfold Block.look
  simp only [hkind, if_true]

/-- An internal lookup whose operands all wait in the Plaza fires its node; the operand that came last completes it (R227). -/
theorem Block.lookInternal_fires {b : Block} {q n : Nat} {v : NodeView} {tag : W64} {used older : List Operand} {o : Operand}
    (hn : b.nodeIs q tag v) (hhere : (b.plz q).here (keyOf tag) ≠ []) (hmatch : pickOps ((b.plz q).here (keyOf tag)) v.dyn = some used)
    (hlast : (sortOps used).reverse = o :: older) (hadm : (b.q q).admits { value := 0, tag := tag, ctrl := 0 } = true)
    (hsp : v.sp = 15) (hmerge : v.merge = false) (hbuf : (b.plz q).fireBuf = []) (hpe : (b.q q).firePe (bits v.ctl 30 26) = n)
    (hroom : ((b.q q).pe n).fireq.length < 32) :
    ∃ c p, b.lookInternal q tag [] = .done c ∧ Fired q n o.tok.ctx (1 + older.length) (packet v o.tok o.pos older) p b c ∧
      p.entries = ((b.plz q).entries.filter fun x => !used.contains x) ∧ p.internal = (b.plz q).internal := by
  obtain ⟨pipe, hstart⟩ := b.startLookup_step q (keyOf tag)
  have hsame := sameLookup_startLookup b q (keyOf tag)
  obtain ⟨hst, w, hw, hv⟩ := hsame.nodeIs hn
  have hfound : (b.plz q).found (keyOf tag) = (b.plz q).here (keyOf tag) := by
    unfold Plaza.found
    split
    · next h => exact absurd h hhere
    · rfl
  have hhere' : ((b.plz q).here (keyOf tag)).isEmpty = false := by simpa using hhere
  unfold Block.lookInternal
  dsimp only
  generalize b.startLookup q (keyOf tag) = d at *
  simp only [hst, hw, hv, hsame.found, hsame.here, hsame.fireBuf, hsame.admits, hfound, List.append_nil, hhere', hmatch, hlast, hadm, hbuf,
    hmerge, Block.mergeTurn, List.length_nil, Nat.reduceLeDiff, ne_eq, not_true_eq_false, Bool.false_and, Bool.not_true, Bool.not_false,
    Bool.true_or, Bool.false_eq_true, false_and, if_false, Look.done.injEq]
  have hstart' := (hstart.mono (more := plzCnt q 1 :: startRegs q) (by simp)).bump (off := plzCnt q 1) (by simp)
  refine ⟨_, _, rfl, (hstart'.setPlz _).fires _ _ _ hsp hmerge rfl hpe hroom, ?_, ?_⟩
  · rw [hsame.entries]
  · rw [hstart.plz]

-- The word at the head of an inbound lane (R72, R82)

/-- The block once the Plaza has taken the word at the head of a lane, which it then served last. -/
def Block.laneServed (b : Block) (q lane : Nat) (w : LaneWord) (ws : List LaneWord) : Block :=
  (b.laneTaken q lane w ws).setPlz q { b.plz q with lastLane := lane }

section
variable {b c : Block} {q lane : Nat} {w : LaneWord} {ws : List LaneWord}

theorem Block.q_laneTaken (b : Block) (q lane : Nat) (w : LaneWord) (ws : List LaneWord) :
    (b.laneTaken q lane w ws).q q = (b.q q).setLane lane (((b.q q).lane lane).taken w ws) := by
  rw [Block.laneTaken, Block.q_of_qs (b.putLane_frame q lane (((b.q q).lane lane).taken w ws)).qs, Block.q_setQ_same]

theorem Block.q_laneServed (b : Block) (q lane : Nat) (w : LaneWord) (ws : List LaneWord) :
    (b.laneServed q lane w ws).q q =
      { (b.q q).setLane lane (((b.q q).lane lane).taken w ws) with plaza := { b.plz q with lastLane := lane } } := by
  rw [Block.laneServed, Block.setPlz, Block.q_setQ_same, Block.q_laneTaken]

theorem Block.plz_laneServed (b : Block) (q lane : Nat) (w : LaneWord) (ws : List LaneWord) :
    (b.laneServed q lane w ws).plz q = { b.plz q with lastLane := lane } := by
  rw [Block.plz, b.q_laneServed]

theorem Block.lane_laneServed (b : Block) (q lane : Nat) (w : LaneWord) (ws : List LaneWord) :
    (((b.laneServed q lane w ws).q q).lane lane).drain = ws := by
  rw [b.q_laneServed]
  exact (congrArg Lane.drain (Quarter.lane_setLane_same (b.q q) lane _)).trans (Lane.taken_drain ..)

theorem Block.sameRegs_laneServed (b : Block) (q lane : Nat) (w : LaneWord) (ws : List LaneWord) :
    SameRegs b (b.laneServed q lane w ws) (levelRegs q lane) := (b.putLane_frame q lane _).2

/-- Plaza registers are no lane's. -/
theorem plaza_notMem_levelRegs (q : Nat) {o lane : Nat} (h : o < 0x1000) : qOff q o ∉ levelRegs q lane := by
  simp only [levelRegs, laneReg, List.mem_cons, List.not_mem_nil, or_false, qOff_inj, not_or]
  split <;> omega

theorem Block.reg_laneServed (b : Block) (q lane : Nat) (w : LaneWord) (ws : List LaneWord) {o : Nat} (h : o < 0x1000) :
    (b.laneServed q lane w ws).reg (qOff q o) = b.reg (qOff q o) :=
  (b.sameRegs_laneServed q lane w ws _ (plaza_notMem_levelRegs q h)).symm

theorem Block.sameLookup_laneServed (b : Block) (q lane : Nat) (w : LaneWord) (ws : List LaneWord) :
    SameLookup q b (b.laneServed q lane w ws) := by
  obtain ⟨-, hdisp, -, hcont, hlive, hmem⟩ := Block.laneTaken_keeps (b := b) (q := q) (j := lane) (w := w) (ws := ws)
  refine ⟨hdisp, hcont, hlive, hmem, ?_, ?_, ?_, b.reg_laneServed q lane w ws (by decide)⟩
  · rw [b.plz_laneServed, b.q_laneServed]
    rfl
  · rw [b.plz_laneServed]
  · rw [b.plz_laneServed]
    exact fun _ he => he

/-- A sound word of an inbound lane is taken as it stands while no checker is armed. -/
theorem Block.takeWord_inbound (hq : q < 68) (hlane : lane < 4) (hclose : ((b.q q).lane lane).closing = none)
    (hdrain : ((b.q q).lane lane).drain = w :: ws) (hw : w.sound = true) (harm : b.rf 0x300044 15 0 = 0) :
    b.takeWord q lane false = (b.laneTaken q lane w ws, some w) :=
  Block.takeWord_sound hclose hdrain hw
    ((congrArg (bits · 15 0) (Block.reg_laneTaken hq (by omega) (by decide : 0x300044 < 0x600000 ∨ _))).trans harm)

/-- The Plaza takes a lane's word that nothing holds back, where its lookup ends. -/
theorem Block.takeLane_done {mine : Token → Bool} (hq : q < 68) (hlane : lane < 4) (h : b.laneOffers q lane w ws) (hmine : mine w.tok = true)
    (hlook : (b.laneServed q lane w ws).look q w.tok 0 = .done c) : b.takeLane q lane false mine = c := by
  obtain ⟨hruns, hrec, hfull, hopen, hwaits, hturn, hclose, hdrain, hw, hhold, harm⟩ := h
  have htake := Block.takeWord_inbound hq hlane hclose hdrain hw harm
  have hplz : (b.laneTaken q lane w ws).plz q = b.plz q := by rw [Block.plz, b.q_laneTaken]; rfl
  have hhold' : (b.laneServed q lane w ws).soHold q lane w.tok = none := by
    rw [← hhold]
    unfold Block.soHold
    rw [b.plz_laneServed]
    rfl
  have hhead : (b.q q).laneHead lane = some w := by simp [Quarter.laneHead, hclose, hdrain]
  have hstart : b.laneStart q lane false = .go c := by
    unfold Block.laneStart
    simp only [hruns, hrec, hfull, hopen, htake, hplz, Bool.not_true, Bool.or_self, Bool.false_eq_true, if_false]
    unfold Block.laneServed at hlook hhold'
    simp only [hhold', hlook]
  unfold Block.takeLane
  simp only [hhead, hmine, hwaits, hturn, hstart, Bool.not_true, Bool.or_self, Bool.false_eq_true, if_false]
  rfl

end

end Sys2Proof.Machine

/-! The commands that take a word of an inbound lane: TOKEN_LOOKUP, STICKY_TOKEN, FREE_TOKEN, MARKER_ARRIVE and FLUSH_MARKER_ARRIVE. -/

namespace Sys2Proof.Machine

-- TOKEN_LOOKUP

section
variable {s : State} {q : Fin 68} {lane : Fin 4} {w : LaneWord} {ws : List LaneWord} {c : Block}

theorem tokenLookup_completes (h : s.blk.laneOffers q lane w ws) (h1 : w.tok.kind ≠ 1) (h8 : w.tok.kind ≠ 8) (h9 : w.tok.kind ≠ 9)
    (hlook : (s.blk.laneServed q lane w ws).look q w.tok 0 = .done c) : Completes (.tokenLookup q lane false) s c := by
  rw [← Block.takeLane_done (mine := fun t => t.kind != 1 && t.kind != 8 && t.kind != 9) q.isLt lane.isLt h (by simp [h1, h8, h9]) hlook]
  rfl

end

/-- Settles O16: the block in which the lane's word has been taken finds what the lookup finds in the block before, and the lookup fires,
inserts or discards. -/
theorem tokenMatching : Obligations.TokenMatching := by
  intro s q lane w ws v b hoffers h1 h8 h9
  have hsame := b.sameLookup_laneServed q lane w ws
  have hdrain := b.lane_laneServed q lane w ws
  refine ⟨?fires, ?inserts, ?stale⟩
  case fires =>
    intro used n hn hmerge hsp hpos hgo hmatch hadm hbuf hpe hroom hcounts
    obtain ⟨c, p, hc, hfired, hentries⟩ := Block.look_fires (b := b.laneServed q lane w ws) (n := n) 0 (hsame.nodeIs hn) h1 h8 h9 hpos
      (hgo.imp_right fun ⟨hwait, hfound⟩ => ⟨hsame.awaiting hwait, by rwa [hsame.found]⟩) (by rwa [hsame.found])
      (by rwa [hsame.admits]) hsp hmerge (by rw [hsame.fireBuf, hbuf]) (by rw [← hpe, hsame.quarter]; rfl)
      (by rw [Quarter.pe, hsame.pes]; exact hroom)
    refine ⟨c, tokenLookup_completes hoffers h1 h8 h9 hc, ?_, ?_, fun hhere => ?_, ?_, hfired.mem.trans hsame.mem⟩
    · rw [hfired.lane, hdrain]
    · rw [hfired.fireq, Quarter.pe, hsame.pes]
      rfl
    · rw [hfired.plz, hentries (by rwa [hsame.here]), hsame.entries]
    · exact Block.countsConsumed_of_live hsame.live hfired.consumed hcounts
  case inserts =>
    intro hn hi
    obtain ⟨c, pipe, hc, hstep, hcount⟩ := Block.look_inserts 0 (hsame.nodeIs hn) (hsame.inserts hi)
    refine ⟨c, tokenLookup_completes hoffers h1 h8 h9 hc, ?_, ?_, ?_, hstep.live.trans hsame.live, hstep.mem.trans hsame.mem⟩
    · rw [hstep.quarter]
      exact hdrain
    · rw [hstep.plz, b.plz_laneServed]
      rfl
    · rw [hcount, plzCnt, b.reg_laneServed q lane w ws (by decide)]
  case stale =>
    intro hst hcounts
    obtain ⟨c, pipe, hc, hstep, hcount⟩ := Block.look_stale (b := b.laneServed q lane w ws) (q := q) 0 h8 ((hsame.tokenState _).trans hst)
    have hqs := c.consume_qs q w.tok.ctx 1
    have hframe := c.consume_frame q w.tok.ctx 1
    refine ⟨_, tokenLookup_completes hoffers h1 h8 h9 hc, ?_, ?_, ?_, ?_, ?_⟩
    · rw [Block.q_of_qs hqs, hstep.quarter]
      exact hdrain
    · rw [Block.plz_of_qs hqs, hstep.plz, hsame.entries]
    · rw [Block.reg_of_regs hframe.regs, hcount, plzCnt, b.reg_laneServed q lane w ws (by decide)]
    · exact Block.countsConsumed_of_live (hstep.live.trans hsame.live) (c.consume_counts q w.tok.ctx one_ne_zero) hcounts
    · rw [hframe.mem, hstep.mem, hsame.mem]


-- STICKY_TOKEN, FREE_TOKEN, MARKER_ARRIVE and FLUSH_MARKER_ARRIVE

section
variable {s : State} {q : Fin 68} {lane : Fin 4} {w : LaneWord} {ws : List LaneWord} {c : Block}

theorem stickyToken_completes (h : s.blk.laneOffers q lane w ws) (hkind : w.tok.kind = 1)
    (hlook : (s.blk.laneServed q lane w ws).look q w.tok 0 = .done c) : Completes (.stickyToken q lane false) s c := by
  rw [← Block.takeLane_done (mine := fun t => t.kind == 1) q.isLt lane.isLt h (by simp [hkind]) hlook]
  rfl

theorem freeToken_completes (h : s.blk.laneOffers q lane w ws) (hkind : w.tok.kind = 9)
    (hlook : (s.blk.laneServed q lane w ws).look q w.tok 0 = .done c) : Completes (.freeToken q lane false) s c := by
  rw [← Block.takeLane_done (mine := fun t => t.kind == 9) q.isLt lane.isLt h (by simp [hkind]) hlook]
  rfl

theorem markerArrive_completes (h : s.blk.laneOffers q lane w ws) (hkind : w.tok.kind = 8) (htype : bits w.tok.value.toNat 7 0 ≠ 2)
    (hlook : (s.blk.laneServed q lane w ws).look q w.tok 0 = .done c) : Completes (.markerArrive q ⟨lane, false⟩) s c := by
  rw [← Block.takeLane_done (mine := fun t => t.kind == 8 && bits t.value.toNat 7 0 != 2) q.isLt lane.isLt h (by simp [hkind, htype]) hlook]
  rfl

/-- A FLUSH MARKER does not wait for a turn. -/
theorem flushMarkerArrive_completes (hawake : s.blk.qAwake q = true) (hclose : ((s.blk.q q).lane lane).closing = none)
    (hdrain : ((s.blk.q q).lane lane).drain = w :: ws) (hw : w.sound = true) (harm : s.blk.rf 0x300044 15 0 = 0)
    (hkind : w.tok.kind = 8) (htype : bits w.tok.value.toNat 7 0 = 2) :
    Completes (.flushMarkerArrive q ⟨lane, false⟩) s ((s.blk.laneTaken q lane w ws).takeMarker q w.tok) := by
  have hhead : (s.blk.q q).laneHead lane = some w := by simp [Quarter.laneHead, hclose, hdrain]
  unfold Completes
  show execFlushMarkerArrive q ⟨lane, false⟩ s = _
  rw [execFlushMarkerArrive, act_eq]
  simp only [hhead, hkind, htype, hawake, Block.takeWord_inbound q.isLt lane.isLt hclose hdrain hw harm, beq_self_eq_true, Bool.and_self,
    and_self, if_true]

end

/-- A CLOSE MARKER of the epoch that closes, at a Quarter that has taken its cut, ends its sender's part of the channel record (R427). -/
theorem Block.takeMarker_close {b : Block} {q : Nat} {t : Token} {c : Close} {cut : QCut} (htype : bits t.value.toNat 7 0 = 1)
    (hclose : b.cont.close = some c) (hcut : c.cutOf q = some cut) (hepoch : t.value.toNat / 65536 = c.epoch % 2 ^ 48) :
    b.takeMarker q t =
      ({ b with cont := { b.cont with
          close := some (c.setCut q { cut with markers := addNew cut.markers (bits t.value.toNat 15 8) }) } }).consume q t.ctx := by
  have hdone : b.quarterCut q = b := by
    have hsome : (SMap.find? c.cuts.quarters q).isSome = true := Option.isSome_iff_exists.2 ⟨cut, hcut⟩
    simp only [Block.quarterCut, hclose, hsome, Bool.true_or, if_true]
  unfold Block.takeMarker Block.takeClose
  simp only [htype, hclose, hdone, hcut, hepoch, ne_eq, not_true_eq_false, if_false]

/-- A rollback in which a closure Quarter has a FLUSH MARKER from one sender more; with the last one step 3 ends (R439). -/
def Rollback.flushed (r : Rollback) (senders : List Nat) (q sender : Nat) : Rollback :=
  let f := SMap.put r.flush q (addNew (SMap.get r.flush [] q) sender)
  { r with flush := f, step := if r.quarters.all fun p => senders.all fun u => (SMap.get f [] p).contains u then 4 else 3 }

theorem Block.takeMarker_flush {b : Block} {q : Nat} {t : Token} {r : Rollback} (htype : bits t.value.toNat 7 0 = 2)
    (hroll : b.cont.roll = some r) (hstep : r.step = 3) (hq : r.quarters.contains q = true) :
    b.takeMarker q t =
      ({ b with cont := { b.cont with roll := some (r.flushed b.senders q (bits t.value.toNat 15 8)) } }).consume q t.ctx := by
  unfold Block.takeMarker Block.takeFlush
  simp only [htype, hroll, hstep, hq, Bool.not_true]
  rfl

/-- The mapped Quarters and the Gates are the senders, whatever the lanes hold. -/
theorem Block.senders_of_same {b t : Block} (hret : t.retired = b.retired) (hreg : ∀ k < 16, t.reg (0x100 + 4 * k) = b.reg (0x100 + 4 * k)) :
    t.senders = b.senders := by
  simp only [Block.senders, Block.mapped, Block.phys_of_same hret hreg]

theorem Rollback.flush_flushed (r : Rollback) (senders : List Nat) (q sender : Nat) :
    SMap.get (r.flushed senders q sender).flush [] q = addNew (SMap.get r.flush [] q) sender := SMap.get_put_same ..

theorem Rollback.step_flushed (r : Rollback) (senders : List Nat) (q sender : Nat) :
    (r.flushed senders q sender).step = 4 ↔
      ∀ p ∈ r.quarters, ∀ u ∈ senders, (SMap.get (r.flushed senders q sender).flush [] p).contains u = true := by
  unfold Rollback.flushed
  dsimp only
  split
  · next h => simpa using h
  · next h => simpa using h

/-- Settles O17: what the lookup of each kind of token leaves, and then its consumption, which leaves the Quarters, the epochs and memory
as they are. -/
theorem otherLaneTokens : Obligations.OtherLaneTokens := by
  intro s q lane w ws b k
  have hsame := b.sameLookup_laneServed q lane w ws
  have hdrain := b.lane_laneServed q lane w ws
  refine ⟨?sticky, ?free, ?close, ?flush⟩
  case sticky =>
    intro v hoffers hkind hn
    obtain ⟨c, pipe, hc, hmem, hquarter⟩ := Block.look_sticky 0 hkind (hsame.nodeIs hn)
    have hq : ((c.consume q w.tok.ctx).q q).nodes = SMap.put (b.q q).nodes v.entry (v.stuck w.tok) := by
      rw [Block.q_of_qs (c.consume_qs ..), hquarter, hsame.quarter]
    refine ⟨_, stickyToken_completes hoffers hkind hc, ?_, ?_, fun e he => ?_, ?_, ?_⟩
    · rw [Block.q_of_qs (c.consume_qs ..), hquarter]
      exact hdrain
    · rw [hq, SMap.get_put_same]
      rfl
    · rw [hq, SMap.get_put_ne _ _ _ he]
    · rw [Block.plz_of_qs (c.consume_qs ..), Block.plz, hquarter]
      exact hsame.entries
    · rw [(c.consume_frame ..).mem, hmem, hsame.mem]
  case free =>
    intro v hoffers hkind hn hwait hseen hspilt hcounts
    obtain ⟨c, pipe, hc, hstep⟩ := Block.look_free 0 hkind (hsame.nodeIs hn) (hsame.awaiting hwait)
      (by rwa [hsame.found, hsame.filterMaybe]) (by rwa [hsame.spilt])
    rw [hsame.here, hsame.entries] at *
    have hqs := c.consume_qs q w.tok.ctx (1 + ((b.plz q).here k).length)
    refine ⟨_, freeToken_completes hoffers hkind hc, ?_, ?_, ?_, ?_⟩
    · rw [Block.q_of_qs hqs, hstep.quarter]
      exact hdrain
    · rw [Block.plz_of_qs hqs, hstep.plz]
    · exact Block.countsConsumed_of_live (hstep.live.trans hsame.live) (c.consume_counts q w.tok.ctx (by omega)) hcounts
    · rw [(c.consume_frame ..).mem, hstep.mem, hsame.mem]
  case close =>
    intro c cut hoffers hkind htype hclose hcut hepoch
    obtain ⟨pipe, hstart⟩ := (b.laneServed q lane w ws).startLookup_step q (keyOf w.tok.tag)
    have hlook := Block.look_marker (b := b.laneServed q lane w ws) (q := q) 0 hkind
    rw [Block.takeMarker_close htype (by rw [hstart.cont, hsame.cont]; exact hclose) hcut hepoch] at hlook
    refine ⟨_, markerArrive_completes hoffers hkind (by omega) hlook, ?_, ?_, ?_⟩
    · rw [Block.q_of_qs (Block.consume_qs ..)]
      exact (congrArg (fun x : Quarter => (x.lane lane).drain) hstart.quarter).trans hdrain
    · rw [(Block.consume_frame ..).cont]
    · rw [(Block.consume_frame ..).mem]
      exact hstart.mem.trans hsame.mem
  case flush =>
    intro r hawake hclose hdrain' hw harm hkind htype hroll hstep hq
    obtain ⟨-, -, hret, hcont, -, hmem⟩ := Block.laneTaken_keeps (b := b) (q := q) (j := lane) (w := w) (ws := ws)
    have hsenders := Block.senders_of_same hret fun k hk => Block.reg_laneTaken (b := b) (w := w) (ws := ws) q.isLt
      (show lane.val < 8 by omega) (show 0x100 + 4 * k < 0x600000 ∨ _ by omega)
    have hdone := flushMarkerArrive_completes hawake hclose hdrain' hw harm hkind htype
    rw [Block.takeMarker_flush htype (by rw [hcont]; exact hroll) hstep hq, hsenders] at hdone
    refine ⟨_, r.flushed b.senders q (bits w.tok.value.toNat 15 8), hdone, ?_, ?_, r.flush_flushed .., r.step_flushed .., ?_⟩
    · rw [Block.q_of_qs (Block.consume_qs ..)]
      exact Block.lane_laneTaken
    · rw [(Block.consume_frame ..).cont]
    · rw [(Block.consume_frame ..).mem]
      exact hmem

end Sys2Proof.Machine

/-! Reads of sound module memory, and the pen: PEN_NOTICE, PEN_READ_RETURN and PEN_TOKEN_LOOKUP. -/

namespace Sys2Proof.Machine

-- Reads of lines whose check bits are sound (R328)

/-- What reads of sound lines leave, with no checker armed: their counters, the detections of addresses past MA space, and borrows. -/
structure ReadKept (b t : Block) : Prop where
  rest : t = { b with regs := t.regs, hub := t.hub, stops := t.stops }
  bad : t.stops.bad = b.stops.bad
  lost : t.stops.lost = b.stops.lost
  regs : SameRegs b t [memCnt 2, memCnt 6, memCnt 7]

section
variable {b c t : Block}

theorem readKept_refl (b : Block) : ReadKept b b := ⟨rfl, rfl, rfl, sameRegs_refl b _⟩

theorem ReadKept.trans (h : ReadKept b c) (h' : ReadKept c t) : ReadKept b t :=
  ⟨by rw [h'.rest, h.rest], h'.bad.trans h.bad, h'.lost.trans h.lost, h.regs.trans h'.regs⟩

theorem ReadKept.qs (h : ReadKept b t) : t.qs = b.qs := by rw [h.rest]
theorem ReadKept.disp (h : ReadKept b t) : t.disp = b.disp := by rw [h.rest]
theorem ReadKept.mem (h : ReadKept b t) : t.mem = b.mem := by rw [h.rest]

/-- Registers beyond MEMORY's counters. -/
theorem ReadKept.reg (h : ReadKept b t) {off : Nat} (ho : off < 0xB00000 ∨ 0xB00300 ≤ off) : t.reg off = b.reg off :=
  (h.regs off (by simp only [memCnt, List.mem_cons, List.not_mem_nil, or_false, not_or]; omega)).symm

theorem ReadKept.unarmed (h : ReadKept b t) (harm : b.rf 0x300044 15 0 = 0) : t.rf 0x300044 15 0 = 0 :=
  (congrArg (bits · 15 0) (h.reg (.inl (by decide)))).trans harm

theorem readKept_bump (b : Block) {off : Nat} (h : off ∈ [memCnt 2, memCnt 6, memCnt 7]) : ReadKept b (b.bump off) := by
  rcases b.bump_eq off 1 with e | e <;> rw [e]
  · exact readKept_refl b
  · exact ⟨rfl, rfl, rfl, (sameRegs_setReg b off _).mono (by simpa using h)⟩

theorem Block.touchPage_readKept (b : Block) (ma : Nat) : ReadKept b (b.touchPage ma) := by
  unfold Block.touchPage
  dsimp only
  split
  · exact readKept_refl b
  · split
    · exact readKept_refl b
    · split
      · refine ReadKept.trans ?_ (readKept_bump _ (by simp))
        exact ⟨rfl, rfl, rfl, fun _ _ => rfl⟩
      · exact readKept_bump b (by simp)

/-- A sound line passes its check. -/
theorem Block.lineCheck_sound {line : Nat} (harm : b.rf 0x300044 15 0 = 0) (hline : b.stops.bad.contains line = false) :
    b.lineCheck 0 line = (b, false) := by
  unfold Block.lineCheck
  simp only [Block.inject_unarmed _ _ _ _ harm, hline, Nat.reduceEqDiff, Bool.false_eq_true, if_false]

/-- One line of a read: the block and the lines delivered with POISON so far. -/
def Block.lineRead (ma upset : Nat) (acc : Block × List Nat) (l : Nat) : Block × List Nat :=
  let b := acc.1.touchPage l
  if b.onLost l then (b, if (b.rebuilt l).isSome then acc.2 else acc.2 ++ [l])
  else
    let (b, p) := b.lineCheck (if l = 64 * (ma / 64) then upset else 0) l
    (b, if p then acc.2 ++ [l] else acc.2)

theorem Block.stopReadLines_eq {ma n : Nat} (upset : Nat) (hin : ma + n ≤ maEnd) :
    b.stopReadLines ma n upset =
      (((linesOf ma n).foldl (Block.lineRead ma upset) (b, [])).1,
        (List.range n).map (fun i => ((linesOf ma n).foldl (Block.lineRead ma upset) (b, [])).1.readByte (ma + i)),
        ((linesOf ma n).foldl (Block.lineRead ma upset) (b, [])).2) := by
  rw [Block.stopReadLines, if_neg (by omega)]
  rfl

/-- Sound lines are read one after the other; those of Stops that answer are delivered without POISON. -/
theorem Block.foldl_lineRead {ls : List Nat} (ma : Nat) (harm : b.rf 0x300044 15 0 = 0) (hbad : ∀ l ∈ ls, b.stops.bad.contains l = false) :
    ReadKept b (ls.foldl (Block.lineRead ma 0) (b, [])).1 ∧ (b.stops.lost = [] → (ls.foldl (Block.lineRead ma 0) (b, [])).2 = []) := by
  refine List.foldlRecOn (motive := fun acc : Block × List Nat => ReadKept b acc.1 ∧ (b.stops.lost = [] → acc.2 = [])) ls _
    ⟨readKept_refl b, fun _ => rfl⟩ fun acc hacc l hl => ?_
  obtain ⟨hkept, hnone⟩ := hacc
  have htouch := hkept.trans (acc.1.touchPage_readKept l)
  have hcheck := Block.lineCheck_sound (line := l) (htouch.unarmed harm) (by rw [htouch.bad]; exact hbad l hl)
  unfold Block.lineRead
  dsimp only
  split
  · next h => exact ⟨htouch, fun hlost => by simp [Block.onLost, htouch.lost, hlost] at h⟩
  · rw [ite_self, hcheck]
    exact ⟨htouch, hnone⟩

theorem Block.stopRead_kept {ma n : Nat} (harm : b.rf 0x300044 15 0 = 0) (hbad : ∀ l ∈ linesOf ma n, b.stops.bad.contains l = false) :
    ReadKept b (b.stopRead ma n).1 := by
  by_cases hin : ma + n ≤ maEnd
  · rw [Block.stopRead, b.stopReadLines_eq 0 hin]
    exact (Block.foldl_lineRead ma harm hbad).1
  · rw [Block.stopRead, Block.stopReadLines, if_pos (by omega)]
    exact (readKept_bump b (by simp)).trans ⟨rfl, rfl, rfl, fun _ _ => rfl⟩

/-- With every Stop answering, a read of sound lines delivers them as memory holds them. -/
theorem Block.stopRead_bytes {ma n : Nat} (harm : b.rf 0x300044 15 0 = 0) (hbad : ∀ l ∈ linesOf ma n, b.stops.bad.contains l = false)
    (hlost : b.stops.lost = []) (hin : ma + n ≤ maEnd) : (b.stopRead ma n).2 = (memRead b.mem ma n, false) := by
  obtain ⟨hkept, hnone⟩ := Block.foldl_lineRead ma harm hbad
  have hbyte : ∀ a, ((linesOf ma n).foldl (Block.lineRead ma 0) (b, [])).1.readByte a = memGet b.mem a := fun a => by
    simp [Block.readByte, Block.onLost, hkept.lost, hlost, hkept.mem]
  rw [Block.stopRead, b.stopReadLines_eq 0 hin]
  simp [hbyte, hnone hlost, memRead]

end

/-- A line of module memory is the one line that an access to it touches. -/
theorem linesOf_line {line : Nat} (h : line % 64 = 0) : linesOf line 64 = [line] := by
  have hone : (line + 64 - 1) / 64 - line / 64 + 1 = 1 := by omega
  have hline : 64 * (line / 64) = line := by omega
  rw [linesOf, if_neg (by decide), hone]
  simp [hline]

-- The pen (R84, R96)

/-- The pen starts at a line. -/
theorem Block.penBase_line (b : Block) (q : Nat) : b.penBase q % 64 = 0 := by
  have harea : 64 ∣ b.areaBytes q := by
    unfold Block.areaBytes
    dsimp only
    split
    · exact dvd_zero 64
    · exact Dvd.dvd.mul_left (by decide) _
  have hpen : 64 ∣ b.penBytes q := by
    unfold Block.penBytes
    rcases min_choice (2 ^ b.rf (qOff q 8) 10 8 * 2 ^ 20) (b.areaBytes q) with h | h <;> rw [h]
    · exact Dvd.dvd.mul_left (by decide) _
    · exact harea
  refine Nat.mod_eq_zero_of_dvd (dvd_add ?_ (Nat.dvd_sub harea hpen))
  exact Dvd.dvd.mul_left (by decide) _

theorem take_drop_memRead (m : List Host.Cell) (a : Nat) {n k i : Nat} (h : k + i ≤ n) :
    ((memRead m a n).drop k).take i = memRead m (a + k) i := by
  refine List.ext_getElem ?_ fun j h1 h2 => ?_
  · simp only [memRead, List.length_take, List.length_drop, List.length_map, List.length_range]
    omega
  · simp [memRead, Nat.add_assoc]

/-- A pen token and its ordinal as a slot holds them; none where USED is 0. -/
def penSlotToken (slot : List Byte) : Option (Token × Nat) :=
  if ((slot.drop 19).headD 0).toNat.testBit 0 then some (Token.ofBytes slot, ofBytes ((slot.drop 20).take 4)) else none

/-- The slots of a pen line, from one of its two on. -/
theorem penSlots_line (m : List Host.Cell) (base at_ : Nat) {n : Nat} (hn : n ≤ 2 - at_ % 2) :
    ((List.range n).filterMap fun i => penSlotToken (((memRead m (base + 64 * (at_ / 2)) 64).drop (32 * (at_ % 2 + i))).take 32)) =
      (List.range n).filterMap fun i => penSlotToken (memRead m (base + 32 * (at_ + i)) 32) := by
  refine List.filterMap_congr fun i hi => ?_
  have hi : i < n := List.mem_range.1 hi
  rw [take_drop_memRead _ _ (by omega), show base + 64 * (at_ / 2) + 32 * (at_ % 2 + i) = base + 32 * (at_ + i) by omega]

/-- A Plaza that has read n slots of its pen. -/
def Plaza.penRead (p : Plaza) (n : Nat) (got : List (Token × Nat)) : Plaza :=
  { p with penRd := p.penRd + n, penCount := p.penCount - n, penTokens := p.penTokens ++ got }

/-- PEN_READ_RETURN of a sound line within MA space: its slots, up to the notices received, give their tokens. -/
theorem penReadReturn_completes {s : State} {q : Fin 68} {slots at_ n line : Nat} (hawake : s.blk.qAwake q = true)
    (hcount : (s.blk.plz q).penCount ≠ 0) (hslots : slots = s.blk.penBytes q / 32) (hslots0 : slots ≠ 0)
    (hat : at_ = (s.blk.plz q).penRd % slots) (hn : n = min (s.blk.plz q).penCount (2 - at_ % 2))
    (hline : line = s.blk.penBase q + 64 * (at_ / 2)) (hend : line + 64 ≤ maEnd) (hsound : s.blk.stops.bad.contains line = false)
    (hlost : s.blk.stops.lost = []) (harm : s.blk.rf 0x300044 15 0 = 0) :
    ∃ c, ReadKept s.blk c ∧ Completes (.penReadReturn q 0) s (c.setPlz q ((s.blk.plz q).penRead n
      ((List.range n).filterMap fun i => penSlotToken (memRead s.blk.mem (s.blk.penBase q + 32 * (at_ + i)) 32)))) := by
  have hpen := s.blk.penBase_line q
  have hlines : ∀ l ∈ linesOf line 64, s.blk.stops.bad.contains l = false := by
    rw [linesOf_line (by omega)]
    simpa using hsound
  have hkept := Block.stopRead_kept harm hlines
  obtain ⟨c, hread⟩ : ∃ c, s.blk.stopRead line 64 = (c, memRead s.blk.mem line 64, false) :=
    ⟨_, Prod.ext rfl (Block.stopRead_bytes harm hlines hlost hend)⟩
  rw [hread] at hkept
  refine ⟨c, hkept, ?_⟩
  rw [← penSlots_line _ _ _ (n := n) (by omega), ← hline]
  unfold Completes
  show execPenReadReturn q 0 s = _
  rw [execPenReadReturn, act_eq]
  congr 2
  extract_lets p slots' at' n' line'
  have hgo : ¬ (p.penCount = 0 ∨ slots' = 0 ∨ (!s.blk.qAwake q) = true) := by
    simp [p, slots', hcount, hawake, ← hslots, hslots0]
  rw [if_neg hgo]
  have hat' : at' = at_ := by rw [hat, hslots]
  have hn' : n' = n := by rw [hn, ← hat']
  have hline' : line' = line := by rw [hline, ← hat']
  clear_value at' n' line'
  subst hat' hn' hline'
  rw [show s.blk.stopRead line' 64 ((0 : Fin 3) : Nat) = _ from hread]
  dsimp only
  rw [Block.plz_of_qs hkept.qs]
  rfl

theorem penTokenLookup_completes {s : State} {q : Fin 68} {tok : Token} {ord : Nat} {rest : List (Token × Nat)} {c : Block}
    (hawake : s.blk.qAwake q = true) (hrec : s.blk.ave.recovering = false) (hpen : (s.blk.plz q).penTokens = (tok, ord) :: rest)
    (hroll : s.blk.rollDiscards q tok = false) (hopen : (s.blk.plz q).opened = true) (hrel : (s.blk.releaseStart q).can = false)
    (hint : (s.blk.internalStart q).can = false) (hhold : s.blk.soHold q 4 tok = none)
    (hlook : (s.blk.setPlz q { s.blk.plz q with penTokens := rest }).look q tok ord = .done c) : Completes (.penTokenLookup q) s c := by
  have hhold' : (s.blk.setPlz q { s.blk.plz q with penTokens := rest }).soHold q 4 tok = none := by
    rw [← hhold]
    simp only [Block.soHold, Block.plz_setPlz_same, lt_irrefl, false_and, if_false]
  have hstart : s.blk.penStart q = .go c := by
    unfold Block.penStart
    simp only [hpen, hawake, hrec, hroll, hopen, hhold', hlook, Bool.not_true, Bool.or_self, Bool.false_eq_true, if_false]
  unfold Completes
  show execPenTokenLookup q s = _
  rw [execPenTokenLookup, act_eq]
  simp only [hrel, hint, hstart, Bool.or_self, Bool.false_eq_true, if_false]
  rfl

theorem penNotice_quarter {s : State} {q : Fin 68} (hnoted : (s.blk.plz q).noted ≠ 0) (hawake : s.blk.qAwake q = true) :
    Completes (.penNotice ⟨q, Nat.lt_of_lt_of_le q.isLt (by decide)⟩) s (s.blk.setPlz q
      { s.blk.plz q with noted := (s.blk.plz q).noted - 1, penCount := (s.blk.plz q).penCount + 1 }) := by
  have hq : ¬ 68 ≤ q.val := by omega
  unfold Completes
  show execPenNotice _ s = _
  rw [execPenNotice, act_eq]
  simp [hq, hnoted, hawake]

/-- A notice reaches a Gate, and the Colir Gate routes what it then can. -/
theorem penNotice_gate {s : State} {g : Fin 4} (hnoted : (s.blk.gate g).noted ≠ 0) :
    Completes (.penNotice ⟨68 + g, Nat.add_lt_add_left g.isLt 68⟩) s
      (let b := s.blk.setGate g { s.blk.gate g with noted := (s.blk.gate g).noted - 1, penCount := (s.blk.gate g).penCount + 1 }
       if g.val = 2 then b.colirDrain ((s.blk.gate g).inbox.length + 1 + (s.blk.gate g).penCount) else b) := by
  have hcolir : (68 + g.val = 70) = (g.val = 2) := by
    rw [eq_iff_iff]
    omega
  unfold Completes
  show execPenNotice _ s = _
  rw [execPenNotice, act_eq]
  simp only [Nat.le_add_right, if_true, Nat.add_sub_cancel_left, hnoted, if_false, hcolir]

theorem Block.gate_setGate_same (b : Block) (g : Nat) (x : GateBox) : (b.setGate g x).gate g = x := by
  simp [Block.gate]

/-- Settles O18: a notice adds to one count, a sound pen line is read as memory holds it, and a pen token is looked up in a block that
finds what the lookup finds before. -/
theorem penReads : Obligations.PenReads := by
  intro s q b p
  refine ⟨?quarter, ?gate, ?colir, ?read, ?lookup⟩
  case quarter =>
    intro hnoted hawake
    exact ⟨_, penNotice_quarter hnoted hawake, b.plz_setPlz_same q _, rfl, rfl⟩
  case gate =>
    intro g hg hnoted
    have hdone := penNotice_gate hnoted
    rw [if_neg hg] at hdone
    exact ⟨_, hdone, b.gate_setGate_same g _, rfl, rfl, rfl⟩
  case colir =>
    intro hnoted
    exact penNotice_gate (g := 2) hnoted
  case read =>
    intro slots at_ n line hawake hcount hslots hslots0 hat hn hline hend hsound hlost harm
    obtain ⟨c, hkept, hdone⟩ := penReadReturn_completes hawake hcount hslots hslots0 hat hn hline hend hsound hlost harm
    refine ⟨_, hdone, ?_, ?_, ?_, hkept.mem⟩ <;> rw [Block.plz_setPlz_same] <;> rfl
  case lookup =>
    intro tok ord rest v hawake hrec hpen hroll hopen hrel hint hhold hn hi
    have hsame : SameLookup q b (b.setPlz q { p with penTokens := rest }) :=
      .of_step (but := []) plazaStep_setPlz (List.not_mem_nil) rfl fun _ he => he
    obtain ⟨c, pipe, hc, hstep, -⟩ := Block.look_inserts ord (hsame.nodeIs hn) (hsame.inserts hi)
    refine ⟨c, penTokenLookup_completes hawake hrec hpen hroll hopen hrel hint hhold hc, ?_, ?_, hstep.mem.trans hsame.mem⟩
    · rw [hstep.plz, Block.plz_setPlz_same]
      rfl
    · rw [hstep.plz, Block.plz_setPlz_same]
      rfl

end Sys2Proof.Machine

/-! Tokens that waited: WAIT_TABLE_RELEASE, INTERNAL_LOOKUP, NODEMAP_WORD_RETURN and FIRE_BUFFER_DRAIN. -/

namespace Sys2Proof.Machine

section
variable {s : State} {q : Fin 68}

theorem waitTableRelease_completes {i : Nat} {w : WaitEntry} {c : Block} (hruns : s.blk.qRuns q = true) (hopen : (s.blk.plz q).opened = true)
    (hrel : (s.blk.plz q).releasable = some (i, w)) (hlane : w.lane ≠ 5)
    (hlook : (s.blk.setPlz q { s.blk.plz q with wait := (s.blk.plz q).wait.take i ++ (s.blk.plz q).wait.drop (i + 1) }).look q w.tok w.ord =
      .done c) : Completes (.waitTableRelease q) s c := by
  have hstart : s.blk.releaseStart q = .go c := by
    unfold Block.releaseStart
    simp only [hruns, hopen, hrel, hlane, hlook, Bool.not_true, Bool.or_self, Bool.false_eq_true, if_false]
  unfold Completes
  show execWaitTableRelease q s = _
  rw [execWaitTableRelease, act_eq, hstart]
  rfl

theorem internalLookup_completes {tag : W64} {rest : List W64} {c : Block} (hruns : s.blk.qRuns q = true)
    (hrec : s.blk.ave.recovering = false) (hfull : (s.blk.plz q).waitFull = false) (hint : (s.blk.plz q).internal = tag :: rest)
    (hopen : (s.blk.plz q).opened = true) (hrel : (s.blk.releaseStart q).can = false)
    (hlook : (s.blk.setPlz q { s.blk.plz q with internal := rest }).lookInternal q tag [] = .done c) :
    Completes (.internalLookup q) s c := by
  have hstart : s.blk.internalStart q = .go c := by
    unfold Block.internalStart
    simp only [hruns, hrec, hfull, hint, hopen, hlook, Bool.not_true, Bool.or_self, Bool.false_eq_true, if_false]
  unfold Completes
  show execInternalLookup q s = _
  rw [execInternalLookup, act_eq, hrel, hstart]
  rfl

/-- An entry that waits for a NODEMAP word. -/
def WaitEntry.forWord (e : WaitEntry) : Bool := match e.why with
  | .nodemap _ => true
  | _ => false

/-- A Plaza to which the word of a node has come: its cache holds the word, and the tokens that waited for it may be released. -/
def Plaza.wordCame (p : Plaza) (ctx node word : Nat) : Plaza :=
  { p with
    cache := cachePut p.cache ctx node word
    wait := p.wait.map fun e => if e.forWord && e.tok.ctx == ctx && tagNode e.tok.tag == node then { e with why := .ready } else e }

theorem nodemapWordReturn_completes {w : WaitEntry} {x : Ctx} (hwait : (s.blk.plz q).wait.find? WaitEntry.forWord = some w)
    (hctx : s.blk.ctx? w.tok.ctx = some x) :
    Completes (.nodemapWordReturn q) s ((s.blk.readNodemap x.desc.image (tagNode w.tok.tag)).setPlz q
      ((s.blk.plz q).wordCame w.tok.ctx (tagNode w.tok.tag) (s.blk.nodemap x.desc.image (tagNode w.tok.tag)))) := by
  unfold Completes
  show execNodemapWordReturn q s = _
  rw [execNodemapWordReturn, act_eq]
  congr 2
  extract_lets p waits
  rw [show p.wait.find? waits = some w from hwait]
  dsimp only
  rw [hctx]
  rfl

theorem Plaza.cached_wordCame (p : Plaza) (ctx node word : Nat) : (p.wordCame ctx node word).cached ctx node = some word := by
  unfold Plaza.cached Plaza.wordCame
  rw [find?_cachePut]
  rfl

/-- No token waits on for a word that has come. -/
theorem Plaza.wait_wordCame {p : Plaza} {ctx node word : Nat} {e : WaitEntry} (he : e ∈ (p.wordCame ctx node word).wait)
    (hctx : e.tok.ctx = ctx) (hnode : tagNode e.tok.tag = node) (a : Bool) : e.why ≠ .nodemap a := by
  obtain ⟨e0, -, rfl⟩ := List.mem_map.1 he
  split at hctx
  · next h => simp [h]
  · next h =>
    rw [if_neg h] at hnode ⊢
    intro hwhy
    simp [WaitEntry.forWord, hwhy, hctx, hnode] at h

theorem fireBufferDrain_completes {e : Nat × FirePacket} {rest : List (Nat × FirePacket)} (hruns : s.blk.qRuns q = true)
    (htake : takeFirst (fun e : Nat × FirePacket => decide (((s.blk.q q).pe e.1).fireq.length < 32)) (s.blk.plz q).fireBuf = some (e, rest)) :
    Completes (.fireBufferDrain q) s ((s.blk.setPlz q { s.blk.plz q with fireBuf := rest }).queueFire q e.1 e.2) := by
  unfold Completes
  show execFireBufferDrain q s = _
  rw [execFireBufferDrain, act_eq]
  simp only [hruns, htake, Bool.not_true, Bool.false_eq_true, if_false]

end

/-- A lookup in a block from which a waiting token has been taken finds what it finds before. -/
theorem sameLookup_waitTaken (b : Block) (q i : Nat) :
    SameLookup q b (b.setPlz q { b.plz q with wait := (b.plz q).wait.take i ++ (b.plz q).wait.drop (i + 1) }) :=
  .of_step (but := []) plazaStep_setPlz List.not_mem_nil rfl fun _ he =>
    (List.mem_append.1 he).elim List.mem_of_mem_take List.mem_of_mem_drop

theorem sameLookup_internalTaken (b : Block) (q : Nat) (rest : List W64) : SameLookup q b (b.setPlz q { b.plz q with internal := rest }) :=
  .of_step (but := []) plazaStep_setPlz List.not_mem_nil rfl fun _ he => he

/-- Settles O19: a released token and an internal lookup each find what they find before they leave their queue; the word that comes is the
cache's newest; a packet goes from the fire buffer to its PE. -/
theorem waitingTokens : Obligations.WaitingTokens := by
  intro s q b p
  refine ⟨?release, ?internal, ?word, ?drain⟩
  case release =>
    intro i w v hruns hopen hrel hlane hn hi
    have hsame := sameLookup_waitTaken b q i
    obtain ⟨c, pipe, hc, hstep, -⟩ := Block.look_inserts w.ord (hsame.nodeIs hn) (hsame.inserts hi)
    refine ⟨c, waitTableRelease_completes hruns hopen hrel hlane hc, ?_, ?_, hstep.mem.trans hsame.mem⟩ <;>
      rw [hstep.plz, Block.plz_setPlz_same] <;> rfl
  case internal =>
    intro tag rest v used o older n hruns hrec hfull hint hopen hrel hn hhere hmatch hlast hadm hmerge hsp hbuf hpe hroom
    have hsame := sameLookup_internalTaken b q rest
    obtain ⟨c, p', hc, hfired, hentries, hinternal⟩ := Block.lookInternal_fires (n := n) (hsame.nodeIs hn) (by rwa [hsame.here])
      (by rwa [hsame.here]) hlast (by rwa [hsame.admits]) hsp hmerge (by rwa [hsame.fireBuf]) (by rw [← hpe, hsame.quarter]; rfl)
      (by rw [Quarter.pe, hsame.pes]; exact hroom)
    refine ⟨c, internalLookup_completes hruns hrec hfull hint hopen hrel hc, ?_, ?_, ?_, hfired.mem.trans hsame.mem⟩
    · rw [hfired.plz, hinternal, Block.plz_setPlz_same]
    · rw [hfired.fireq, Quarter.pe, hsame.pes]
      rfl
    · rw [hfired.plz, hentries, hsame.entries]
  case word =>
    intro w x a hwait hwhy hctx
    refine ⟨_, nodemapWordReturn_completes hwait hctx, ?_, ?_, ?_, ?_, rfl, rfl⟩ <;> rw [Block.plz_setPlz_same]
    · exact Plaza.cached_wordCame ..
    · exact List.length_map _
    · exact fun e he hctx' hnode a => Plaza.wait_wordCame he hctx' hnode a
    · rfl
  case drain =>
    intro e rest hruns htake
    obtain ⟨hq, hrest⟩ := (b.setPlz q { p with fireBuf := rest }).queueFire_step q e.1 e.2
    have hpes : ((b.setPlz q { p with fireBuf := rest }).q q).pes = (b.q q).pes := by
      rw [Block.setPlz, Block.q_setQ_same]
    have hplz : ((b.setPlz q { p with fireBuf := rest }).queueFire q e.1 e.2).plz q = { p with fireBuf := rest } := by
      rw [Block.plz, hq]
      exact b.plz_setPlz_same q _
    refine ⟨_, fireBufferDrain_completes hruns htake, ?_, ?_, ?_, ?_⟩
    · rw [hplz]
    · rw [hq, Quarter.queued, Quarter.pe_setPe_same, Quarter.pe, hpes]
      rfl
    · rw [hplz]
    · rw [hrest]
      rfl

end Sys2Proof.Machine

/-! The Backstreet: SPILL_PARCEL_SEND, HOLDING_RETRY, SPILL_WRITE_ACK and BACKSTREET_WINDOW_RETURN. -/

namespace Sys2Proof.Machine

-- Spill attempts (R77, R87, R499)

/-- A register's field reads as it was written. -/
theorem Block.rf_setRf_same (b : Block) (off : Nat) {hi lo : Nat} (h : hi < 32) (v : Nat) :
    (b.setRf off hi lo v).rf off hi lo = v % 2 ^ (hi + 1 - lo) := by
  refine Nat.eq_of_testBit_eq fun n => ?_
  rw [Block.rf, Block.setRf, Block.reg_setReg_same, testBit_bits, Nat.testBit_mod_two_pow, Nat.testBit_mod_two_pow, testBit_setBits]
  by_cases hn : n < hi + 1 - lo
  · have hin : lo ≤ lo + n ∧ lo + n < hi + 1 := by omega
    have hword : lo + n < 32 := by omega
    simp [hn, hin, hword]
  · simp [hn]

section
variable {b : Block} {q : Nat} {k : SpillKey}

/-- A spill buffer with the entry of one key changed. -/
def Plaza.respilt (p : Plaza) (k : SpillKey) (f : SpillKey → SpillKey) : List SpillKey := p.spill.map fun x => if x = k then f x else x

/-- A key as its parcel is sent to some slots. -/
def SpillKey.sentTo (k : SpillKey) (slots : List Nat) : SpillKey := { k with sent := true, slots := slots, failed := false }

/-- The block once the operands of a parcel have been written to their slots. -/
def Block.parcelWritten (b : Block) (ops : List Operand) (slots : List Nat) : Block :=
  (ops.zip slots).foldl (fun b e => b.stopWrite e.2 (slotBytes e.1)) b

theorem Block.parcelWritten_frame (b : Block) (ops : List Operand) (slots : List Nat) : MemFrame b (b.parcelWritten ops slots) := by
  unfold Block.parcelWritten
  exact memFrame_foldl (f := fun b (e : Operand × Nat) => b.stopWrite e.2 (slotBytes e.1)) (fun c e => c.stopWrite_frame e.2 _) _ b

theorem Block.spillTry_room (hundo : b.undoFull q = false) (hfree : k.ops.length ≤ (b.freeInWindow q k.key).length) :
    let slots := (b.freeInWindow q k.key).take k.ops.length
    b.spillTry q k = (b.parcelWritten k.ops slots).setPlz q
      { b.plz q with bsOcc := (b.plz q).bsOcc + k.ops.length, spill := (b.plz q).respilt k fun x => x.sentTo slots } := by
  have hshort : ¬ (b.freeInWindow q k.key).length < k.ops.length := by omega
  have hplz := Block.plz_of_qs (b.parcelWritten_frame k.ops ((b.freeInWindow q k.key).take k.ops.length)).qs q
  unfold Block.parcelWritten at hplz
  unfold Block.spillTry
  simp only [hundo, hshort, hplz, Bool.false_eq_true, if_false, List.length_take, min_eq_left hfree]
  rfl

/-- A parcel of one operand: its slot holds the operand, and no other byte changes. -/
theorem Block.parcelWritten_one {o : Operand} {a : Nat} (hin : a + 32 ≤ maEnd) (hlost : b.stops.lost = []) (hok : b.memOk = true) :
    memRead (b.parcelWritten [o] [a]).mem a 32 = slotBytes o ∧
      ∀ x, x < a ∨ a + 32 ≤ x → memGet (b.parcelWritten [o] [a]).mem x = memGet b.mem x := by
  have hwf : Memory.wf b.mem = true := ((Block.memOk_iff b).1 hok).1
  have hlen := slotBytes_length o
  have hmem : (b.parcelWritten [o] [a]).mem = memWrite b.mem a (slotBytes o) := b.stopWrite_mem (by rw [hlen]; exact hin) hlost
  rw [hmem]
  refine ⟨?_, fun x hx => memGet_memWrite_out _ _ _ _ hwf (by omega)⟩
  have hread := memRead_memWrite b.mem a (slotBytes o) hwf
  rwa [hlen] at hread

/-- A key that finds too few free slots is held; its first failure sets BS_FULL's bit and raises its event (R87, R499). -/
theorem Block.spillTry_full (hundo : b.undoFull q = false) (hfree : (b.freeInWindow q k.key).length < k.ops.length) :
    (b.spillTry q k).plz q = { b.plz q with spill := (b.plz q).respilt k fun x => { x with failed := true } } ∧
    (k.failed = false → (b.spillTry q k).rf (qOff q 0xC) 0 0 = 1 ∧
      (b.spillTry q k).evc.raised = b.evc.raised ++ [{ src := 8, arg := q % 2 ^ 32, tag := none }]) ∧
    (b.spillTry q k).mem = b.mem := by
  unfold Block.spillTry
  simp only [hundo, hfree, Bool.false_eq_true, if_false, if_true]
  cases hfailed : k.failed
  · refine ⟨b.plz_setPlz_same q _, fun _ => ⟨?_, rfl⟩, rfl⟩
    exact Block.rf_setRf_same _ _ (by decide) 1
  · exact ⟨b.plz_setPlz_same q _, fun h => absurd h (by simp), rfl⟩

end

/-- A command that tries a key of a kind: SPILL_PARCEL_SEND one not sent and not held, HOLDING_RETRY a held one. -/
theorem spillTry_completes {s : State} {q : Fin 68} {e : Instr × (SpillKey → Bool)} {k : SpillKey}
    (he : e ∈ ([(.spillParcelSend q, fun x => !x.sent && !x.failed), (.holdingRetry q, fun x => !x.sent && x.failed)] :
      List (Instr × (SpillKey → Bool))))
    (hfind : (s.blk.plz q).spill.find? e.2 = some k) (hret : s.blk.retired.contains q.val = false) :
    Completes e.1 s (s.blk.spillTry q k) := by
  unfold Completes
  simp only [List.mem_cons, List.not_mem_nil, or_false] at he
  rcases he with rfl | rfl
  · show execSpillParcelSend q s = _
    rw [execSpillParcelSend, act_eq, hfind]
    simp only [hret, Bool.false_eq_true, if_false]
  · show execHoldingRetry q s = _
    rw [execHoldingRetry, act_eq, hfind]
    simp only [hret, Bool.false_eq_true, if_false]

-- SPILL_WRITE_ACK (R77, R80)

/-- A parcel none of whose operands has been taken leaves the spill buffer; the filter alone can change with it. -/
theorem spillWriteAck_completes {s : State} {q : Fin 68} {k : SpillKey} {rest : List SpillKey}
    (htake : takeFirst (fun x : SpillKey => x.sent) (s.blk.plz q).spill = some (k, rest)) (hnone : k.taken = [])
    (hret : s.blk.retired.contains q.val = false) :
    ∃ c filter, Completes (.spillWriteAck q) s c ∧
      PlazaStep [] q { s.blk.plz q with spill := rest, filter := filter } s.blk c := by
  have hfree : PlazaStep [] q { s.blk.plz q with spill := rest } s.blk ((s.blk.setPlz q { s.blk.plz q with spill := rest }).freeSlots q []) := by
    have h := (plazaStep_setPlz (but := []) (q := q) (p := { s.blk.plz q with spill := rest }) (b := s.blk)).setPlz
      { s.blk.plz q with spill := rest }
    unfold Block.freeSlots
    simpa only [Block.plz_setPlz_same, List.foldl_nil, List.length_nil, Nat.sub_zero] using h
  generalize hc : (s.blk.setPlz q { s.blk.plz q with spill := rest }).freeSlots q [] = c at hfree
  have hdown : FilterStep q c (if k.ops.isEmpty = true then c.filterDown q k.key else c) := by
    split
    · exact c.filterDown_step q _
    · exact filterStep_refl q c
  obtain ⟨filter, hstep⟩ := hdown.trans (Block.filterReset_step _ q)
  rw [hfree.plz] at hstep
  refine ⟨_, filter, ?_, hfree.trans hstep⟩
  unfold Completes
  show execSpillWriteAck q s = _
  rw [execSpillWriteAck, act_eq]
  simp only [htake, hret, hnone, hc, Bool.false_eq_true, if_false]

-- BACKSTREET_WINDOW_RETURN (R81, R90)

/-- Without operands no position is matched. -/
theorem pickOps_nil {ps : List Nat} (h : ps ≠ []) : pickOps [] ps = none := by
  cases ps with
  | nil => exact absurd rfl h
  | cons p ps => rfl

/-- A node with more than one dynamic position needs operands beside that of a token for one of them. -/
theorem NodeView.dyn_others {v : NodeView} {pos : Nat} (hpos : pos < v.n) (hsp : pos ≠ v.sp) (hlen : v.dyn.length ≠ 1) :
    v.dyn.filter (fun x => x ≠ pos) ≠ [] := by
  intro h
  have hall : ∀ x ∈ v.dyn, x = pos := by simpa using h
  have hmem : pos ∈ v.dyn := List.mem_filter.2 ⟨List.mem_range.2 hpos, by simpa using hsp⟩
  have hnodup : v.dyn.Nodup := List.nodup_range.filter _
  rw [List.eq_replicate_of_mem hall, List.nodup_replicate] at hnodup
  have := List.length_pos_of_mem hmem
  omega

section
variable {b t : Block}

/-- What the Stops deliver is the same while memory, the Stops that answer, the sound lines and the places of the journal and the store
are. -/
theorem Block.nodemap_of_same (hmem : t.mem = b.mem) (hlost : t.stops.lost = b.stops.lost) (hbad : t.stops.bad = b.stops.bad)
    (hreg : ∀ off, 0xB00300 ≤ off → t.reg off = b.reg off) (image node : Nat) : t.nodemap image node = b.nodemap image node := by
  have hlostAt : t.onLost = b.onLost := by
    funext a
    rw [Block.onLost, Block.onLost, hlost]
  have hbase : t.parityBase = b.parityBase := by
    funext a
    simp only [Block.parityBase, Block.rf, hreg _ (show 0xB00300 ≤ 0x1100214 by decide), hreg _ (show 0xB00300 ≤ 0x1100218 by decide),
      hreg _ (show 0xB00300 ≤ 0x110021C by decide), hreg _ (show 0xB00300 ≤ 0x1100220 by decide)]
  have hbyte : t.readByte = b.readByte := by
    funext a
    simp only [Block.readByte, Block.rebuilt, hlostAt, hbase, hbad, hmem]
  have hload : t.loadBytes = b.loadBytes := by
    funext a n
    rw [Block.loadBytes, Block.loadBytes, hbyte]
  have hle : t.loadLe = b.loadLe := by
    funext a n
    rw [Block.loadLe, Block.loadLe, hload]
  simp only [Block.nodemap, Block.sections, Block.image, hload, hle, hmem]

end

/-- A window is read line by line. The window's lines stay opaque here: the kernel, comparing two forms of the read, would compute them. -/
theorem Block.readWindow_kept {b : Block} (q k : Nat) (hbad : b.stops.bad = []) (harm : b.rf 0x300044 15 0 = 0) :
    ReadKept b (b.readWindow q k).1 := by
  obtain ⟨window, hwindow⟩ : ∃ f, f = @Block.window := ⟨_, rfl⟩
  obtain ⟨readWindow, hread⟩ : ∃ f, f = @Block.readWindow := ⟨_, rfl⟩
  rw [← hread]
  delta Block.readWindow at hread
  rw [← hwindow] at hread
  subst hread
  beta_reduce
  extract_lets last mineYet
  generalize hr : List.foldl _ _ _ = r
  have hkept : ReadKept b r.1 := by
    rw [← hr]
    refine List.foldlRecOn (motive := fun acc : Block × List (Operand × Nat) => ReadKept b acc.1) _ _ (readKept_refl b)
      fun acc hacc l _ => ?_
    have hread := hacc.trans (Block.stopRead_kept (ma := l) (n := 64) (hacc.unarmed harm) (by simp [hacc.bad, hbad]))
    generalize acc.1.stopRead l 64 = out at hread ⊢
    obtain ⟨c, bs, bad⟩ := out
    dsimp only
    split
    · exact hread
    · exact hread
  obtain ⟨c, ss⟩ := r
  exact hkept

/-- A parked token of an active context is an operand for a dynamic position of a node with others, nothing of its key lies in the Plaza, and
its set has room. -/
structure Block.ParkedAlone (b : Block) (q : Nat) (w : WaitEntry) (v : NodeView) : Prop where
  state : b.tokenState w.tok.ctx = 1
  view : ∃ x, b.ctx? w.tok.ctx = some x ∧
    (b.q q).node (((b.plz q).cached w.tok.ctx (tagNode w.tok.tag)).getD (b.nodemap x.desc.image (tagNode w.tok.tag))) = some v
  lane : w.lane ≠ 5
  kind : w.tok.kind ≠ 9
  pos : v.pos w.tok < v.n
  sp : v.pos w.tok ≠ v.sp
  dyn : v.dyn.length ≠ 1
  here : (b.plz q).here (keyOf w.tok.tag) = []
  spilt : (b.plz q).spilt (keyOf w.tok.tag) = []
  room : ((b.plz q).entries.filter fun o => setOf o.key = setOf (keyOf w.tok.tag)).length < 8

/-- A parked operand of whose key nothing is found anywhere is inserted (R81). -/
theorem Block.settleWindow_inserts {b : Block} {q : Nat} {w : WaitEntry} {v : NodeView} (h : b.ParkedAlone q w v) :
    ∃ c, b.settleWindow q (keyOf w.tok.tag) w [] = some (c, []) ∧
      PlazaStep (insertRegs q) q ((b.plz q).inserted w.tok (v.pos w.tok) w.ord) b c := by
  obtain ⟨hst, ⟨x, hctx, hview⟩, hlane, hkind, hpos, hsp, hdyn, hhere, hspilt, hroom⟩ := h
  have hpos' : ¬ v.n ≤ v.pos w.tok := by omega
  have hothers := pickOps_nil (NodeView.dyn_others hpos hsp hdyn)
  have hfound : (b.plz q).found (keyOf w.tok.tag) = [] := by simp [Plaza.found, hhere, hspilt]
  have hfree : PlazaStep (insertRegs q) q (b.plz q) b (b.freeSlots q []) := plazaStep_setPlz
  obtain ⟨c, hc, hstep, -⟩ := Block.lookLocal_inserts (b := b.freeSlots q []) (q := q) (v := v) (t := w.tok) w.ord
    (by rw [hfree.plz]; exact .inr hspilt) (by rw [hfree.plz, hfound]; exact hothers) (by rw [hfree.plz]; exact hroom)
  rw [hfree.plz] at hstep
  refine ⟨c, ?_, hfree.trans hstep⟩
  unfold Block.settleWindow
  simp only [hctx, hview, hst, hlane, hkind, hpos', hsp, hothers, hc, if_false, List.map_nil, List.isEmpty_nil, true_or, if_true]

/-- The block once an empty window has come back after some cycles, with the Plaza as it then is (R78, R81). -/
def Block.windowEmpty (b : Block) (q cycles : Nat) (p : Plaza) : Block :=
  let b := b.bump (plzCnt q 6)
  (b.setReg (qOff q 0x1C) ((min cycles 65535 <<< 16) + max (min cycles 65535) (b.rf (qOff q 0x1C) 15 0))).setPlz q p

/-- The registers that an empty window touches. -/
def windowRegs (q : Nat) : List Nat := [plzCnt q 6, qOff q 0x1C]

theorem Block.windowEmpty_step (b : Block) (q cycles : Nat) (p : Plaza) : PlazaStep (windowRegs q) q p b (b.windowEmpty q cycles p) := by
  have hcount : PlazaStep (windowRegs q) q (b.plz q) b (b.bump (plzCnt q 6)) := plazaStep_refl.bump (by simp [windowRegs])
  exact (hcount.setReg _ (by simp [windowRegs])).setPlz p

/-- An empty window is counted as FILTER_FALSE. -/
theorem Block.windowEmpty_count (b : Block) (q cycles : Nat) (p : Plaza) :
    (b.windowEmpty q cycles p).reg (plzCnt q 6) = satAdd (b.reg (plzCnt q 6)) 1 := by
  unfold Block.windowEmpty
  rw [Block.setPlz_reg, Block.reg_setReg_ne _ _ (by simp [plzCnt]), Block.reg_bump_one]

/-- The latency of the last read stands in the upper half of its register. -/
theorem Block.windowEmpty_latency (b : Block) (q cycles : Nat) (p : Plaza) :
    (b.windowEmpty q cycles p).rf (qOff q 0x1C) 31 16 = min cycles 65535 := by
  have hlat : min cycles 65535 < 2 ^ 16 := by omega
  have hpeak : max (min cycles 65535) ((b.bump (plzCnt q 6)).rf (qOff q 0x1C) 15 0) < 2 ^ 16 := max_lt hlat (Nat.mod_lt _ (by decide))
  unfold Block.windowEmpty
  rw [Block.rf, Block.setPlz_reg, Block.reg_setReg_same, bits, Nat.shiftLeft_eq, Nat.shiftRight_eq_div_pow]
  generalize max (min cycles 65535) _ = peak at hpeak
  generalize min cycles 65535 = lat at hlat
  omega

/-- The window of a waiting token can come back: its read is outstanding, or the spill buffer has room for a read put off. -/
def Plaza.windowDue (p : Plaza) (w : WaitEntry) : Bool := match w.why with
  | .window _ asked => asked || (decide (p.spillUsed < 32) && !p.holding)
  | _ => false

/-- A key asked for and not found: its only waiting token is settled against nothing. -/
theorem backstreetWindowReturn_completes {s : State} {q : Fin 68} {cycles k : Nat} {w : WaitEntry} {p : Plaza} {c d : Block}
    (hruns : s.blk.qRuns q = true) (hfind : (s.blk.plz q).wait.find? (s.blk.plz q).windowDue = some w)
    (hwhy : w.why = .window k true) (htake : (s.blk.plz q).takeWaiting k = ([w], p)) (hread : s.blk.readWindow q k = (c, []))
    (hqs : c.qs = s.blk.qs) (hsettle : (c.windowEmpty q cycles p).settleWindow q k w [] = some (d, [])) :
    Completes (.backstreetWindowReturn q cycles) s (d.setPlz q (d.plz q)) := by
  have hall : (c.windowEmpty q cycles p).settleAll q k [w] [] = (d, []) := by
    rw [Block.settleAll, hsettle]
    rfl
  unfold Block.windowEmpty at hall
  dsimp only at hall
  have hplz (x v y : Nat) : ((c.bump x).setReg y v).plz q = s.blk.plz q := by
    rw [← Block.plz_of_qs hqs q]
    exact Block.plz_of_qs (Block.bump_qs c x 1) q
  obtain ⟨readWindow, hrw⟩ : ∃ f, f = @Block.readWindow := ⟨_, rfl⟩
  unfold Completes
  show execBackstreetWindowReturn q cycles s = _
  rw [← hrw] at hread
  rw [execBackstreetWindowReturn, act_eq, ← hrw]
  congr 2
  extract_lets +onlyGivenNames p1 room
  split
  · next hnone => exact absurd (hfind.symm.trans hnone) (by simp)
  · next w' hsome =>
    obtain rfl : w = w' := Option.some.inj (hfind.symm.trans hsome)
    rw [if_neg (by simp [hruns])]
    split
    next k' asked hmatch =>
    rw [hwhy] at hmatch
    obtain ⟨rfl, rfl⟩ : k = k' ∧ true = asked := by simpa using hmatch
    simp only [if_true, hread, hplz, htake, hall, List.isEmpty_nil, List.append_nil, List.take_append_drop]

/-- Only the wait table loses the tokens taken out of it. -/
theorem Plaza.takeWaiting_rest {p p' : Plaza} {k : Nat} {ws : List WaitEntry} (h : p.takeWaiting k = (ws, p')) :
    p' = { p with wait := p'.wait } := by
  rw [← (Prod.mk.inj h).2]

/-- An empty window leaves what its parked token meets. -/
theorem Block.ParkedAlone.windowEmpty {b c : Block} {q cycles : Nat} {w : WaitEntry} {v : NodeView} {p : Plaza} (h : b.ParkedAlone q w v)
    (hq : q < 68) (hkept : ReadKept b c) (hp : p = { b.plz q with wait := p.wait }) : (c.windowEmpty q cycles p).ParkedAlone q w v := by
  obtain ⟨hst, ⟨x, hctx, hview⟩, hlane, hkind, hpos, hsp, hdyn, hhere, hspilt, hroom⟩ := h
  have hstep := c.windowEmpty_step q cycles p
  have hquarter : (c.windowEmpty q cycles p).q q = { b.q q with plaza := p } := by
    rw [hstep.quarter, Block.q_of_qs hkept.qs]
  have hdisp : (c.windowEmpty q cycles p).disp = b.disp := hstep.disp.trans hkept.disp
  have hmap : ∀ image node, (c.windowEmpty q cycles p).nodemap image node = b.nodemap image node := fun image node => by
    refine Block.nodemap_of_same (hstep.mem.trans hkept.mem) ?_ ?_ (fun off hoff => ?_) image node
    · rw [hstep.rest]; exact hkept.lost
    · rw [hstep.rest]; exact hkept.bad
    · rw [hstep.reg, hkept.reg (.inr hoff)]
      simp only [windowRegs, plzCnt, qOff, List.mem_cons, List.not_mem_nil, or_false, not_or]
      omega
  refine ⟨(Block.tokenState_of_disp hdisp _).trans hst, ⟨x, ?_, ?_⟩, hlane, hkind, hpos, hsp, hdyn, ?_, ?_, ?_⟩
  · rw [Block.ctx?, hdisp]; exact hctx
  · rw [hquarter, hstep.plz, hmap, hp]; exact hview
  · rw [hstep.plz, hp]; exact hhere
  · rw [hstep.plz, hp]; exact hspilt
  · rw [hstep.plz, hp]; exact hroom

/-- BACKSTREET_WINDOW_RETURN of a key found nowhere, whose only waiting token is an operand: the token is inserted. -/
theorem backstreetWindowReturn_inserts {s : State} {q : Fin 68} {w : WaitEntry} {p : Plaza} {v : NodeView} (cycles : Nat)
    (hruns : s.blk.qRuns q = true) (hfind : (s.blk.plz q).wait.find? (s.blk.plz q).windowDue = some w)
    (hwhy : w.why = .window (keyOf w.tok.tag) true) (htake : (s.blk.plz q).takeWaiting (keyOf w.tok.tag) = ([w], p))
    (hempty : (s.blk.readWindow q (keyOf w.tok.tag)).2 = []) (hbad : s.blk.stops.bad = []) (harm : s.blk.rf 0x300044 15 0 = 0)
    (halone : s.blk.ParkedAlone q w v) :
    ∃ c d, ReadKept s.blk c ∧ PlazaStep (insertRegs q) q (p.inserted w.tok (v.pos w.tok) w.ord) (c.windowEmpty q cycles p) d ∧
      Completes (.backstreetWindowReturn q cycles) s d := by
  have hkept := Block.readWindow_kept q (keyOf w.tok.tag) hbad harm
  obtain ⟨c, hread⟩ : ∃ c, s.blk.readWindow q (keyOf w.tok.tag) = (c, []) := ⟨_, Prod.ext rfl hempty⟩
  rw [hread] at hkept
  obtain ⟨d, hsettle, hin⟩ := Block.settleWindow_inserts
    (halone.windowEmpty (cycles := cycles) q.isLt hkept (Plaza.takeWaiting_rest htake))
  rw [(c.windowEmpty_step q cycles p).plz] at hin
  have hdone := backstreetWindowReturn_completes hruns hfind hwhy htake hread hkept.qs hsettle
  rw [hin.plz] at hdone
  exact ⟨c, _, hkept, hin.setPlz _, hdone⟩

/-- Settles O20: a parcel is written to the free slots of its key's window or held, an acknowledged parcel leaves the spill buffer, and a token
whose key an empty window does not hold is inserted. -/
theorem backstreet : Obligations.Backstreet := by
  intro s q b p
  have hq : q.val % 2 ^ 32 = q.val := Nat.mod_eq_of_lt (by omega)
  refine ⟨fun e he k hfind hret hundo => ⟨?room, ?full⟩, ?ack, ?window⟩
  case room =>
    intro hfree
    have hdone := spillTry_completes he hfind hret
    rw [Block.spillTry_room hundo hfree] at hdone
    refine ⟨_, hdone, ?_, ?_, ?_⟩
    · rw [Block.plz_setPlz_same]
    · rw [Block.plz_setPlz_same]
      rfl
    · intro o a rest hops hslots hin hlost hok
      rw [Block.setPlz_mem, hops, hslots, List.length_singleton, List.take_succ_cons, List.take_zero]
      exact Block.parcelWritten_one hin hlost hok
  case full =>
    intro hfree
    obtain ⟨hplz, hfirst, hmem⟩ := Block.spillTry_full hundo hfree
    rw [hq] at hfirst
    exact ⟨_, spillTry_completes he hfind hret, by rw [hplz]; rfl, hfirst, hmem⟩
  case ack =>
    intro k rest htake hnone hret
    obtain ⟨c, filter, hdone, hstep⟩ := spillWriteAck_completes htake hnone hret
    refine ⟨c, hdone, ?_, ?_, ?_, hstep.mem⟩ <;> rw [hstep.plz]
  case window =>
    intro cycles w p' x v hruns hfind hwhy htake hempty hlane hst hctx hbad harm hview hpos hsp hdyn hkind hhere hspilt hroom
    obtain ⟨c, t, hkept, hin, hdone⟩ := backstreetWindowReturn_inserts cycles hruns hfind hwhy htake hempty hbad harm
      ⟨hst, ⟨x, hctx, hview⟩, hlane, hkind, hpos, hsp, hdyn, hhere, hspilt, hroom⟩
    refine ⟨t, hdone, ?_, ?_, ?_, ?_, ?_⟩
    · rw [hin.reg (by simp [insertRegs, plzCnt]), c.windowEmpty_count, hkept.reg (.inl (by simp only [plzCnt, qOff]; omega))]
    · have hlat : t.reg (qOff q 0x1C) = _ := hin.reg (by simp [insertRegs, plzCnt])
      rw [Block.rf, hlat]
      exact c.windowEmpty_latency q cycles p'
    · rw [hin.plz]
      rfl
    · rw [hin.plz, Plaza.takeWaiting_rest htake]
      rfl
    · rw [hin.mem, (c.windowEmpty_step q cycles p').mem, hkept.mem]

end Sys2Proof.Machine

/-! Words in the lanes: LANE_WORD_ARRIVE, LANE_SWAP, LANE_FLUSH and LANE_FLUSH_EFFECT. -/

namespace Sys2Proof.Machine

-- A lane and its banks (R104, R108)

theorem Quarter.lane_setLane_ne (q : Quarter) {i j : Nat} (l : Lane) (h : i ≠ j) : (q.setLane j l).lane i = q.lane i := by
  simp [Quarter.lane, Quarter.setLane, SMap.get_put_ne _ _ _ h]

theorem Block.q_putLane (b : Block) (q j : Nat) (l : Lane) : (b.putLane q j l).q q = (b.q q).setLane j l := by
  rw [Block.q_of_qs (b.putLane_frame q j l).qs, Block.q_setQ_same]

theorem Block.lane_putLane (b : Block) (q j : Nat) (l : Lane) : ((b.putLane q j l).q q).lane j = l := by
  rw [b.q_putLane, Quarter.lane_setLane_same]

theorem Lane.push_fill (l : Lane) (w : LaneWord) : (l.push w).fill = l.fill ++ [{ w with par := w.tok.parity }] := by
  unfold Lane.push Lane.fill
  cases l.drainB <;> rfl

theorem Lane.push_drain (l : Lane) (w : LaneWord) : (l.push w).drain = l.drain := by
  unfold Lane.push Lane.drain
  cases l.drainB <;> rfl

/-- A lane whose banks have changed places. -/
def Lane.swapped (l : Lane) : Lane := { l with drainB := !l.drainB }

theorem Lane.swapped_drain (l : Lane) : l.swapped.drain = l.fill := by
  unfold Lane.swapped Lane.drain Lane.fill
  cases l.drainB <;> rfl

theorem Lane.swapped_fill (l : Lane) : l.swapped.fill = l.drain := by
  unfold Lane.swapped Lane.drain Lane.fill
  cases l.drainB <;> rfl

/-- A lane whose flush has taken effect: a producer part-way through an item skips to its END, and a consumer part-way through one is owed
its closing word (R109, R110). -/
def Lane.flushed (l : Lane) : Lane :=
  { l with
    a := []
    b := []
    flush := false
    skip := l.skip || l.prodMid
    prodMid := false
    consMid := none
    closing := match l.consMid with
      | some pt => some { tok := { value := 0, tag := 0, ctrl := mkCtrl 0 0 true true false 0 0 }, pt := pt }
      | none => l.closing }

-- LANE_WORD_ARRIVE (R104, R427)

/-- A block once the word that arrives for lane j has left the buffer of its Crossing, whose place is free again. -/
def Block.arrivalTaken (b : Block) (q j : Nat) (rest : List Arrival) : Block :=
  let xy := xyOf q
  let x := SMap.get b.ave.xings Crossing.empty (xk xy.1 xy.2)
  let x := { x with freed := SMap.upd x.freed 0 (4 * 4 + (if j = 8 then 1 else 0)) (· + 1) }
  { b.setQ q { b.q q with arriving := rest } with ave := { b.ave with xings := SMap.put b.ave.xings (xk xy.1 xy.2) x } }

/-- A block once the word that arrives for lane j has been taken and, for a VC0 lane, copied into its channel record. -/
def Block.arrivalRecorded (b : Block) (q j : Nat) (a : Arrival) (rest : List Arrival) : Block :=
  if j ≤ 3 then (b.arrivalTaken q j rest).chanCopy q a.word.tok (senderOf a.word.pt) else b.arrivalTaken q j rest

theorem Block.q_arrivalRecorded (b : Block) (q j : Nat) (a : Arrival) (rest : List Arrival) :
    (b.arrivalRecorded q j a rest).q q = { b.q q with arriving := rest } := by
  have hqs : (b.arrivalRecorded q j a rest).qs = (b.setQ q { b.q q with arriving := rest }).qs := by
    unfold Block.arrivalRecorded
    split
    · exact Block.chanCopy_qs ..
    · rfl
  rw [Block.q_of_qs hqs, Block.q_setQ_same]

theorem Block.mem_arrivalRecorded (b : Block) (q j : Nat) (a : Arrival) (rest : List Arrival) :
    (b.arrivalRecorded q j a rest).mem = b.mem := by
  unfold Block.arrivalRecorded
  split
  · exact Block.chanCopy_mem ..
  · rfl

section
variable {s : State} {q : Fin 68}

theorem laneWordArrive_completes {lane : Fin 9} {a : Arrival} {rest : List Arrival} (h7 : lane.val ≠ 7)
    (htake : takeFirst (fun a => a.lane == lane.val) (s.blk.q q).arriving = some (a, rest)) (hret : s.blk.retired.contains q.val = false)
    (hawake : lane.val ≤ 3 → s.blk.distLevel (distOf q) = 0) (hfull : ((s.blk.q q).lane lane).full = false)
    (hskip : ((s.blk.q q).lane lane).skip = false) (hroll : s.blk.cont.roll = none) :
    Completes (.laneWordArrive q lane) s
      ((s.blk.arrivalRecorded q lane a rest).putLane q lane (((s.blk.q q).lane lane).push a.word)) := by
  have hopen : ¬ (lane.val ≤ 3 ∧ s.blk.distLevel (distOf q) ≠ 0) := fun ⟨hle, hne⟩ => hne (hawake hle)
  have hkept : (s.blk.arrivalTaken q lane rest).rollDiscards q a.word.tok = false := by
    unfold Block.rollDiscards
    rw [show (s.blk.arrivalTaken q lane rest).cont.roll = none from hroll]
  unfold Completes
  show execLaneWordArrive q lane s = _
  rw [execLaneWordArrive, act_eq]
  unfold Block.arrivalTaken at hkept
  simp only [hret, h7, htake, hopen, hfull, hskip, hkept, Bool.and_false, Bool.false_eq_true, false_and, or_self, if_false]
  rfl

theorem laneWordArrive_vc1_completes {w : LaneWord} {ws : List LaneWord} (hout : (s.blk.q q).vc1Out = w :: ws)
    (hret : s.blk.retired.contains q.val = false) (hfull : ((s.blk.q q).lane 7).full = false) (hskip : ((s.blk.q q).lane 7).skip = false) :
    Completes (.laneWordArrive q 7) s
      ((s.blk.setQ q { s.blk.q q with vc1Out := ws }).putLane q 7 (((s.blk.q q).lane 7).push w)) := by
  unfold Completes
  show execLaneWordArrive q 7 s = _
  rw [execLaneWordArrive, act_eq]
  simp only [show (7 : Fin 9).val = 7 from rfl, hret, hout, hfull, hskip, Bool.false_eq_true, if_false, if_true]
  rfl

-- LANE_SWAP (R104)

theorem laneSwap_completes {lane : Fin 9} (hawake : s.blk.qAwake q = true) (hdrain : ((s.blk.q q).lane lane).drain = [])
    (hfill : ((s.blk.q q).lane lane).fill ≠ []) :
    Completes (.laneSwap q lane) s (s.blk.setQ q ((s.blk.q q).setLane lane ((s.blk.q q).lane lane).swapped)) := by
  have hret : s.blk.retired.contains q.val = false := by
    simp only [Block.qAwake, Bool.and_eq_true, Bool.not_eq_true'] at hawake
    obtain ⟨⟨⟨⟨hret, -⟩, -⟩, -⟩, -⟩ := hawake
    exact hret
  have hword : (((s.blk.q q).lane lane).fill).isEmpty = false := by simpa using hfill
  unfold Completes
  show execLaneSwap q lane s = _
  rw [execLaneSwap, act_eq]
  simp only [hawake, hdrain, hword, hret, List.isEmpty_nil, Bool.not_true, Bool.not_false, Bool.false_eq_true, and_false, and_self,
    if_false, if_true]
  rfl

-- LANE_FLUSH (R100, R108)

theorem laneFlush_completes (lane : Fin 8) (hup : s.blk.up = true) : Completes (.laneFlush q lane) s (s.blk.askFlush q lane) :=
  completes_of_actUp (f := fun b => b.askFlush q lane) rfl hup

end

/-- A flush asked for leaves every register, and marks the lane and, with lane 3, the VC1 pair. -/
theorem Block.askFlush_effect {b : Block} {q j : Nat} (hj : j ≠ 8) (hret : b.retired.contains q = false) :
    (((b.askFlush q j).q q).lane j).flush = true ∧ (j = 3 → (((b.askFlush q j).q q).lane 8).flush = true) ∧
      (b.askFlush q j).regs = b.regs := by
  unfold Block.askFlush
  rw [hret, if_neg Bool.false_ne_true, Block.q_setQ_same]
  refine ⟨?_, fun h3 => ?_, rfl⟩
  · split
    · rw [Quarter.lane_setLane_ne _ _ hj, Quarter.lane_setLane_same]
    · rw [Quarter.lane_setLane_same]
  · rw [if_pos h3, Quarter.lane_setLane_same]

-- LANE_FLUSH_EFFECT (R108 to R111)

theorem countsFrame_foldl_discard (q : Nat) (ws : List LaneWord) (b : Block) :
    CountsFrame b (ws.foldl (fun b w => if w.tok.last then b.discard q w.tok else b) b) :=
  List.foldlRecOn ws _ (countsFrame_refl b) fun c hc w _ => by
    split
    · exact hc.trans (c.consume_frame q w.tok.ctx 1)
    · exact hc

/-- A pair's flush counts the words of its two banks and their consumption, and puts the emptied lane back. -/
theorem Block.flushPair_putLane (b : Block) (q j : Nat) :
    ∃ c, CountsFrame (b.bump (laneReg q j 20) (((b.q q).lane j).a ++ ((b.q q).lane j).b).length) c ∧
      b.flushPair q j = c.putLane q j ((b.q q).lane j).flushed := by
  refine ⟨_, ?_, rfl⟩
  split
  · exact countsFrame_refl _
  · exact countsFrame_foldl_discard q _ _

theorem Block.q_flushPair (b : Block) (q j : Nat) : (b.flushPair q j).q q = (b.q q).setLane j ((b.q q).lane j).flushed := by
  obtain ⟨c, hcounts, h⟩ := b.flushPair_putLane q j
  have hqs : c.qs = b.qs := by rw [hcounts, Block.bump_qs]
  rw [h, Block.q_putLane, Block.q_of_qs hqs]

theorem satAdd_lt (x n : Nat) : satAdd x n < 2 ^ 32 := by
  unfold satAdd
  omega

/-- A register below 2^32 takes whatever is added to it, nothing included. -/
theorem Block.reg_bump_same {b : Block} {off : Nat} (n : Nat) (h : b.reg off < 2 ^ 32) : (b.bump off n).reg off = satAdd (b.reg off) n := by
  by_cases hn : n = 0
  · subst hn
    simp only [Block.bump, if_true, satAdd]
    omega
  · exact b.reg_bump off hn

/-- The counter of discarded words is no level register. -/
theorem discards_notMem_levelRegs (q j : Nat) : laneReg q j 20 ∉ levelRegs q j := by
  simp [levelRegs, laneReg, qOff]

theorem Block.reg_flushPair {b : Block} {q j : Nat} (h : b.reg (laneReg q j 20) < 2 ^ 32) :
    (b.flushPair q j).reg (laneReg q j 20) =
      satAdd (b.reg (laneReg q j 20)) (((b.q q).lane j).a.length + ((b.q q).lane j).b.length) := by
  obtain ⟨c, hcounts, hput⟩ := b.flushPair_putLane q j
  have hsame := (c.putLane_frame q j ((b.q q).lane j).flushed).2
  rw [hput, ← hsame _ (discards_notMem_levelRegs q j), Block.setQ_reg, hcounts, ← List.length_append, ← Block.reg_bump_same _ h]
  rfl

/-- After lane 3's flush and the VC1 pair's, which share lane 3's counter, both pairs are empty and the counter holds the words of both. -/
theorem Block.flushPairs_effect {b : Block} {q : Nat} (h : b.reg (laneReg q 3 20) < 2 ^ 32) :
    (((b.flushPair q 3).flushPair q 8).q q).lane 3 = ((b.q q).lane 3).flushed ∧
    (((b.flushPair q 3).flushPair q 8).q q).lane 8 = ((b.q q).lane 8).flushed ∧
    ((b.flushPair q 3).flushPair q 8).reg (laneReg q 3 20) =
      satAdd (satAdd (b.reg (laneReg q 3 20)) (((b.q q).lane 3).a.length + ((b.q q).lane 3).b.length))
        (((b.q q).lane 8).a.length + ((b.q q).lane 8).b.length) := by
  have hpair : ((b.flushPair q 3).q q).lane 8 = (b.q q).lane 8 := by
    rw [Block.q_flushPair, Quarter.lane_setLane_ne _ _ (by decide)]
  have hfirst := Block.reg_flushPair h
  have hsecond := Block.reg_flushPair (b := b.flushPair q 3) (q := q) (j := 8) (hfirst.trans_lt (satAdd_lt ..))
  refine ⟨?_, ?_, ?_⟩
  · rw [Block.q_flushPair, Quarter.lane_setLane_ne _ _ (by decide), Block.q_flushPair, Quarter.lane_setLane_same]
  · rw [Block.q_flushPair, Quarter.lane_setLane_same, hpair]
  · rw [← hfirst, ← hpair]
    exact hsecond

theorem laneFlushEffect_completes {s : State} {q : Fin 68} {lane : Fin 8} (hflush : ((s.blk.q q).lane lane).flush = true)
    (hret : s.blk.retired.contains q.val = false) :
    Completes (.laneFlushEffect q lane) s
      (if lane.val = 3 then (s.blk.flushPair q lane).flushPair q 8 else s.blk.flushPair q lane) := by
  unfold Completes
  show execLaneFlushEffect q lane s = _
  rw [execLaneFlushEffect, act_eq]
  simp only [hflush, hret, Bool.not_true, Bool.or_self, Bool.false_eq_true, if_false]

/-- Settles O14: each command replaces one lane of the Quarter, which a word joins, whose banks swap, or which is marked or emptied; lane 3's
flushes act on the VC1 pair too. -/
theorem laneWords : Obligations.LaneWords := by
  intro s q b
  refine ⟨?arrive, ?vc1, ?swap, ?flush, ?effect⟩
  case arrive =>
    intro lane a rest h7 htake hret hawake hfull hskip hroll
    refine ⟨_, laneWordArrive_completes h7 htake hret hawake hfull hskip hroll, ?_, ?_, ?_, ?_⟩
    · rw [Block.lane_putLane, Lane.push_fill]
    · rw [Block.lane_putLane, Lane.push_drain]
    · rw [Block.q_putLane, Quarter.setLane_arriving, Block.q_arrivalRecorded]
    · rw [(Block.putLane_frame ..).mem, Block.setQ_mem, Block.mem_arrivalRecorded]
  case vc1 =>
    intro w ws hout hret hfull hskip
    refine ⟨_, laneWordArrive_vc1_completes hout hret hfull hskip, ?_, ?_, ?_⟩
    · rw [Block.lane_putLane, Lane.push_fill]
    · rw [Block.q_putLane, Quarter.setLane_vc1Out, Block.q_setQ_same]
    · rw [(Block.putLane_frame ..).mem, Block.setQ_mem, Block.setQ_mem]
  case swap =>
    intro lane hawake hdrain hfill
    refine ⟨_, laneSwap_completes hawake hdrain hfill, ?_, ?_, rfl, rfl⟩
    · rw [Block.q_setQ_same, Quarter.lane_setLane_same, Lane.swapped_drain]
    · rw [Block.q_setQ_same, Quarter.lane_setLane_same, Lane.swapped_fill, hdrain]
  case flush =>
    intro lane hup hret
    obtain ⟨hlane, hpair, hregs⟩ := Block.askFlush_effect (j := lane) (by omega) hret
    exact ⟨_, laneFlush_completes lane hup, hlane, fun h3 => hpair (congrArg Fin.val h3), hregs⟩
  case effect =>
    intro lane hflush hret hcount
    refine ⟨_, laneFlushEffect_completes hflush hret, ?_⟩
    by_cases h3 : lane = 3
    · subst h3
      rw [if_pos (show (3 : Fin 8).val = 3 from rfl)]
      obtain ⟨hlane, hpair, hreg⟩ := Block.flushPairs_effect hcount
      exact ⟨congrArg Lane.a hlane, congrArg Lane.b hlane, congrArg Lane.flush hlane, fun h => absurd rfl h,
        fun _ => ⟨congrArg Lane.a hpair, congrArg Lane.b hpair, hreg⟩⟩
    · have hlane : ((b.flushPair q lane).q q).lane lane = ((b.q q).lane lane).flushed := by
        rw [Block.q_flushPair, Quarter.lane_setLane_same]
      rw [if_neg fun h : lane.val = 3 => h3 (Fin.ext h), hlane]
      exact ⟨rfl, rfl, rfl, fun _ => Block.reg_flushPair hcount, fun h => absurd h h3⟩

end Sys2Proof.Machine

/-! Division: DIV, DIVU, REM and REMU start the divider, and DIVIDER_FINISH delivers (R184, R185, R190). -/

namespace Sys2Proof.Machine

-- Two's complement and the quotients of R184 and R185

theorem toInt_eq_min_iff {a : Nat} (ha : a < 2 ^ 64) : toInt 64 a = -(2 ^ 63 : Nat) ↔ a = 2 ^ 63 := by
  unfold toInt
  split <;> omega

theorem toInt_eq_neg_one_iff {b : Nat} (hb : b < 2 ^ 64) : toInt 64 b = -1 ↔ b = 2 ^ 64 - 1 := by
  unfold toInt
  split <;> omega

theorem intDiv_zero (signed rem : Bool) (a : Nat) : intDiv signed rem a 0 = (if rem then a else 0, fIDZ) := rfl

theorem intDiv_unsigned (rem : Bool) (a : Nat) {b : Nat} (hb : b ≠ 0) :
    intDiv false rem a b = (if rem then a % b else a / b, 0) := by
  simp [intDiv, hb]

/-- The one signed quotient that does not fit 64 bits. -/
theorem intDiv_overflow (rem : Bool) : intDiv true rem (2 ^ 63) (2 ^ 64 - 1) = (if rem then 0 else 2 ^ 63, fOV) := rfl

theorem intDiv_signed (rem : Bool) {a b : Nat} (ha : a < 2 ^ 64) (hb : b < 2 ^ 64) (h0 : b ≠ 0)
    (hov : ¬(a = 2 ^ 63 ∧ b = 2 ^ 64 - 1)) :
    intDiv true rem a b =
      (ofInt 64 (if rem then (toInt 64 a).tmod (toInt 64 b) else (toInt 64 a).tdiv (toInt 64 b)), 0) := by
  have hfits : ¬(toInt 64 a = -(2 ^ 63 : Nat) ∧ toInt 64 b = -1) := by
    rwa [toInt_eq_min_iff ha, toInt_eq_neg_one_iff hb]
  rw [intDiv, if_neg h0, if_pos rfl]
  exact if_neg hfits

-- The divider starts (R190)

variable {s : State} {site : Site} {op : Nat} {x : SInstr} {rd ra rb : BitVec 5} {rm : BitVec 3} {w : BitVec 2} {c : Instr}

theorem divBody_r (slot : Nat) (signed rem : Bool) (b : Block) (q : Quarter) (p : PE) (sl : Slot) (hf : x.f = .r rd ra rb rm w) :
    divBody slot signed rem b q p sl x = .cont sl { p with
      div := some
        { slot := slot, rd := rd.toNat, result := BitVec.ofNat 64 (intDiv signed rem (sl.rd ra).toNat (sl.rd rb).toNat).1,
          flags := (intDiv signed rem (sl.rd ra).toNat (sl.rd rb).toNat).2 } } := by
  rw [divBody, hf]

/-- An integer division goes on to the next instruction and leaves its result in the divider. -/
theorem issues_of_divBody {signed rem : Bool} (hf : x.f = .r rd ra rb rm w)
    (hc : exec c s = act (issue op site (divBody site.slot signed rem)) s) (h : s.blk.CanIssue site op x) :
    ∃ r f, intDiv signed rem ((s.blk.slotAt site).rd ra).toNat ((s.blk.slotAt site).rd rb).toNat = (r, f) ∧
      Issues c s site (advance (s.blk.q site.q) (s.blk.wordAt site) (s.blk.slotAt site).charged) (s.blk.peAt site).memq
        (some { slot := site.slot, rd := rd.toNat, result := BitVec.ofNat 64 r, flags := f }) := by
  have hb := issues_of_cont hc h (divBody_r _ _ _ _ _ _ _ hf) rfl rfl
  rw [Slot.charged_rd, Slot.charged_rd] at hb
  exact ⟨_, _, rfl, hb⟩

-- The divider finishes (R165, R190)

/-- A slot as a result and its flags reach it. -/
def Slot.delivered (sl : Slot) (d : DivOp) : Slot := { sl with v := SMap.put sl.v d.rd d.result, flags := sl.flags ||| d.flags }

/-- A strand that goes on keeps its slot, whatever is outstanding. -/
theorem Quarter.settle_running {q : Quarter} {pe slot : Nat} (h : (q.slot pe slot).ended = false) : q.settle pe slot = q := by
  simp [Quarter.settle, h]

/-- A PE whose divider has delivered is free for the next division. -/
def PE.delivered (p : PE) (d : DivOp) : PE := { (p.setSlot d.slot ((p.slot d.slot).delivered d)) with div := none }

theorem PE.slot_delivered (p : PE) (d : DivOp) : (p.delivered d).slot d.slot = (p.slot d.slot).delivered d :=
  p.slot_setSlot_same d.slot ((p.slot d.slot).delivered d)

theorem Quarter.slot_setPe_delivered (q : Quarter) (pe : Nat) (d : DivOp) :
    (q.setPe pe ((q.pe pe).delivered d)).slot pe d.slot = (q.slot pe d.slot).delivered d := by
  rw [Quarter.slot, Quarter.pe_setPe_same, PE.slot_delivered, Quarter.slot]

theorem dividerFinish_completes {q : Fin 68} {pe : Fin 16} {d : DivOp} (hruns : s.blk.qRuns q = true)
    (hdiv : ((s.blk.q q).pe pe).div = some d) (hlive : ((s.blk.q q).slot pe d.slot).ended = false) :
    Completes (.dividerFinish q pe) s (s.blk.setQ q ((s.blk.q q).setPe pe (((s.blk.q q).pe pe).delivered d))) := by
  have hslot : ¬(((s.blk.q q).pe pe).slot d.slot).ended = true := Bool.eq_false_iff.1 hlive
  have hgoes : (((s.blk.q q).setPe pe (((s.blk.q q).pe pe).delivered d)).slot pe d.slot).ended = false := by
    rw [Quarter.slot_setPe_delivered]
    exact hlive
  unfold Completes
  show execDividerFinish q pe s = _
  rw [← Quarter.settle_running hgoes]
  simp only [execDividerFinish, act_eq, hdiv, hruns, if_neg hslot, Bool.not_true, Bool.false_eq_true, if_false]
  rfl

/-- Settles O3: the four instructions share one body, `intDiv` has one case for each clause of R184 and R185, and DIVIDER_FINISH
replaces one slot and frees the divider. -/
theorem division : Obligations.Division := by
  refine ⟨?start, ?values, ?finish⟩
  case start =>
    intro s site x rd ra rb rm w hf
    simp only [List.forall_mem_cons, List.not_mem_nil, false_implies, implies_true, and_true]
    exact ⟨issues_of_divBody hf rfl, issues_of_divBody hf rfl, issues_of_divBody hf rfl, issues_of_divBody hf rfl⟩
  case values =>
    intro a b ha hb
    refine ⟨?_, ?_, ?_, ?_⟩
    · rintro rfl signed
      exact ⟨intDiv_zero signed false a, intDiv_zero signed true a⟩
    · intro h0
      exact ⟨intDiv_unsigned false a h0, intDiv_unsigned true a h0⟩
    · rintro rfl rfl
      exact ⟨intDiv_overflow false, intDiv_overflow true⟩
    · intro h0 hov
      exact ⟨intDiv_signed false ha hb h0 hov, intDiv_signed true ha hb h0 hov⟩
  case finish =>
    intro s q pe d hruns hdiv hlive
    refine ⟨_, dividerFinish_completes hruns hdiv hlive, ?_, ?_⟩
    · rw [Block.q_setQ_same, Quarter.pe_setPe_same, PE.delivered]
    · rw [Block.q_setQ_same, Quarter.slot_setPe_delivered, Slot.delivered]

end Sys2Proof.Machine

/-! Floating point: what the lane-wise instructions write (R133, R134, R173 to R178), and the rules for signs, NaNs, zeros and infinities on
single encodings (R168, R169, R174 to R178). -/

namespace Sys2Proof.Machine

-- The bodies of the instructions on R-form words

variable {s : State} {site : Site} {op : Nat} {x : SInstr} {rd ra rb : BitVec 5} {rm : BitVec 3} {w : BitVec 2} {c : Instr}

/-- What a lane-wise instruction makes of its registers: DAZ first where `daz` says so, then `f` on every lane. -/
def fpLanewise (daz : Bool) (f : Fmt → RMode → Bool → Nat → Nat → Nat → Nat × Nat) (rd ra rb : BitVec 5) (rm : BitVec 3) (w : BitVec 2)
    (sl : Slot) : W64 × Nat :=
  let z := (laneFmt w.toNat).daz (daz && sl.daz)
  onLanes w.toNat (fun a b c => f (laneFmt w.toNat) (sl.round rm) sl.ftz (z a) (z b) (z c)) (sl.rd ra) (sl.rd rb) (sl.rd rd)

@[simp] theorem fpLanewise_charged (daz : Bool) (f : Fmt → RMode → Bool → Nat → Nat → Nat → Nat × Nat) (sl : Slot) :
    fpLanewise daz f rd ra rb rm w sl.charged = fpLanewise daz f rd ra rb rm w sl := by
  simp only [fpLanewise, Slot.charged_daz, Slot.charged_round, Slot.charged_ftz, Slot.charged_rd]

theorem Fmt.daz_off (f : Fmt) : f.daz false = id := by
  funext x
  simp [Fmt.daz]

theorem fpLanewise_plain (g : Fmt → Nat → Nat) (sl : Slot) :
    fpLanewise false (fun f _ _ a _ _ => (g f a, 0)) rd ra rb rm w sl =
      onLanes w.toNat (fun a _ _ => (g (laneFmt w.toNat) a, 0)) (sl.rd ra) (sl.rd rb) (sl.rd rd) := by
  simp only [fpLanewise, Bool.false_and, Fmt.daz_off, id]

/-- What a comparison makes of its registers. -/
def fcmpLanewise (k : Nat) (ra rb : BitVec 5) (w : BitVec 2) (sl : Slot) : W64 × Nat :=
  let fm := laneFmt w.toNat
  let z := fm.daz sl.daz
  onLanes w.toNat (fun a b _ =>
    let c := fcmp k (fm.val (z a)) (fm.val (z b))
    (if c.1 then (if w = 0 then 1 else 2 ^ laneBits w.toNat - 1) else 0, c.2)) (sl.rd ra) (sl.rd rb) 0

@[simp] theorem fcmpLanewise_charged (k : Nat) (sl : Slot) : fcmpLanewise k ra rb w sl.charged = fcmpLanewise k ra rb w sl := by
  simp only [fcmpLanewise, Slot.charged_daz, Slot.charged_rd]

/-- What FDIV and FSQRT make of their registers. -/
def fpDivLanewise (f : Fmt → RMode → Bool → Nat → Nat → Nat × Nat) (ra rb : BitVec 5) (rm : BitVec 3) (w : BitVec 2) (sl : Slot) :
    W64 × Nat :=
  let z := (laneFmt w.toNat).daz sl.daz
  onLanes w.toNat (fun a b _ => f (laneFmt w.toNat) (sl.round rm) sl.ftz (z a) (z b)) (sl.rd ra) (sl.rd rb) 0

@[simp] theorem fpDivLanewise_charged (f : Fmt → RMode → Bool → Nat → Nat → Nat × Nat) (sl : Slot) :
    fpDivLanewise f ra rb rm w sl.charged = fpDivLanewise f ra rb rm w sl := by
  simp only [fpDivLanewise, Slot.charged_daz, Slot.charged_round, Slot.charged_ftz, Slot.charged_rd]

section

variable (b : Block) (q : Quarter) (p : PE) (sl : Slot) (hf : x.f = .r rd ra rb rm w)
include hf

theorem fpBody_r (daz : Bool) (f : Fmt → RMode → Bool → Nat → Nat → Nat → Nat × Nat) :
    fpBody daz f b q p sl x =
      .cont ((sl.wr rd (fpLanewise daz f rd ra rb rm w sl).1).flag (fpLanewise daz f rd ra rb rm w sl).2) p := by
  rw [fpBody, hf]
  rfl

theorem fcmpBody_r (k : Nat) :
    fcmpBody k b q p sl x = .cont ((sl.wr rd (fcmpLanewise k ra rb w sl).1).flag (fcmpLanewise k ra rb w sl).2) p := by
  rw [fcmpBody, hf]
  rfl

theorem fcvtBody_r :
    fcvtBody b q p sl x =
      .cont ((sl.wr rd (BitVec.ofNat 64 (fcvt (sl.round rm) sl.ftz sl.daz rb.toNat (sl.rd ra).toNat).1)).flag
        (fcvt (sl.round rm) sl.ftz sl.daz rb.toNat (sl.rd ra).toNat).2) p := by
  rw [fcvtBody, hf]

theorem fpDivBody_r (slot : Nat) (f : Fmt → RMode → Bool → Nat → Nat → Nat × Nat) :
    fpDivBody slot f b q p sl x = .cont sl { p with
      div := some { slot := slot, rd := rd.toNat, result := (fpDivLanewise f ra rb rm w sl).1,
                    flags := (fpDivLanewise f ra rb rm w sl).2 } } := by
  rw [fpDivBody, hf]
  rfl

end

-- The instructions complete

section

variable (hf : x.f = .r rd ra rb rm w) (h : s.blk.CanIssue site op x)
include hf h

theorem computes_of_fpBody (daz : Bool) (f : Fmt → RMode → Bool → Nat → Nat → Nat → Nat × Nat)
    (hc : exec c s = act (issue op site (fpBody daz f)) s) :
    Computes c s site fun y => (y.wr rd (fpLanewise daz f rd ra rb rm w (s.blk.slotAt site)).1).flag
      (fpLanewise daz f rd ra rb rm w (s.blk.slotAt site)).2 := by
  have hi := issues_of_cont hc h (fpBody_r _ _ _ _ hf daz f) rfl rfl
  rwa [fpLanewise_charged] at hi

/-- FABS, FNEG and FCLASS act on the encodings as they stand. -/
theorem computes_of_fpBody_plain (g : Fmt → Nat → Nat)
    (hc : exec c s = act (issue op site (fpBody false fun f _ _ a _ _ => (g f a, 0))) s) :
    ∃ r, onLanes w.toNat (fun a _ _ => (g (laneFmt w.toNat) a, 0)) ((s.blk.slotAt site).rd ra) ((s.blk.slotAt site).rd rb)
        ((s.blk.slotAt site).rd rd) = r ∧ Computes c s site fun y => (y.wr rd r.1).flag r.2 :=
  ⟨_, (fpLanewise_plain g _).symm, computes_of_fpBody hf h false _ hc⟩

theorem computes_of_fcmpBody (k : Nat) (hc : exec c s = act (issue op site (fcmpBody k)) s) :
    Computes c s site fun y => (y.wr rd (fcmpLanewise k ra rb w (s.blk.slotAt site)).1).flag
      (fcmpLanewise k ra rb w (s.blk.slotAt site)).2 := by
  have hi := issues_of_cont hc h (fcmpBody_r _ _ _ _ hf k) rfl rfl
  rwa [fcmpLanewise_charged] at hi

theorem computes_of_fcvtBody (hc : exec c s = act (issue op site fcvtBody) s) :
    ∃ r, fcvt ((s.blk.slotAt site).round rm) (s.blk.slotAt site).ftz (s.blk.slotAt site).daz rb.toNat
        ((s.blk.slotAt site).rd ra).toNat = r ∧
      Computes c s site fun y => (y.wr rd (BitVec.ofNat 64 r.1)).flag r.2 := by
  have hi := issues_of_cont hc h (fcvtBody_r _ _ _ _ hf) rfl rfl
  rw [Slot.charged_round, Slot.charged_ftz, Slot.charged_daz, Slot.charged_rd] at hi
  exact ⟨_, rfl, hi⟩

theorem issues_of_fpDivBody (f : Fmt → RMode → Bool → Nat → Nat → Nat × Nat)
    (hc : exec c s = act (issue op site (fpDivBody site.slot f)) s) :
    Issues c s site (advance (s.blk.q site.q) (s.blk.wordAt site) (s.blk.slotAt site).charged) (s.blk.peAt site).memq
      (some { slot := site.slot, rd := rd.toNat, result := (fpDivLanewise f ra rb rm w (s.blk.slotAt site)).1,
              flags := (fpDivLanewise f ra rb rm w (s.blk.slotAt site)).2 }) := by
  have hi := issues_of_cont hc h (fpDivBody_r _ _ _ _ hf site.slot f) rfl rfl
  rwa [fpDivLanewise_charged] at hi

end

/-- Every entry of `fpLanes` names the opcode and the lane function that its instruction issues with, operands under DAZ. -/
theorem exec_fpLanes (site : Site) (s : State) : ∀ e ∈ fpLanes, exec (e.1 site) s = act (issue e.2.1 site (fpBody true e.2.2)) s := by
  simp only [fpLanes, List.forall_mem_cons, List.not_mem_nil, false_implies, implies_true, and_true]
  and_intros <;> rfl

-- The sign bit of an encoding (R178)

theorem bits_xor_two_pow (x : Nat) {hi lo n : Nat} (h : hi < n) : bits (x ^^^ 2 ^ n) hi lo = bits x hi lo := by
  refine Nat.eq_of_testBit_eq fun i => ?_
  simp only [bits, Nat.testBit_mod_two_pow, Nat.testBit_shiftRight, Nat.testBit_xor, Nat.testBit_two_pow]
  by_cases hin : i < hi + 1 - lo
  · have hne : n ≠ lo + i := by omega
    simp [hne]
  · simp [hin]

theorem Fmt.sign_flip (f : Fmt) (x : Nat) : f.sign (x ^^^ 2 ^ (f.width - 1)) = !f.sign x := by
  simp [Fmt.sign, Fmt.width, Nat.testBit_xor]

theorem Fmt.sign_clear (f : Fmt) (x : Nat) : f.sign (x % 2 ^ (f.width - 1)) = false := by
  simp [Fmt.sign, Fmt.width, Nat.testBit_mod_two_pow]

theorem Fmt.expo_flip (f : Fmt) (x : Nat) (he : 0 < f.eb) : f.expo (x ^^^ 2 ^ (f.width - 1)) = f.expo x :=
  bits_xor_two_pow x (by simp only [Fmt.width]; omega)

theorem Fmt.frac_flip (f : Fmt) (x : Nat) : f.frac (x ^^^ 2 ^ (f.width - 1)) = f.frac x := by
  have hdvd : 2 ^ f.mb ∣ 2 ^ (f.width - 1) := Nat.pow_dvd_pow 2 (by simp only [Fmt.width]; omega)
  rw [Fmt.frac, Nat.xor_mod_two_pow, Nat.mod_eq_zero_of_dvd hdvd, Nat.xor_zero, Fmt.frac]

-- The comparisons (R175, R176)

theorem FVal.lt_irrefl (v : FVal) : v.lt v = false := by
  cases v with
  | nan g => rfl
  | inf s => simp [FVal.lt]
  | fin s m e => simp [FVal.lt]

theorem fcmp_eq_self (v : FVal) : (fcmp 0 v v).1 = !v.isNan := by
  simp [fcmp, FVal.eq, FVal.lt_irrefl]

theorem FVal.lt_zeros (s t : Bool) (e : Int) : (FVal.fin s 0 e).lt (.fin t 0 e) = false := by
  simp [FVal.lt]

/-- Zeros of opposite sign are ordered by their sign bits alone. -/
theorem Fmt.minmax_zeros (f : Fmt) (big : Bool) {a b : Nat} (ha : f.val a = .fin true 0 f.emin) (hb : f.val b = .fin false 0 f.emin)
    (hsa : f.sign a = true) (hsb : f.sign b = false) : f.minmax big a b = (if big then b else a, 0) := by
  cases big <;> simp [Fmt.minmax, ha, hb, hsa, hsb, FVal.eq, FVal.lt_zeros, FVal.isNan]

theorem Fmt.val_zero : ∀ f ∈ [f64, f32, f16], ∀ s, f.val (f.zero s) = .fin s 0 f.emin ∧ f.sign (f.zero s) = s := by decide

theorem Fmt.eb_pos : ∀ f ∈ [f64, f32, f16], 0 < f.eb := by decide

theorem Fmt.val_nan : ∀ f ∈ [f64, f32, f16], f.val f.nan = .nan false := by decide

-- NaNs, infinities and division by zero (R168, R169, R174)

section

variable (f : Fmt) (mode : RMode) (ftz : Bool)

theorem Fmt.add_nan (g : Bool) (v : FVal) : (f.add mode ftz (.nan g) v).1 = f.nan := rfl

theorem Fmt.mul_nan (g : Bool) (v : FVal) : (f.mul mode ftz (.nan g) v).1 = f.nan := rfl

theorem Fmt.fma_nan (g : Bool) (v w : FVal) (n : Bool) : (f.fma mode ftz (.nan g) v w n).1 = f.nan := rfl

theorem Fmt.div_by_zero (s t : Bool) {m : Nat} (e e' : Int) (h : m ≠ 0) :
    f.div mode ftz (.fin s m e) (.fin t 0 e') = (f.inf (s != t), fDZ) := by
  simp [Fmt.div, h]

theorem Fmt.div_zero_zero (s t : Bool) (e e' : Int) : f.div mode ftz (.fin s 0 e) (.fin t 0 e') = (f.nan, fNV) := rfl

theorem Fmt.mul_inf_zero (s t : Bool) (e : Int) : f.mul mode ftz (.inf s) (.fin t 0 e) = (f.nan, fNV) := rfl

theorem Fmt.add_inf_neg_inf (s : Bool) : f.add mode ftz (.inf s) (.inf !s) = (f.nan, fNV) := by
  simp [Fmt.add]

end

/-- Settles O4: one body for each group of instructions gives the lanes, and the clauses on encodings hold by the fields of a format, the
irreflexivity of the order and the first cases of the operations. -/
theorem floatingPoint : Obligations.FloatingPoint := by
  refine ⟨?lanes, ?encodings⟩
  case lanes =>
    intro s site x rd ra rb rm w hf sl fm z
    refine ⟨fun e he h => ⟨_, rfl, computes_of_fpBody hf h true e.2.2 (exec_fpLanes site s e he)⟩, ?plain, ?compare,
      fun h => computes_of_fcvtBody hf h rfl, ?divide⟩
    all_goals simp only [List.forall_mem_cons, List.not_mem_nil, false_implies, implies_true, and_true]
    case plain =>
      exact ⟨fun h => computes_of_fpBody_plain hf h (fun f a => a % 2 ^ (f.width - 1)) rfl,
        fun h => computes_of_fpBody_plain hf h (fun f a => a ^^^ 2 ^ (f.width - 1)) rfl,
        fun h => computes_of_fpBody_plain hf h Fmt.classify rfl⟩
    case compare =>
      exact ⟨fun h => ⟨_, rfl, computes_of_fcmpBody hf h 0 rfl⟩, fun h => ⟨_, rfl, computes_of_fcmpBody hf h 1 rfl⟩,
        fun h => ⟨_, rfl, computes_of_fcmpBody hf h 2 rfl⟩, fun h => ⟨_, rfl, computes_of_fcmpBody hf h 3 rfl⟩⟩
    case divide =>
      exact ⟨fun h => ⟨_, rfl, issues_of_fpDivBody hf h (fun f m z a b => f.div m z (f.val a) (f.val b)) rfl⟩,
        fun h => ⟨_, rfl, issues_of_fpDivBody hf h (fun f m z a _ => f.sqrt m z (f.val a)) rfl⟩⟩
  case encodings =>
    intro f hf mode ftz
    obtain ⟨hneg, hsneg⟩ := Fmt.val_zero f hf true
    obtain ⟨hpos, hspos⟩ := Fmt.val_zero f hf false
    refine ⟨Fmt.val_nan f hf, ?sign, fcmp_eq_self, f.minmax_zeros false hneg hpos hsneg hspos,
      f.minmax_zeros true hneg hpos hsneg hspos, ?nan, ?byZero, ?invalid⟩
    case sign => exact fun x _ => ⟨f.sign_flip x, f.sign_clear x, f.expo_flip x (Fmt.eb_pos f hf), f.frac_flip x⟩
    case nan => exact fun g v w => ⟨f.add_nan mode ftz g v, f.mul_nan mode ftz g v, f.fma_nan mode ftz g v w⟩
    case byZero => exact fun s t m e e' h => f.div_by_zero mode ftz s t e e' h
    case invalid => exact fun s t e e' => ⟨f.div_zero_zero mode ftz s t e e', f.mul_inf_zero mode ftz s t e, f.add_inf_neg_inf mode ftz s⟩

end Sys2Proof.Machine

/-! Frame memory at port B: checked reads, the landing of writes, parcels at the parcel port, and the commands on them. -/

namespace Sys2Proof.Machine

-- Maps written twice

theorem SMap.put_put {α : Type} (m : SMap α) (k : Nat) (v w : α) : SMap.put (SMap.put m k v) k w = SMap.put m k w := by
  induction m with
  | nil => simp [SMap.put]
  | cons e m ih =>
    obtain ⟨k', v'⟩ := e
    by_cases hk : k' = k
    · simp [SMap.put, hk]
    · by_cases hlt : k < k'
      · simp [SMap.put, hk, hlt]
      · simp [SMap.put, hk, hlt, ih]

theorem Block.setQ_setQ (b : Block) (q : Nat) (x y : Quarter) : (b.setQ q x).setQ q y = b.setQ q y := by
  simp only [Block.setQ, SMap.put_put]

/-- A listed frame word reads as it was put; one that equals an empty word is not listed and reads so. -/
theorem get_putFrame (m : SMap FrameWord) (a c : Nat) (w : FrameWord) :
    SMap.get (putFrame m a w) FrameWord.empty c = if c = a then w else SMap.get m FrameWord.empty c := by
  unfold putFrame
  by_cases hw : w = FrameWord.empty
  · rw [if_pos hw]
    by_cases hc : c = a
    · subst hc
      simp [SMap.get, hw]
    · simp [SMap.get, SMap.find?_erase_ne m hc, hc]
  · rw [if_neg hw, SMap.get_put]

-- Steps of one Quarter

/-- A step within one Quarter, which then is `x`: beyond it, only the registers named and the fault wires can change. -/
structure QuarterStep (but : List Nat) (q : Nat) (x : Quarter) (b t : Block) : Prop where
  rest : t = { b with regs := t.regs, qs := t.qs, hub := t.hub }
  regs : SameRegs b t but
  quarter : t.q q = x
  others : ∀ p, p ≠ q → t.q p = b.q p

section
variable {but : List Nat} {q : Nat} {x y : Quarter} {b c t : Block}

theorem QuarterStep.mem (h : QuarterStep but q x b t) : t.mem = b.mem := by rw [h.rest]
theorem QuarterStep.now (h : QuarterStep but q x b t) : t.now = b.now := by rw [h.rest]
theorem QuarterStep.cont (h : QuarterStep but q x b t) : t.cont = b.cont := by rw [h.rest]

theorem QuarterStep.reg (h : QuarterStep but q x b t) {off : Nat} (ho : off ∉ but) : t.reg off = b.reg off := (h.regs off ho).symm

theorem QuarterStep.unarmed (h : QuarterStep but q x b t) (ho : 0x300044 ∉ but) (harm : b.rf 0x300044 15 0 = 0) :
    t.rf 0x300044 15 0 = 0 :=
  (congrArg (bits · 15 0) (h.reg ho)).trans harm

theorem quarterStep_refl : QuarterStep but q (b.q q) b b := ⟨rfl, sameRegs_refl b but, rfl, fun _ _ => rfl⟩

theorem QuarterStep.trans (h : QuarterStep but q x b c) (h' : QuarterStep but q y c t) : QuarterStep but q y b t :=
  ⟨by rw [h'.rest, h.rest], h.regs.trans h'.regs, h'.quarter, fun p hp => (h'.others p hp).trans (h.others p hp)⟩

theorem QuarterStep.mono {more : List Nat} (h : QuarterStep but q x b t) (hs : but ⊆ more) : QuarterStep more q x b t :=
  ⟨h.rest, h.regs.mono hs, h.quarter, h.others⟩

theorem quarterStep_setQ : QuarterStep but q x b (b.setQ q x) :=
  ⟨rfl, fun _ _ => rfl, b.q_setQ_same q x, fun _ hp => b.q_setQ_ne x hp⟩

theorem quarterStep_setReg {off : Nat} (v : Nat) (ho : off ∈ but) : QuarterStep but q (b.q q) b (b.setReg off v) :=
  ⟨rfl, (sameRegs_setReg b off v).mono (by simpa using ho), rfl, fun _ _ => rfl⟩

theorem quarterStep_bump {off : Nat} (n : Nat) (ho : off ∈ but) : QuarterStep but q (b.q q) b (b.bump off n) := by
  rcases b.bump_eq off n with e | e <;> rw [e]
  · exact quarterStep_refl
  · exact quarterStep_setReg _ ho

theorem quarterStep_detect (code unit d : Nat) (i : Bool) : QuarterStep but q (b.q q) b (b.detect code unit d i) :=
  ⟨rfl, fun _ _ => rfl, rfl, fun _ _ => rfl⟩

end

/-- A step that keeps its Quarter goes on with another. -/
theorem QuarterStep.kept {but : List Nat} {q : Nat} {x : Quarter} {b c t : Block} (h : QuarterStep but q x b c)
    (h' : QuarterStep but q (c.q q) c t) : QuarterStep but q x b t := by
  rw [h.quarter] at h'
  exact h.trans h'

-- Checked reads of frame words (R208, R209, R210)

/-- The registers that tell of errors in frame words: FRM_CNT0, FRM_CNT1 and the first uncorrectable word. -/
def errorRegs (q : Nat) : List Nat := [frmCnt q 0, frmCnt q 1, qOff q 0x3008]

theorem injection_notMem_errorRegs (q : Nat) : 0x300044 ∉ errorRegs q := by
  simp only [errorRegs, frmCnt, qOff, List.mem_cons, List.not_mem_nil, or_false, not_or]
  omega

theorem frmCnt_notMem_errorRegs (q : Nat) {k : Nat} (h : 2 ≤ k) : frmCnt q k ∉ errorRegs q := by
  simp only [errorRegs, frmCnt, qOff, List.mem_cons, List.not_mem_nil, or_false, not_or]
  omega

theorem Block.frameUe_step (b : Block) (q word : Nat) (portB injected : Bool) :
    QuarterStep (errorRegs q) q (b.q q) b (b.frameUe q word portB injected) := by
  unfold Block.frameUe
  extract_lets b1 b2
  have h1 : QuarterStep (errorRegs q) q (b.q q) b b1 := quarterStep_bump 1 (by simp [errorRegs])
  have h2 : QuarterStep (errorRegs q) q (b.q q) b b2 := by
    simp only [b2]
    split
    · exact h1.kept (quarterStep_setReg _ (by simp [errorRegs]))
    · exact h1
  exact h2.kept (quarterStep_detect _ _ _ _)

theorem Block.reg_frameUe (b : Block) (q word : Nat) (portB injected : Bool) :
    (b.frameUe q word portB injected).reg (frmCnt q 1) = satAdd (b.reg (frmCnt q 1)) 1 := by
  have hne : frmCnt q 1 ≠ qOff q 0x3008 := by simp [frmCnt]
  unfold Block.frameUe
  extract_lets b1 b2
  have h2 : b2.reg (frmCnt q 1) = b1.reg (frmCnt q 1) := by
    simp only [b2]
    split
    · exact Block.reg_setReg_ne _ _ hne
    · rfl
  rw [Block.detect_reg, h2, Block.reg_bump_one]

/-- A corrected word is counted and detected; its write-back may wait. -/
theorem Block.frameCe_step (b : Block) (q word : Nat) (injected : Bool) :
    ∃ wb, QuarterStep [frmCnt q 0] q { b.q q with wb := wb } b (b.frameCe q word injected) := by
  unfold Block.frameCe
  extract_lets _ b1 x
  have h1 : QuarterStep [frmCnt q 0] q (b.q q) b b1 :=
    (quarterStep_bump 1 (by simp)).kept (quarterStep_detect _ _ _ _)
  split
  · have hx : x = b.q q := h1.quarter
    clear_value x
    subst hx
    exact ⟨_, h1.trans quarterStep_setQ⟩
  · exact ⟨(b.q q).wb, h1⟩

section
variable {b : Block} (q word : Nat) (portB : Bool) (harm : b.rf 0x300044 15 0 = 0)
include harm

/-- With no checker armed, a read with no new error delivers the word and reports the error its check bits tell of. -/
theorem Block.frameRead_eq : b.frameRead q word 0 portB =
    if ((b.q q).fw word).bad then (b.frameUe q word portB false, ((b.q q).fw word).data, true)
    else if ((b.q q).fw word).ce then (b.frameCe q word false, ((b.q q).fw word).data, false)
    else (b, ((b.q q).fw word).data, false) := by
  simp only [Block.frameRead, Block.inject_unarmed _ _ _ _ harm, Block.frameUpset, decide_true, Bool.true_or, if_true]

theorem Block.frameRead_word : (b.frameRead q word 0 portB).2 = (((b.q q).fw word).data, ((b.q q).fw word).bad) := by
  rw [Block.frameRead_eq q word portB harm]
  cases hbad : ((b.q q).fw word).bad <;> cases hce : ((b.q q).fw word).ce <;> rfl

theorem Block.frameRead_sound (hbad : ((b.q q).fw word).bad = false) (hce : ((b.q q).fw word).ce = false) :
    (b.frameRead q word 0 portB).1 = b := by
  simp [Block.frameRead_eq q word portB harm, hbad, hce]

theorem Block.frameRead_step : ∃ wb, QuarterStep (errorRegs q) q { b.q q with wb := wb } b (b.frameRead q word 0 portB).1 := by
  rw [Block.frameRead_eq q word portB harm]
  split
  · exact ⟨(b.q q).wb, b.frameUe_step q word portB false⟩
  · split
    · obtain ⟨wb, h⟩ := b.frameCe_step q word false
      exact ⟨wb, h.mono (by simp [errorRegs])⟩
    · exact ⟨(b.q q).wb, quarterStep_refl⟩

/-- UE counts a read of an uncorrectable word and no other. -/
theorem Block.reg_frameRead : (b.frameRead q word 0 portB).1.reg (frmCnt q 1) =
    if ((b.q q).fw word).bad then satAdd (b.reg (frmCnt q 1)) 1 else b.reg (frmCnt q 1) := by
  have hne : frmCnt q 1 ∉ [frmCnt q 0] := by simp [frmCnt]
  rw [Block.frameRead_eq q word portB harm]
  split
  · exact b.reg_frameUe q word portB false
  · split
    · obtain ⟨wb, h⟩ := b.frameCe_step q word false
      exact h.reg hne
    · rfl

/-- With no checker armed, a decode gives the state of the word's presence code and reports a BROKEN one. -/
theorem Block.presence_eq : b.presence q word =
    (if presState ((b.q q).fw word).pres = .broken then (b.bump (frmCnt q 2)).detect 11 q (8 * word) else b,
      presState ((b.q q).fw word).pres) := by
  simp only [Block.presence, Block.inject_unarmed _ _ _ _ harm, Option.isSome_none, Bool.false_eq_true, if_false]

theorem Block.presence_step : QuarterStep [frmCnt q 2] q (b.q q) b (b.presence q word).1 := by
  rw [Block.presence_eq q word harm]
  dsimp only
  split
  · exact (quarterStep_bump 1 (by simp)).kept (quarterStep_detect _ _ _ _)
  · exact quarterStep_refl

end

-- Writes of port B land (R199, R201, R206)

/-- Data are written with presence FULL or with none (R199). -/
def PbWrite.fullData (w : PbWrite) : Prop := w.data.isSome = true → w.pres.isSome = true → w.pres = some 3

/-- What some writes, each of a word of its own, leave of a Quarter once they have landed. -/
structure Landed (ws : List PbWrite) (x y : Quarter) : Prop where
  rest : y = { x with frame := y.frame, dirty := y.dirty, park := y.park, releases := y.releases, wb := y.wb }
  words : ∀ w ∈ ws, y.fw w.word = w.lands (x.fw w.word)
  others : ∀ a, (∀ w ∈ ws, w.word ≠ a) → y.fw a = x.fw a
  park : (∀ w ∈ ws, w.fullData) → y.park = x.park.filter fun p => !ws.any fun w => w.pres == some 3 && w.word == p.word
  releases : (∀ w ∈ ws, w.fullData) → y.releases = x.releases ++ ws.flatMap fun w => w.frees x

section
variable {w : PbWrite} {ws ws' : List PbWrite} {x y z : Quarter}

theorem landed_nil (x : Quarter) : Landed [] x x where
  rest := rfl
  words := by simp
  others := fun _ _ => rfl
  park := by simp
  releases := by simp

theorem landed_one (hrest : y = { x with frame := y.frame, dirty := y.dirty, park := y.park, releases := y.releases, wb := y.wb })
    (hframe : y.frame = putFrame x.frame w.word (w.lands (x.fw w.word)))
    (hpark : w.fullData → y.park = if w.pres = some 3 then x.park.filter fun p => p.word ≠ w.word else x.park)
    (hreleases : w.fullData → y.releases = x.releases ++ w.frees x) : Landed [w] x y where
  rest := hrest
  words := by simp [Quarter.fw, hframe, get_putFrame]
  others := fun a ha => by
    have hne : a ≠ w.word := fun h => ha w (by simp) h.symm
    simp [Quarter.fw, hframe, get_putFrame, hne]
  park := fun h => by
    rw [hpark (h w (List.mem_singleton_self w))]
    by_cases h3 : w.pres = some 3
    · rw [if_pos h3]
      refine List.filter_congr fun p _ => ?_
      have hsame : (w.word == p.word) = decide (p.word = w.word) := decide_eq_decide.2 eq_comm
      rw [List.any_cons, List.any_nil, h3, hsame, Bool.or_false, beq_self_eq_true, Bool.true_and, decide_not]
    · rw [if_neg h3]
      refine (List.filter_eq_self.2 fun p _ => ?_).symm
      simp only [List.any_cons, List.any_nil, beq_false_of_ne h3, Bool.false_and, Bool.or_false, Bool.not_false]
  releases := by simpa using hreleases

/-- Writes of other words leave the reads that a write releases. -/
theorem Landed.frees (h : Landed ws x y) (hfull : ∀ v ∈ ws, v.fullData) (hne : ∀ v ∈ ws, v.word ≠ w.word) : w.frees y = w.frees x := by
  have hpark : (y.park.filter fun e => decide (e.word = w.word)) = x.park.filter fun e => decide (e.word = w.word) := by
    rw [h.park hfull, List.filter_filter]
    refine List.filter_congr fun e _ => ?_
    by_cases he : e.word = w.word
    · have hany : (ws.any fun v => v.pres == some 3 && v.word == e.word) = false :=
        List.any_eq_false.2 fun v hv => by simp [he, hne v hv]
      simp only [hany, Bool.not_false, Bool.and_true]
    · simp [he]
  unfold PbWrite.frees
  rw [hpark, h.others w.word hne]

theorem Landed.append (h : Landed ws x y) (h' : Landed ws' y z) (hne : ∀ v ∈ ws, ∀ w ∈ ws', v.word ≠ w.word) : Landed (ws ++ ws') x z where
  rest := by rw [h'.rest, h.rest]
  words := fun w hw => by
    rcases List.mem_append.1 hw with hw | hw
    · rw [h'.others w.word fun v hv => (hne w hw v hv).symm, h.words w hw]
    · rw [h'.words w hw, h.others w.word fun v hv => hne v hv w hw]
  others := fun a ha => by
    rw [h'.others a fun w hw => ha w (List.mem_append_right _ hw), h.others a fun w hw => ha w (List.mem_append_left _ hw)]
  park := fun hfull => by
    rw [h'.park fun w hw => hfull w (List.mem_append_right _ hw), h.park fun w hw => hfull w (List.mem_append_left _ hw), List.filter_filter]
    refine List.filter_congr fun p _ => ?_
    rw [List.any_append, Bool.not_or, Bool.and_comm]
  releases := fun hfull => by
    have hfirst : ∀ w ∈ ws, w.fullData := fun w hw => hfull w (List.mem_append_left _ hw)
    have hfrees : (ws'.flatMap fun w => w.frees y) = ws'.flatMap fun w => w.frees x :=
      List.flatMap_congr fun w hw => h.frees hfirst fun v hv => hne v hv w hw
    rw [h'.releases fun w hw => hfull w (List.mem_append_right _ hw), h.releases hfirst, hfrees, List.flatMap_append, List.append_assoc]

/-- A write that sets a word FULL. -/
theorem landed_writeFull {v : W64} {p : BitVec 2} (hdata : w.data = some v) (hpres : w.pres = some p) : Landed [w] x (x.writeFull w.word v) := by
  have hlands : w.lands (x.fw w.word) = { data := v, bad := false, pres := 3 } := by simp [PbWrite.lands, hdata, hpres]
  have h3 : w.fullData → p = 3 := fun h => by simpa [hpres] using h (by simp [hdata]) (by simp [hpres])
  refine landed_one rfl (by rw [hlands]; rfl) (fun h => ?_) fun h => ?_
  · obtain rfl := h3 h
    rw [if_pos hpres]
    rfl
  · obtain rfl := h3 h
    simp [Quarter.writeFull, Quarter.wakeParked, Quarter.markDirty, PbWrite.frees, hpres, hdata]

/-- A write that keeps presence. -/
theorem landed_writeKeep {v : W64} (hdata : w.data = some v) (hpres : w.pres = none) : Landed [w] x (x.writeKeep w.word v false) := by
  have hlands : w.lands (x.fw w.word) = { x.fw w.word with data := v, bad := false, ce := false } := by simp [PbWrite.lands, hdata, hpres]
  refine landed_one rfl (by rw [hlands]; rfl) (fun _ => ?_) fun _ => ?_
  · rw [hpres, if_neg (by simp)]
    rfl
  · simp [Quarter.writeKeep, PbWrite.frees, hpres]

theorem Quarter.fw_setPres (x : Quarter) (word : Nat) (c : BitVec 2) : (x.setPres word c).fw word = { x.fw word with pres := c } := by
  simp [Quarter.setPres, Quarter.fw, get_putFrame]

/-- A write of presence alone that no parked read waits for. -/
theorem landed_setPres (hdata : w.data = none) (hnone : w.pres = some 3 → ∀ e ∈ x.park, e.word ≠ w.word) :
    Landed [w] x (x.setPres w.word (w.pres.getD 0)) := by
  have hlands : w.lands (x.fw w.word) = { x.fw w.word with pres := w.pres.getD 0 } := by simp [PbWrite.lands, hdata]
  refine landed_one rfl (by rw [hlands]; rfl) (fun _ => ?_) fun _ => ?_
  · split
    · next h3 => exact (List.filter_eq_self.2 fun e he => by simpa using hnone h3 e he).symm
    · rfl
  · unfold PbWrite.frees
    split
    · next h3 =>
      have hempty : (x.park.filter fun e => decide (e.word = w.word)) = [] := List.filter_eq_nil_iff.2 fun e he => by simpa using hnone h3 e he
      simp [Quarter.setPres, hempty]
    · simp [Quarter.setPres]

/-- Presence alone set to FULL releases the reads parked on the word with the value it holds; the read of it may ask for a write-back. -/
theorem landed_setPres_wakes (wb : List (Nat × W64)) (hdata : w.data = none) (h3 : w.pres = some 3) :
    Landed [w] x ({ x.setPres w.word 3 with wb := wb }.wakeParked w.word (x.fw w.word).data (x.fw w.word).bad) := by
  have hlands : w.lands (x.fw w.word) = { x.fw w.word with pres := 3 } := by simp [PbWrite.lands, hdata, h3]
  refine landed_one rfl (by rw [hlands]; rfl) (fun _ => ?_) fun _ => ?_
  · rw [if_pos h3]
    rfl
  · simp [Quarter.wakeParked, Quarter.setPres, PbWrite.frees, h3, hdata]

end

/-- The registers that a landing write can change: those of the reads it makes. -/
def landRegs (q : Nat) : List Nat := frmCnt q 2 :: errorRegs q

theorem injection_notMem_landRegs (q : Nat) : 0x300044 ∉ landRegs q := by
  simp only [landRegs, List.mem_cons, not_or]
  exact ⟨by simp only [frmCnt, qOff]; omega, injection_notMem_errorRegs q⟩

theorem frmCnt_notMem_landRegs (q : Nat) {k : Nat} (h : 3 ≤ k) : frmCnt q k ∉ landRegs q := by
  simp only [landRegs, List.mem_cons, not_or]
  exact ⟨by simp only [frmCnt, qOff]; omega, frmCnt_notMem_errorRegs q (by omega)⟩

/-- The registers that one write can change: data without presence land unread. -/
def PbWrite.regs (w : PbWrite) (q : Nat) : List Nat := if w.data.isSome && w.pres.isNone then [] else landRegs q

/-- Some writes land in a Quarter; beyond it, only the registers named and the fault wires can change. -/
structure PortLands (but : List Nat) (q : Nat) (ws : List PbWrite) (b t : Block) : Prop where
  step : QuarterStep but q (t.q q) b t
  landed : Landed ws (b.q q) (t.q q)

section
variable {but : List Nat} {q : Nat} {w : PbWrite} {ws ws' : List PbWrite} {b c t : Block}

theorem portLands_of_step {y : Quarter} (h : QuarterStep but q y b t) (hl : Landed ws (b.q q) y) : PortLands but q ws b t := by
  obtain rfl := h.quarter
  exact ⟨h, hl⟩

theorem portLands_nil : PortLands but q [] b b := ⟨quarterStep_refl, landed_nil _⟩

theorem PortLands.mono {more : List Nat} (h : PortLands but q ws b t) (hs : but ⊆ more) : PortLands more q ws b t := ⟨h.step.mono hs, h.landed⟩

theorem PortLands.append (h : PortLands but q ws b c) (h' : PortLands but q ws' c t) (hne : ∀ v ∈ ws, ∀ w ∈ ws', v.word ≠ w.word) :
    PortLands but q (ws ++ ws') b t :=
  ⟨h.step.trans h'.step, h.landed.append h'.landed hne⟩

theorem PortLands.hits (h : PortLands but q ws b t) : (t.q q).hits = (b.q q).hits := by rw [h.landed.rest]

/-- With no checker armed, one write lands as its data and presence say. -/
theorem Block.landPb_lands (q : Nat) (w : PbWrite) (harm : b.rf 0x300044 15 0 = 0) : PortLands (w.regs q) q [w] b (b.landPb q w) := by
  unfold Block.landPb
  split
  · next v p hdata hpres =>
    have hpresence := (Block.presence_step q w.word harm).mono (more := w.regs q) (by simp [PbWrite.regs, hpres, landRegs])
    generalize b.presence q w.word = r at hpresence ⊢
    refine portLands_of_step (hpresence.trans quarterStep_setQ) ?_
    rw [hpresence.quarter]
    exact landed_writeFull hdata hpres
  · next v hdata hpres => exact portLands_of_step quarterStep_setQ (landed_writeKeep hdata hpres)
  · next hdata =>
    extract_lets c
    have hset : QuarterStep (landRegs q) q ((b.q q).setPres w.word (w.pres.getD 0)) b c := quarterStep_setQ
    have hregs : w.regs q = landRegs q := by simp [PbWrite.regs, hdata]
    rw [hregs]
    split
    · next h =>
      obtain ⟨h3, -⟩ := h
      obtain ⟨wb, hread⟩ := Block.frameRead_step q w.word true (hset.unarmed (injection_notMem_landRegs q) harm)
      have hword := Block.frameRead_word q w.word true (hset.unarmed (injection_notMem_landRegs q) harm)
      generalize c.frameRead q w.word 0 true = r at hread hword
      obtain ⟨d, v, bad⟩ := r
      rw [hset.quarter, Quarter.fw_setPres] at hword
      obtain ⟨rfl, rfl⟩ := Prod.mk.inj hword
      rw [hset.quarter] at hread
      have hread' := hread.mono (more := landRegs q) (by simp [landRegs])
      refine portLands_of_step ((hset.trans hread').trans quarterStep_setQ) ?_
      rw [hread.quarter, h3]
      exact landed_setPres_wakes wb hdata h3
    · next h =>
      refine portLands_of_step hset (landed_setPres hdata fun h3 e he hw => h ⟨h3, ?_⟩)
      rw [hset.quarter]
      exact List.any_eq_true.2 ⟨e, he, by simpa using hw⟩

/-- Writes of different words land one after the other. -/
theorem Block.foldl_landPb (hbut : 0x300044 ∉ but) (hregs : ∀ w ∈ ws, w.regs q ⊆ but) (harm : b.rf 0x300044 15 0 = 0)
    (hnd : (ws.map (·.word)).Nodup) : PortLands but q ws b (ws.foldl (fun b w => b.landPb q w) b) := by
  induction ws generalizing b with
  | nil => exact portLands_nil
  | cons w ws ih =>
    obtain ⟨hw, hnd⟩ := List.nodup_cons.1 (by simpa only [List.map_cons] using hnd)
    obtain ⟨hfirst, hregs⟩ := List.forall_mem_cons.1 hregs
    have hone := (Block.landPb_lands q w harm).mono hfirst
    refine hone.append (ws := [w]) (ih hregs (hone.step.unarmed hbut harm) hnd) fun v hv u hu h => hw ?_
    obtain rfl := List.mem_singleton.1 hv
    exact List.mem_map.2 ⟨u, hu, h.symm⟩

/-- A write collides with no word that port A has written at another moment. -/
theorem Quarter.collides_none {x : Quarter} {now : Nat} (h : ∀ e ∈ x.hits, e.time ≠ now) (w : PbWrite) : x.collides w now = false := by
  unfold Quarter.collides
  have hnone : (x.hits.find? fun e => e.word == w.word && e.time == now) = none :=
    List.find?_eq_none.2 fun e he => by simp [h e he]
  rw [hnone]

/-- Where port A has written nothing in this cycle, port B's body words all land (R201). -/
theorem Block.runPb_lands {gs : List (List PbWrite)} (hbut : 0x300044 ∉ but) (hregs : ∀ w ∈ gs.flatten, w.regs q ⊆ but)
    (harm : b.rf 0x300044 15 0 = 0) (hhits : ∀ e ∈ (b.q q).hits, e.time ≠ b.now) (hnd : (gs.flatten.map (·.word)).Nodup) :
    PortLands but q gs.flatten b (b.runPb q gs) := by
  induction gs generalizing b with
  | nil => exact portLands_nil
  | cons g gs ih =>
    rw [List.flatten_cons, List.map_append] at hnd
    rw [List.flatten_cons] at hregs
    obtain ⟨hg, hgs, hne⟩ := List.nodup_append.1 hnd
    obtain ⟨hregs, hregs'⟩ := List.forall_mem_append.1 hregs
    have hclash : (g.filter fun w => (b.q q).collides w b.now) = [] :=
      List.filter_eq_nil_iff.2 fun w _ => by simp [Quarter.collides_none hhits w]
    have hfirst := Block.foldl_landPb hbut hregs harm hg
    have hrest := ih hregs' (hfirst.step.unarmed hbut harm) (by rw [hfirst.hits, hfirst.step.now]; exact hhits) hgs
    have hrun : b.runPb q (g :: gs) = (g.foldl (fun b w => b.landPb q w) b).runPb q gs := by
      rw [Block.runPb]
      simp [hclash]
    rw [hrun, List.flatten_cons]
    exact hfirst.append hrest fun v hv w hw => hne _ (List.mem_map_of_mem hv) _ (List.mem_map_of_mem hw)

end

theorem PbWrite.regs_subset (w : PbWrite) (q : Nat) : w.regs q ⊆ landRegs q := by
  unfold PbWrite.regs
  split
  · exact List.nil_subset _
  · exact List.Subset.refl _

-- A parcel at the parcel port (R100, R106)

/-- With no checker armed, a check meets only what is there. -/
theorem Block.parityCheck_unarmed {b : Block} (harm : b.rf 0x300044 15 0 = 0) (checker q sub code : Nat) :
    b.parityCheck checker q sub code false = (b, false) := by
  simp [Block.parityCheck, Block.inject_unarmed _ _ _ _ harm]

theorem Block.checkItem_sound {b : Block} (harm : b.rf 0x300044 15 0 = 0) (q : Nat) {old : Nat} {ws : List LaneWord}
    (h : ∀ w ∈ ws.drop old, w.sound = true) : b.checkItem q none old ws = (b, ws) := by
  induction ws generalizing old with
  | nil => cases old <;> rfl
  | cons w ws ih =>
    cases old with
    | succ n => rw [Block.checkItem, ih (by simpa using h)]
    | zero =>
      obtain ⟨hw, hws⟩ := List.forall_mem_cons.1 (by simpa only [List.drop_zero] using h)
      have hword : b.checkWord q 8 false w = (b, w) := by
        simp [Block.checkWord, Block.parityCheck_unarmed harm, hw]
      have hrest : b.checkItem q none 0 ws = (b, ws) := ih hws
      have hnone : (none == some 0) = false := rfl
      rw [Block.checkItem, hnone, hword]
      dsimp only [Option.bind_none]
      rw [hrest]

theorem Quarter.portItem_quarter {x y : Quarter} {item : List LaneWord} {new : Nat} (h : x.portItem = (item, new, y)) :
    y = { x with lanes := y.lanes, asm := item } := by
  unfold Quarter.portItem at h
  dsimp only at h
  obtain ⟨hitem, h⟩ := Prod.mk.inj h
  obtain ⟨-, hq⟩ := Prod.mk.inj h
  rw [← hq, ← hitem]
  rfl

/-- The block with the words of an item at a Quarter's parcel port, and what the lanes then hold. -/
def Block.itemAt (b : Block) (q : Nat) (lanes : SMap Lane) (item : List LaneWord) : Block :=
  b.setQ q { b.q q with lanes := lanes, asm := item }

/-- The end of a port B operation: what port A wrote in its cycle is past. -/
def Block.portDone (b : Block) (q : Nat) : Block := b.setQ q { b.q q with hits := [] }

section
variable {b : Block} {q op : Nat} {h : LaneWord} {body : List LaneWord} {q1 : Quarter}

/-- A whole parcel is held where it writes to a PENDING line, and is otherwise taken and served (R100, R213). -/
theorem Block.portB_parcel (hp : b.parcelIs q op h body q1) (n : List LaneWord → Nat) (f : Block → Nat → Token → List LaneWord → Block) :
    portB op q none n f b =
      if pbHeld (b.q q) (pbWord h.tok) (n body) then (b.itemAt q q1.lanes (h :: body)).bump (frmCnt q 5)
      else (f (b.itemAt q q1.lanes []) h.pt h.tok body).portDone q := by
  obtain ⟨hawake, hpbq, harm, hop, new, hitem, hsound⟩ := hp
  have hq1 := Quarter.portItem_quarter hitem
  have hcheck := Block.checkItem_sound (b := b.setQ q q1) harm q hsound
  have hitem' : ((b.setQ q q1).setQ q { (b.setQ q q1).q q with asm := h :: body }) = b.itemAt q q1.lanes (h :: body) := by
    rw [Block.setQ_setQ, Block.q_setQ_same, hq1]
    rfl
  have hheld : pbHeld ((b.itemAt q q1.lanes (h :: body)).q q) = pbHeld (b.q q) := by
    unfold Block.itemAt
    rw [Block.q_setQ_same]
    rfl
  have htaken : (b.itemAt q q1.lanes (h :: body)).setQ q { (b.itemAt q q1.lanes (h :: body)).q q with asm := [] } = b.itemAt q q1.lanes [] := by
    unfold Block.itemAt
    rw [Block.setQ_setQ, Block.q_setQ_same]
  unfold portB
  simp only [hawake, hpbq, hitem, hcheck, hitem', hheld, htaken, hop, List.isEmpty_nil, Bool.not_true, Bool.or_self, Bool.false_eq_true,
    if_false]
  rfl

theorem Block.portB_held (hp : b.parcelIs q op h body q1) {n : List LaneWord → Nat} (hheld : pbHeld (b.q q) (pbWord h.tok) (n body) = true)
    (f : Block → Nat → Token → List LaneWord → Block) :
    portB op q none n f b = (b.itemAt q q1.lanes (h :: body)).bump (frmCnt q 5) := by
  rw [Block.portB_parcel hp, if_pos hheld]

theorem Block.portB_served (hp : b.parcelIs q op h body q1) {n : List LaneWord → Nat} (hheld : pbHeld (b.q q) (pbWord h.tok) (n body) = false)
    (f : Block → Nat → Token → List LaneWord → Block) :
    portB op q none n f b = (f (b.itemAt q q1.lanes []) h.pt h.tok body).portDone q := by
  rw [Block.portB_parcel hp, hheld, if_neg Bool.false_ne_true]

/-- A parcel that writes nothing is never held. -/
theorem Block.portB_reads (hp : b.parcelIs q op h body q1) (f : Block → Nat → Token → List LaneWord → Block) :
    portB op q none (fun _ => 0) f b = (f (b.itemAt q q1.lanes []) h.pt h.tok body).portDone q :=
  Block.portB_served hp rfl f

theorem Block.q_itemAt (b : Block) (q : Nat) (lanes : SMap Lane) (item : List LaneWord) :
    (b.itemAt q lanes item).q q = { b.q q with lanes := lanes, asm := item } := b.q_setQ_same q _

theorem Block.q_portDone (b : Block) (q : Nat) : (b.portDone q).q q = { b.q q with hits := [] } := b.q_setQ_same q _

theorem Block.reg_portDone (b : Block) (q off : Nat) : (b.portDone q).reg off = b.reg off := rfl

end

/-- The count of a request that reaches past frame memory (R200). -/
theorem Block.pbBound_step (b : Block) (q first n : Nat) : QuarterStep [frmCnt q 6] q (b.q q) b (b.pbBound q first n) := by
  unfold Block.pbBound
  split
  · exact quarterStep_bump 1 (by simp)
  · exact quarterStep_refl

theorem Block.reg_pbBound (b : Block) (q : Nat) {first n : Nat} (h : 131072 < first + n) :
    (b.pbBound q first n).reg (frmCnt q 6) = satAdd (b.reg (frmCnt q 6)) 1 := by
  rw [Block.pbBound, if_pos h, Block.reg_bump_one]

-- The words that a write parcel names (R199, R200)

/-- The words written from a first one on, of those that lie in frame memory. -/
def writesFrom (first : Nat) (ws : List (Option W64 × Option (BitVec 2))) : List PbWrite :=
  ((List.range ws.length).zip ws).filterMap fun x =>
    if 131072 ≤ first + x.1 then none else some { word := first + x.1, data := x.2.1, pres := x.2.2 }

theorem writesFrom_append (first : Nat) (ws vs : List (Option W64 × Option (BitVec 2))) :
    writesFrom first (ws ++ vs) = writesFrom first ws ++ writesFrom (first + ws.length) vs := by
  unfold writesFrom
  rw [List.length_append, List.range_add, List.zip_append (by simp), List.zip_map_left, List.filterMap_append, List.filterMap_map]
  congr 2
  funext x
  simp [Nat.add_assoc]

theorem mem_writesFrom {first : Nat} {ws : List (Option W64 × Option (BitVec 2))} {w : PbWrite} (h : w ∈ writesFrom first ws) :
    ∃ i, ∃ _ : i < ws.length, first + i < 131072 ∧ w = { word := first + i, data := ws[i].1, pres := ws[i].2 } := by
  obtain ⟨e, he, hw⟩ := List.mem_filterMap.1 h
  obtain ⟨i, hi, rfl⟩ := List.mem_iff_getElem.1 he
  have hlen : i < ws.length := by simpa using hi
  rw [List.getElem_zip, List.getElem_range] at hw
  by_cases hin : 131072 ≤ first + i
  · simp [hin] at hw
  · exact ⟨i, hlen, by omega, by simpa [hin] using hw.symm⟩

theorem writesFrom_mem {first i : Nat} {ws : List (Option W64 × Option (BitVec 2))} (hi : i < ws.length) (hin : first + i < 131072) :
    ({ word := first + i, data := ws[i].1, pres := ws[i].2 } : PbWrite) ∈ writesFrom first ws := by
  have hzip : (i, ws[i]) ∈ (List.range ws.length).zip ws :=
    List.mem_iff_getElem.2 ⟨i, by simpa using hi, by rw [List.getElem_zip, List.getElem_range]⟩
  refine List.mem_filterMap.2 ⟨_, hzip, ?_⟩
  rw [if_neg (by dsimp only; omega)]

theorem writesFrom_nodup (first : Nat) (ws : List (Option W64 × Option (BitVec 2))) : ((writesFrom first ws).map (·.word)).Nodup := by
  induction ws generalizing first with
  | nil => exact List.nodup_nil
  | cons e ws ih =>
    have hcons := writesFrom_append first [e] ws
    rw [List.singleton_append] at hcons
    rw [hcons, List.map_append]
    refine List.nodup_append.2 ⟨?_, ih _, ?_⟩
    · by_cases h : 131072 ≤ first <;> simp [writesFrom, h]
    · intro a ha c hc hac
      obtain ⟨v, hv, rfl⟩ := List.mem_map.1 ha
      obtain ⟨w, hw, rfl⟩ := List.mem_map.1 hc
      obtain ⟨i, hi, _, rfl⟩ := mem_writesFrom hv
      obtain ⟨j, hj, _, rfl⟩ := mem_writesFrom hw
      simp only [List.length_cons, List.length_nil] at hi hac
      omega

theorem pbGroups_flatten (first : Nat) (per : LaneWord → List (Option W64 × Option (BitVec 2))) (body : List LaneWord) :
    (pbGroups first per body).flatten = writesFrom first (body.flatMap per) := by
  induction body generalizing first with
  | nil => rfl
  | cons w body ih =>
    rw [pbGroups, List.flatten_cons, ih, List.flatMap_cons, writesFrom_append]
    rfl

-- The port B writes complete (R196, R199 to R201, R213)

section
variable {s : State} {q : Fin 68} {e : Instr × Nat × (LaneWord → List (Option W64 × Option (BitVec 2)))} {h : LaneWord}
    {body : List LaneWord} {q1 : Quarter}

/-- The 64 presence codes of a body word, as PRES_WRITE writes them. -/
theorem presCodes_eq (w : LaneWord) : presCodes w =
    (List.range 64).map fun i => BitVec.ofNat 2 ((w.tok.value.toNat + 2 ^ 64 * w.tok.tag.toNat) / 4 ^ i) := by
  unfold presCodes
  refine List.map_congr_left fun i _ => ?_
  rw [Nat.shiftLeft_eq, Nat.shiftRight_eq_div_pow, pow_mul, Nat.mul_comm w.tok.tag.toNat, show (2 : Nat) ^ 2 = 4 from rfl]

theorem length_flatMap_const {α β : Type} {per : α → List β} {k : Nat} (h : ∀ w, (per w).length = k) (body : List α) :
    (body.flatMap per).length = k * body.length := by
  simp [List.length_flatMap, h, Nat.mul_comm]

/-- Each write parcel is served by the words that its body words name. -/
theorem exec_portBWrites (s : State) (q : Fin 68) : ∀ e ∈ portBWrites q, exec e.1 s =
    act (portB e.2.1 q none (fun body => (body.flatMap e.2.2).length) fun b _ h body =>
      b.pbWrite q h (body.flatMap e.2.2).length e.2.2 body) s := by
  simp only [portBWrites, List.forall_mem_cons, List.not_mem_nil, false_implies, implies_true, and_true]
  refine ⟨?write, ?keep, ?presence⟩
  case write =>
    simp only [length_flatMap_const (k := 2), List.length_cons, List.length_nil, implies_true]
    rfl
  case keep =>
    simp only [length_flatMap_const (k := 2), List.length_cons, List.length_nil, implies_true]
    rfl
  case presence =>
    have hper : (fun w : LaneWord => (presCodes w).map fun c => ((none : Option W64), some c)) = fun w => (List.range 64).map fun i =>
        (none, some (BitVec.ofNat 2 ((w.tok.value.toNat + 2 ^ 64 * w.tok.tag.toNat) / 4 ^ i))) := by
      funext w
      rw [presCodes_eq, List.map_map]
      rfl
    have hlen : ∀ w : LaneWord, ((presCodes w).map fun c => ((none : Option W64), some c)).length = 64 := fun w => by simp [presCodes]
    rw [← hper]
    simp only [length_flatMap_const hlen]
    rfl

/-- WRITE writes its words FULL, WRITE_KEEP data alone and PRES_WRITE presence alone (R199). -/
theorem portBWrites_per : ∀ e ∈ portBWrites q, ∀ w, ∀ x ∈ e.2.2 w,
    (x.1.isSome = true → x.2.isSome = true → x.2 = some 3) ∧ (e.2.1 = 1 → x.1.isSome = true ∧ x.2 = none) := by
  simp only [portBWrites, List.forall_mem_cons, List.not_mem_nil, false_implies, implies_true, and_true, List.forall_mem_map]
  simp

/-- The registers that a write parcel's words can change as they land: WRITE_KEEP's are not read. -/
def writeRegs (q op : Nat) : List Nat := if op = 1 then [] else landRegs q

theorem mem_writes_of_parcel (he : e ∈ portBWrites q) {first : Nat} {w : PbWrite} (hw : w ∈ writesFrom first (body.flatMap e.2.2)) :
    w.fullData ∧ w.regs q ⊆ writeRegs q e.2.1 := by
  obtain ⟨i, hi, _, rfl⟩ := mem_writesFrom hw
  obtain ⟨l, -, hx⟩ := List.mem_flatMap.1 (List.getElem_mem hi)
  obtain ⟨hfull, hkeep⟩ := portBWrites_per e he l _ hx
  refine ⟨hfull, ?_⟩
  unfold writeRegs
  split
  · next h1 =>
    obtain ⟨hdata, hpres⟩ := hkeep h1
    simp [PbWrite.regs, hdata, hpres]
  · exact PbWrite.regs_subset _ _

theorem injection_notMem_writeRegs (q op : Nat) : 0x300044 ∉ writeRegs q op := by
  unfold writeRegs
  split
  · exact List.not_mem_nil
  · exact injection_notMem_landRegs q

/-- A parcel as it is taken and its bound counted. -/
def Block.writeTaken (b : Block) (q : Nat) (lanes : SMap Lane) (first n : Nat) : Block := (b.itemAt q lanes []).pbBound q first n

theorem Block.q_writeTaken (b : Block) (q : Nat) (lanes : SMap Lane) (first n : Nat) :
    (b.writeTaken q lanes first n).q q = { b.q q with lanes := lanes, asm := [] } := by
  unfold Block.writeTaken
  rw [(Block.pbBound_step _ q first n).quarter, Block.q_itemAt]

theorem Block.writeTaken_step (b : Block) (q : Nat) (lanes : SMap Lane) (first n : Nat) :
    QuarterStep [frmCnt q 6] q { b.q q with lanes := lanes, asm := [] } b (b.writeTaken q lanes first n) := by
  have htaken : QuarterStep [frmCnt q 6] q { b.q q with lanes := lanes, asm := [] } b (b.itemAt q lanes []) := quarterStep_setQ
  exact htaken.kept (Block.pbBound_step _ q first n)

theorem Block.writeTaken_unarmed {b : Block} (q : Nat) (lanes : SMap Lane) (first n : Nat) (harm : b.rf 0x300044 15 0 = 0) :
    (b.writeTaken q lanes first n).rf 0x300044 15 0 = 0 :=
  (b.writeTaken_step q lanes first n).unarmed (by simp only [frmCnt, qOff, List.mem_singleton]; omega) harm

/-- A write parcel that no line holds and port A does not meet lands whole. -/
theorem portBWrites_lands (he : e ∈ portBWrites q) (hp : s.blk.parcelIs q e.2.1 h body q1)
    (hheld : pbHeld (s.blk.q q) (pbWord h.tok) (body.flatMap e.2.2).length = false) (hhits : ∀ x ∈ (s.blk.q q).hits, x.time ≠ s.blk.now) :
    ∃ c, Completes e.1 s (c.portDone q) ∧
      PortLands (writeRegs q e.2.1) q (writesFrom (pbWord h.tok) (body.flatMap e.2.2))
        (s.blk.writeTaken q q1.lanes (pbWord h.tok) (body.flatMap e.2.2).length) c := by
  obtain ⟨-, -, harm, -⟩ := id hp
  refine ⟨(s.blk.writeTaken q q1.lanes (pbWord h.tok) (body.flatMap e.2.2).length).runPb q (pbGroups (pbWord h.tok) e.2.2 body), ?_, ?_⟩
  · unfold Completes
    rw [exec_portBWrites s q e he, act_eq, Block.portB_served hp hheld]
    rfl
  · rw [← pbGroups_flatten]
    refine Block.runPb_lands (injection_notMem_writeRegs q _) (fun w hw => ?_) (Block.writeTaken_unarmed q _ _ _ harm) ?_ ?_
    · rw [pbGroups_flatten] at hw
      exact (mem_writes_of_parcel he hw).2
    · rw [Block.q_writeTaken, (Block.writeTaken_step ..).now]
      exact hhits
    · rw [pbGroups_flatten]
      exact writesFrom_nodup _ _

theorem portBWrites_held (he : e ∈ portBWrites q) (hp : s.blk.parcelIs q e.2.1 h body q1)
    (hheld : pbHeld (s.blk.q q) (pbWord h.tok) (body.flatMap e.2.2).length = true) :
    Completes e.1 s ((s.blk.itemAt q q1.lanes (h :: body)).bump (frmCnt q 5)) := by
  unfold Completes
  rw [exec_portBWrites s q e he, act_eq, Block.portB_held hp hheld]

/-- Where port A has written the first of two words in this cycle with another value, the second lands and the first waits (R201). -/
theorem Block.runPb_collides {b : Block} {q first : Nat} {v t : W64} {x : PortHit} (harm : b.rf 0x300044 15 0 = 0)
    (hhits : (b.q q).hits = [x]) (htime : x.time = b.now) (hword : x.word = first) (hne : v ≠ ((b.q q).fw first).data) :
    ∃ c, PortLands (landRegs q) q [⟨first + 1, some t, some 3⟩] b c ∧
      b.runPb q [[⟨first, some v, some 3⟩, ⟨first + 1, some t, some 3⟩]] =
        (c.setQ q { c.q q with pbq := [[⟨first, some v, some 3⟩]] }).bump (frmCnt q 3) := by
  have hclash : (b.q q).collides ⟨first, some v, some 3⟩ b.now = true := by
    simp [Quarter.collides, hhits, htime, hword, hne]
  have hfree : (b.q q).collides ⟨first + 1, some t, some 3⟩ b.now = false := by
    simp [Quarter.collides, hhits, hword]
  have hrefused : (([⟨first, some v, some 3⟩, ⟨first + 1, some t, some 3⟩] : List PbWrite).filter fun w => (b.q q).collides w b.now) =
      [⟨first, some v, some 3⟩] := by
    simp only [List.filter_cons, List.filter_nil, hclash, hfree, Bool.false_eq_true, if_true, if_false]
  have hothers : (([⟨first, some v, some 3⟩, ⟨first + 1, some t, some 3⟩] : List PbWrite).filter fun w =>
      !([⟨first, some v, some 3⟩] : List PbWrite).contains w) = [⟨first + 1, some t, some 3⟩] := by
    simp
  refine ⟨_, (Block.landPb_lands q _ harm).mono (PbWrite.regs_subset _ _), ?_⟩
  unfold Block.runPb
  simp only [hrefused, hothers]
  rfl

/-- PORT_B_WRITE_RETRY lands the refused words and those behind them. -/
theorem portBWriteRetry_lands {g : List PbWrite} {gs : List (List PbWrite)} (hpbq : (s.blk.q q).pbq = g :: gs) (hawake : s.blk.qAwake q = true)
    (harm : s.blk.rf 0x300044 15 0 = 0) (hfree : (g.any fun w => (s.blk.q q).pend.contains (w.word / 8)) = false)
    (hnd : ((g :: gs).flatten.map (·.word)).Nodup) :
    ∃ c, Completes (.portBWriteRetry q) s c ∧
      PortLands (landRegs q) q (g :: gs).flatten (s.blk.setQ q { s.blk.q q with pbq := [], hits := [] }) c := by
  rw [List.flatten_cons, List.map_append] at hnd
  obtain ⟨hg, hgs, hne⟩ := List.nodup_append.1 hnd
  have hfirst := Block.foldl_landPb (b := s.blk.setQ q { s.blk.q q with pbq := [], hits := [] }) (injection_notMem_landRegs q)
    (fun w _ => PbWrite.regs_subset w q) harm hg
  have hhits := hfirst.hits
  rw [Block.q_setQ_same] at hhits
  have hrest := Block.runPb_lands (injection_notMem_landRegs q) (fun w _ => PbWrite.regs_subset w q)
    (hfirst.step.unarmed (injection_notMem_landRegs q) harm) (by rw [hhits]; exact fun _ he => absurd he List.not_mem_nil) hgs
  refine ⟨_, ?_, hfirst.append hrest fun v hv w hw => hne _ (List.mem_map_of_mem hv) _ (List.mem_map_of_mem hw)⟩
  unfold Completes
  show execPortBWriteRetry q s = _
  rw [execPortBWriteRetry, act_eq]
  simp only [hpbq, hawake, hfree, Bool.not_true, Bool.false_eq_true, if_false]

theorem portBWriteRetry_held {g : List PbWrite} {gs : List (List PbWrite)} (hpbq : (s.blk.q q).pbq = g :: gs) (hawake : s.blk.qAwake q = true)
    (hheld : (g.any fun w => (s.blk.q q).pend.contains (w.word / 8)) = true) :
    Completes (.portBWriteRetry q) s (s.blk.bump (frmCnt q 5)) := by
  unfold Completes
  show execPortBWriteRetry q s = _
  rw [execPortBWriteRetry, act_eq]
  simp only [hpbq, hawake, hheld, Bool.not_true, Bool.false_eq_true, if_false, if_true]

theorem portBBadOp_completes (hp : s.blk.parcelIs q 6 h body q1) :
    Completes (.portBBadOp q none) s (((s.blk.itemAt q q1.lanes []).bump (frmCnt q 6)).portDone q) := by
  unfold Completes
  show execPortBBadOp q none s = _
  rw [execPortBBadOp, act_eq, Block.portB_reads hp]

theorem frameCeWriteback_completes {word : Nat} {v : W64} {rest : List (Nat × W64)} (hwb : (s.blk.q q).wb = (word, v) :: rest)
    (hawake : s.blk.qAwake q = true) :
    Completes (.frameCeWriteback q) s (s.blk.setQ q { s.blk.q q with
      frame := putFrame (s.blk.q q).frame word { (s.blk.q q).fw word with data := v, ce := false }, wb := rest }) := by
  unfold Completes
  show execFrameCeWriteback q s = _
  rw [execFrameCeWriteback, act_eq]
  simp only [hwb, hawake, Bool.not_true, Bool.false_eq_true, if_false]

end

section
variable {q : Nat} {but : List Nat} {lanes : SMap Lane} {first n : Nat} {ws : List PbWrite} {b c : Block}

/-- What a write parcel leaves once its words have landed. -/
theorem PortLands.parcel (h : PortLands but q ws (b.writeTaken q lanes first n) c) :
    QuarterStep (frmCnt q 6 :: but) q { c.q q with hits := [] } b (c.portDone q) ∧
      Landed ws { b.q q with lanes := lanes, asm := [] } (c.q q) := by
  have hland := h.landed
  rw [Block.q_writeTaken] at hland
  have htaken := (b.writeTaken_step q lanes first n).mono (more := frmCnt q 6 :: but) (by simp)
  exact ⟨(htaken.trans (h.step.mono (by simp))).trans quarterStep_setQ, hland⟩

theorem PortLands.reg_bound (h : PortLands but q ws (b.writeTaken q lanes first n) c) (hbut : frmCnt q 6 ∉ but) (hpast : 131072 < first + n) :
    (c.portDone q).reg (frmCnt q 6) = satAdd (b.reg (frmCnt q 6)) 1 :=
  (h.step.reg hbut).trans (Block.reg_pbBound _ q hpast)

end

theorem frmCnt_notMem_writeRegs (q op : Nat) {k : Nat} (h : 3 ≤ k) : frmCnt q k ∉ writeRegs q op := by
  unfold writeRegs
  split
  · exact List.not_mem_nil
  · exact frmCnt_notMem_landRegs q h

/-- A refused write: the first word waits behind port B, and the second has landed. -/
theorem portBWrite_collides {s : State} {q : Fin 68} {h w : LaneWord} {q1 : Quarter} {x : PortHit} (hp : s.blk.parcelIs q 0 h [w] q1)
    (hheld : pbHeld (s.blk.q q) (pbWord h.tok) 2 = false) (hin : pbWord h.tok + 1 < 131072) (hhits : (s.blk.q q).hits = [x])
    (htime : x.time = s.blk.now) (hword : x.word = pbWord h.tok) (hne : w.tok.value ≠ ((s.blk.q q).fw (pbWord h.tok)).data) :
    ∃ c, Completes (.portBWrite q none) s
        (((c.setQ q { c.q q with pbq := [[⟨pbWord h.tok, some w.tok.value, some 3⟩]] }).bump (frmCnt q 3)).portDone q) ∧
      PortLands (landRegs q) q [⟨pbWord h.tok + 1, some w.tok.tag, some 3⟩] (s.blk.writeTaken q q1.lanes (pbWord h.tok) 2) c := by
  obtain ⟨-, -, harm, -⟩ := id hp
  obtain ⟨c, hlands, hrun⟩ := Block.runPb_collides (b := s.blk.writeTaken q q1.lanes (pbWord h.tok) 2) (q := q) (first := pbWord h.tok)
    (v := w.tok.value) (t := w.tok.tag) (x := x) (Block.writeTaken_unarmed q _ _ _ harm) (by rw [Block.q_writeTaken]; exact hhits)
    (by rw [(Block.writeTaken_step ..).now]; exact htime) hword (by rw [Block.q_writeTaken]; exact hne)
  have hgroups : pbGroups (pbWord h.tok) (fun w => [(some w.tok.value, some 3), (some w.tok.tag, some 3)]) [w] =
      [[⟨pbWord h.tok, some w.tok.value, some 3⟩, ⟨pbWord h.tok + 1, some w.tok.tag, some 3⟩]] := by
    have h0 : ¬ 131072 ≤ pbWord h.tok := by omega
    have h1 : ¬ 131072 ≤ pbWord h.tok + 1 := by omega
    simp [pbGroups, List.range_succ, h0, h1]
  refine ⟨c, ?_, hlands⟩
  unfold Completes
  show execPortBWrite q none s = _
  rw [execPortBWrite, act_eq, Block.portB_served hp hheld, ← hrun, ← hgroups]
  rfl

-- Replies (R199, R200)

/-- The body of a reply parcel, whose last word carries END. -/
def replyBody (dest : Nat) (body : List (W64 × W64 × Bool)) : List LaneWord :=
  ((List.range body.length).zip body).map fun e =>
    { tok := { value := e.2.1, tag := e.2.2.1, ctrl := mkCtrl 0 0 e.2.2.2 (e.1 + 1 == body.length) false 0 0 }, pt := dest }

/-- A reply parcel: its head, and its body words. -/
def replyWords (dest : Nat) (head : Token) (status : Nat) (body : List (W64 × W64 × Bool)) : List LaneWord :=
  { tok := replyHead head status (body.length == 0), pt := dest } :: replyBody dest body

theorem Block.reply_eq (b : Block) (q dest : Nat) (head : Token) (status : Nat) (body : List (W64 × W64 × Bool)) :
    b.reply q dest head status body = b.setQ q { b.q q with vc1Out := (b.q q).vc1Out ++ replyWords dest head status body } := by
  unfold Block.reply replyWords replyBody
  simp only [List.map_cons, List.map_map]
  rfl

theorem Block.vc1Out_reply (b : Block) (q dest : Nat) (head : Token) (status : Nat) (body : List (W64 × W64 × Bool)) :
    ((b.reply q dest head status body).q q).vc1Out = (b.q q).vc1Out ++ replyWords dest head status body := by
  rw [Block.reply_eq, Block.q_setQ_same]

/-- A read's operation ends with its answer. -/
def Block.answered (b : Block) (q dest : Nat) (head : Token) (status : Nat) (body : List (W64 × W64 × Bool)) : Block :=
  (b.reply q dest head status body).portDone q

theorem Block.regs_answered (b : Block) (q dest : Nat) (head : Token) (status : Nat) (body : List (W64 × W64 × Bool)) :
    (b.answered q dest head status body).regs = b.regs := rfl

theorem Block.reg_answered (b : Block) (q dest : Nat) (head : Token) (status : Nat) (body : List (W64 × W64 × Bool)) (off : Nat) :
    (b.answered q dest head status body).reg off = b.reg off := rfl

theorem QuarterStep.answered {but : List Nat} {q : Nat} {x : Quarter} {b c : Block} (h : QuarterStep but q x b c) (dest : Nat) (head : Token)
    (status : Nat) (body : List (W64 × W64 × Bool)) :
    QuarterStep but q { x with vc1Out := x.vc1Out ++ replyWords dest head status body, hits := [] } b (c.answered q dest head status body) := by
  have hreply : QuarterStep but q { x with vc1Out := x.vc1Out ++ replyWords dest head status body } b (c.reply q dest head status body) := by
    rw [Block.reply_eq, h.quarter]
    exact h.trans quarterStep_setQ
  unfold Block.answered Block.portDone
  rw [hreply.quarter]
  exact hreply.trans quarterStep_setQ

/-- The body word at a place of a reply carries the POISON asked for. -/
theorem poison_replyBody (dest : Nat) (body : List (W64 × W64 × Bool)) {k : Nat} (hk : k < body.length)
    (hk' : k < (replyBody dest body).length) : (replyBody dest body)[k].tok.poison = body[k].2.2 := by
  have hbit : ∀ p l : Bool, (mkCtrl 0 0 p l false 0 0).toNat.testBit 8 = p := by decide
  simp only [replyBody, List.getElem_map, List.getElem_zip, List.getElem_range, Token.poison, hbit]

theorem length_replyBody (dest : Nat) (body : List (W64 × W64 × Bool)) : (replyBody dest body).length = body.length := by
  simp [replyBody]

-- Port B reads words (R199, R200, R207 to R209)

/-- A frame word as port B reads it: past frame memory it is 0 and poisoned (R200). -/
def Quarter.portWord (x : Quarter) (a : Nat) : W64 × Bool := if a < 131072 then ((x.fw a).data, (x.fw a).bad) else (0, true)

section
variable {b : Block} (q : Nat) {first : Nat} (n : Nat)

theorem Block.pbReadWords_past (h : 131072 ≤ first) : b.pbReadWords q first [] (n + 1) =
    ((b.pbReadWords q (first + 1) [] n).1, (0, true) :: (b.pbReadWords q (first + 1) [] n).2) := by
  rw [Block.pbReadWords, if_pos h]
  rfl

theorem Block.pbReadWords_inside (h : first < 131072) : b.pbReadWords q first [] (n + 1) =
    (((b.frameRead q first 0 true).1.pbReadWords q (first + 1) [] n).1,
      (b.frameRead q first 0 true).2 :: ((b.frameRead q first 0 true).1.pbReadWords q (first + 1) [] n).2) := by
  rw [Block.pbReadWords, if_neg (by omega)]
  rfl

variable (harm : b.rf 0x300044 15 0 = 0)
include harm

/-- Reads leave the Quarter but for the write-backs they ask for. -/
theorem Block.pbReadWords_step : ∃ wb, QuarterStep (errorRegs q) q { b.q q with wb := wb } b (b.pbReadWords q first [] n).1 := by
  induction n generalizing b first with
  | zero => exact ⟨(b.q q).wb, quarterStep_refl⟩
  | succ n ih =>
    by_cases h : first < 131072
    · obtain ⟨wb, hread⟩ := Block.frameRead_step q first true harm
      obtain ⟨wb', hrest⟩ := ih (first := first + 1) (hread.unarmed (injection_notMem_errorRegs q) harm)
      rw [hread.quarter] at hrest
      rw [Block.pbReadWords_inside q n h]
      exact ⟨wb', hread.trans hrest⟩
    · rw [Block.pbReadWords_past q n (by omega)]
      exact ih harm

theorem Block.pbReadWords_words : (b.pbReadWords q first [] n).2 = (List.range n).map fun i => (b.q q).portWord (first + i) := by
  induction n generalizing b first with
  | zero => rfl
  | succ n ih =>
    have hnext : ∀ x : Quarter, ((List.range n).map fun i => x.portWord (first + 1 + i)) =
        (List.range n).map ((fun i => x.portWord (first + i)) ∘ Nat.succ) := fun x => List.map_congr_left fun i _ => by
      rw [Function.comp_apply, Nat.add_assoc, Nat.add_comm 1 i]
    rw [List.range_succ_eq_map, List.map_cons, List.map_map, ← hnext]
    by_cases h : first < 131072
    · obtain ⟨wb, hread⟩ := Block.frameRead_step q first true harm
      rw [Block.pbReadWords_inside q n h, ih (hread.unarmed (injection_notMem_errorRegs q) harm), Block.frameRead_word q first true harm,
        hread.quarter]
      simp only [Quarter.portWord, Nat.add_zero, h, if_true]
      rfl
    · rw [Block.pbReadWords_past q n (by omega), ih harm]
      simp only [Quarter.portWord, Nat.add_zero, h, if_false]

/-- Reads of sound words change nothing. -/
theorem Block.pbReadWords_sound (h : ∀ i < n, ((b.q q).fw (first + i)).bad = false ∧ ((b.q q).fw (first + i)).ce = false) :
    (b.pbReadWords q first [] n).1 = b := by
  induction n generalizing first with
  | zero => rfl
  | succ n ih =>
    have hrest : (b.pbReadWords q (first + 1) [] n).1 = b := ih fun i hi => by
      rw [Nat.add_right_comm]
      exact h (i + 1) (by omega)
    by_cases hin : first < 131072
    · obtain ⟨hbad, hce⟩ := h 0 (by omega)
      rw [Block.pbReadWords_inside q n hin, Block.frameRead_sound q first true harm hbad hce, hrest]
    · rw [Block.pbReadWords_past q n (by omega), hrest]

/-- UE never falls. -/
theorem Block.le_reg_pbReadWords : satAdd (b.reg (frmCnt q 1)) 0 ≤ (b.pbReadWords q first [] n).1.reg (frmCnt q 1) := by
  induction n generalizing b first with
  | zero =>
    exact Nat.min_le_left _ _
  | succ n ih =>
    by_cases h : first < 131072
    · obtain ⟨wb, hread⟩ := Block.frameRead_step q first true harm
      have hcount := Block.reg_frameRead q first true harm
      have hrest := ih (first := first + 1) (hread.unarmed (injection_notMem_errorRegs q) harm)
      rw [Block.pbReadWords_inside q n h]
      refine le_trans ?_ hrest
      rw [hcount]
      unfold satAdd
      split <;> omega
    · rw [Block.pbReadWords_past q n (by omega)]
      exact ih harm

/-- UE counts an uncorrectable word that is read. -/
theorem Block.lt_reg_pbReadWords {i : Nat} (hi : i < n) (hin : first + i < 131072) (hbad : ((b.q q).fw (first + i)).bad = true) :
    satAdd (b.reg (frmCnt q 1)) 1 ≤ (b.pbReadWords q first [] n).1.reg (frmCnt q 1) := by
  induction n generalizing b first i with
  | zero => omega
  | succ n ih =>
    obtain ⟨wb, hread⟩ := Block.frameRead_step q first true harm
    have harm' := hread.unarmed (injection_notMem_errorRegs q) harm
    have hcount := Block.reg_frameRead q first true harm
    rw [Block.pbReadWords_inside q n (by omega)]
    cases i with
    | zero =>
      rw [Nat.add_zero] at hbad
      rw [if_pos hbad] at hcount
      refine le_trans ?_ (Block.le_reg_pbReadWords q n harm')
      rw [hcount]
      unfold satAdd
      omega
    | succ i =>
      refine le_trans ?_ (ih harm' (i := i) (by omega) (by omega) (by rw [hread.quarter, Nat.add_right_comm]; exact hbad))
      rw [hcount]
      unfold satAdd
      split <;> omega

end

-- Presence codes in body words (R199)

/-- Presence codes as one number, two bits to a code. -/
def packCodes : List (BitVec 2) → Nat
  | [] => 0
  | c :: cs => c.toNat + 4 * packCodes cs

theorem packCodes_lt (cs : List (BitVec 2)) : packCodes cs < 4 ^ cs.length := by
  induction cs with
  | nil => exact Nat.one_pos
  | cons c cs ih =>
    have hc := c.isLt
    rw [packCodes, List.length_cons, pow_succ]
    omega

theorem packCodes_digit (cs : List (BitVec 2)) (i : Nat) : packCodes cs / 4 ^ i % 4 = (cs.getD i 0).toNat := by
  induction cs generalizing i with
  | nil => simp [packCodes]
  | cons c cs ih =>
    have hc := c.isLt
    cases i with
    | zero =>
      rw [packCodes, pow_zero, Nat.div_one, List.getD_cons_zero]
      omega
    | succ i =>
      rw [packCodes, pow_succ', ← Nat.div_div_eq_div_mul, Nat.add_mul_div_left _ _ (by decide), List.getD_cons_succ, ← ih]
      congr 2
      omega

theorem foldl_codes (cs : List (BitVec 2)) (s n a : Nat) :
    ((List.range' s n).zip cs).foldl (fun a e => a + (e.2.toNat <<< (2 * e.1))) a = a + 4 ^ s * packCodes (cs.take n) := by
  induction n generalizing cs s a with
  | zero => simp [packCodes]
  | succ n ih =>
    cases cs with
    | nil => simp [packCodes]
    | cons c cs =>
      rw [List.range'_succ, List.zip_cons_cons, List.foldl_cons, ih, List.take_succ_cons, packCodes, Nat.shiftLeft_eq, pow_mul,
        show (2 : Nat) ^ 2 = 4 from rfl, pow_succ]
      ring

/-- A body word of the codes' number holds the codes, then zeros. -/
theorem presCodes_packed {cs : List (BitVec 2)} (h : cs.length ≤ 64) {w : LaneWord} (hv : w.tok.value = BitVec.ofNat 64 (packCodes cs))
    (ht : w.tok.tag = BitVec.ofNat 64 (packCodes cs >>> 64)) : presCodes w = cs ++ List.replicate (64 - cs.length) 0 := by
  have hlt : packCodes cs < 4 ^ 64 := (packCodes_lt cs).trans_le (Nat.pow_le_pow_right (by decide) h)
  have hnum : w.tok.value.toNat + 2 ^ 64 * w.tok.tag.toNat = packCodes cs := by
    rw [hv, ht, BitVec.toNat_ofNat, BitVec.toNat_ofNat, Nat.shiftRight_eq_div_pow]
    omega
  rw [presCodes_eq, hnum]
  refine List.ext_getElem (by simp; omega) fun i hi hi' => ?_
  have hdigit : BitVec.ofNat 2 (packCodes cs / 4 ^ i) = cs.getD i 0 :=
    BitVec.eq_of_toNat_eq (by rw [BitVec.toNat_ofNat]; exact packCodes_digit cs i)
  rw [List.getElem_map, List.getElem_range, hdigit, List.getElem_append]
  split
  · next hlen => exact List.getD_eq_getElem _ _ hlen
  · next hlen => rw [List.getElem_replicate, List.getD_eq_default _ _ (by omega)]

theorem packPres_cons (fuel : Nat) {cs : List (BitVec 2)} (h : cs ≠ []) : packPres (fuel + 1) cs =
    (BitVec.ofNat 64 (packCodes (cs.take 64)), BitVec.ofNat 64 (packCodes (cs.take 64) >>> 64), false) :: packPres fuel (cs.drop 64) := by
  cases cs with
  | nil => exact absurd rfl h
  | cons c cs =>
    rw [packPres, List.range_eq_range', foldl_codes, pow_zero, Nat.one_mul, Nat.zero_add, List.take_take, Nat.min_self]
    exact h

theorem length_packPres (fuel : Nat) (cs : List (BitVec 2)) (h : cs.length ≤ 64 * fuel) : (packPres fuel cs).length = (cs.length + 63) / 64 := by
  induction fuel generalizing cs with
  | zero =>
    rw [packPres, List.length_nil]
    omega
  | succ fuel ih =>
    by_cases hcs : cs = []
    · rw [hcs, packPres]
      · rfl
      · omega
    · have hpos := List.length_pos_of_ne_nil hcs
      rw [packPres_cons fuel hcs, List.length_cons, ih _ (by rw [List.length_drop]; omega), List.length_drop]
      omega

/-- The codes packed are the codes of the body words in order, but for zeros at the end. -/
theorem codes_packPres (fuel : Nat) (cs : List (BitVec 2)) (h : cs.length ≤ 64 * fuel) :
    ∃ k, ((packPres fuel cs).flatMap fun e => presCodes { tok := { value := e.1, tag := e.2.1, ctrl := 0 }, pt := 0 }) =
      cs ++ List.replicate k 0 := by
  induction fuel generalizing cs with
  | zero => exact ⟨0, by simp [packPres, List.length_eq_zero_iff.1 (by omega : cs.length = 0)]⟩
  | succ fuel ih =>
    by_cases hcs : cs = []
    · exact ⟨0, by simp [hcs, packPres]⟩
    · have hfirst := presCodes_packed (cs := cs.take 64) (by simp) (w := { tok := {
        value := BitVec.ofNat 64 (packCodes (cs.take 64)), tag := BitVec.ofNat 64 (packCodes (cs.take 64) >>> 64), ctrl := 0 }, pt := 0 }) rfl rfl
      obtain ⟨k, hrest⟩ := ih (cs.drop 64) (by rw [List.length_drop]; omega)
      rw [packPres_cons fuel hcs, List.flatMap_cons, hfirst, hrest]
      by_cases hlen : cs.length ≤ 64
      · refine ⟨64 - cs.length + k, ?_⟩
        rw [List.take_of_length_le hlen, List.drop_eq_nil_of_le hlen, List.nil_append, List.append_assoc, List.replicate_append_replicate]
      · have hfull : 64 - (cs.take 64).length = 0 := by
          rw [List.length_take]
          omega
        exact ⟨k, by rw [hfull, List.replicate_zero, List.append_nil, ← List.append_assoc, List.take_append_drop]⟩

-- The port B reads complete (R199, R200, R206, R207, R210)

section
variable {s : State} {q : Fin 68} {h : LaneWord} {body : List LaneWord} {q1 : Quarter}

/-- Whether a read meets an uncorrectable word, as the words read tell. -/
theorem portWords_bad (x : Quarter) (first n : Nat) :
    b2n (((List.range n).zip ((List.range n).map fun i => x.portWord (first + i))).any fun e => e.2.2 && decide (first + e.1 < 131072)) =
      if ∃ i ∈ List.range n, first + i < 131072 ∧ (x.fw (first + i)).bad = true then 1 else 0 := by
  have hzip : (List.range n).zip ((List.range n).map fun i => x.portWord (first + i)) = (List.range n).map fun i => (i, x.portWord (first + i)) := by
    simpa using List.zip_map' (f := id) (g := fun i => x.portWord (first + i)) (l := List.range n)
  have hbad : ∀ i, ((x.portWord (first + i)).2 && decide (first + i < 131072)) = true ↔
      first + i < 131072 ∧ (x.fw (first + i)).bad = true := fun i => by
    by_cases hin : first + i < 131072 <;> simp [Quarter.portWord, hin]
  have hany : (((List.range n).map fun i => (i, x.portWord (first + i))).any fun e => e.2.2 && decide (first + e.1 < 131072)) =
      decide (∃ i ∈ List.range n, first + i < 131072 ∧ (x.fw (first + i)).bad = true) := by
    rw [Bool.eq_iff_iff, decide_eq_true_iff, List.any_map, List.any_eq_true]
    simp only [Function.comp_apply, hbad]
  rw [hzip, hany]
  by_cases hex : ∃ i ∈ List.range n, first + i < 131072 ∧ (x.fw (first + i)).bad = true <;>
    simp only [hex, decide_true, decide_false, b2n, if_true, if_false, Bool.false_eq_true]

/-- The block once a READ has read its words. -/
def Block.portRead (b : Block) (q : Nat) (lanes : SMap Lane) (first n : Nat) : Block :=
  ((b.writeTaken q lanes first n).pbReadWords q first [] n).1

section
variable {b : Block} {q first n : Nat} (lanes : SMap Lane) (harm : b.rf 0x300044 15 0 = 0)
include harm

theorem Block.portRead_step : ∃ wb, QuarterStep (frmCnt q 6 :: errorRegs q) q { b.q q with lanes := lanes, asm := [], wb := wb } b
    (b.portRead q lanes first n) := by
  have htaken := b.writeTaken_step q lanes first n
  obtain ⟨wb, hread⟩ := Block.pbReadWords_step q (first := first) n (b.writeTaken_unarmed q lanes first n harm)
  refine ⟨wb, ?_⟩
  have hboth := (htaken.mono (more := frmCnt q 6 :: errorRegs q) (by simp)).trans (hread.mono (by simp))
  rwa [Block.q_writeTaken] at hboth

/-- An uncorrectable word that is read is counted. -/
theorem Block.reg_portRead_bad {i : Nat} (hi : i < n) (hin : first + i < 131072) (hbad : ((b.q q).fw (first + i)).bad = true) :
    satAdd (b.reg (frmCnt q 1)) 1 ≤ (b.portRead q lanes first n).reg (frmCnt q 1) := by
  have hcount := Block.lt_reg_pbReadWords q n (b.writeTaken_unarmed q lanes first n harm) hi hin (by rw [Block.q_writeTaken]; exact hbad)
  rwa [(b.writeTaken_step q lanes first n).reg (by simp [frmCnt])] at hcount

/-- A read that reaches past frame memory is counted. -/
theorem Block.reg_portRead_past (hpast : 131072 < first + n) :
    (b.portRead q lanes first n).reg (frmCnt q 6) = satAdd (b.reg (frmCnt q 6)) 1 := by
  obtain ⟨wb, hread⟩ := Block.pbReadWords_step q (first := first) n (b.writeTaken_unarmed q lanes first n harm)
  exact (hread.reg (frmCnt_notMem_errorRegs q (by decide))).trans (Block.reg_pbBound (b.itemAt q lanes []) q hpast)

/-- A read of sound words inside frame memory counts nothing. -/
theorem Block.regs_portRead_sound (hin : first + n ≤ 131072)
    (hsound : ∀ i < n, ((b.q q).fw (first + i)).bad = false ∧ ((b.q q).fw (first + i)).ce = false) :
    (b.portRead q lanes first n).regs = b.regs := by
  rw [Block.portRead, Block.pbReadWords_sound q n (b.writeTaken_unarmed q lanes first n harm) (by rw [Block.q_writeTaken]; exact hsound),
    Block.writeTaken, Block.pbBound, if_neg (by omega)]
  rfl

end

theorem portBRead_completes (hp : s.blk.parcelIs q 3 h body q1) :
    Completes (.portBRead q none []) s
      ((s.blk.portRead q q1.lanes (pbWord h.tok) (pbCount h.tok)).answered q h.pt h.tok
        (if ∃ i ∈ List.range (pbCount h.tok), pbWord h.tok + i < 131072 ∧ ((s.blk.q q).fw (pbWord h.tok + i)).bad = true then 1 else 0)
        (pairWords ((List.range (pbCount h.tok)).map fun i => (s.blk.q q).portWord (pbWord h.tok + i)))) := by
  obtain ⟨-, -, harm, -⟩ := id hp
  have hwords := Block.pbReadWords_words q (first := pbWord h.tok) (pbCount h.tok)
    (Block.writeTaken_unarmed q q1.lanes (pbWord h.tok) (pbCount h.tok) harm)
  rw [Block.q_writeTaken] at hwords
  unfold Completes
  show execPortBRead q none [] s = _
  rw [execPortBRead, act_eq, Block.portB_reads hp, ← portWords_bad, Block.portRead]
  unfold Block.writeTaken at hwords ⊢
  dsimp only
  rw [hwords]
  rfl

/-- The codes that PRES_READ finds: past frame memory they are 0. -/
def Quarter.portCodes (x : Quarter) (first n : Nat) : List (BitVec 2) :=
  (List.range n).map fun i => if first + i < 131072 then (x.fw (first + i)).pres else 0

/-- The body of PRES_READ's reply (R199, R200). -/
def presBody (first n : Nat) (cs : List (BitVec 2)) : List (W64 × W64 × Bool) :=
  ((List.range 8).zip (packPres 8 cs)).map fun e => (e.2.1, e.2.2.1, decide (131072 < first + min n (64 * (e.1 + 1))))

theorem portBPresRead_completes (hp : s.blk.parcelIs q 4 h body q1) :
    Completes (.portBPresRead q none) s ((s.blk.writeTaken q q1.lanes (pbWord h.tok) (pbCount h.tok)).answered q h.pt h.tok 0
      (presBody (pbWord h.tok) (pbCount h.tok) ((s.blk.q q).portCodes (pbWord h.tok) (pbCount h.tok)))) := by
  have hq := s.blk.q_writeTaken q q1.lanes (pbWord h.tok) (pbCount h.tok)
  unfold Completes
  show execPortBPresRead q none s = _
  rw [execPortBPresRead, act_eq, Block.portB_reads hp]
  unfold Block.writeTaken at hq ⊢
  dsimp only
  rw [hq]
  rfl

theorem pbCount_le (t : Token) : pbCount t ≤ 512 := by
  unfold pbCount
  dsimp only
  split <;> omega

/-- The body words of PRES_READ's reply: as many as its codes fill, with the codes in order and POISON where they reach past frame memory. -/
theorem replyBody_presBody (dest first : Nat) {n : Nat} {cs : List (BitVec 2)} (hn : n ≤ 512) (hcs : cs.length = n) :
    (replyBody dest (presBody first n cs)).length = (n + 63) / 64 ∧
    ((replyBody dest (presBody first n cs)).flatMap presCodes).take n = cs ∧
    ∀ k, ∀ _ : k < (replyBody dest (presBody first n cs)).length,
      (replyBody dest (presBody first n cs))[k].tok.poison = decide (131072 < first + min n (64 * (k + 1))) := by
  have hpacks := length_packPres 8 cs (by omega)
  have hlen : (presBody first n cs).length = (n + 63) / 64 := by
    rw [presBody, List.length_map, List.length_zip, List.length_range, hpacks, hcs]
    omega
  refine ⟨by rw [length_replyBody, hlen], ?_, fun k hk => ?_⟩
  · obtain ⟨z, hcodes⟩ := codes_packPres 8 cs (by omega)
    have hsnd : ((List.range 8).zip (packPres 8 cs)).map Prod.snd = packPres 8 cs :=
      List.map_snd_zip (by rw [List.length_range, hpacks]; omega)
    have hsnd' : ((List.range (presBody first n cs).length).zip (presBody first n cs)).map Prod.snd = presBody first n cs :=
      List.map_snd_zip (by rw [List.length_range])
    have hflat : (replyBody dest (presBody first n cs)).flatMap presCodes =
        (packPres 8 cs).flatMap fun e => presCodes { tok := { value := e.1, tag := e.2.1, ctrl := 0 }, pt := 0 } := by
      conv_rhs => rw [← hsnd, List.flatMap_map]
      unfold replyBody
      rw [List.flatMap_map]
      trans ((List.range (presBody first n cs).length).zip (presBody first n cs)).map Prod.snd |>.flatMap fun e =>
        presCodes { tok := { value := e.1, tag := e.2.1, ctrl := 0 }, pt := 0 }
      · rw [List.flatMap_map]
        rfl
      · rw [hsnd', presBody, List.flatMap_map]
    rw [hflat, hcodes, List.take_left' hcs]
  · have hk' : k < (presBody first n cs).length := by rwa [length_replyBody] at hk
    rw [poison_replyBody dest _ hk' hk]
    simp only [presBody, List.getElem_map, List.getElem_zip, List.getElem_range]

theorem presState_empty {c : BitVec 2} : presState c = .empty ↔ c = 0 := by
  revert c
  decide

theorem presState_broken {c : BitVec 2} : presState c = .broken ↔ c ≠ 0 ∧ c ≠ 3 := by
  revert c
  decide

/-- The block once a READ_WAIT has decoded its word's presence. -/
def Block.waitDecoded (b : Block) (q : Nat) (lanes : SMap Lane) (word : Nat) : Block := ((b.itemAt q lanes []).presence q word).1

theorem Block.waitDecoded_step {b : Block} (q : Nat) (lanes : SMap Lane) (word : Nat) (harm : b.rf 0x300044 15 0 = 0) :
    QuarterStep [frmCnt q 2] q { b.q q with lanes := lanes, asm := [] } b (b.waitDecoded q lanes word) := by
  have htaken : QuarterStep [frmCnt q 2] q { b.q q with lanes := lanes, asm := [] } b (b.itemAt q lanes []) := quarterStep_setQ
  exact htaken.kept (Block.presence_step q word harm)

theorem Block.fw_itemAt (b : Block) (q : Nat) (lanes : SMap Lane) (item : List LaneWord) (word : Nat) :
    ((b.itemAt q lanes item).q q).fw word = (b.q q).fw word := by
  rw [Block.q_itemAt]
  rfl

theorem Block.waitDecoded_unarmed {b : Block} (q : Nat) (lanes : SMap Lane) (word : Nat) (harm : b.rf 0x300044 15 0 = 0) :
    (b.waitDecoded q lanes word).rf 0x300044 15 0 = 0 :=
  (b.waitDecoded_step q lanes word harm).unarmed (by simp only [frmCnt, qOff, List.mem_singleton]; omega) harm

/-- A BROKEN word is counted as it is decoded. -/
theorem Block.reg_waitDecoded_broken {b : Block} {q word : Nat} (lanes : SMap Lane) (harm : b.rf 0x300044 15 0 = 0)
    (hnonempty : ((b.q q).fw word).pres ≠ 0) (hnotFull : ((b.q q).fw word).pres ≠ 3) :
    (b.waitDecoded q lanes word).reg (frmCnt q 2) = satAdd (b.reg (frmCnt q 2)) 1 := by
  rw [Block.waitDecoded, Block.presence_eq (b := b.itemAt q lanes []) q word harm, Block.fw_itemAt]
  dsimp only
  rw [if_pos (presState_broken.2 ⟨hnonempty, hnotFull⟩), Block.detect_reg, Block.reg_bump_one, Block.itemAt, Block.setQ_reg]

theorem Block.waitDecoded_full {b : Block} {q word : Nat} (lanes : SMap Lane) (harm : b.rf 0x300044 15 0 = 0)
    (hfull : ((b.q q).fw word).pres = 3) : b.waitDecoded q lanes word = b.itemAt q lanes [] := by
  rw [Block.waitDecoded, Block.presence_eq (b := b.itemAt q lanes []) q word harm, Block.fw_itemAt]
  dsimp only
  rw [if_neg fun hbroken => (presState_broken.1 hbroken).2 hfull]

/-- The block once a READ_WAIT has read its word. -/
def Block.waitRead (b : Block) (q : Nat) (lanes : SMap Lane) (word : Nat) : Block := ((b.waitDecoded q lanes word).frameRead q word 0 true).1

section
variable {b : Block} {q word : Nat} (lanes : SMap Lane) (harm : b.rf 0x300044 15 0 = 0)
include harm

theorem Block.waitRead_step : ∃ wb, QuarterStep (frmCnt q 2 :: errorRegs q) q { b.q q with lanes := lanes, asm := [], wb := wb } b
    (b.waitRead q lanes word) := by
  have hdecode := b.waitDecoded_step q lanes word harm
  obtain ⟨wb, hread⟩ := Block.frameRead_step q word true (Block.waitDecoded_unarmed q lanes word harm)
  refine ⟨wb, ?_⟩
  have hboth := (hdecode.mono (more := frmCnt q 2 :: errorRegs q) (by simp)).trans (hread.mono (by simp))
  rwa [hdecode.quarter] at hboth

theorem Block.reg_waitRead_broken (hnonempty : ((b.q q).fw word).pres ≠ 0) (hnotFull : ((b.q q).fw word).pres ≠ 3) :
    (b.waitRead q lanes word).reg (frmCnt q 2) = satAdd (b.reg (frmCnt q 2)) 1 := by
  obtain ⟨wb, hread⟩ := Block.frameRead_step q word true (Block.waitDecoded_unarmed q lanes word harm)
  exact (hread.reg (frmCnt_notMem_errorRegs q (by decide))).trans (Block.reg_waitDecoded_broken lanes harm hnonempty hnotFull)

theorem Block.reg_waitRead_bad (hbad : ((b.q q).fw word).bad = true) :
    (b.waitRead q lanes word).reg (frmCnt q 1) = satAdd (b.reg (frmCnt q 1)) 1 := by
  have hdecode := b.waitDecoded_step q lanes word harm
  have hcount := Block.reg_frameRead q word true (Block.waitDecoded_unarmed q lanes word harm)
  rw [hdecode.quarter, hdecode.reg (by simp [frmCnt])] at hcount
  exact hcount.trans (if_pos hbad)

theorem Block.regs_waitRead_sound (hfull : ((b.q q).fw word).pres = 3) (hbad : ((b.q q).fw word).bad = false)
    (hce : ((b.q q).fw word).ce = false) : (b.waitRead q lanes word).regs = b.regs := by
  rw [Block.waitRead, Block.waitDecoded_full lanes harm hfull,
    Block.frameRead_sound q word true (b := b.itemAt q lanes []) harm (by rwa [Block.fw_itemAt]) (by rwa [Block.fw_itemAt])]
  rfl

end

/-- A word that is not EMPTY is read and answered at once. -/
theorem portBReadWait_answers (hp : s.blk.parcelIs q 5 h body q1) (hpres : ((s.blk.q q).fw (pbWord h.tok)).pres ≠ 0) :
    Completes (.portBReadWait q none 0) s ((s.blk.waitRead q q1.lanes (pbWord h.tok)).answered q h.pt h.tok
      (if ((s.blk.q q).fw (pbWord h.tok)).bad then 1 else 0)
      [(((s.blk.q q).fw (pbWord h.tok)).data, 0,
        ((s.blk.q q).fw (pbWord h.tok)).bad || decide (((s.blk.q q).fw (pbWord h.tok)).pres ≠ 3))]) := by
  obtain ⟨-, -, harm, -⟩ := id hp
  have hstep := s.blk.waitDecoded_step q q1.lanes (pbWord h.tok) harm
  have hword := Block.frameRead_word q (pbWord h.tok) true (Block.waitDecoded_unarmed q q1.lanes (pbWord h.tok) harm)
  rw [hstep.quarter] at hword
  have hstate : ((s.blk.itemAt q q1.lanes []).presence q (pbWord h.tok)).2 = presState ((s.blk.q q).fw (pbWord h.tok)).pres := by
    rw [Block.presence_eq _ _ (b := s.blk.itemAt q q1.lanes []) harm, Block.q_itemAt]
    rfl
  have hbroken : (presState ((s.blk.q q).fw (pbWord h.tok)).pres == .broken) = decide (((s.blk.q q).fw (pbWord h.tok)).pres ≠ 3) := by
    rw [beq_eq_decide, decide_eq_decide, presState_broken]
    exact and_iff_right hpres
  unfold Completes
  show execPortBReadWait q none 0 s = _
  rw [execPortBReadWait, act_eq, Block.portB_reads hp, Block.waitRead]
  unfold Block.waitDecoded at hword ⊢
  dsimp only
  rw [hstate, if_neg fun he => hpres (presState_empty.1 he)]
  simp only [hbroken, Fin.val_zero, hword]
  rfl

/-- A word that is EMPTY decodes with nothing to report. -/
theorem Block.presence_empty {b : Block} (q word : Nat) (harm : b.rf 0x300044 15 0 = 0) (hpres : ((b.q q).fw word).pres = 0) :
    b.presence q word = (b, .empty) := by
  rw [Block.presence_eq q word harm, hpres]
  rfl

theorem Block.q_parkPeak (b : Block) (q p : Nat) : (b.parkPeak q).q p = b.q p := by
  unfold Block.parkPeak
  dsimp only
  split <;> rfl

theorem Block.mem_parkPeak (b : Block) (q : Nat) : (b.parkPeak q).mem = b.mem := by
  unfold Block.parkPeak
  dsimp only
  split <;> rfl

/-- The block with a READ_WAIT of a parcel parked on its word. -/
def Block.waitParked (b : Block) (q : Nat) (lanes : SMap Lane) (h : LaneWord) : Block :=
  (b.setQ q { b.q q with lanes := lanes, asm := [], park := (b.q q).park ++ [{ word := pbWord h.tok, who := .readWait h.tok.tag h.pt }] }).parkPeak q

/-- A READ_WAIT of an EMPTY word parks while the park table has room, and is answered BUSY when it has none. -/
theorem portBReadWait_empty (hp : s.blk.parcelIs q 5 h body q1) (hpres : ((s.blk.q q).fw (pbWord h.tok)).pres = 0) :
    Completes (.portBReadWait q none 0) s
      (if 4096 ≤ (s.blk.q q).parkOcc then (s.blk.itemAt q q1.lanes []).answered q h.pt h.tok 2 []
        else (s.blk.waitParked q q1.lanes h).portDone q) := by
  obtain ⟨-, -, harm, -⟩ := id hp
  have hdecode := Block.presence_empty (b := s.blk.itemAt q q1.lanes []) q (pbWord h.tok) harm (by rw [Block.q_itemAt]; exact hpres)
  have hocc : ((s.blk.itemAt q q1.lanes []).q q).parkOcc = (s.blk.q q).parkOcc := by
    rw [Block.q_itemAt]
    rfl
  unfold Completes
  show execPortBReadWait q none 0 s = _
  rw [execPortBReadWait, act_eq, Block.portB_reads hp]
  dsimp only
  rw [hdecode]
  dsimp only
  rw [if_pos rfl, hocc]
  split
  · rfl
  · rw [Block.waitParked, Block.q_itemAt, Block.itemAt, Block.setQ_setQ]

end

/-- UE's bound as the statement counts it. -/
theorem lt_or_full_of_satAdd_le {x y : Nat} (h : satAdd x 1 ≤ y) : x < y ∨ 0xFFFFFFFF ≤ y := by
  unfold satAdd at h
  omega

end Sys2Proof.Machine

namespace Sys2Proof

open Machine

/-- Settles O21: a parcel at the port is taken and served by one operation, whose writes land word by word and whose reads leave the frame;
every clause reads off the step of the one Quarter. -/
theorem portB : Obligations.PortB := by
  refine ⟨?writes, ?reads⟩
  case writes =>
    intro s q b
    refine ⟨fun h body q1 => ⟨fun e he hp => ⟨?lands, ?held⟩, ?collides, ?badOp⟩,
      fun g gs hpbq hawake harm => ⟨?retry, ?retryHeld⟩, ?writeback⟩
    case lands =>
      intro hheld hhits
      obtain ⟨c, hcompletes, hlands⟩ := portBWrites_lands he hp hheld hhits
      obtain ⟨hstep, hland⟩ := hlands.parcel
      obtain ⟨-, hpbq, -⟩ := hp
      have hfull : ∀ w ∈ writesFrom (pbWord h.tok) (body.flatMap e.2.2), w.fullData := fun w hw => (mem_writes_of_parcel he hw).1
      have hq := hstep.quarter
      refine ⟨_, hcompletes, ?_, ?_, ?_, ?_, ?_, ?_, ?_, ?_, ?_, hstep.others, hstep.mem⟩
      · intro i hi hin
        rw [hq]
        exact hland.words _ (writesFrom_mem hi hin)
      · intro a ha
        rw [hq]
        refine hland.others a fun w hw => ?_
        obtain ⟨i, hi, hin, rfl⟩ := mem_writesFrom hw
        dsimp only
        omega
      · rw [hq]
        exact hland.releases hfull
      · rw [hq]
        exact hland.park hfull
      · rw [hq, hland.rest]
        exact hpbq
      · rw [hq, hland.rest]
      · rw [hq, hland.rest]
      · exact hlands.reg_bound (frmCnt_notMem_writeRegs q _ (by decide))
      · intro h1
        simpa [writeRegs, h1] using hstep.regs
    case held =>
      intro hheld
      refine ⟨_, portBWrites_held he hp hheld, Block.reg_bump_one _ _, ?_, ?_, ?_, ?_⟩
      · rw [Block.bump_q, Block.q_itemAt]
      · rw [Block.bump_q, Block.q_itemAt]
      · exact (quarterStep_bump (b := b.itemAt q q1.lanes (h :: body)) (q := q) 1 (List.mem_singleton_self _)).regs
      · rw [Block.bump_mem]
        rfl
    case collides =>
      rintro w x rfl hp hheld hin hhits htime hword hne
      obtain ⟨c, hcompletes, hlands⟩ := portBWrite_collides hp hheld hin hhits htime hword hne
      obtain ⟨-, hland⟩ := hlands.parcel
      have hothers : ∀ a, a ≠ pbWord h.tok + 1 → (c.q q).fw a = (b.q q).fw a := fun a ha => hland.others a fun v hv => by
        obtain rfl := List.mem_singleton.1 hv
        exact ha.symm
      refine ⟨_, hcompletes, ?_, ?_, ?_, ?_, ?_, ?_⟩
      · rw [Block.q_portDone, Block.bump_q, Block.q_setQ_same]
      · rw [Block.q_portDone, Block.bump_q, Block.q_setQ_same]
        exact hothers _ (by omega)
      · rw [Block.q_portDone, Block.bump_q, Block.q_setQ_same]
        exact hland.words ⟨pbWord h.tok + 1, some w.tok.tag, some 3⟩ (List.mem_singleton_self _)
      · intro a ha
        rw [Block.q_portDone, Block.bump_q, Block.q_setQ_same]
        exact hothers a (by omega)
      · have hcount : c.reg (frmCnt q 3) = b.reg (frmCnt q 3) := (hlands.step.reg (frmCnt_notMem_landRegs q (Nat.le_refl 3))).trans
          ((Block.writeTaken_step ..).reg (by simp [frmCnt]))
        rw [Block.reg_portDone, Block.reg_bump_one, Block.setQ_reg, hcount]
      · exact (Block.bump_mem ..).trans (hlands.step.mem.trans (Block.writeTaken_step ..).mem)
    case badOp =>
      intro hp
      refine ⟨_, portBBadOp_completes hp, ?_, ?_, ?_, ?_, ?_, ?_⟩
      · rw [Block.reg_portDone, Block.reg_bump_one]
        rfl
      · rw [Block.q_portDone, Block.bump_q, Block.q_itemAt]
      · rw [Block.q_portDone, Block.bump_q, Block.q_itemAt]
      · rw [Block.q_portDone, Block.bump_q, Block.q_itemAt]
      · exact (quarterStep_bump (b := b.itemAt q q1.lanes []) (q := q) 1 (List.mem_singleton_self _)).regs
      · exact Block.bump_mem ..
    case retry =>
      intro hfree hnd
      obtain ⟨c, hcompletes, hlands⟩ := portBWriteRetry_lands hpbq hawake harm (List.any_eq_false.2 fun w hw => by simpa using hfree w hw) hnd
      have hland := hlands.landed
      rw [Block.q_setQ_same] at hland
      refine ⟨c, hcompletes, ?_, hland.words, hland.others, hlands.step.mem⟩
      rw [hland.rest]
    case retryHeld => exact portBWriteRetry_held hpbq hawake
    case writeback =>
      intro word v rest hwb hawake
      refine ⟨_, frameCeWriteback_completes hwb hawake, ?_, ?_, ?_, rfl, rfl⟩
      · rw [Block.q_setQ_same]
      · rw [Block.q_setQ_same, Quarter.fw, get_putFrame, if_pos rfl]
      · intro w hw
        rw [Block.q_setQ_same, Quarter.fw, get_putFrame, if_neg hw]
        rfl
  case reads =>
    intro s q h body q1 b first n fw answer
    have hanswer : ∀ status ws, answer status ws = (b.q q).vc1Out ++ replyWords h.pt h.tok status ws := fun status ws =>
      b.vc1Out_reply q h.pt h.tok status ws
    refine ⟨fun hp => ?read, fun hp => ?presence, fun hp => ⟨fun hpres => ?answered, fun hpres hroom => ?parked, fun hpres hfull => ?busy⟩⟩
    case read =>
      obtain ⟨-, -, harm, -⟩ := id hp
      obtain ⟨wb, hread⟩ := Block.portRead_step (q := q) (first := first) (n := n) q1.lanes harm
      have hstep := hread.answered h.pt h.tok (if ∃ i ∈ List.range n, first + i < 131072 ∧ (fw i).bad = true then 1 else 0)
        (pairWords ((List.range n).map fun i => (b.q q).portWord (first + i)))
      refine ⟨_, portBRead_completes hp, ?_, ?_, ?_, ?_, ?_, hstep.mem⟩
      · rw [hanswer, hstep.quarter]
        rfl
      · intro i hi hin hbad
        exact lt_or_full_of_satAdd_le (Block.reg_portRead_bad q1.lanes harm hi hin hbad)
      · intro hpast
        rw [Block.reg_answered]
        exact Block.reg_portRead_past q1.lanes harm hpast
      · intro hsound hin
        rw [Block.regs_answered]
        exact Block.regs_portRead_sound q1.lanes harm hin hsound
      · rw [hstep.quarter]
    case presence =>
      have hstep := (b.writeTaken_step q q1.lanes first n).answered h.pt h.tok 0 (presBody first n ((b.q q).portCodes first n))
      obtain ⟨hlen, hcodes, hpoison⟩ := replyBody_presBody h.pt first (pbCount_le h.tok) (cs := (b.q q).portCodes first n)
        (by rw [Quarter.portCodes, List.length_map, List.length_range])
      refine ⟨_, portBPresRead_completes hp, ?_, ?_⟩
      · rw [hstep.quarter]
        exact List.prefix_append _ _
      · intro got
        have hgot : got = replyBody h.pt (presBody first n ((b.q q).portCodes first n)) := by
          simp only [got]
          rw [hstep.quarter]
          show ((b.q q).vc1Out ++ replyWords h.pt h.tok 0 (presBody first n ((b.q q).portCodes first n))).drop _ = _
          rw [replyWords, List.append_cons]
          exact List.drop_left' (by rw [List.length_append, List.length_singleton])
        clear_value got
        subst hgot
        refine ⟨hlen, hcodes, hpoison, ?_, hstep.regs, ?_, hstep.mem⟩
        · intro hpast
          rw [Block.reg_answered]
          exact Block.reg_pbBound _ q hpast
        · rw [hstep.quarter]
    case answered =>
      obtain ⟨-, -, harm, -⟩ := id hp
      obtain ⟨wb, hread⟩ := Block.waitRead_step (q := q) (word := first) q1.lanes harm
      refine ⟨_, portBReadWait_answers hp hpres, ?_, ?_, ?_, ?_, ?_, ?_, (hread.answered _ _ _ _).mem⟩
      · rw [hanswer]
        exact (congrArg Quarter.vc1Out (hread.answered _ _ _ _).quarter).trans rfl
      · intro h3
        rw [Block.reg_answered]
        exact Block.reg_waitRead_broken q1.lanes harm hpres h3
      · intro hbad
        rw [Block.reg_answered]
        exact Block.reg_waitRead_bad q1.lanes harm hbad
      · intro h3 hbad hce
        rw [Block.regs_answered]
        exact Block.regs_waitRead_sound q1.lanes harm h3 hbad hce
      · exact (congrArg Quarter.frame (hread.answered _ _ _ _).quarter).trans rfl
      · exact (congrArg Quarter.park (hread.answered _ _ _ _).quarter).trans rfl
    case parked =>
      have hcompletes := portBReadWait_empty hp hpres
      rw [if_neg (Nat.not_le.2 hroom)] at hcompletes
      refine ⟨_, hcompletes, ?_, ?_, ?_, Block.mem_parkPeak _ q⟩
      · rw [Block.q_portDone, Block.waitParked, Block.q_parkPeak, Block.q_setQ_same]
      · rw [Block.q_portDone, Block.waitParked, Block.q_parkPeak, Block.q_setQ_same]
      · rw [Block.q_portDone, Block.waitParked, Block.q_parkPeak, Block.q_setQ_same]
    case busy =>
      have hcompletes := portBReadWait_empty hp hpres
      rw [if_pos hfull] at hcompletes
      have htaken : QuarterStep [] q { b.q q with lanes := q1.lanes, asm := [] } b (b.itemAt q q1.lanes []) := quarterStep_setQ
      have hstep := htaken.answered h.pt h.tok 2 []
      refine ⟨_, hcompletes, ?_, ?_, ?_, rfl, rfl⟩
      · rw [hanswer, hstep.quarter]
      · rw [hstep.quarter]
      · rw [hstep.quarter]

end Sys2Proof

/-! The close of an epoch: EPOCH_CLOSE_START, QUARTER_CUT, GATE_MARK, SNAPSHOT_LINE_COPY, EPOCH_DONE and LEDGER_ROOM_FREED. -/

namespace Sys2Proof.Machine

-- What reads of module memory leave, whatever their checks find (R326, R328, R332)

/-- Reads of module memory touch free values, the Stops, memory, the fault wires and registers before the Archive's. -/
structure ReadFrame (b t : Block) : Prop where
  rest : t = { b with free := t.free, regs := t.regs, hub := t.hub, stops := t.stops, mem := t.mem }
  regs : ∀ off, 0xC00000 ≤ off → t.reg off = b.reg off

section
variable {b c t : Block}

theorem readFrame_refl (b : Block) : ReadFrame b b := ⟨rfl, fun _ _ => rfl⟩

theorem ReadFrame.trans (h : ReadFrame b c) (h' : ReadFrame c t) : ReadFrame b t :=
  ⟨by rw [h'.rest, h.rest], fun off ho => (h'.regs off ho).trans (h.regs off ho)⟩

theorem readFrame_setReg (b : Block) {off : Nat} (v : Nat) (h : off < 0xC00000) : ReadFrame b (b.setReg off v) :=
  ⟨rfl, fun _ ho => b.reg_setReg_ne v (by omega)⟩

theorem readFrame_bump (b : Block) {off : Nat} (h : off < 0xC00000) : ReadFrame b (b.bump off) := by
  rcases b.bump_eq off 1 with e | e <;> rw [e]
  · exact readFrame_refl b
  · exact readFrame_setReg b _ h

theorem readFrame_detect (b : Block) (code unit d : Nat) (i : Bool) (cs : List Nat) : ReadFrame b (b.detect code unit d i cs) :=
  ⟨rfl, fun _ _ => rfl⟩

theorem readFrame_setStops (b : Block) (m : MemUnit) : ReadFrame b { b with stops := m } := ⟨rfl, fun _ _ => rfl⟩

theorem ReadKept.readFrame (h : ReadKept b t) : ReadFrame b t := ⟨by rw [h.rest], fun _ ho => h.reg (.inr (by omega))⟩

end

theorem Block.inject_readFrame (b : Block) (checker unit sub : Nat) : ReadFrame b (b.inject checker unit sub).1 := by
  unfold Block.inject
  dsimp only
  split
  · exact readFrame_setReg b _ (by decide)
  · exact readFrame_refl b

theorem Block.uncorrectable_readFrame (b : Block) (line : Nat) (i : Bool) : ReadFrame b (b.uncorrectable line i) := by
  unfold Block.uncorrectable
  extract_lets b1 b2 t
  have h2 : ReadFrame b1 b2 := by
    simp only [b2]
    split
    · exact (readFrame_setReg b1 _ (by decide)).trans (readFrame_setReg _ _ (by decide))
    · exact readFrame_refl b1
  exact ((readFrame_bump b (by decide)).trans h2).trans (readFrame_detect b2 _ _ _ _ _)

theorem Block.rebuildLine_readFrame (b : Block) (line : Nat) : ReadFrame b (b.rebuildLine line).1 := by
  unfold Block.rebuildLine
  split
  · exact readFrame_refl b
  · exact ⟨rfl, fun _ _ => rfl⟩

theorem Block.freeLine_readFrame (b : Block) (line : Nat) : ReadFrame b (b.freeLine line) := by
  unfold Block.freeLine
  exact List.foldlRecOn (motive := fun t => ReadFrame b t) _ _ (readFrame_refl b) fun c hc _ _ => hc.trans ⟨rfl, fun _ _ => rfl⟩

theorem Block.retirePage_readFrame (b : Block) (page : Nat) (i : Bool) : ReadFrame b (b.retirePage page i) := by
  have hpool : 0xB00110 + 4 * (page % 8) < 0xC00000 := by omega
  unfold Block.retirePage
  dsimp only
  split
  · exact readFrame_setReg b _ hpool
  · refine ReadFrame.trans (ReadFrame.trans ?_ (readFrame_bump _ (by decide))) (readFrame_detect _ _ _ _ _ _)
    exact (readFrame_setStops b _).trans (readFrame_setReg _ _ hpool)

theorem Block.corrected_readFrame (b : Block) (line : Nat) (i : Bool) : ReadFrame b (b.corrected line i) := by
  have hseen (code unit d : Nat) : ReadFrame b ((b.bump (memCnt 0)).detect code unit d i) :=
    (readFrame_bump b (by decide)).trans (readFrame_detect _ _ _ _ _ _)
  unfold Block.corrected
  dsimp only
  split
  · exact ((hseen _ _ _).trans (readFrame_setStops _ _)).trans (Block.retirePage_readFrame _ _ _)
  · refine ReadFrame.trans ?_ (readFrame_setStops _ _)
    split
    · exact (hseen _ _ _).trans (readFrame_bump _ (by decide))
    · exact hseen _ _ _

theorem Block.lineCheck_readFrame (b : Block) (upset line : Nat) : ReadFrame b (b.lineCheck upset line).1 := by
  have hinj := b.inject_readFrame 8 (stopOf line) 0
  unfold Block.lineCheck
  generalize b.inject 8 (stopOf line) 0 = r at hinj
  obtain ⟨b1, inj⟩ := r
  dsimp -zeta only
  extract_lets cleared stops b2 t
  have h2 : ReadFrame b b2 := by
    simp only [b2]
    split
    · exact (hinj.trans (b1.freeLine_readFrame line)).trans (readFrame_setStops _ _)
    · exact hinj
  clear_value b2
  have hlost (i : Bool) : ReadFrame b ((b2.uncorrectable line i).rebuildLine line).1 :=
    (h2.trans (b2.uncorrectable_readFrame line i)).trans (Block.rebuildLine_readFrame _ _)
  split
  · exact hlost false
  · split
    · exact h2.trans ⟨rfl, fun _ _ => rfl⟩
    · split
      · exact h2.trans (b2.corrected_readFrame line true)
      · exact hlost true
    · split
      · exact h2.trans (b2.corrected_readFrame line false)
      · exact h2

theorem Block.stopReadLines_readFrame (b : Block) (ma n upset : Nat) : ReadFrame b (b.stopReadLines ma n upset).1 := by
  unfold Block.stopReadLines
  split
  · exact (readFrame_bump b (by decide)).trans (readFrame_detect _ _ _ _ _ _)
  · refine List.foldlRecOn (motive := fun acc : Block × List Nat => ReadFrame b acc.1) _ _ (readFrame_refl b) fun acc hacc l _ => ?_
    have htouch := hacc.trans (acc.1.touchPage_readKept l).readFrame
    dsimp only
    split
    · exact htouch
    · exact htouch.trans (Block.lineCheck_readFrame _ _ _)

theorem Block.readSections_readFrame (b : Block) (image : Nat) (types : List Nat) : ReadFrame b (b.readSections image types) := by
  unfold Block.readSections Block.walkImage
  exact List.foldlRecOn (motive := fun t => ReadFrame b t) _ _ (readFrame_refl b) fun c hc r _ =>
    hc.trans (c.stopReadLines_readFrame r.1 r.2 0)

/-- With every line sound and no checker armed, the reads of an image keep memory. -/
theorem Block.readSections_kept (b : Block) (image : Nat) (types : List Nat) (hbad : b.stops.bad = []) (harm : b.rf 0x300044 15 0 = 0) :
    ReadKept b (b.readSections image types) := by
  unfold Block.readSections Block.walkImage
  exact List.foldlRecOn (motive := fun t => ReadKept b t) _ _ (readKept_refl b) fun c hc r _ =>
    hc.trans (Block.stopRead_kept (hc.unarmed harm) fun l _ => by rw [hc.bad, hbad]; rfl)

-- The placement engine (R242, R243)

/-- What a placement decision leaves: the reads of images, an event, a counter, and the migration chosen. -/
structure DecisionFrame (b t : Block) : Prop where
  rest : t = { b with
    free := t.free, regs := t.regs, hub := t.hub, stops := t.stops, mem := t.mem, evc := t.evc, ave := { b.ave with chosen := t.ave.chosen } }
  regs : ∀ off, 0xC00000 ≤ off → t.reg off = b.reg off

/-- The images of the contexts placed, as the placement engine reads their groups. -/
def Block.readGroups (b : Block) : Block :=
  b.disp.ctxs.foldl (fun (b : Block) e => if e.2.placed then b.readSections e.2.desc.image [6] else b) b

theorem Block.readGroups_readFrame (b : Block) : ReadFrame b b.readGroups := by
  refine List.foldlRecOn (motive := fun t => ReadFrame b t) _ _ (readFrame_refl b) fun c hc e _ => ?_
  split
  · exact hc.trans (c.readSections_readFrame _ _)
  · exact hc

theorem Block.readGroups_kept (b : Block) (hbad : b.stops.bad = []) (harm : b.rf 0x300044 15 0 = 0) : ReadKept b b.readGroups := by
  refine List.foldlRecOn (motive := fun t => ReadKept b t) _ _ (readKept_refl b) fun c hc e _ => ?_
  split
  · exact hc.trans (c.readSections_kept _ _ (hc.bad.trans hbad) (hc.unarmed harm))
  · exact hc

/-- A migration held back for want of a cooler Quarter is counted, and reported where LOG asks for it. -/
def Block.noTarget (b : Block) (top : Nat) : Block := (if b.rf 0x500000 3 3 = 1 then b.raise 6 top else b).bump (aveCnt 11)

theorem Block.noTarget_frame (b : Block) (top : Nat) : CountFrame [aveCnt 11] b (b.noTarget top) := by
  unfold Block.noTarget
  refine CountFrame.trans ?_ (countFrame_bump _ 1 (by simp))
  split
  · exact countFrame_raise _ b _ _
  · exact countFrame_refl _ b

/-- The engine decides nothing, finds no Quarter to move to, or chooses a migration after reading the groups. -/
theorem Block.placementDecision_cases (b : Block) (ns : Nat) :
    let c := { b with ave := { b.ave with chosen := none } }
    b.placementDecision ns = c ∨ (∃ top, b.placementDecision ns = c.noTarget top) ∨
      ∃ m, b.placementDecision ns = { c.readGroups with ave := { c.readGroups.ave with chosen := m } } := by
  intro c
  unfold Block.placementDecision
  dsimp only
  split
  · exact .inl rfl
  · split
    · exact .inl rfl
    · split
      · exact .inl rfl
      · split
        · exact .inr (.inl ⟨_, rfl⟩)
        · exact .inr (.inr ⟨_, rfl⟩)

theorem Block.placementDecision_frame (b : Block) (ns : Nat) : DecisionFrame b (b.placementDecision ns) := by
  rcases b.placementDecision_cases ns with h | ⟨top, h⟩ | ⟨m, h⟩ <;> rw [h]
  · exact ⟨rfl, fun _ _ => rfl⟩
  · obtain ⟨hrest, hregs⟩ := Block.noTarget_frame { b with ave := { b.ave with chosen := none } } top
    refine ⟨by rw [hrest], fun off ho => (hregs off ?_).symm⟩
    simp only [aveCnt, List.mem_singleton]
    omega
  · obtain ⟨hrest, hregs⟩ := Block.readGroups_readFrame { b with ave := { b.ave with chosen := none } }
    exact ⟨by rw [hrest], hregs⟩

/-- With every line sound and no checker armed, a placement decision keeps memory. -/
theorem Block.placementDecision_mem (b : Block) (ns : Nat) (hbad : b.stops.bad = []) (harm : b.rf 0x300044 15 0 = 0) :
    (b.placementDecision ns).mem = b.mem := by
  rcases b.placementDecision_cases ns with h | ⟨top, h⟩ | ⟨m, h⟩ <;> rw [h]
  · exact (Block.noTarget_frame _ top).mem
  · exact (Block.readGroups_kept { b with ave := { b.ave with chosen := none } } hbad harm).mem

-- EPOCH_CLOSE_START (R423)

/-- A register's other fields read as before. -/
theorem Block.rf_setRf_ne (b : Block) (off : Nat) {hi lo hi' lo' : Nat} (h : hi' < 32) (hd : hi' < lo ∨ hi < lo') (v : Nat) :
    (b.setRf off hi lo v).rf off hi' lo' = b.rf off hi' lo' := by
  refine Nat.eq_of_testBit_eq fun n => ?_
  rw [Block.rf, Block.setRf, Block.reg_setReg_same, testBit_bits, Nat.testBit_mod_two_pow, testBit_setBits, Block.rf, testBit_bits]
  by_cases hn : n < hi' + 1 - lo'
  · rw [if_neg (by omega)]
    simp [show lo' + n < 32 by omega]
  · simp [hn]

/-- The next epoch under way, with its close and no cut yet. -/
def Block.epochBegun (b : Block) : Block :=
  { b with cont := { b.cont with
    epoch := b.cont.epoch + 1, lastClose := b.now, lateWait := false
    journal := if b.cont.fresh_ then [] else b.cont.journal
    close := some { epoch := b.cont.epoch, start := b.now, cuts := { quarters := [], marks := [], counts := [], disp := none } } } }

/-- A close that comes late is counted and reported. -/
def Block.lateCounted (b : Block) (late : Bool) (arg : Nat) : Block :=
  if late then ((b.bump (contCnt 1)).setRf 0x1100210 4 4 1).raise 24 arg else b

/-- The block as the placement engine finds it at a close that was due at a moment. -/
def Block.closeBegun (b : Block) (due : Nat) : Block :=
  (b.epochBegun.setRf 0x1100210 0 0 1).lateCounted (b.cont.lateWait || decide (due < b.cont.freeAt)) (b.cont.epoch % 2 ^ 32)

/-- The moment of a close: when it is due, unless something asks for it before. -/
def Block.closeMoment (b : Block) : Block :=
  if b.cont.epochAsked.isEmpty && !b.undoHigh then b.passTo (b.cont.lastClose + b.epochNs) else b

theorem Block.closeMoment_frame (b : Block) : TimeFrame b b.closeMoment := by
  unfold Block.closeMoment
  split
  · exact b.passTo_frame _
  · rfl

theorem Block.closeMoment_due (b : Block) (hasked : b.cont.epochAsked = []) (hundo : b.undoHigh = false) :
    b.cont.lastClose + b.epochNs ≤ b.closeMoment.now := by
  rw [Block.closeMoment, hasked, hundo]
  exact (le_max_right _ _).trans_eq (b.passTo_now _).symm

theorem Block.lateCounted_frame (b : Block) (late : Bool) (arg : Nat) : CountFrame [contCnt 1, 0x1100210] b (b.lateCounted late arg) := by
  unfold Block.lateCounted
  split
  · exact ((countFrame_bump b 1 (by simp)).trans (countFrame_setReg _ _ (by simp))).trans (countFrame_raise _ _ _ _)
  · exact countFrame_refl _ b

theorem Block.rf_lateCounted (b : Block) (late : Bool) (arg : Nat) : (b.lateCounted late arg).rf 0x1100210 0 0 = b.rf 0x1100210 0 0 := by
  unfold Block.lateCounted
  split
  · rw [Block.rf, Block.raise_reg, ← Block.rf, Block.rf_setRf_ne _ _ (by decide) (.inl (by decide)), Block.rf,
      Block.reg_bump_ne _ 1 (by decide), ← Block.rf]
  · rfl

/-- What the begin of a close leaves: the epoch and the close under way, and CLOSING set. -/
theorem Block.closeBegun_frame (b : Block) (due : Nat) : CountFrame [contCnt 1, 0x1100210] b.epochBegun (b.closeBegun due) :=
  (countFrame_setReg _ _ (by simp)).trans (Block.lateCounted_frame _ _ _)

theorem Block.rf_closeBegun (b : Block) (due : Nat) : (b.closeBegun due).rf 0x1100210 0 0 = 1 := by
  rw [Block.closeBegun, Block.rf_lateCounted, Block.rf_setRf_same _ _ (by decide)]
  rfl

/-- A close that may start: the epoch begins, and the placement engine decides on the loads of the one before. -/
def Block.closeStarted (b : Block) : Block :=
  (b.closeMoment.closeBegun (b.cont.lastClose + b.epochNs)).placementDecision (b.closeMoment.now - b.closeMoment.cont.lastClose)

theorem Block.closeStart_eq {b : Block} (hen : b.rf 0x1100200 0 0 = 1) (hclose : b.cont.close = none) (hroll : b.cont.roll = none) :
    b.closeStart = { b.closeStarted with ave := { b.closeStarted.ave with issued := [], fires := [] } } := by
  have hfree : (decide (b.rf 0x1100200 0 0 = 0) || b.cont.close.isSome || b.cont.roll.isSome) = false := by simp [hen, hclose, hroll]
  unfold Block.closeStart
  rw [if_neg (by rw [hfree]; exact Bool.false_ne_true)]
  rfl

/-- What a close that starts leaves: the cont of the epoch begun, CLOSING, and the Quarters as they were. -/
theorem Block.closeStarted_keeps (b : Block) :
    b.closeStarted.cont = b.closeMoment.epochBegun.cont ∧ b.closeStarted.now = b.closeMoment.now ∧ b.closeStarted.qs = b.qs ∧
    b.closeStarted.rf 0x1100210 0 0 = 1 := by
  have hmoment := b.closeMoment_frame
  have hbegun := b.closeMoment.closeBegun_frame (b.cont.lastClose + b.epochNs)
  obtain ⟨hrest, hregs⟩ := Block.placementDecision_frame (b.closeMoment.closeBegun (b.cont.lastClose + b.epochNs))
    (b.closeMoment.now - b.closeMoment.cont.lastClose)
  refine ⟨?_, ?_, ?_, ?_⟩
  · rw [Block.closeStarted, hrest, hbegun.1]
  · rw [Block.closeStarted, hrest, hbegun.1]
    rfl
  · rw [Block.closeStarted, hrest, hbegun.1]
    show b.closeMoment.qs = b.qs
    rw [hmoment]
  · exact (congrArg (bits · 0 0) (hregs _ (by decide))).trans (b.closeMoment.rf_closeBegun _)

theorem Block.closeStarted_mem (b : Block) (hbad : b.stops.bad = []) (harm : b.rf 0x300044 15 0 = 0) : b.closeStarted.mem = b.mem := by
  have hmoment := b.closeMoment_frame
  obtain ⟨hrest, hregs⟩ := b.closeMoment.closeBegun_frame (b.cont.lastClose + b.epochNs)
  have hreg : (b.closeMoment.closeBegun (b.cont.lastClose + b.epochNs)).reg 0x300044 = b.reg 0x300044 := by
    rw [← hregs 0x300044 (by decide)]
    show b.closeMoment.reg 0x300044 = _
    rw [hmoment]
    rfl
  rw [Block.closeStarted, Block.placementDecision_mem _ _ ?bad ((congrArg (bits · 15 0) hreg).trans harm), hrest]
  · show b.closeMoment.mem = b.mem
    rw [hmoment]
  case bad =>
    rw [hrest]
    show b.closeMoment.stops.bad = []
    rw [hmoment]
    exact hbad

-- QUARTER_CUT (R114, R424, R459)

/-- A lane word as a snapshot copies it: one of wrong parity is poisoned. -/
def LaneWord.copied (w : LaneWord) : LaneWord := if w.sound then w else { w with tok := w.tok.poisoned, par := w.tok.poisoned.parity }

/-- A Quarter's cut in a close. -/
def Block.cutOf (b : Block) (q : Nat) : QCut :=
  { image := { b.imageOf q with
      lanes := SMap.mapVal (b.q q).lanes fun _ l => { l with a := l.a.map LaneWord.copied, b := l.b.map LaneWord.copied }
      vc1Out := (b.q q).vc1Out
      frame := if (SMap.find? b.power.images q).isSome then (b.imageOf q).frame else (b.imageOf q).saved }
    lsn := b.cont.lsn, chan := [], markers := [] }

/-- What a cut leaves of the Quarter, or of its OFF image: no DIRTY line; those there were are PENDING, or already in the image. -/
def Block.cutTaken (b : Block) (q : Nat) : Block :=
  match SMap.find? b.power.images q with
  | some y => { b with power := { b.power with images := SMap.put b.power.images q { y with dirty := [], saved := y.frame } } }
  | none => b.setQ q { b.q q with dirty := [], pend := (b.q q).dirty.foldl addNew (b.q q).pend }

/-- A cut goes into the close under way, and the Quarter's sender epoch moves on. -/
def Block.cutPut (b : Block) (q : Nat) (c : Close) (cut : QCut) : Block :=
  { b with cont := { b.cont with
    close := some { c with cuts := { c.cuts with
      quarters := SMap.put c.cuts.quarters q cut
      counts := (b.unitCounts q).foldl (fun m e => SMap.put m e.1 e.2) c.cuts.counts } }
    qEpoch := SMap.put b.cont.qEpoch q (c.epoch + 1) } }

/-- What a cut of a Quarter leaves beside the close. -/
structure CutFrame (q : Nat) (b t : Block) : Prop where
  rest : t = { b with qs := t.qs, power := t.power }
  others : ∀ p, p ≠ q → t.q p = b.q p

section
variable {b : Block} {q : Nat}

theorem Block.copyWords_unarmed (harm : b.rf 0x300044 15 0 = 0) (j i : Nat) (ws : List LaneWord) :
    b.copyWords q j [] i ws = (b, ws.map LaneWord.copied) := by
  induction ws generalizing i with
  | nil => rfl
  | cons w ws ih =>
    rw [Block.copyWords, Block.parityCheck_unarmed harm]
    dsimp only
    rw [ih]
    cases hw : w.sound <;> simp [LaneWord.copied, hw]

theorem Block.copyLanes_unarmed (harm : b.rf 0x300044 15 0 = 0) (lanes : SMap Lane) :
    b.copyLanes q [] lanes =
      (b, SMap.mapVal lanes fun _ l => { l with a := l.a.map LaneWord.copied, b := l.b.map LaneWord.copied }) := by
  unfold Block.copyLanes
  induction lanes with
  | nil => rfl
  | cons e lanes ih =>
    rw [List.foldr_cons, ih]
    simp only [List.filter_nil, List.map_nil, Block.copyWords_unarmed harm]
    rfl

theorem Block.cutTaken_frame : CutFrame q b (b.cutTaken q) := by
  unfold Block.cutTaken
  split
  · exact ⟨rfl, fun _ _ => rfl⟩
  · exact ⟨rfl, fun p hp => b.q_setQ_ne _ hp⟩

theorem Block.cutTaken_on (h : SMap.find? b.power.images q = none) :
    b.cutTaken q = b.setQ q { b.q q with dirty := [], pend := (b.q q).dirty.foldl addNew (b.q q).pend } := by
  rw [Block.cutTaken, h]

theorem Block.cutTaken_off {y : Quarter} (h : SMap.find? b.power.images q = some y) : b.cutTaken q =
    { b with power := { b.power with images := SMap.put b.power.images q { y with dirty := [], saved := y.frame } } } := by
  rw [Block.cutTaken, h]

/-- The frame of a cut is an OFF image's own, or the Quarter's snapshot before. -/
theorem Block.frame_cutOf : (b.cutOf q).image.frame =
    if (SMap.find? b.power.images q).isSome then (b.imageOf q).frame else (b.q q).saved := by
  unfold Block.cutOf Block.imageOf SMap.get
  cases SMap.find? b.power.images q <;> rfl

/-- A mapped Quarter without a cut takes one, and sends its MARKERs. -/
theorem Block.quarterCut_eq {c : Close} (hclose : b.cont.close = some c) (hnew : SMap.find? c.cuts.quarters q = none)
    (hmapped : b.mapped.contains q = true) (harm : b.rf 0x300044 15 0 = 0) :
    b.quarterCut q [] = ((b.cutTaken q).cutPut q c (b.cutOf q)).sendMarkers q 1 c.epoch b.mapped := by
  have hmap : ((b.cutTaken q).cutPut q c (b.cutOf q)).mapped = b.mapped := by
    rw [Block.cutPut, (b.cutTaken_frame (q := q)).rest]
    rfl
  rw [← hmap]
  unfold Block.quarterCut
  rw [hclose]
  dsimp only
  rw [if_neg (by rw [hnew, hmapped]; exact Bool.false_ne_true), Block.copyLanes_unarmed harm]
  dsimp only
  unfold Block.cutTaken Block.cutOf
  cases SMap.find? b.power.images q <;> rfl

theorem quarterCut_completes {s : State} (q : Fin 68) (hup : s.blk.up = true) : Completes (.quarterCut ⟨q, []⟩) s (s.blk.quarterCut q []) :=
  completes_of_actUp (f := fun b => b.quarterCut q []) rfl hup

end

-- The journal and its mirror (R323, R432, R435)

/-- What the mirror of a record leaves: cells at a Colir port, or its loss counted and reported. -/
structure MirrorFrame (b t : Block) : Prop where
  rest : t = { b with regs := t.regs, evc := t.evc, colir := t.colir }
  regs : SameRegs b t [colirCnt 5]

theorem mirrorFrame_refl (b : Block) : MirrorFrame b b := ⟨rfl, fun _ _ => rfl⟩

theorem Block.mirrorGap_frame (b : Block) : MirrorFrame b b.mirrorGap := by
  obtain ⟨hrest, hregs⟩ := countFrame_bump b 1 (List.mem_singleton_self (colirCnt 5))
  have hgap : b.mirrorGap = (b.bump (colirCnt 5)).raise 14 ((b.bump (colirCnt 5)).reg (colirCnt 5)) := rfl
  rw [hgap]
  exact ⟨by rw [hrest]; rfl, hregs⟩

theorem Block.mirror_frame (b : Block) (r : JRec) : MirrorFrame b (b.mirror r) := by
  unfold Block.mirror
  dsimp only
  split
  · exact mirrorFrame_refl b
  · split
    · exact mirrorFrame_refl b
    · split
      · exact b.mirrorGap_frame
      · exact ⟨rfl, fun _ _ => rfl⟩

/-- The journal with a record at its end. -/
def Block.journaled (b : Block) (src : Nat) (x : JBody) : Block :=
  { b with cont := { b.cont with lsn := b.cont.lsn + 1, journal := b.cont.journal ++ [⟨b.cont.lsn, src, x.len, x⟩] } }

theorem Block.journal_frame (b : Block) (src : Nat) (x : JBody) : MirrorFrame (b.journaled src x) (b.journal src x) :=
  Block.mirror_frame _ _

theorem Block.withRoom_of_room {b : Block} {x : JBody} (h : b.journalRoom x = true) (f : Block → Block) : b.withRoom x f = f b := by
  rw [Block.withRoom, if_pos h]

-- GATE_MARK (R424, R434)

section
variable {s : State} {c : Close}

/-- What a close has gathered once a Gate has written its MARK. -/
def Block.markCuts (b : Block) (g : Nat) (c : Close) : Cuts :=
  { c.cuts with
    marks := SMap.put c.cuts.marks g (b.cont.lsn, b.gateTokens g)
    counts := (b.unitCounts (68 + g)).foldl (fun m e => SMap.put m e.1 e.2) c.cuts.counts
    disp := if g = 0 then some b.disp else c.cuts.disp }

/-- A Gate's MARK goes into the close, and the Gate's sender epoch moves on. -/
def Block.markPut (b : Block) (g : Nat) (c : Close) (cuts : Cuts) : Block :=
  { b with cont := { b.cont with close := some { c with cuts := cuts }, gEpoch := SMap.put b.cont.gEpoch g (c.epoch + 1) } }

/-- A Gate that has not marked the close writes its MARK and sends its MARKERs. -/
def Block.gateMarked (b : Block) (g : Nat) (c : Close) : Block :=
  let t := (b.journal g (.mark c.epoch)).markPut g c (b.markCuts g c)
  t.sendMarkers (68 + g) 1 c.epoch t.mapped

theorem gateMark_completes {g : Fin 4} (hup : s.blk.up = true) (hclose : s.blk.cont.close = some c)
    (hnew : SMap.find? c.cuts.marks g = none) (hroom : s.blk.journalRoom (.mark c.epoch) = true) :
    Completes (.gateMark g) s (s.blk.gateMarked g c) := by
  unfold Completes
  show execGateMark g s = _
  rw [execGateMark, actUp_up _ _ hup]
  simp only [hclose, hnew, Option.isSome_none, Bool.false_eq_true, if_false, Block.withRoom_of_room hroom]
  rfl

theorem Block.gateMarked_frame (b : Block) (g : Nat) (c : Close) :
    (b.gateMarked g c).cont = { (b.journaled g (.mark c.epoch)).cont with
      close := some { c with cuts := b.markCuts g c }
      gEpoch := SMap.put b.cont.gEpoch g (c.epoch + 1)
      outbox := b.cont.outbox ++ b.mapped.map fun p => (senderPoint (68 + g), markerToken b.ownId (68 + g) 1 c.epoch p) } ∧
    SameRegs b (b.gateMarked g c) [colirCnt 5] ∧ (b.gateMarked g c).qs = b.qs ∧ (b.gateMarked g c).mem = b.mem := by
  obtain ⟨hrest, hregs⟩ := b.journal_frame g (.mark c.epoch)
  have hmap : ((b.journal g (.mark c.epoch)).markPut g c (b.markCuts g c)).mapped = b.mapped := by
    have hphys : ∀ l, ((b.journal g (.mark c.epoch)).markPut g c (b.markCuts g c)).phys l = b.phys l := fun l => by
      refine Block.phys_of_same ?_ (fun k hk => (hregs _ ?_).symm) l
      · show (b.journal g (.mark c.epoch)).retired = _
        rw [hrest]
      · simp only [colirCnt, List.mem_singleton]
        omega
    simp only [Block.mapped, hphys]
  have hown : (b.journal g (.mark c.epoch)).ownId = b.ownId := congrArg (bits · 3 0) (hregs 0xE00000 (by decide)).symm
  refine ⟨?_, hregs, ?_, ?_⟩
  · unfold Block.gateMarked Block.sendMarkers
    dsimp only
    rw [hmap]
    show ({ (b.journal g (.mark c.epoch)).cont with close := _, gEpoch := _, outbox := _ ++ b.mapped.map fun p =>
      (senderPoint (68 + g), markerToken (b.journal g (.mark c.epoch)).ownId (68 + g) 1 c.epoch p) } : Cont) = _
    rw [hown, hrest]
    rfl
  · show (b.journal g (.mark c.epoch)).qs = _
    rw [hrest]
    rfl
  · show (b.journal g (.mark c.epoch)).mem = _
    rw [hrest]
    rfl

end

-- The end of a job (R255, R369, R370)

/-- What the end of a job leaves: decrements and messages sent, the rings' records, and the count of messages without a route. -/
structure JobFrame (b t : Block) : Prop where
  rest : t = { b with regs := t.regs, disp := t.disp, host := t.host, colir := t.colir }
  regs : SameRegs b t [colirCnt 3]

theorem jobFrame_refl (b : Block) : JobFrame b b := ⟨rfl, fun _ _ => rfl⟩

theorem JobFrame.trans {a b c : Block} (h : JobFrame a b) (h' : JobFrame b c) : JobFrame a c :=
  ⟨by rw [h'.rest, h.rest], h.regs.trans h'.regs⟩

theorem Block.sendDisp_jobFrame {b t : Block} {op ctx round changed status l x dst : Nat}
    (h : b.sendDisp op ctx round changed status l x dst = some t) : JobFrame b t := by
  unfold Block.sendDisp at h
  split at h
  · exact absurd h (by simp)
  · obtain rfl := Option.some.inj h
    exact ⟨rfl, fun _ _ => rfl⟩

theorem Block.notify_jobFrame (b : Block) (ctx dev : Nat) : JobFrame b (b.notify ctx dev) := by
  unfold Block.notify
  split
  · exact ⟨rfl, fun _ _ => rfl⟩
  · split
    · next hsent => exact Block.sendDisp_jobFrame hsent
    · obtain ⟨hrest, hregs⟩ := countFrame_bump b 1 (List.mem_singleton_self (colirCnt 3))
      rcases b.bump_eq (colirCnt 3) 1 with h | h <;> rw [h] at hregs ⊢ <;> exact ⟨rfl, hregs⟩

theorem Block.queueRecords_jobFrame (b : Block) (r : Nat) (seen js : List Job) : JobFrame b (b.queueRecords r seen js) := by
  induction js generalizing b seen with
  | nil => exact ⟨rfl, fun _ _ => rfl⟩
  | cons j js ih =>
    unfold Block.queueRecords
    split
    · exact ⟨rfl, fun _ _ => rfl⟩
    · split
      · exact ih b _
      · refine JobFrame.trans ?_ (ih _ _)
        exact ⟨rfl, fun _ _ => rfl⟩

theorem Block.finishJob_jobFrame (b : Block) (r index status result detail : Nat) :
    JobFrame b (b.finishJob r index status result detail) := by
  unfold Block.finishJob
  dsimp only
  split
  · exact jobFrame_refl b
  · refine JobFrame.trans ?_ (Block.queueRecords_jobFrame _ _ _ _)
    split
    · exact b.notify_jobFrame _ _
    · exact jobFrame_refl b

-- EPOCH_DONE (R367, R428, R435)

section
variable {s : State} {c : Close}

/-- The bank of a complete epoch is kept; older records and undo entries are free. -/
def Block.bankKept (b : Block) (c : Close) : Block :=
  { b with cont := { b.cont with
    bank := some { epoch := c.epoch, cuts := c.cuts }
    close := none
    journal := b.cont.journal.filter fun r => decide ((c.cuts.marks.map fun e => e.2.1).foldl min b.cont.lsn ≤ r.lsn)
    undo := b.cont.undo.filter fun u => decide (c.epoch < u.epoch)
    outs := [], freeAt := b.now, fresh_ := false, epochAsked := [] } }

/-- The block of a complete epoch before the jobs that asked for it end. -/
def Block.epochClosed (b : Block) (c : Close) : Block :=
  (((b.journal 0 (.epochDone c.epoch)).bankKept c).setRf 0x1100210 0 0 0).bump (contCnt 0)

/-- The jobs that asked for an epoch end with its number. -/
def Block.answerAsked (b : Block) (asked : List (Nat × Nat)) (epoch : Nat) : Block :=
  asked.foldl (fun b j => b.finishJob j.1 j.2 0 epoch 0) b

theorem Block.answerAsked_frame (b : Block) (asked : List (Nat × Nat)) (epoch : Nat) : JobFrame b (b.answerAsked asked epoch) :=
  List.foldlRecOn (motive := fun t => JobFrame b t) _ _ (jobFrame_refl b) fun d hd _ _ => hd.trans (d.finishJob_jobFrame _ _ _ _ _)

theorem epochDone_completes (hup : s.blk.up = true) (hclose : s.blk.cont.close = some c) (hcomplete : s.blk.closeComplete c = true)
    (hroom : s.blk.journalRoom (.epochDone c.epoch) = true) :
    Completes .epochDone s ((s.blk.epochClosed c).answerAsked (s.blk.journal 0 (.epochDone c.epoch)).cont.epochAsked c.epoch) := by
  unfold Completes
  show execEpochDone s = _
  rw [execEpochDone, actUp_up _ _ hup]
  simp only [hclose, hcomplete, Bool.not_true, Bool.false_eq_true, if_false, Block.withRoom_of_room hroom]
  rfl

/-- What a complete epoch leaves before those jobs end. -/
theorem Block.epochClosed_keeps (b : Block) (c : Close) :
    (b.epochClosed c).cont = ((b.journaled 0 (.epochDone c.epoch)).bankKept c).cont ∧ (b.epochClosed c).qs = b.qs ∧
    (b.epochClosed c).mem = b.mem ∧ SameRegs b (b.epochClosed c) [0x1100210, contCnt 0, colirCnt 5] := by
  obtain ⟨hrest, hregs⟩ := b.journal_frame 0 (.epochDone c.epoch)
  obtain ⟨hbump, hcount⟩ := countFrame_bump (((b.journal 0 (.epochDone c.epoch)).bankKept c).setRf 0x1100210 0 0 0) 1
    (but := [0x1100210, contCnt 0, colirCnt 5]) (off := contCnt 0) (by simp)
  refine ⟨?_, ?_, ?_, ?_⟩
  · rw [Block.epochClosed, hbump]
    show ((b.journal 0 (.epochDone c.epoch)).bankKept c).cont = _
    rw [hrest]
    rfl
  · rw [Block.epochClosed, hbump]
    show (b.journal 0 (.epochDone c.epoch)).qs = _
    rw [hrest]
    rfl
  · rw [Block.epochClosed, hbump]
    show (b.journal 0 (.epochDone c.epoch)).mem = _
    rw [hrest]
    rfl
  · have hjournal : SameRegs b ((b.journal 0 (.epochDone c.epoch)).bankKept c) [0x1100210, contCnt 0, colirCnt 5] :=
      SameRegs.mono (b := b) (c := b.journal 0 (.epochDone c.epoch)) hregs (by simp)
    exact (hjournal.trans ((sameRegs_setReg _ 0x1100210 _).mono (by simp))).trans hcount

theorem Block.rf_epochClosed (b : Block) (c : Close) : (b.epochClosed c).rf 0x1100210 0 0 = 0 := by
  rw [Block.epochClosed, Block.rf, Block.reg_bump_ne _ 1 (by decide), ← Block.rf, Block.rf_setRf_same _ _ (by decide)]
  rfl

theorem Block.reg_epochClosed (b : Block) (c : Close) : (b.epochClosed c).reg (contCnt 0) = satAdd (b.reg (contCnt 0)) 1 := by
  have hjournal : (b.journal 0 (.epochDone c.epoch)).reg (contCnt 0) = b.reg (contCnt 0) :=
    ((b.journal_frame 0 (.epochDone c.epoch)).regs (contCnt 0) (by decide)).symm
  rw [Block.epochClosed, Block.reg_bump_one, Block.setRf, Block.reg_setReg_ne _ _ (by decide)]
  exact congrArg (satAdd · 1) hjournal

-- LEDGER_ROOM_FREED (R435)

/-- The wait for room ends. -/
def Block.roomFreed (b : Block) (since : Nat) : Block :=
  (({ b with cont := { b.cont with fullSince := none } }).setRf 0x1100210 2 2 0).bump (contCnt 6) ((b.now - since) / 1000)

theorem ledgerRoomFreed_completes {since : Nat} (hup : s.blk.up = true) (hfull : s.blk.cont.fullSince = some since)
    (hroom : s.blk.journalUsed < s.blk.journalSpace) : Completes .ledgerRoomFreed s (s.blk.roomFreed since) := by
  unfold Completes
  show execLedgerRoomFreed s = _
  rw [execLedgerRoomFreed, actUp_up _ _ hup]
  simp only [hfull, if_neg (Nat.not_le.2 hroom)]
  rfl

theorem Block.roomFreed_frame (b : Block) (since : Nat) : CountFrame [0x1100210, contCnt 6] { b with cont := { b.cont with fullSince := none } }
    (b.roomFreed since) :=
  (countFrame_setReg _ _ (by simp)).trans (countFrame_bump _ _ (by simp))

theorem Block.rf_roomFreed (b : Block) (since : Nat) : (b.roomFreed since).rf 0x1100210 2 2 = 0 := by
  rw [Block.roomFreed, Block.rf, Block.reg_bump_ne _ _ (by decide), ← Block.rf, Block.rf_setRf_same _ _ (by decide)]
  rfl

theorem Block.reg_roomFreed (b : Block) (since : Nat) (h : b.reg (contCnt 6) < 2 ^ 32) :
    (b.roomFreed since).reg (contCnt 6) = satAdd (b.reg (contCnt 6)) ((b.now - since) / 1000) := by
  have hset : (({ b with cont := { b.cont with fullSince := none } }).setRf 0x1100210 2 2 0).reg (contCnt 6) = b.reg (contCnt 6) :=
    Block.reg_setReg_ne _ _ (by decide)
  rw [Block.roomFreed, Block.reg_bump_same _ (by rw [hset]; exact h), hset]

end

-- SNAPSHOT_LINE_COPY (R208, R212, R213)

/-- A frame into which a line's words have been copied. -/
def Quarter.copyInto (x : Quarter) (line : Nat) (m : SMap FrameWord) : SMap FrameWord :=
  ((List.range 8).map fun i => 8 * line + i).foldl (fun m w => putFrame m w (x.fw w)) m

theorem get_foldl_putFrame (f : Nat → FrameWord) (ws : List Nat) (m : SMap FrameWord) (w : Nat) :
    SMap.get (ws.foldl (fun m w => putFrame m w (f w)) m) FrameWord.empty w = if w ∈ ws then f w else SMap.get m FrameWord.empty w := by
  induction ws generalizing m with
  | nil => rfl
  | cons a ws ih =>
    rw [List.foldl_cons, ih, get_putFrame]
    by_cases hw : w ∈ ws
    · simp [hw]
    · by_cases ha : w = a <;> simp [hw, ha]

/-- The copied frame holds the line's words, and its own elsewhere. -/
theorem Quarter.get_copyInto (x : Quarter) (line : Nat) (m : SMap FrameWord) (w : Nat) :
    SMap.get (x.copyInto line m) FrameWord.empty w = if w / 8 = line then x.fw w else SMap.get m FrameWord.empty w := by
  have hmem : w ∈ (List.range 8).map (fun i => 8 * line + i) ↔ w / 8 = line := by
    rw [List.mem_map]
    refine ⟨fun ⟨i, hi, hw⟩ => ?_, fun h => ⟨w % 8, List.mem_range.2 (by omega), by omega⟩⟩
    have hlt := List.mem_range.1 hi
    omega
  rw [Quarter.copyInto, get_foldl_putFrame]
  simp only [hmem]

/-- The line that the snapshot engine copies next: one that holds a write, or the lowest. -/
def Quarter.nextCopied (x : Quarter) : Nat :=
  match x.heldLine with
  | some l => l
  | none => x.pend.tail.foldl min (x.pend.headD 0)

theorem Quarter.nextCopied_held {x : Quarter} {l : Nat} (h : x.heldLine = some l) : x.nextCopied = l := by
  rw [Quarter.nextCopied, h]

theorem Quarter.nextCopied_lowest {x : Quarter} (hpend : x.pend ≠ []) (h : x.heldLine = none) :
    x.nextCopied ∈ x.pend ∧ ∀ m ∈ x.pend, x.nextCopied ≤ m := by
  obtain ⟨l0, ls, hcons⟩ := List.exists_cons_of_ne_nil hpend
  have hmin : x.pend.min? = some x.nextCopied := by
    rw [Quarter.nextCopied, h, hcons]
    exact List.min?_cons'
  exact List.min?_eq_some_iff.1 hmin

theorem Quarter.nextCopied_mem {x : Quarter} (hpend : x.pend ≠ []) : x.nextCopied ∈ x.pend := by
  cases h : x.heldLine with
  | some l =>
    rw [Quarter.nextCopied_held h]
    unfold Quarter.heldLine at h
    simpa using List.find?_some h
  | none => exact (Quarter.nextCopied_lowest hpend h).1

/-- A close under way with the line copied into the cut of its Quarter, where it has one. -/
def Close.lineCopied (c : Close) (q : Nat) (x : Quarter) (line : Nat) : Close :=
  match c.cutOf q with
  | none => c
  | some cut => c.setCut q { cut with image := { cut.image with frame := x.copyInto line cut.image.frame } }

theorem Close.cutOf_lineCopied {c : Close} {q : Nat} {cut : QCut} (h : c.cutOf q = some cut) (x : Quarter) (line : Nat) :
    (c.lineCopied q x line).cutOf q = some { cut with image := { cut.image with frame := x.copyInto line cut.image.frame } } := by
  rw [Close.lineCopied, h]
  exact SMap.find?_put_same _ _ _

theorem Block.copyLine_eq (b : Block) (q line : Nat) :
    b.copyLine q line = { b.setQ q { b.q q with saved := (b.q q).copyInto line (b.q q).saved } with
      cont := { b.cont with close := b.cont.close.map fun c => c.lineCopied q (b.q q) line } } := by
  have hsame : ∀ x, b.cont.close = x → ({ b.cont with close := x } : Cont) = b.cont := by
    rintro _ rfl
    rfl
  unfold Block.copyLine
  dsimp only
  cases hclose : b.cont.close with
  | none => rw [Option.map_none, hsame none hclose]; rfl
  | some c =>
    cases hcut : c.cutOf q with
    | none =>
      simp only [Option.map_some, Close.lineCopied, hcut]
      rw [hsame (some c) hclose]
      rfl
    | some cut =>
      simp only [Option.map_some, Close.lineCopied, hcut]
      rfl

section
variable {s : State} {q : Fin 68}

/-- The block once the snapshot engine has copied the next line of a Quarter. -/
def Block.lineCopied (b : Block) (q : Nat) : Block :=
  let c := (b.pbReadWords q (8 * (b.q q).nextCopied) [] 8).1.copyLine q (b.q q).nextCopied
  c.setQ q { c.q q with pend := (b.q q).pend.filter (· ≠ (b.q q).nextCopied) }

theorem snapshotLineCopy_completes (hup : s.blk.up = true) (hpend : (s.blk.q q).pend ≠ []) (hawake : s.blk.qAwake q = true) :
    Completes (.snapshotLineCopy q []) s (s.blk.lineCopied q) := by
  obtain ⟨l0, ls, hcons⟩ := List.exists_cons_of_ne_nil hpend
  unfold Completes
  show execSnapshotLineCopy q [] s = _
  rw [execSnapshotLineCopy, actUp_up _ _ hup]
  unfold Block.lineCopied Quarter.nextCopied
  simp only [hcons, hawake, Bool.not_true, Bool.false_eq_true, if_false]
  rfl

section
variable {b : Block} {q : Nat} (harm : b.rf 0x300044 15 0 = 0)
include harm

/-- What the copy of a line leaves: the line no longer PENDING and in the snapshot, and the cut of a close under way. -/
theorem Block.lineCopied_keeps : ∃ wb,
    (b.lineCopied q).q q = { b.q q with
      wb := wb
      pend := (b.q q).pend.filter (· ≠ (b.q q).nextCopied)
      saved := (b.q q).copyInto (b.q q).nextCopied (b.q q).saved } ∧
    (b.lineCopied q).cont.close = b.cont.close.map (fun c => c.lineCopied q (b.q q) (b.q q).nextCopied) ∧
    (∀ p, p ≠ q → (b.lineCopied q).q p = b.q p) ∧ (b.lineCopied q).mem = b.mem := by
  obtain ⟨wb, hread⟩ := Block.pbReadWords_step q (first := 8 * (b.q q).nextCopied) 8 harm
  refine ⟨wb, ?_, ?_, fun p hp => ?_, ?_⟩
  · rw [Block.lineCopied, Block.q_setQ_same, Block.copyLine_eq, hread.quarter]
    exact congrArg (fun x : Quarter => { x with pend := (b.q q).pend.filter (· ≠ (b.q q).nextCopied) }) (Block.q_setQ_same _ _ _)
  · rw [Block.lineCopied, Block.copyLine_eq, hread.quarter, hread.cont]
    rfl
  · rw [Block.lineCopied, Block.q_setQ_ne _ _ hp, Block.copyLine_eq]
    exact (Block.q_setQ_ne _ _ hp).trans (hread.others p hp)
  · rw [Block.lineCopied, Block.copyLine_eq]
    exact hread.mem

/-- A line whose words are sound is copied with nothing to report. -/
theorem Block.lineCopied_sound
    (hsound : ∀ i < 8, ((b.q q).fw (8 * (b.q q).nextCopied + i)).bad = false ∧ ((b.q q).fw (8 * (b.q q).nextCopied + i)).ce = false) :
    (b.lineCopied q).q q = { b.q q with
      pend := (b.q q).pend.filter (· ≠ (b.q q).nextCopied)
      saved := (b.q q).copyInto (b.q q).nextCopied (b.q q).saved } ∧
    (b.lineCopied q).regs = b.regs := by
  have hread := Block.pbReadWords_sound q 8 harm hsound
  rw [Block.lineCopied, hread, Block.copyLine_eq]
  exact ⟨(Block.q_setQ_same _ _ _).trans (congrArg (fun x : Quarter => { x with pend := (b.q q).pend.filter (· ≠ (b.q q).nextCopied) })
    (Block.q_setQ_same _ _ _)), rfl⟩

end

end

end Sys2Proof.Machine

namespace Sys2Proof

open Machine

/-- Settles O40: each step of a close writes the close under way and the unit's own state; reads of images and frame words, the mirror and
the jobs that asked for the epoch touch nothing else that the statement names. -/
theorem epochCloses : Obligations.EpochCloses := by
  intro s b hup
  refine ⟨fun hen hclose hroll => ?start, fun q c hclose hnew hmapped harm => ?cut, fun g c hclose hnew hroom => ?mark,
    fun q hpend hawake harm => ?copy, fun c hclose hcomplete hroom => ?done, fun since hfull hroom hlt => ?room⟩
  case start =>
    obtain ⟨hcont, hnow, hqs, hclosing⟩ := b.closeStarted_keeps
    have hmoment : b.closeMoment.cont = b.cont := by rw [b.closeMoment_frame]
    refine ⟨_, completes_of_actUp rfl hup, ?_⟩
    rw [show s.blk = b from rfl, Block.closeStart_eq hen hclose hroll]
    dsimp only
    rw [hcont, hnow]
    refine ⟨congrArg (·.epoch + 1) hmoment, rfl, ?_, hclosing, rfl, rfl, b.closeMoment_due, hqs, b.closeStarted_mem⟩
    exact congrArg (fun k : Cont => some (⟨k.epoch, b.closeMoment.now, ⟨[], [], [], none⟩⟩ : Close)) hmoment
  case cut =>
    intro copied
    obtain ⟨hrest, hothers⟩ := b.cutTaken_frame (q := q)
    have hdone := quarterCut_completes q hup
    rw [show s.blk = b from rfl, Block.quarterCut_eq hclose hnew hmapped harm] at hdone
    refine ⟨_, _, hdone, rfl, rfl, rfl, ⟨b.cutOf q, SMap.find?_put_same _ _ _, rfl, rfl, rfl, rfl, rfl, rfl, rfl, rfl, rfl, b.frame_cutOf⟩,
      fun hon => ?_, fun y hoff => ?_, SMap.get_put_same _ _ _ _, ?_, hothers, ?_, ?_⟩
    · rw [Block.cutTaken_on hon]
      exact ⟨rfl, b.q_setQ_same q _⟩
    · rw [Block.cutTaken_off hoff]
      exact ⟨rfl, SMap.find?_put_same _ _ _⟩
    · rw [hrest]
      rfl
    · rw [hrest]
      rfl
    · rw [hrest]
      rfl
  case mark =>
    obtain ⟨hcont, hregs, hqs, hmem⟩ := b.gateMarked_frame g c
    refine ⟨_, { c with cuts := b.markCuts g c }, gateMark_completes hup hclose hnew hroom, ?_, rfl, rfl, SMap.find?_put_same _ _ _,
      fun hg => ?_, ?_, ?_, ?_, ?_, hregs, hqs, hmem⟩
    · rw [hcont]
    · subst hg
      rfl
    · rw [hcont]
      rfl
    · rw [hcont]
      rfl
    · rw [Block.gEpoch, hcont]
      exact SMap.get_put_same _ _ _ _
    · rw [hcont]
  case copy =>
    intro word
    obtain ⟨wb, hquarter, hclose, hothers, hmem⟩ := Block.lineCopied_keeps (q := q) harm
    refine ⟨_, _, snapshotLineCopy_completes hup hpend hawake, Quarter.nextCopied_mem hpend, fun l h => Quarter.nextCopied_held h,
      fun h => (Quarter.nextCopied_lowest hpend h).2, ?_, ?_, fun w => ?_, fun c cut hc hcut => ?_, hothers, fun hsound _ => ?_, hmem⟩
    · rw [hquarter]
    · rw [hquarter]
    · rw [hquarter]
      exact Quarter.get_copyInto _ _ _ _
    · exact ⟨_, _, hclose.trans (by rw [hc]; rfl), Close.cutOf_lineCopied hcut _ _, fun w => Quarter.get_copyInto _ _ _ _⟩
    · obtain ⟨hcopied, hregs⟩ := Block.lineCopied_sound harm hsound
      exact ⟨by rw [hcopied], hregs⟩
  case done =>
    obtain ⟨hcont, hqs, hmem, hregs⟩ := b.epochClosed_keeps c
    have hasked : (b.journal 0 (.epochDone c.epoch)).cont.epochAsked = b.cont.epochAsked := by
      rw [(b.journal_frame 0 (.epochDone c.epoch)).rest]
      rfl
    have hdone := epochDone_completes hup hclose hcomplete hroom
    rw [hasked] at hdone
    obtain ⟨hjobs, hjobRegs⟩ := (b.epochClosed c).answerAsked_frame b.cont.epochAsked c.epoch
    have hjobCont : ((b.epochClosed c).answerAsked b.cont.epochAsked c.epoch).cont = (b.epochClosed c).cont := by rw [hjobs]
    refine ⟨_, hdone, ?_, ?_, ?_, ?_, ?_, ?_, ?_, ?_, fun hnone => ?_⟩
    · rw [hjobCont, hcont]
      rfl
    · rw [hjobCont, hcont]
      rfl
    · rw [hjobCont, hcont]
      rfl
    · rw [hjobCont, hcont]
      rfl
    · rw [hjobCont, hcont]
      rfl
    · exact (congrArg (bits · 0 0) (hjobRegs _ (by decide))).symm.trans (b.rf_epochClosed c)
    · exact (hjobRegs _ (by decide)).symm.trans (b.reg_epochClosed c)
    · rw [hjobs]
      exact hqs
    · rw [hnone]
      exact ⟨hregs, hmem⟩
  case room =>
    obtain ⟨hrest, hregs⟩ := b.roomFreed_frame since
    refine ⟨_, ledgerRoomFreed_completes hup hfull hroom, ?_, b.rf_roomFreed since, b.reg_roomFreed since hlt, hregs, ?_⟩
    · rw [hrest]
    · rw [hrest]

end Sys2Proof

/-! The iteration gates: RETIRE_WORD, GATE_REGROW, GATE_K_SET_WRITE and STREAM_GATE_REPORT. -/

namespace Sys2Proof.Machine

-- Gate entries of a Quarter (R226)

/-- One of a Quarter's gate entries is replaced. -/
def Block.putGateEntry (b : Block) (q e : Nat) (g : GateEntry) : Block :=
  b.setQ q { b.q q with gates := SMap.put (b.q q).gates e g }

/-- The TAGs of the internal lookups for some indices of a gate's entry node (R227, R230). -/
def Block.lookupTags (b : Block) (g : GateEntry) (idxs : List Nat) : List W64 :=
  idxs.map fun i => mkTag b.ownId g.ctx g.entry (i % 2 ^ 18) 0

/-- A Plaza with further internal lookups. -/
def Plaza.withLookups (p : Plaza) (tags : List W64) : Plaza := { p with internal := p.internal ++ tags }

theorem Block.q_lookups (b : Block) (q : Nat) (g : GateEntry) (idxs : List Nat) :
    (b.lookups q g idxs).q q =
      { b.q q with plaza := (b.plz q).withLookups (b.lookupTags g idxs) } :=
  b.q_setQ_same q _

theorem Block.q_putGateEntry (b : Block) (q e : Nat) (g : GateEntry) :
    (b.putGateEntry q e g).q q = { b.q q with gates := SMap.put (b.q q).gates e g } :=
  b.q_setQ_same q _

/-- What a gate entry replaced with lookups of its Quarter leaves there. -/
theorem Block.q_lookups_putGateEntry (b : Block) (q e : Nat) (g g' : GateEntry) (idxs : List Nat) :
    ((b.putGateEntry q e g).lookups q g' idxs).q q = { b.q q with
      gates := SMap.put (b.q q).gates e g
      plaza := (b.plz q).withLookups (b.lookupTags g' idxs) } := by
  rw [Block.q_lookups, Block.plz, Block.q_putGateEntry]
  rfl

-- RETIRE_WORD (R227)

section
variable {b : Block} {q e i k : Nat} {g : GateEntry}

/-- BASE runs over an index that was retired alone. -/
theorem advanceBase_base (hmap : g.map = []) (n : Nat) :
    advanceBase 1 { g with map := [g.base], since := n } = { g with base := (g.base + 1) % 2 ^ 18, since := n } := by
  simp [advanceBase, hmap]

/-- BASE does not move for a later index. -/
theorem advanceBase_later (hi : i ≠ g.base) (n : Nat) :
    advanceBase 1 { g with map := [i], since := n } = { g with map := [i], since := n } := by
  simp [advanceBase, hi.symm]

/-- A retired index within the window of a gate that waits for no later one goes into its map, over which BASE then runs. -/
theorem Block.retireAt_first (hk : gateBound g.stream g.kset = some k) (hin : (i + 2 ^ 18 - g.base) % 2 ^ 18 < k) (hmap : g.map = [])
    {g' : GateEntry} (hadvance : advanceBase 1 { g with map := [i], since := g.since + 1 } = g') :
    b.retireAt q e i g = (b.putGateEntry q e g').lookups q g'
      ((List.range ((g'.base + 2 ^ 18 - g.base) % 2 ^ 18)).map fun d => g.base + g.know + d) := by
  subst hadvance
  unfold Block.retireAt
  simp only [hk, Nat.not_le.2 hin, if_false, hmap]
  rfl

/-- BASE retires: it moves on, and the window's next index is looked up. -/
theorem Block.retireAt_base (hk : gateBound g.stream g.kset = some k) (hin : (g.base + 2 ^ 18 - g.base) % 2 ^ 18 < k) (hmap : g.map = [])
    (hbase : g.base < 2 ^ 18) :
    b.retireAt q e g.base g = (b.putGateEntry q e { g with base := (g.base + 1) % 2 ^ 18, since := g.since + 1 }).lookups q g
      [g.base + g.know] := by
  have hnew : ((g.base + 1) % 2 ^ 18 + 2 ^ 18 - g.base) % 2 ^ 18 = 1 := by omega
  rw [Block.retireAt_first hk hin hmap (advanceBase_base hmap _)]
  simp only [hnew]
  rfl

/-- An index later than BASE waits in the map. -/
theorem Block.retireAt_later (hk : gateBound g.stream g.kset = some k) (hin : (i + 2 ^ 18 - g.base) % 2 ^ 18 < k) (hmap : g.map = [])
    (hi : i ≠ g.base) :
    b.retireAt q e i g = (b.putGateEntry q e { g with map := [i], since := g.since + 1 }).lookups q g [] := by
  have hnew : (g.base + 2 ^ 18 - g.base) % 2 ^ 18 = 0 := by omega
  rw [Block.retireAt_first hk hin hmap (advanceBase_later hi _)]
  simp only [hnew]
  rfl

end

/-- A Quarter once it has taken the next retire word. -/
def Block.retireTaken (b : Block) (q : Nat) (rest : List W64) : Block := b.setQ q { b.q q with retireIn := rest }

/-- A retire word for the exit node of a Quarter's only gate acts on that gate. -/
theorem retireWord_completes {s : State} {q : Fin 68} {tag : W64} {rest : List W64} {e : Nat} {g : GateEntry}
    (hruns : s.blk.qRuns q = true) (hup : s.blk.up = true) (hin : (s.blk.q q).retireIn = tag :: rest) (hgates : (s.blk.q q).gates = [(e, g)])
    (hvalid : g.valid = true) (hctx : g.ctx = tagCtx tag) (hexit : g.exit = tagNode tag) :
    Completes (.retireWord q) s ((s.blk.retireTaken q rest).retireAt q e (tagIdx tag) g) := by
  unfold Completes
  show execRetireWord q s = _
  rw [execRetireWord, actUp_up _ _ hup]
  simp only [Block.retireTaken, hin, hruns, hgates, hvalid, hctx, hexit, Bool.not_true, Bool.false_eq_true, if_false, List.foldl_cons,
    List.foldl_nil, beq_self_eq_true, Bool.and_self, if_true]

/-- What a retire word within the window of a Quarter's only gate leaves: the gate's BASE or its map, and the internal lookups. -/
theorem Block.retired_effect {b : Block} {q e i k : Nat} {rest : List W64} {g : GateEntry} (hgates : (b.q q).gates = [(e, g)])
    (hk : gateBound g.stream g.kset = some k) (hin : (i + 2 ^ 18 - g.base) % 2 ^ 18 < k) (hmap : g.map = []) (hbase : g.base < 2 ^ 18) :
    let t := (b.retireTaken q rest).retireAt q e i g
    ∃ g', (t.q q).retireIn = rest ∧ (t.q q).gates = [(e, g')] ∧
      (i = g.base → g' = { g with base := (g.base + 1) % 2 ^ 18, since := g.since + 1 } ∧
        (t.plz q).internal = (b.plz q).internal ++ [mkTag b.ownId g.ctx g.entry ((g.base + g.know) % 2 ^ 18) 0]) ∧
      (i ≠ g.base → g' = { g with map := [i], since := g.since + 1 } ∧ (t.plz q).internal = (b.plz q).internal) ∧
      t.regs = b.regs ∧ t.mem = b.mem := by
  have hput : ∀ g', SMap.put ((b.retireTaken q rest).q q).gates e g' = [(e, g')] := by
    intro g'
    simp [Block.retireTaken, hgates, SMap.put]
  have hrest : ((b.retireTaken q rest).q q).retireIn = rest := by rw [Block.retireTaken, Block.q_setQ_same]
  have hplz : (b.retireTaken q rest).plz q = b.plz q := by rw [Block.plz, Block.retireTaken, Block.q_setQ_same]; rfl
  by_cases hi : i = g.base
  · subst hi
    rw [Block.retireAt_base hk hin hmap hbase]
    refine ⟨_, ?_, ?_, fun _ => ⟨rfl, ?_⟩, fun h => absurd rfl h, rfl, rfl⟩
    · rw [Block.q_lookups_putGateEntry, hrest]
    · rw [Block.q_lookups_putGateEntry, hput]
    · rw [Block.plz, Block.q_lookups_putGateEntry, hplz]
      rfl
  · rw [Block.retireAt_later hk hin hmap hi]
    refine ⟨_, ?_, ?_, fun h => absurd h hi, fun _ => ⟨rfl, ?_⟩, rfl, rfl⟩
    · rw [Block.q_lookups_putGateEntry, hrest]
    · rw [Block.q_lookups_putGateEntry, hput]
    · rw [Block.plz, Block.q_lookups_putGateEntry, hplz]
      exact List.append_nil _

-- GATE_REGROW (R230)

theorem Block.allGates_passTo (b : Block) (t : Nat) : (b.passTo t).allGates = b.allGates := by
  unfold Block.allGates
  rw [Block.passTo_qs, Block.retired_passTo]

/-- K_NOW is below the bound of an enabled gate. -/
def GateEntry.growing (g : GateEntry) : Bool :=
  match gateBound g.stream g.kset with
  | some k => decide (g.know < k)
  | none => false

/-- The next REGROW period starts while a gate can grow further. -/
def Block.regrowAgain (b : Block) (period due : Nat) : Block :=
  { b with ave := { b.ave with regrow := if b.allGates.any fun e => e.2.2.growing then some (period, due + period) else none } }

/-- At the end of a REGROW period K_NOW of the only gate rises. -/
theorem gateRegrow_completes {s : State} {q e k period due : Nat} {g : GateEntry} (hup : s.blk.up = true)
    (hregrow : s.blk.ave.regrow = some (period, due)) (hfree : s.blk.ave.recovering = false) (hgates : s.blk.allGates = [(q, e, g)])
    (hk : gateBound g.stream g.kset = some k) (hlow : g.know < k) :
    Completes .gateRegrow s (((s.blk.passTo due).setKnow q e (min k (2 * g.know)) g).regrowAgain period due) := by
  unfold Completes
  show execGateRegrow s = _
  rw [execGateRegrow, actUp_up _ _ hup]
  simp only [hregrow, hfree, Block.allGates_passTo, hgates, hk, hlow, Bool.false_eq_true, if_false, List.foldl_cons, List.foldl_nil, if_true]
  rfl

theorem Block.q_setKnow (b : Block) (q e know : Nat) (g : GateEntry) :
    (b.setKnow q e know g).q q = { b.q q with
      gates := SMap.put (b.q q).gates e { g with know := know }
      plaza := (b.plz q).withLookups (b.lookupTags g ((List.range (know - g.know)).map fun d => g.base + g.know + d)) } :=
  b.q_lookups_putGateEntry q e _ g _

theorem Block.ownId_passTo (b : Block) (t : Nat) : (b.passTo t).ownId = b.ownId := congrArg (bits · 3 0) (b.passTo_reg t _)

/-- What the end of a REGROW period leaves at the gate's Quarter. -/
theorem Block.regrown_effect (b : Block) (q e know due period : Nat) (g : GateEntry) :
    let t := ((b.passTo due).setKnow q e know g).regrowAgain period due
    due ≤ t.now ∧ SMap.find? (t.q q).gates e = some { g with know := know } ∧
      (t.plz q).internal = (b.plz q).internal ++ ((List.range (know - g.know)).map fun d =>
        mkTag b.ownId g.ctx g.entry ((g.base + g.know + d) % 2 ^ 18) 0) ∧ t.mem = b.mem := by
  have hq : (((b.passTo due).setKnow q e know g).regrowAgain period due).q q = _ := (b.passTo due).q_setKnow q e know g
  refine ⟨?_, ?_, ?_, b.passTo_mem due⟩
  · exact (le_max_right _ _).trans_eq (b.passTo_now due).symm
  · rw [hq]
    exact SMap.find?_put_same _ _ _
  · rw [Block.plz, hq, Block.plz_of_qs (b.passTo_qs due), Block.lookupTags, Block.ownId_passTo, List.map_map]
    rfl

-- GATE_K_SET_WRITE (R228, R230)

theorem Block.startRegrow_eq (b : Block) : b.startRegrow = { b with ave := b.startRegrow.ave } := by
  unfold Block.startRegrow
  split <;> rfl

/-- K_SET of an enabled gate is written with another bound: K_NOW falls to it, and a REGROW period runs while K_NOW stays below it. -/
theorem Block.writeKset_bounded {b : Block} {value n m : Nat} {g : GateEntry} (hq : b.rf 0x500200 6 0 < 68)
    (hret : b.retired.contains (b.rf 0x500200 6 0) = false)
    (hgate : SMap.find? (b.q (b.rf 0x500200 6 0)).gates (b.rf 0x500200 11 8) = some g) (hvalid : g.valid = true)
    (hm : gateBound g.stream g.kset = some m) (hn : gateBound g.stream (value % 2 ^ 18) = some n) :
    let c := b.putGateEntry (b.rf 0x500200 6 0) (b.rf 0x500200 11 8) { g with kset := value % 2 ^ 18, know := min g.know n }
    b.writeKset value = if g.know < n then c.startRegrow else c := by
  unfold Block.writeKset
  simp only [Nat.not_le.2 hq, hret, hgate, hvalid, hm, hn, decide_false, Bool.or_self, Bool.not_true, Bool.false_eq_true, if_false]
  rfl

/-- K_NOW is at most the bound written. -/
theorem Block.writeKset_effect {b : Block} {value n m : Nat} {g : GateEntry} (hq : b.rf 0x500200 6 0 < 68)
    (hret : b.retired.contains (b.rf 0x500200 6 0) = false)
    (hgate : SMap.find? (b.q (b.rf 0x500200 6 0)).gates (b.rf 0x500200 11 8) = some g) (hvalid : g.valid = true)
    (hm : gateBound g.stream g.kset = some m) (hn : gateBound g.stream (value % 2 ^ 18) = some n) :
    SMap.find? ((b.writeKset value).q (b.rf 0x500200 6 0)).gates (b.rf 0x500200 11 8) =
        some { g with kset := value % 2 ^ 18, know := min g.know n } ∧
      (b.writeKset value).regs = b.regs ∧ (b.writeKset value).mem = b.mem := by
  rw [Block.writeKset_bounded hq hret hgate hvalid hm hn]
  have hput : ∀ c : Block, c.qs = (b.putGateEntry (b.rf 0x500200 6 0) (b.rf 0x500200 11 8)
      { g with kset := value % 2 ^ 18, know := min g.know n }).qs → SMap.find? (c.q (b.rf 0x500200 6 0)).gates (b.rf 0x500200 11 8) =
        some { g with kset := value % 2 ^ 18, know := min g.know n } := fun c hc => by
    rw [Block.q_of_qs hc, Block.q_putGateEntry, SMap.find?_put_same]
  split
  · rw [Block.startRegrow_eq]
    exact ⟨hput _ rfl, rfl, rfl⟩
  · exact ⟨hput _ rfl, rfl, rfl⟩

-- STREAM_GATE_REPORT (R229)

/-- A STREAM gate's BASE and K_NOW reach the Converter Gate. -/
def Block.gateReported (b : Block) (q e : Nat) (g : GateEntry) : Block :=
  let c := b.putGateEntry q e { g with since := 0 }
  { c with ave := { c.ave with convGate := SMap.put c.ave.convGate (16 * q + e) (g.base, g.know) } }

/-- A STREAM gate reports when it has not yet, when 256 retirements have passed, or when K_NOW has changed. -/
theorem streamGateReport_completes {s : State} {q : Fin 68} {e : Fin 16} {g : GateEntry} (hup : s.blk.up = true)
    (hgate : SMap.find? (s.blk.q q).gates e = some g) (hvalid : g.valid = true) (hstream : g.stream = true)
    (hret : s.blk.retired.contains q.val = false)
    (hdue : ∀ base know, SMap.find? s.blk.ave.convGate (16 * q.val + e.val) = some (base, know) → 256 ≤ g.since ∨ know ≠ g.know) :
    Completes (.streamGateReport q e) s (s.blk.gateReported q e g) := by
  unfold Completes
  show execStreamGateReport q e s = _
  rw [execStreamGateReport, actUp_up _ _ hup]
  have hreport : (g.valid && g.stream && (match SMap.find? s.blk.ave.convGate (16 * q.val + e.val) with
      | some (_, know) => decide (256 ≤ g.since) || know != g.know
      | none => true) && !s.blk.retired.contains q.val) = true := by
    rw [hvalid, hstream, hret]
    split
    · next hseen => simpa using hdue _ _ hseen
    · rfl
  simp only [hgate]
  exact congrArg (fun b => Host.Outcome.next { s with blk := b }) (if_pos hreport)

/-- Settles O24: what each of the four commands makes of one gate entry, and the internal lookups that a window newly admits. -/
theorem iterationGates : Obligations.IterationGates := by
  refine ⟨?_, ?_, ?_, ?_⟩
  · intro s q tag rest e k g b hruns hin hgates hvalid hctx hexit hk hidx hmap hbase
    have hup : b.up = true := by
      simp only [Block.qRuns, Block.qAwake, Bool.and_eq_true] at hruns
      exact hruns.1.2
    obtain ⟨g', heffect⟩ := Block.retired_effect (rest := rest) hgates hk hidx hmap hbase
    exact ⟨_, g', retireWord_completes hruns hup hin hgates hvalid hctx hexit, heffect⟩
  · intro s q e k period due g b hup hregrow hfree hgates hk hlow
    exact ⟨_, gateRegrow_completes hup hregrow hfree hgates hk hlow, b.regrown_effect q e _ due period g⟩
  · intro s value g n m b q e hup hq hret hgate hvalid hm hn
    exact ⟨_, completes_of_actUp (f := fun b => b.writeKset value.toNat) rfl hup,
      Block.writeKset_effect hq hret hgate hvalid hm hn⟩
  · intro s q e g b seen hup hgate hvalid hstream hret hdue
    refine ⟨_, streamGateReport_completes hup hgate hvalid hstream hret hdue, SMap.find?_put_same _ _ _, ?_, fun p hp => ?_, rfl, rfl⟩
    · show SMap.find? ((b.putGateEntry q e { g with since := 0 }).q q).gates e = _
      rw [Block.q_putGateEntry, SMap.find?_put_same]
    · exact b.q_setQ_ne _ hp

end Sys2Proof.Machine

/-! Gridlock and migrations: DIST_SUSPECT, GRIDLOCK, GRIDLOCK_RELEASE, MIGRATION_START, MIGRATION_SWITCH and MIGRATION_ABANDON. -/

namespace Sys2Proof

theorem contains_addNew (l : List Nat) (n : Nat) : (addNew l n).contains n = true := by
  unfold addNew
  split
  · assumption
  · simp

theorem contains_filter_ne (l : List Nat) (n : Nat) : (l.filter (· ≠ n)).contains n = false := by
  simp

/-- A fold whose steps all leave a value where it is ends there. -/
theorem foldl_fixed_of_mem {α β : Type} {f : β → α → β} {a : β} {l : List α} (h : ∀ x ∈ l, f a x = a) : l.foldl f a = a :=
  List.foldlRecOn (motive := (· = a)) l f rfl fun c hc x hx => by rw [hc, h x hx]

end Sys2Proof

namespace Sys2Proof.Machine

/-- A command of a unit that works while the module runs completes with what the unit's effect comes to. -/
theorem completes_of_actUp_eq {c : Instr} {s : State} {f : Block → Block} {t : Block} (hc : exec c s = actUp f s) (hup : s.blk.up = true)
    (h : f s.blk = t) : Completes c s t :=
  h ▸ completes_of_actUp hc hup

-- DIST_SUSPECT (R236)

/-- A District is found SUSPECT. -/
def Block.markSuspect (b : Block) (d : Nat) : Block :=
  { b with ave := { b.ave with suspect := addNew b.ave.suspect d, quiet := b.ave.quiet.filter (· ≠ d) } }

/-- A District is found QUIET. -/
def Block.markQuiet (b : Block) (d : Nat) : Block :=
  { b with ave := { b.ave with quiet := addNew b.ave.quiet d, suspect := b.ave.suspect.filter (· ≠ d) } }

/-- A District whose count of cycles without a firing has reached STALL_WAIT is SUSPECT while words wait in it, and QUIET otherwise. -/
def Block.monitored (b : Block) (d : Nat) : Block :=
  if b.distWaiting d then (if b.ave.suspect.contains d then b.markSuspect d else (b.markSuspect d).raise 5 d) else b.markQuiet d

theorem distSuspect_completes {s : State} {d : Fin 8} (hup : s.blk.up = true) (hfree : s.blk.ave.recovering = false)
    (hbusy : s.blk.distBusy d = false) (hrun : s.blk.distRunning d = true) :
    Completes (.distSuspect d) s ((s.blk.passTo (SMap.get s.blk.ave.lastFired 0 d + s.blk.stallWait d)).monitored d) :=
  completes_of_actUp_eq (execDistSuspect.eq_1 d s) hup (if_neg (by simp [hfree, hbusy, hrun]))

theorem Block.distWaiting_passTo (b : Block) (t d : Nat) : (b.passTo t).distWaiting d = b.distWaiting d := by
  unfold Block.distWaiting
  simp only [Block.q_of_qs (b.passTo_qs t), Block.xing_of_ave (b.passTo_ave t)]

theorem Block.monitored_waiting {b : Block} {d : Nat} (h : b.distWaiting d = true) :
    (b.monitored d).ave = (b.markSuspect d).ave ∧
      (b.ave.suspect.contains d = false → (b.monitored d).evc.raised = b.evc.raised ++ [{ src := 5, arg := d % 2 ^ 32, tag := none }]) := by
  rw [Block.monitored, if_pos h]
  cases hnew : b.ave.suspect.contains d
  · exact ⟨rfl, fun _ => rfl⟩
  · exact ⟨rfl, fun h => absurd h (by decide)⟩

theorem Block.monitored_idle {b : Block} {d : Nat} (h : b.distWaiting d = false) : b.monitored d = b.markQuiet d := by
  rw [Block.monitored, h]
  rfl

/-- A monitor changes the Avenue's findings and the events raised. -/
theorem Block.monitored_frame (b : Block) (d : Nat) : b.monitored d = { b with ave := (b.monitored d).ave, evc := (b.monitored d).evc } := by
  unfold Block.monitored
  split
  · split <;> rfl
  · rfl

-- GRIDLOCK (R237, R238)

/-- What an abandoned migration leaves: none under way, and its count. -/
theorem Block.abandon_frame (b : Block) : CountFrame [aveCnt 12] { b with ave := { b.ave with mig := none } } b.abandon := by
  unfold Block.abandon
  split
  · next h =>
    rw [← Option.isNone_iff_eq_none.1 h]
    exact countFrame_refl _ b
  · exact countFrame_bump _ 1 (by simp)

/-- A migration under way that is abandoned is counted and leaves everything else as it is. -/
theorem Block.abandon_effect {b : Block} {m : Migration} (h : b.ave.mig = some m) :
    b.abandon.ave.mig = none ∧ b.abandon.disp = b.disp ∧ b.abandon.now = b.now ∧
      b.abandon.reg (aveCnt 12) = satAdd (b.reg (aveCnt 12)) 1 ∧ b.abandon.qs = b.qs ∧ b.abandon.mem = b.mem := by
  rw [Block.abandon, if_neg (by simp [h]), Block.bump_ave, Block.bump_disp, Block.bump_now, Block.reg_bump_one, Block.bump_qs,
    Block.bump_mem]
  exact ⟨rfl, rfl, rfl, congrArg (satAdd · 1) (Block.reg_of_regs rfl _), rfl, rfl⟩

theorem Block.abandon_evc (b : Block) : b.abandon.evc = b.evc := by
  unfold Block.abandon
  split
  · rfl
  · exact Block.bump_evc _ _ _

theorem Block.noteSuspects_frame (b : Block) : CountFrame [] b b.noteSuspects :=
  List.foldlRecOn _ _ (countFrame_refl [] b) fun _ h _ _ => h.trans (countFrame_raise _ _ _ _)

/-- The events of a declaration are raised. -/
def Block.gridlockRaised (b : Block) : Block :=
  b.noteSuspects.raise 4 (bitsOf (b.running.filter b.noteSuspects.suspectNow) + 2 ^ 8 * bitsOf (b.running.filter b.noteSuspects.quietNow) +
    2 ^ 16 * bitsOf b.running)

/-- The Plazas are frozen, and every monitor starts again. -/
def Block.frozenNow (b : Block) (period : Nat) : Block :=
  { b with ave := { b.ave with recovering := true, declared := b.now, suspect := [], quiet := [], regrow := none, period := period } }

/-- A gridlock as it is declared, before the dump and the drain. -/
def Block.gridlockDeclared (b : Block) : Block :=
  (b.gridlockRaised.bump 0x500014).abandon.frozenNow (b.rf 0x50000C 23 16 * 100000000)

theorem Block.gridlockRaised_frame (b : Block) : CountFrame [] b b.gridlockRaised :=
  b.noteSuspects_frame.trans (countFrame_raise _ _ _ _)

theorem Block.gridlockDeclared_frame (b : Block) :
    CountFrame [0x500014, aveCnt 12] { b with ave := { b.ave with
      mig := none, recovering := true, declared := b.now, suspect := [], quiet := [], regrow := none
      period := b.rf 0x50000C 23 16 * 100000000 } } b.gridlockDeclared := by
  obtain ⟨hraised, hsame⟩ := b.gridlockRaised_frame
  obtain ⟨hbump, hsame'⟩ := countFrame_bump b.gridlockRaised 1 (List.mem_singleton_self 0x500014)
  obtain ⟨habandon, hsame''⟩ := (b.gridlockRaised.bump 0x500014).abandon_frame
  refine ⟨?_, ?_⟩
  · rw [Block.gridlockDeclared]
    generalize (b.gridlockRaised.bump 0x500014).abandon = c at habandon
    rw [habandon, hbump]
    generalize b.gridlockRaised = d at hraised
    rw [hraised]
    rfl
  · have h : SameRegs b b.gridlockDeclared [0x500014, aveCnt 12] :=
      ((hsame.mono (by simp)).trans (hsame'.mono (by simp))).trans (hsame''.mono (by simp))
    exact h

/-- A declaration is counted. -/
theorem Block.reg_gridlockDeclared (b : Block) : b.gridlockDeclared.reg 0x500014 = satAdd (b.reg 0x500014) 1 := by
  obtain ⟨-, hsame⟩ := (b.gridlockRaised.bump 0x500014).abandon_frame
  calc b.gridlockDeclared.reg 0x500014 = (b.gridlockRaised.bump 0x500014).reg 0x500014 := (hsame _ (by decide)).symm
    _ = satAdd (b.gridlockRaised.reg 0x500014) 1 := Block.reg_bump_one _ _
    _ = satAdd (b.reg 0x500014) 1 := by rw [b.gridlockRaised_frame.2 _ (by simp)]

/-- A declaration raises one event beside those of the Districts that it finds SUSPECT. -/
theorem Block.raised_gridlockDeclared (b : Block) : b.gridlockDeclared.evc.raised.length = b.noteSuspects.evc.raised.length + 1 := by
  have h : b.gridlockDeclared.evc = b.gridlockRaised.evc := (Block.abandon_evc _).trans (Block.bump_evc _ _ _)
  rw [h]
  exact List.length_append

/-- With no VC0 flit in a Crossing there is nothing to dump (R238, step 3). -/
theorem Block.dump_empty {b : Block} (h : ∀ e ∈ b.ave.xings, ∀ i < 6, SMap.get (b.xing (e.1 % 16) (e.1 / 16)).bufs [] (bufKey i 0) = []) :
    b.dump = (b, []) :=
  foldl_fixed_of_mem fun e he => foldl_fixed_of_mem fun i hi => by
    simp only [h e he i (List.mem_range.1 hi), List.isEmpty_nil, if_true]

/-- A Plaza within DRAIN_TARGET has nothing to drain (R238, step 4). -/
theorem Block.drainQ_within {b : Block} {q target : Nat} (h : (b.plz q).entries.length ≤ target) (n : Nat) (cs : List Nat) :
    b.drainQ q target n cs = (b, cs) := by
  cases n with
  | zero => rfl
  | succ n =>
    unfold Block.drainQ
    dsimp only
    split
    · rfl
    · rw [if_pos h]

/-- The dump and the drain of a declared gridlock (R238, steps 3 and 4): the block after them, and the contexts to be charged. -/
def Block.dumpAndDrain (b : Block) : Block × List Nat :=
  b.dump.1.qs.foldl (fun acc e => if acc.1.retired.contains e.1 then acc
    else acc.1.drainQ e.1 (min (b.rf 0x50000C 14 0) 16384) e.2.plaza.entries.length acc.2) b.dump

theorem Block.dumpAndDrain_empty {b : Block}
    (hempty : ∀ e ∈ b.ave.xings, ∀ i < 6, SMap.get (b.xing (e.1 % 16) (e.1 / 16)).bufs [] (bufKey i 0) = [])
    (hsmall : ∀ e ∈ b.qs, (b.plz e.1).entries.length ≤ min (b.rf 0x50000C 14 0) 16384) : b.dumpAndDrain = (b, []) := by
  rw [Block.dumpAndDrain, Block.dump_empty hempty]
  refine foldl_fixed_of_mem fun e he => ?_
  split
  · rfl
  · exact Block.drainQ_within (hsmall e he) _ _

/-- GRIDLOCK declares a gridlock of running Districts of which all are SUSPECT or QUIET, and one SUSPECT. -/
theorem gridlock_completes {s : State} (hup : s.blk.up = true) (hon : s.blk.rf 0x500000 1 1 = 1) (hfree : s.blk.ave.recovering = false)
    (hall : ∀ d ∈ s.blk.running, s.blk.suspectNow d = true ∨ s.blk.quietNow d = true)
    (hany : ∃ d ∈ s.blk.running, s.blk.suspectNow d = true) :
    Completes .gridlock s
      (s.blk.gridlockDeclared.dumpAndDrain.2.foldl (fun b c => b.charge c) s.blk.gridlockDeclared.dumpAndDrain.1) := by
  have hall' : (s.blk.running.all fun d => s.blk.suspectNow d || s.blk.quietNow d) = true := by simpa using hall
  have hany' : s.blk.running.any s.blk.suspectNow = true := by simpa using hany
  have hgo : ¬ (decide (s.blk.rf 0x500000 1 1 = 0) || s.blk.ave.recovering ||
      !(s.blk.running.all fun d => s.blk.suspectNow d || s.blk.quietNow d) || !(s.blk.running.any s.blk.suspectNow)) = true := by
    rw [hon, hfree, hall', hany']
    decide
  exact completes_of_actUp_eq (execGridlock.eq_1 s) hup (if_neg hgo)

/-- Where the Crossings hold no VC0 flit and no Plaza is above DRAIN_TARGET, the declaration is all. -/
theorem gridlock_completes_undrained {s : State} (hup : s.blk.up = true) (hon : s.blk.rf 0x500000 1 1 = 1)
    (hfree : s.blk.ave.recovering = false) (hall : ∀ d ∈ s.blk.running, s.blk.suspectNow d = true ∨ s.blk.quietNow d = true)
    (hany : ∃ d ∈ s.blk.running, s.blk.suspectNow d = true)
    (hempty : ∀ e ∈ s.blk.ave.xings, ∀ i < 6, SMap.get (s.blk.xing (e.1 % 16) (e.1 / 16)).bufs [] (bufKey i 0) = [])
    (hsmall : ∀ e ∈ s.blk.qs, (s.blk.plz e.1).entries.length ≤ min (s.blk.rf 0x50000C 14 0) 16384) :
    Completes .gridlock s s.blk.gridlockDeclared := by
  obtain ⟨hrest, hsame⟩ := s.blk.gridlockDeclared_frame
  have hqs : s.blk.gridlockDeclared.qs = s.blk.qs := by rw [hrest]
  have htarget : s.blk.gridlockDeclared.rf 0x50000C 14 0 = s.blk.rf 0x50000C 14 0 := congrArg (bits · 14 0) (hsame _ (by decide)).symm
  have hnothing : s.blk.gridlockDeclared.dumpAndDrain = (s.blk.gridlockDeclared, []) :=
    Block.dumpAndDrain_empty (by rw [hrest]; exact hempty) fun e he => by
      rw [htarget, Block.plz_of_qs hqs]
      exact hsmall e (hqs ▸ he)
  have hrun := gridlock_completes hup hon hfree hall hany
  rwa [hnothing] at hrun

-- GRIDLOCK_RELEASE (R230, R238)

/-- K_NOW of every enabled gate is halved (R238, step 5). -/
def Block.gatesHalved (b : Block) : Block :=
  b.allGates.foldl (fun b e =>
    if (gateBound e.2.2.stream e.2.2.kset).isNone then b
    else b.setQ e.1 { b.q e.1 with gates := SMap.put (b.q e.1).gates e.2.1 { e.2.2 with know := max 1 (e.2.2.know / 2) } }) b

theorem Block.gatesHalved_frame (b : Block) : b.gatesHalved = { b with qs := b.gatesHalved.qs } :=
  List.foldlRecOn (motive := fun t : Block => t = { b with qs := t.qs }) b.allGates _ rfl fun t ht e _ => by
    split
    · exact ht
    · rw [ht]
      rfl

/-- A recovery that has lasted some cycles is noted, and the longest of them (R238, step 6). -/
def Block.recoveryNoted (b : Block) (cycles : Nat) : Block :=
  (b.setReg 0x500018 cycles).setReg 0x50001C (max cycles ((b.setReg 0x500018 cycles).reg 0x50001C))

theorem Block.reg_recoveryNoted (b : Block) (cycles : Nat) : (b.recoveryNoted cycles).reg 0x500018 = cycles % 2 ^ 32 := by
  rw [Block.recoveryNoted, Block.reg_setReg_ne _ _ (by decide), Block.reg_setReg_same]

/-- The Plazas resume: the monitors start again, and a REGROW period runs. -/
def Block.resumed (b : Block) : Block :=
  { b with ave := { b.ave with
    recovering := false, lastFired := (List.range 8).map fun d => (d, b.now), suspect := [], quiet := []
    regrow := if b.ave.period = 0 then none else some (b.ave.period, b.now + b.ave.period) } }

/-- A recovery that has lasted some cycles ends (R238, steps 5 and 6). -/
def Block.released (b : Block) (cycles : Nat) : Block :=
  (b.gatesHalved.recoveryNoted (max cycles (nsCycles (b.now - b.ave.declared)))).resumed

theorem Block.released_effect (b : Block) (cycles : Nat) :
    (b.released cycles).ave.recovering = false ∧ (b.released cycles).ave.suspect = [] ∧ (b.released cycles).ave.quiet = [] ∧
      (b.released cycles).reg 0x500018 = max cycles (nsCycles (b.now - b.ave.declared)) % 2 ^ 32 ∧
      (b.released cycles).now = b.now ∧ (b.released cycles).mem = b.mem := by
  have hframe := b.gatesHalved_frame
  rw [Block.released]
  generalize b.gatesHalved = c at hframe ⊢
  rw [hframe]
  exact ⟨rfl, rfl, rfl, Block.reg_recoveryNoted _ _, rfl, rfl⟩

theorem gridlockRelease_completes {s : State} (cycles : Nat) (hup : s.blk.up = true) (hrecovering : s.blk.ave.recovering = true) :
    Completes (.gridlockRelease cycles) s ((s.blk.passTo (s.blk.ave.declared + cyclesNs cycles)).released cycles) :=
  completes_of_actUp_eq (execGridlockRelease.eq_1 cycles s) hup (if_neg (by simp [hrecovering]))

-- MIGRATION_START, MIGRATION_SWITCH and MIGRATION_ABANDON (R244)

/-- The migration chosen at the last close begins. -/
def Block.migrating (b : Block) (m : Migration) : Block :=
  { b with ave := { b.ave with chosen := none, mig := some { m with start := b.now } } }

theorem migrationStart_completes {s : State} {m : Migration} {x : Ctx} (hup : s.blk.up = true) (hchosen : s.blk.ave.chosen = some m)
    (hfree : s.blk.ave.recovering = false) (hmig : s.blk.ave.mig = none) (hroll : s.blk.cont.roll = none)
    (hctx : s.blk.ctx? m.ctx = some x) (hplaced : x.placed = true) (hgroup : SMap.find? x.groups m.group = some m.old) :
    Completes .migrationStart s (s.blk.migrating m) := by
  unfold Completes
  show execMigrationStart s = _
  rw [execMigrationStart, actUp_up _ _ hup]
  simp only [Block.migrating, hchosen, hfree, hmig, hroll, hctx, hplaced, hgroup, Option.isSome_none, Bool.or_self, Bool.false_eq_true,
    if_false, beq_self_eq_true, Bool.and_self, if_true]

/-- No migration is under way any more. -/
def Block.unmigrated (b : Block) : Block := { b with ave := { b.ave with mig := none } }

/-- A group that is idle within WAIT has its new Quarter in its context's placement. -/
def Block.switched (b : Block) (m : Migration) : Block :=
  ((b.modCtx m.ctx fun x => { x with groups := SMap.put x.groups m.group m.target }).unmigrated).bump (aveCnt 10)

/-- A switch changes the context's entry and a count, and ends the migration. -/
theorem Block.switched_frame (b : Block) (m : Migration) :
    (b.switched m).ave.mig = none ∧ (b.switched m).reg (aveCnt 10) = satAdd (b.reg (aveCnt 10)) 1 ∧ (b.switched m).qs = b.qs ∧
      (b.switched m).mem = b.mem := by
  have hframe : CountsFrame b (b.modCtx m.ctx fun x => { x with groups := SMap.put x.groups m.group m.target }) := b.modCtx_frame _ _
  rw [Block.switched, Block.bump_ave, Block.reg_bump_one, Block.bump_qs, Block.bump_mem]
  generalize b.modCtx m.ctx _ = c at hframe ⊢
  refine ⟨rfl, ?_, ?_, hframe.mem⟩
  · exact congrArg (satAdd · 1) (Block.reg_of_regs hframe.regs _)
  · show c.qs = b.qs
    rw [hframe]

/-- A switch gives the group its new Quarter, and no other one. -/
theorem Block.switched_groups {b : Block} {m : Migration} {x : Ctx} (h : b.ctx? m.ctx = some x) :
    (b.switched m).ctx? m.ctx = some { x with groups := SMap.put x.groups m.group m.target } := by
  rw [Block.switched, Block.bump_ctx]
  exact Block.ctx_modCtx_same (fun x => { x with groups := SMap.put x.groups m.group m.target }) h

theorem migrationSwitch_completes {s : State} {m : Migration} (hup : s.blk.up = true) (hmig : s.blk.ave.mig = some m)
    (hidle : s.blk.groupIdle m = true) (hin : s.blk.now ≤ s.blk.migDeadline m) :
    Completes .migrationSwitch s (s.blk.switched m) := by
  unfold Completes
  show execMigrationSwitch s = _
  rw [execMigrationSwitch, actUp_up _ _ hup]
  simp only [hmig, hidle, Nat.not_lt.2 hin, Bool.not_true, decide_false, Bool.or_self, Bool.false_eq_true, if_false]
  rfl

theorem migrationAbandon_completes {s : State} {m : Migration} (hup : s.blk.up = true) (hmig : s.blk.ave.mig = some m)
    (hlate : s.blk.groupIdle m = false ∨ s.blk.migDeadline m < s.blk.now) :
    Completes .migrationAbandon s (s.blk.passTo (s.blk.migDeadline m)).abandon := by
  have hgo : (s.blk.groupIdle m && decide (s.blk.now ≤ s.blk.migDeadline m)) = false := by
    rcases hlate with h | h
    · rw [h, Bool.false_and]
    · rw [decide_eq_false (Nat.not_le.2 h), Bool.and_false]
  unfold Completes
  show execMigrationAbandon s = _
  rw [execMigrationAbandon, actUp_up _ _ hup]
  simp only [hmig, hgo, Bool.false_eq_true, if_false]

/-- Settles O25: a monitor's finding, a declaration with nothing to dump or drain, its release, and the three ends of a migration. -/
theorem gridlockAndMigration : Obligations.GridlockAndMigration := by
  intro s b hup
  refine ⟨?suspect, ?declare, ?release, ?start, ?switch, ?abandon⟩
  case suspect =>
    intro d hfree hbusy hrun
    have hpass := Block.distWaiting_passTo b (SMap.get b.ave.lastFired 0 d + b.stallWait d) d
    refine ⟨_, distSuspect_completes hup hfree hbusy hrun, ?_, fun hwait => ?_, fun hidle => ?_, ?_, ?_⟩
    · rw [Block.monitored_frame]
      exact (le_max_right _ _).trans_eq (b.passTo_now _).symm
    · obtain ⟨hfound, hraised⟩ := Block.monitored_waiting (hpass.trans hwait)
      rw [hfound]
      refine ⟨contains_addNew _ _, contains_filter_ne _ _, fun hnew => ?_⟩
      rw [hraised (by rwa [Block.passTo_ave]), Block.passTo_evc, Nat.mod_eq_of_lt (by omega)]
    · rw [Block.monitored_idle (hpass.trans hidle)]
      exact ⟨contains_addNew _ _, contains_filter_ne _ _, b.passTo_evc _⟩
    · rw [Block.monitored_frame]
      exact b.passTo_qs _
    · rw [Block.monitored_frame]
      exact b.passTo_mem _
  case declare =>
    intro hon hfree hall hany hempty hsmall
    have hrest := b.gridlockDeclared_frame.1
    refine ⟨_, gridlock_completes_undrained hup hon hfree hall hany hempty hsmall, ?_, ?_, ?_, ?_, ?_, b.reg_gridlockDeclared, ?_,
      b.raised_gridlockDeclared, ?_⟩ <;> rw [hrest]
  case release =>
    intro cycles hrecovering
    obtain ⟨hfree, hsuspect, hquiet, hlasted, hnow, hmem⟩ := (b.passTo (b.ave.declared + cyclesNs cycles)).released_effect cycles
    refine ⟨_, gridlockRelease_completes cycles hup hrecovering, hfree, hsuspect, hquiet, ?_, ?_, hmem.trans (b.passTo_mem _)⟩
    · rw [hlasted, hnow, Block.passTo_ave]
    · rw [hnow, Block.passTo_now]
      exact le_max_right _ _
  case start =>
    intro m x hchosen hfree hmig hroll hctx hplaced hgroup
    exact ⟨_, migrationStart_completes hup hchosen hfree hmig hroll hctx hplaced hgroup, rfl, rfl, rfl, rfl, rfl⟩
  case switch =>
    intro m x hmig hidle hin hctx
    obtain ⟨hended, hcount, hqs, hmem⟩ := b.switched_frame m
    exact ⟨_, { x with groups := SMap.put x.groups m.group m.target }, migrationSwitch_completes hup hmig hidle hin, hended,
      Block.switched_groups hctx, SMap.find?_put_same _ _ _, fun g hg => SMap.find?_put_ne _ _ hg, hcount, hqs, hmem⟩
  case abandon =>
    intro m hmig hlate
    obtain ⟨hended, hdisp, hnow, hcount, hqs, hmem⟩ :=
      Block.abandon_effect (b := b.passTo (b.migDeadline m)) (by rw [Block.passTo_ave]; exact hmig)
    refine ⟨_, migrationAbandon_completes hup hmig hlate, hended, hdisp.trans (b.passTo_disp _), ?_, ?_, hqs.trans (b.passTo_qs _),
      hmem.trans (b.passTo_mem _)⟩
    · rw [hnow, Block.passTo_now]
      exact le_max_right _ _
    · rw [hcount, Block.passTo_reg]

end Sys2Proof.Machine

/-! Samples in: receive frames at their boundary and in staging, FRAME_RELEASE, STAGING_INJECT, the loss of a link's lock, and the input
bindings. -/

namespace Sys2Proof.Machine

-- Links and the registers of a receive frame (R274, R286, R291)

@[simp] theorem Block.link_setLink_same (b : Block) (k : Nat) (l : ConvLink) : (b.setLink k l).link k = l := by
  simp [Block.link]

theorem Block.link_of_conv {b t : Block} (h : t.conv = b.conv) (k : Nat) : t.link k = b.link k := by
  simp only [Block.link, h]

/-- The registers that a receive frame of a link can write: FRAME, three of the link's counters, a mirror's gap, and LEDGER_FULL. -/
def frameRegs (k : Nat) : List Nat := [linkReg k 0x28, convCnt k 0, convCnt k 1, convCnt k 3, colirCnt 5, 0x1100210]

section
variable {k : Nat}

theorem bindReg_notMem_frameRegs (hk : k < 8) (c : Nat) : bindReg c ∉ frameRegs k ∧ bindReg c + 4 ∉ frameRegs k := by
  simp only [frameRegs, List.mem_cons, List.not_mem_nil, or_false, not_or]
  unfold bindReg linkReg convCnt colirCnt
  split <;> omega

theorem linkReg_notMem_frameRegs (hk : k < 8) : linkReg k 8 ∉ frameRegs k ∧ linkReg k 0x1C ∉ frameRegs k := by
  simp only [frameRegs, List.mem_cons, List.not_mem_nil, or_false, not_or]
  unfold linkReg convCnt colirCnt
  omega

/-- No register below the Converter Gate's or above CONT_STATUS is among them, nor the module's ID. -/
theorem notMem_frameRegs (hk : k < 8) {off : Nat} (h : off < 0xD00000 ∨ off = 0xE00000 ∨ 0x1100210 < off) : off ∉ frameRegs k := by
  simp only [frameRegs, List.mem_cons, List.not_mem_nil, or_false, not_or]
  unfold linkReg convCnt colirCnt
  omega

end

/-- What the sample tokens of a link are made of is the same in two blocks: its parameters, where its channels started, the bindings and
the module's ID. -/
structure SameChannels (k : Nat) (b t : Block) : Prop where
  link : t.link k = { b.link k with
    frames := (t.link k).frames, staging := (t.link k).staging, crcBad := (t.link k).crcBad, lockLost := (t.link k).lockLost }
  starts : t.conv.starts = b.conv.starts
  bind : ∀ c, t.reg (bindReg c) = b.reg (bindReg c) ∧ t.reg (bindReg c + 4) = b.reg (bindReg c + 4)
  own : t.reg 0xE00000 = b.reg 0xE00000

section
variable {k : Nat} {b t : Block}

theorem SameChannels.bound (h : SameChannels k b t) (c : Nat) : t.bound c = b.bound c := by
  rw [Block.bound, Block.bound, Block.rf, Block.rf, (h.bind c).1]

theorem SameChannels.sampleToken (h : SameChannels k b t) (c idx fmt : Nat) (value : W64) (poison : Bool) :
    t.sampleToken c idx fmt value poison = b.sampleToken c idx fmt value poison := by
  obtain ⟨hlo, hhi⟩ := h.bind c
  unfold Block.sampleToken Block.ownId Block.rf
  rw [hlo, hhi, h.own]

theorem SameChannels.stampToken (h : SameChannels k b t) (n : Nat) : t.stampToken k n = b.stampToken k n := by
  unfold Block.stampToken
  simp only [h.bound, h.starts, h.sampleToken]
  rw [h.link]
  rfl

theorem SameChannels.frameTokens (h : SameChannels k b t) (n : Nat) (words : Option (List W32)) (poison : Bool) :
    t.frameTokens k n words poison = b.frameTokens k n words poison := by
  unfold Block.frameTokens
  simp only [h.bound, h.starts, h.sampleToken, Block.rf, h.bind]
  rw [h.link]
  rfl

end

-- A receive frame at its boundary (R286)

/-- Frame n of a link has begun: the channels bound since start with it, and FRAME counts it. -/
def Block.frameBegun (b : Block) (k n : Nat) : Block :=
  ((b.startChannels k n).setLink k { (b.startChannels k n).link k with frames := n + 1 }).setReg (linkReg k 0x28) ((n + 1) % 2 ^ 32)

theorem Block.frameBegun_now (b : Block) (k n : Nat) : (b.frameBegun k n).now = b.now := rfl
theorem Block.frameBegun_rest (b : Block) (k n : Nat) :
    b.frameBegun k n = { b with regs := (b.frameBegun k n).regs, conv := (b.frameBegun k n).conv } := rfl
theorem Block.starts_frameBegun (b : Block) (k n : Nat) : (b.frameBegun k n).conv.starts = (b.startChannels k n).conv.starts := rfl

/-- A link at the boundary of its next frame. -/
def Block.frameDue (b : Block) (k : Nat) : Block := b.passTo ((b.link k).dataAt + (b.link k).frameNs (b.link k).frames)

/-- What a frame's begin leaves: all but the time, FRAME, the channels' starts and the link's number of frames. -/
structure Begun (k n : Nat) (b t : Block) : Prop where
  rest : t = { b with now := t.now, timeNs := t.timeNs, time := t.time, regs := t.regs, conv := t.conv }
  regs : SameRegs b t (frameRegs k)
  link : t.link k = { b.link k with frames := n + 1 }
  count : t.reg (linkReg k 0x28) = (n + 1) % 2 ^ 32
  due : (b.link k).dataAt + (b.link k).frameNs (b.link k).frames ≤ t.now
  errors : ∀ j, t.reg (convCnt k j) = b.reg (convCnt k j)
  channels : SameChannels k (b.startChannels k n) t

section
variable {k : Nat}

theorem Block.link_startChannels (b : Block) (k n j : Nat) : (b.startChannels k n).link j = b.link j := rfl

theorem Block.starts_passTo (b : Block) (t k n : Nat) :
    ((b.passTo t).startChannels k n).conv = (b.startChannels k n).conv := by
  have hbound : ∀ c, (b.passTo t).bound c = b.bound c := fun c => by
    rw [Block.bound, Block.bound, Block.rf, Block.rf, Block.passTo_reg]
  unfold Block.startChannels Block.linkTx
  simp only [hbound, Block.link_of_conv (b.passTo_conv t), Block.passTo_conv]

theorem convCnt_ne_linkReg (k j o : Nat) (h : o < 0x80) : convCnt k j ≠ linkReg k o := by
  unfold convCnt linkReg
  omega

theorem linkReg_mem_frameRegs (k : Nat) : linkReg k 0x28 ∈ frameRegs k := by simp [frameRegs]

theorem Block.frameDue_begun (hk : k < 8) (b : Block) (n : Nat) : Begun k n b ((b.frameDue k).frameBegun k n) := by
  have hframe : TimeFrame b (b.frameDue k) := b.passTo_frame _
  have hconv : (b.frameDue k).conv = b.conv := b.passTo_conv _
  have hregs : ∀ off, ((b.frameDue k).startChannels k n).reg off = b.reg off := fun off => b.passTo_reg _ off
  have hstarts : ((b.frameDue k).startChannels k n).conv = (b.startChannels k n).conv := b.starts_passTo _ k n
  have hsame : SameRegs b ((b.frameDue k).frameBegun k n) [linkReg k 0x28] := fun off ho =>
    (hregs off).symm.trans (sameRegs_setReg _ _ _ off ho)
  have hlink : ((b.frameDue k).frameBegun k n).link k = { b.link k with frames := n + 1 } := by
    refine (Block.link_setLink_same _ k _).trans ?_
    rw [Block.link_startChannels, Block.link_of_conv hconv]
  have hsub : [linkReg k 0x28] ⊆ frameRegs k := by simpa using linkReg_mem_frameRegs k
  refine ⟨?_, hsame.mono hsub, hlink, ?_, ?_, fun j => ?_, ?_, ?_, fun c => ?_, ?_⟩
  · generalize b.frameDue k = c at hframe
    rw [Block.frameBegun_rest, hframe]
  · refine (Block.reg_setReg_same _ _ _).trans ?_
    omega
  · rw [Block.frameBegun_now, Block.frameDue, Block.passTo_now]
    exact le_max_right _ _
  · exact (hsame _ (by simpa using convCnt_ne_linkReg k j _ (by decide))).symm
  · rw [hlink]
    rfl
  · rw [Block.starts_frameBegun, hstarts]
  · obtain ⟨hlo, hhi⟩ := bindReg_notMem_frameRegs hk c
    exact ⟨(hsame _ fun hm => hlo (hsub hm)).symm, (hsame _ fun hm => hhi (hsub hm)).symm⟩
  · exact (hsame _ fun hm => notMem_frameRegs hk (.inr (.inl rfl)) (hsub hm)).symm

end

-- The checks of a frame's lanes (R287)

/-- A lane error is counted and reported, and a CRC-12 failure poisons its multiblock. -/
def Block.errNoted (b : Block) (k n : Nat) (err : LaneErr) : Block :=
  let c := if (err != .none) = true then (b.bump (convCnt k 0)).detect 12 k else b
  if err = .crc then c.poisonBlock k (n * (b.link k).cF / 256) else c

/-- With no checker armed a frame's lanes report what they saw, and a multiblock that is poisoned stays so. -/
theorem Block.frameCheck_unarmed (b : Block) (k n : Nat) (err : LaneErr) (harm : b.rf 0x300044 15 0 = 0) :
    b.frameCheck k n err = (b.errNoted k n err, err != .none || ((b.errNoted k n err).link k).crcBad.any ((b.link k).inBlock n)) := by
  unfold Block.frameCheck
  dsimp only
  rw [foldl_fixed_of_mem fun s _ => by simp only [Block.inject_unarmed _ _ _ _ harm]]
  have hblock : ∀ o : Option Nat, (match o with | some m => (b.link k).inBlock n m | none => false) = o.any ((b.link k).inBlock n) := by
    rintro (_ | m) <;> rfl
  exact Prod.ext rfl (congrArg (err != .none || ·) (hblock ((b.errNoted k n err).link k).crcBad))

theorem Block.errNoted_none (b : Block) (k n : Nat) : b.errNoted k n .none = b := rfl

-- Steps of a receive link: counts and reports, what it stages, and what it journals

/-- A step of a receive link: registers and events, further detections, the link's staging, and the journal with its mirror. -/
structure LinkStep (but : List Nat) (k : Nat) (b t : Block) : Prop where
  rest : t = { b with
    regs := t.regs, evc := t.evc, hub := { b.hub with wires := t.hub.wires }, conv := t.conv, cont := t.cont, colir := t.colir }
  regs : SameRegs b t but
  wires : b.hub.wires <+: t.hub.wires
  link : t.link k = { b.link k with staging := (t.link k).staging }

section
variable {but : List Nat} {k : Nat} {b c t : Block}

theorem linkStep_refl : LinkStep but k b b := ⟨rfl, sameRegs_refl b but, List.prefix_rfl, rfl⟩

theorem LinkStep.trans (h : LinkStep but k b c) (h' : LinkStep but k c t) : LinkStep but k b t := by
  refine ⟨?_, h.regs.trans h'.regs, h.wires.trans h'.wires, ?_⟩
  · rw [h'.rest, h.rest]
  · rw [h'.link, h.link]

theorem LinkStep.mem (h : LinkStep but k b t) : t.mem = b.mem := by rw [h.rest]
theorem LinkStep.now (h : LinkStep but k b t) : t.now = b.now := by rw [h.rest]

theorem LinkStep.reg (h : LinkStep but k b t) {off : Nat} (ho : off ∉ but) : t.reg off = b.reg off := (h.regs off ho).symm

theorem LinkStep.of_count (h : CountFrame but b t) : LinkStep but k b t := by
  obtain ⟨hrest, hregs⟩ := h
  have hconv : t.conv = b.conv := by rw [hrest]
  refine ⟨?_, hregs, ?_, by rw [Block.link_of_conv hconv]⟩
  · rw [hrest]
  · rw [hrest]

theorem linkStep_detect (code unit detail : Nat) : LinkStep but k b (b.detect code unit detail) :=
  ⟨rfl, fun _ _ => rfl, List.prefix_append _ _, rfl⟩

theorem linkStep_setLink {l : ConvLink} (h : b.link k = l) (st : List StgFrame) :
    LinkStep but k b (b.setLink k { l with staging := st }) := by
  refine ⟨rfl, fun _ _ => rfl, List.prefix_rfl, ?_⟩
  rw [Block.link_setLink_same, h]

theorem linkStep_setCont (x : Cont) : LinkStep but k b { b with cont := x } :=
  ⟨rfl, fun _ _ => rfl, List.prefix_rfl, rfl⟩

theorem linkStep_journal (hmem : colirCnt 5 ∈ but) (src : Nat) (x : JBody) : LinkStep but k b (b.journal src x) := by
  obtain ⟨hrest, hregs⟩ := b.journal_frame src x
  have hconv : (b.journal src x).conv = b.conv := by rw [hrest]; rfl
  refine ⟨?_, hregs.mono (by simpa using hmem), ?_, by rw [Block.link_of_conv hconv]⟩
  · rw [hrest]
    rfl
  · rw [hrest]
    exact List.prefix_rfl

theorem linkStep_ledgerWait (hmem : 0x1100210 ∈ but) : LinkStep but k b b.ledgerWait := by
  unfold Block.ledgerWait
  split
  · exact linkStep_refl
  · exact (linkStep_setCont _).trans (.of_count ((countFrame_setReg _ _ hmem).trans (countFrame_raise _ _ _ _)))

end

-- Lane errors and staging (R287, R289)

/-- The detection of a lane error. -/
def laneErrorOf (k : Nat) : Detection := ⟨12, k, 0, 0, false, false, []⟩

theorem linkStep_counted {but : List Nat} {k off : Nat} (b : Block) (code : Nat) (h : off ∈ but) :
    LinkStep but k b ((b.bump off).detect code k) :=
  (LinkStep.of_count (countFrame_bump b 1 h)).trans (linkStep_detect _ _ _)

/-- An error that a frame's lanes report is counted and reported; a CRC-12 failure is noted with its multiblock. -/
theorem Block.errNoted_error (b : Block) (k n : Nat) {err : LaneErr} (h : err ≠ .none) :
    (b.errNoted k n err).reg (convCnt k 0) = satAdd (b.reg (convCnt k 0)) 1 ∧ laneErrorOf k ∈ (b.errNoted k n err).hub.wires ∧
      (err = .crc → ((b.errNoted k n err).link k).crcBad = some (n * (b.link k).cF / 256)) ∧ (b.errNoted k n err).mem = b.mem := by
  have hcount : ((b.bump (convCnt k 0)).detect 12 k).reg (convCnt k 0) = satAdd (b.reg (convCnt k 0)) 1 := b.reg_bump_one _
  have hwire : laneErrorOf k ∈ ((b.bump (convCnt k 0)).detect 12 k).hub.wires := List.mem_append_right _ (List.mem_singleton_self _)
  have hmem : ((b.bump (convCnt k 0)).detect 12 k).mem = b.mem := b.bump_mem _ _
  cases err with
  | none => exact absurd rfl h
  | code => exact ⟨hcount, hwire, (fun h => by cases h), hmem⟩
  | crc => exact ⟨hcount, hwire, fun _ => congrArg ConvLink.crcBad (Block.link_setLink_same _ k _), hmem⟩

/-- The registers that staging a frame can write: STAGING_FULL's count, a mirror's gap, and LEDGER_FULL. -/
def stagingRegs (k : Nat) : List Nat := [convCnt k 3, colirCnt 5, 0x1100210]

/-- The placeholder of a frame in staging. -/
def Block.gapFrame (b : Block) (k n : Nat) (ts toks : List Token) : StgFrame :=
  ⟨n, true, false, 0, none, ts.flatMap b.withTwin, (toks.map Token.placeholder).flatMap b.withTwin, 0, false, (b.link k).releaseAt n⟩

theorem Block.stageGap_eq (b : Block) (k n : Nat) (ts toks : List Token) :
    b.stageGap k n ts toks = b.setLink k { b.link k with staging := (b.link k).staging ++ [b.gapFrame k n ts toks] } := rfl

/-- The bytes that a frame takes in its staging area. -/
def ConvLink.frameBytes (l : ConvLink) (ts toks : List Token) : Nat := 16 + (if l.cNP ≤ 16 then 2 else 4) * (ts.length + toks.length)

/-- A frame as it is staged. -/
def Block.soundFrame (b : Block) (k n : Nat) (ts toks : List Token) : StgFrame :=
  ⟨n, false, false, 0, some b.cont.lsn, ts.flatMap b.withTwin, toks.flatMap b.withTwin, (b.link k).frameBytes ts toks, false,
    (b.link k).releaseAt n⟩

/-- The body of the record that a frame is journaled with. -/
def Block.frameBody (b : Block) (k n : Nat) (ts toks : List Token) : JBody := .samples n 0 (if (b.link k).cNP ≤ 16 then 2 else 4) ts toks

/-- The bytes of a link's staging area in use. -/
def Block.stagingUsed (b : Block) (k : Nat) : Nat := ((b.link k).staging.map (·.bytes)).sum

/-- A frame that finds no room is counted and reported, and leaves a gap. -/
def Block.overflowed (b : Block) (k n : Nat) (ts toks : List Token) : Block := ((b.bump (convCnt k 3)).detect 14 k).stageGap k n ts toks

/-- A frame is journaled and staged where both have room; otherwise it leaves a gap, and where the journal has none the Gate waits for it. -/
theorem Block.stageFrame_eq (b : Block) (k n : Nat) (ts toks : List Token) :
    b.stageFrame k n ts toks =
      if b.stagingUsed k + (b.link k).frameBytes ts toks ≤ b.stgBytes k ∧ b.journalRoom (b.frameBody k n ts toks) = true then
        (b.journal k (b.frameBody k n ts toks)).setLink k
          { b.link k with staging := (b.link k).staging ++ [b.soundFrame k n ts toks] }
      else (if b.journalRoom (b.frameBody k n ts toks) = true then b else b.ledgerWait).overflowed k n ts toks := rfl

theorem linkStep_stageGap (but : List Nat) (k n : Nat) (b : Block) (ts toks : List Token) : LinkStep but k b (b.stageGap k n ts toks) :=
  linkStep_setLink rfl _

theorem linkStep_overflowed (k n : Nat) (b : Block) (ts toks : List Token) : LinkStep (stagingRegs k) k b (b.overflowed k n ts toks) :=
  (linkStep_counted b 14 (by simp [stagingRegs])).trans (linkStep_stageGap _ _ _ _ _ _)

theorem Block.link_journal (b : Block) (src : Nat) (x : JBody) (k : Nat) : (b.journal src x).link k = b.link k :=
  Block.link_of_conv (by rw [(b.journal_frame src x).rest]; rfl) k

theorem linkStep_stageFrame (k n : Nat) (b : Block) (ts toks : List Token) : LinkStep (stagingRegs k) k b (b.stageFrame k n ts toks) := by
  rw [Block.stageFrame_eq]
  split
  · exact (linkStep_journal (by simp [stagingRegs]) _ _).trans (linkStep_setLink (b.link_journal _ _ k) _)
  · refine LinkStep.trans ?_ (linkStep_overflowed k n _ ts toks)
    split
    · exact linkStep_refl
    · exact linkStep_ledgerWait (by simp [stagingRegs])

-- RX_FRAME_ARRIVE (R286 to R290)

/-- A frame that is lost, or whose lanes have been checked, goes to staging: with its samples, or as placeholders. Nothing does while the
module is in its grave state, or where no channel has a sample in the frame. -/
def Block.toStaging (b : Block) (k n : Nat) (words : Option (List W32)) (bad : Bool) : Block :=
  if b.hub.grave || ((b.stampToken k n).isEmpty && (b.frameTokens k n words bad).isEmpty) then b
  else match words with
    | none => b.stageGap k n (b.stampToken k n) (b.frameTokens k n none bad)
    | some _ => b.stageFrame k n (b.stampToken k n) (b.frameTokens k n words bad)

theorem linkStep_toStaging (k n : Nat) (b : Block) (words : Option (List W32)) (bad : Bool) :
    LinkStep (stagingRegs k) k b (b.toStaging k n words bad) := by
  unfold Block.toStaging
  split
  · exact linkStep_refl
  · split
    · exact linkStep_stageGap _ _ _ _ _ _
    · exact linkStep_stageFrame _ _ _ _ _

/-- The next frame of a link at its boundary. -/
def Block.frameStarted (b : Block) (k : Nat) : Block := (b.frameDue k).frameBegun k (b.link k).frames

/-- A frame that is lost leaves placeholders. -/
theorem Block.rxFrame_lost (b : Block) (k : Nat) (words : List W32) (err : LaneErr) :
    b.rxFrame k words err true = (b.frameStarted k).toStaging k (b.link k).frames none false := rfl

/-- A frame of a link in DATA with its lock has its lanes checked. -/
theorem Block.rxFrame_arrives {b : Block} {k : Nat} (words : List W32) (err : LaneErr) (hk : k < 8) (hdata : b.linkState k = 3)
    (hlock : (b.link k).lockLost = none) :
    b.rxFrame k words err false =
      ((b.frameStarted k).frameCheck k (b.link k).frames err).1.toStaging k (b.link k).frames (some words)
        ((b.frameStarted k).frameCheck k (b.link k).frames err).2 := by
  have hbegun := Block.frameDue_begun hk b (b.link k).frames
  have hstate : (b.frameStarted k).linkState k = 3 :=
    (congrArg (bits · 2 0) (hbegun.regs _ (linkReg_notMem_frameRegs hk).1).symm).trans hdata
  have hhere : (false || (b.frameStarted k).linkState k == 4 || (b.link k).lockLost.isSome) = false := by
    rw [hstate, hlock]
    rfl
  unfold Block.rxFrame
  extract_lets l n due started linked numbered counted gone
  have hgone : gone = false := hhere
  have hcounted : counted = b.frameStarted k := rfl
  rw [hgone, hcounted]
  generalize b.frameStarted k = c
  simp only [Bool.false_eq_true, if_false]
  generalize c.frameCheck k (b.link k).frames err = r
  rfl

/-- A token's twin is named by CONT_PAIR (R444). -/
theorem Block.withTwin_of_regs {b t : Block} (h : ∀ off, 0x1100400 ≤ off → t.reg off = b.reg off) : t.withTwin = b.withTwin := by
  have hlo : ∀ o, t.reg (0x1100400 + o) = b.reg (0x1100400 + o) := fun o => h _ (by omega)
  have hhi : ∀ o, t.reg (0x1100404 + o) = b.reg (0x1100404 + o) := fun o => h _ (by omega)
  funext tok
  unfold Block.withTwin Block.twinOf Block.rf
  simp only [hlo, hhi]

theorem rxFrameArrive_completes {s : State} {k : Fin 8} (words : List W32) (err : LaneErr) (hup : s.blk.up = true)
    (hdata : s.blk.linkState k = 3) (hrx : s.blk.linkTx k = false) :
    Completes (.rxFrameArrive k words err) s (s.blk.rxFrame k words err false) :=
  completes_of_actUp_eq (execRxFrameArrive.eq_1 k words err s) hup (if_pos (by simp [hdata, hrx]))

section
variable {k n : Nat} {b t : Block}

theorem Begun.cont (h : Begun k n b t) : t.cont = b.cont := by rw [h.rest]

theorem Begun.journalRoom (h : Begun k n b t) (hk : k < 8) (x : JBody) : t.journalRoom x = b.journalRoom x := by
  unfold Block.journalRoom Block.journalUsed Block.journalSpace Block.rf
  rw [h.cont, h.regs _ (notMem_frameRegs hk (.inr (.inr (by decide))))]

theorem Begun.stgBytes (h : Begun k n b t) (hk : k < 8) : t.stgBytes k = b.stgBytes k := by
  unfold Block.stgBytes Block.rf
  rw [h.regs _ (linkReg_notMem_frameRegs hk).2]

theorem Begun.twins (h : Begun k n b t) (hk : k < 8) : t.withTwin = b.withTwin :=
  Block.withTwin_of_regs fun off hoff => (h.regs off (notMem_frameRegs hk (.inr (.inr (by omega))))).symm

theorem Begun.soundFrame (h : Begun k n b t) (hk : k < 8) (m : Nat) (ts toks : List Token) :
    t.soundFrame k m ts toks = b.soundFrame k m ts toks := by
  unfold Block.soundFrame
  rw [h.twins hk, h.cont, h.link]
  rfl

theorem Begun.gapFrame (h : Begun k n b t) (hk : k < 8) (m : Nat) (ts toks : List Token) :
    t.gapFrame k m ts toks = b.gapFrame k m ts toks := by
  unfold Block.gapFrame
  rw [h.twins hk, h.link]
  rfl

theorem Begun.unarmed (h : Begun k n b t) (hk : k < 8) (harm : b.rf 0x300044 15 0 = 0) : t.rf 0x300044 15 0 = 0 :=
  (congrArg (bits · 15 0) (h.regs _ (notMem_frameRegs hk (.inl (by decide)))).symm).trans harm

end

/-- A frame whose lanes report no error is staged as it came, but poisoned where its multiblock is. -/
theorem Block.rxFrame_sound {b : Block} {k : Nat} (words : List W32) (hk : k < 8) (hdata : b.linkState k = 3)
    (hlock : (b.link k).lockLost = none) (harm : b.rf 0x300044 15 0 = 0) (hgrave : b.hub.grave = false) {ts toks : List Token}
    (hts : (b.startChannels k (b.link k).frames).stampToken k (b.link k).frames = ts)
    (htoks : (b.startChannels k (b.link k).frames).frameTokens k (b.link k).frames (some words)
      ((b.link k).crcBad.any ((b.link k).inBlock (b.link k).frames)) = toks)
    (hsome : ts ++ toks ≠ []) :
    b.rxFrame k words .none false = (b.frameStarted k).stageFrame k (b.link k).frames ts toks := by
  have hbegun : Begun k (b.link k).frames b (b.frameStarted k) := Block.frameDue_begun hk b _
  have hbad : (LaneErr.none != .none || ((b.frameStarted k).link k).crcBad.any (((b.frameStarted k).link k).inBlock (b.link k).frames)) =
      (b.link k).crcBad.any ((b.link k).inBlock (b.link k).frames) := by
    rw [hbegun.link]
    rfl
  have hts' : (b.frameStarted k).stampToken k (b.link k).frames = ts := (hbegun.channels.stampToken _).trans hts
  have htoks' : (b.frameStarted k).frameTokens k (b.link k).frames (some words) ((b.link k).crcBad.any ((b.link k).inBlock (b.link k).frames)) =
      toks := (hbegun.channels.frameTokens _ _ _).trans htoks
  have hgo : ¬ ((b.frameStarted k).hub.grave || (ts.isEmpty && toks.isEmpty)) = true := by
    have hgrave' : (b.frameStarted k).hub.grave = false := by rw [hbegun.rest]; exact hgrave
    simpa [hgrave'] using hsome
  rw [Block.rxFrame_arrives words .none hk hdata hlock, Block.frameCheck_unarmed _ _ _ _ (hbegun.unarmed hk harm), Block.errNoted_none, hbad,
    Block.toStaging, hts', htoks', if_neg hgo]

/-- What a frame that finds no room in staging leaves: a gap, counted. -/
theorem Block.overflowed_effect (b : Block) {k : Nat} (hk : k < 8) (n : Nat) (ts toks : List Token) :
    (b.overflowed k n ts toks).link k = { b.link k with staging := (b.link k).staging ++ [b.gapFrame k n ts toks] } ∧
      (b.overflowed k n ts toks).reg (convCnt k 3) = satAdd (b.reg (convCnt k 3)) 1 ∧ (b.overflowed k n ts toks).cont = b.cont := by
  have hlink : ((b.bump (convCnt k 3)).detect 14 k).link k = b.link k := Block.link_of_conv (b.bump_conv _ _) k
  have htwin : ((b.bump (convCnt k 3)).detect 14 k).withTwin = b.withTwin := Block.withTwin_of_regs fun off hoff =>
    b.reg_bump_ne 1 (by unfold convCnt; omega)
  refine ⟨?_, b.reg_bump_one _, b.bump_cont _ _⟩
  rw [Block.overflowed, Block.stageGap_eq, Block.link_setLink_same, Block.gapFrame, htwin, hlink]
  rfl

/-- What a frame that finds room in staging and in the journal leaves. -/
theorem Block.journaledFrame_effect (b : Block) (k n : Nat) (ts toks : List Token)
    (hroom : b.stagingUsed k + (b.link k).frameBytes ts toks ≤ b.stgBytes k) (hjournal : b.journalRoom (b.frameBody k n ts toks) = true) :
    (b.stageFrame k n ts toks).link k = { b.link k with staging := (b.link k).staging ++ [b.soundFrame k n ts toks] } ∧
      (b.stageFrame k n ts toks).cont.lsn = b.cont.lsn + 1 := by
  rw [Block.stageFrame_eq, if_pos ⟨hroom, hjournal⟩]
  refine ⟨Block.link_setLink_same _ _ _, ?_⟩
  show (b.journal k (b.frameBody k n ts toks)).cont.lsn = _
  rw [(b.journal_frame k _).rest]
  rfl

theorem frameCount_notMem_stagingRegs (hk : k < 8) : linkReg k 0x28 ∉ stagingRegs k := by
  simp only [stagingRegs, List.mem_cons, List.not_mem_nil, or_false, not_or]
  unfold linkReg convCnt colirCnt
  omega

theorem errorCount_notMem_stagingRegs (k : Nat) {j : Nat} (hj : j < 3) : convCnt k j ∉ stagingRegs k := by
  simp only [stagingRegs, List.mem_cons, List.not_mem_nil, or_false, not_or]
  unfold convCnt colirCnt
  omega

-- FRAME_RELEASE (R284)

/-- A frame in staging as it is released at a moment, with its timestamp. -/
def StgFrame.releasedAt (f : StgFrame) (now stamp : Nat) : StgFrame :=
  { f with released := true, ready := now + 11, ts := f.ts.map fun x => { x with value := BitVec.ofNat 64 stamp } }

/-- A timestamp goes into a frame and its journal record, and nothing else changes. -/
theorem Block.stampFrame_effect (b : Block) (k i stamp : Nat) :
    (b.stampFrame k i stamp).link k = { b.link k with staging := (b.link k).staging.modify i fun f => f.releasedAt b.now stamp } ∧
      b.stampFrame k i stamp = { b with conv := (b.stampFrame k i stamp).conv, cont := (b.stampFrame k i stamp).cont } := by
  unfold Block.stampFrame
  extract_lets l put out c
  have hlink : c.link k = { b.link k with staging := (b.link k).staging.modify i fun f => f.releasedAt b.now stamp } :=
    Block.link_setLink_same b k _
  split
  · exact ⟨hlink, rfl⟩
  · exact ⟨hlink, rfl⟩

theorem frameRelease_completes {s : State} {k : Fin 8} {f : StgFrame} (hup : s.blk.up = true)
    (hfind : (s.blk.link k).staging.find? (fun f => !f.released) = some f) :
    Completes (.frameRelease k) s ((s.blk.passTo f.due).stampFrame k ((s.blk.link k).staging.takeWhile (·.released)).length
      (((s.blk.passTo f.due).timeNs + 2 ^ 64 - (s.blk.link k).lat) % 2 ^ 64)) := by
  unfold Completes
  show execFrameRelease k s = _
  rw [execFrameRelease, actUp_up _ _ hup]
  simp only [hfind]

-- Tokens of a Gate enter the Avenue (R41, R50, R91)

/-- A token as a Gate's injection point rewrites it: R50, and the Gate's sender epoch in EPL. -/
def Block.gateToken (b : Block) (g : Nat) (so : Bool) (t : Token) : Token := (fixToken t so).1.setCtrl 2 0 (b.gEpoch g)

/-- A token has the same route whatever its EPL. -/
theorem Block.routesTo_setEpl {b : Block} {unit p : Nat} {t : Token} (v : Nat) (h : b.routesTo unit t p) :
    b.routesTo unit (t.setCtrl 2 0 v) p := by
  obtain ⟨hkind, hrest⟩ := h
  have hsame : (t.setCtrl 2 0 v).kind = t.kind := Token.bits_setCtrl_ne _ _ (by decide) (by decide)
  rw [← hsame] at hkind
  exact ⟨hkind, hrest⟩

theorem Block.routesTo_gateToken {b : Block} {unit p : Nat} {t : Token} (g : Nat) (so : Bool) (h : b.routesTo unit t p) :
    b.routesTo unit (b.gateToken g so t) p :=
  Block.routesTo_setEpl _ (Block.routesTo_fixToken so h)

/-- A route stands while an emission is counted. -/
theorem Block.routesTo_emit {b : Block} {unit p : Nat} {t : Token} (h : b.routesTo unit t p) : (b.emit unit t.ctx).routesTo unit t p := by
  have hframe : CountsFrame b (b.emit unit t.ctx) := b.count_frame unit t.ctx 1 0
  have hreg := Block.reg_of_regs hframe.regs
  have hret : (b.emit unit t.ctx).retired = b.retired := by rw [hframe]
  obtain ⟨hkind, hdev, x, c, g, lq, hctx, hplaced, hword, hgroup, hlq, hp⟩ := h
  refine ⟨hkind, hdev.trans (congrArg (bits · 3 0) (hreg _)).symm, x, c, g, lq, (b.ctx_count_same unit t.ctx 1 0).trans hctx, hplaced, ?_,
    hgroup, hlq, (Block.phys_of_same hret (fun k _ => hreg _) lq).trans hp⟩
  rw [Block.inj, hframe.ave]
  exact hword

/-- A Gate's token has entered the Avenue for a Quarter, rewritten, with its emission and its rewrites counted. -/
def Block.gateInjected (b : Block) (g : Nat) (so : Bool) (t : Token) (p : Nat) : Block :=
  ((b.emit (68 + g) (b.gateToken g so t).ctx).countFixes (gateXY g).1 (gateXY g).2 0 (fixToken t so).2).enter (gateXY g).1 (gateXY g).2 4 0
    (tokenFlit (b.gateToken g so t) (gateXY g) (xyOf p))

/-- A token that nothing holds and that has a route enters the Avenue at its Gate. -/
theorem Block.injectToken_gate_goes {b : Block} {g p : Nat} {so feed : Bool} {fromQ : Option Nat} {t : Token} (hmig : b.ave.mig = none)
    (hroll : b.cont.roll = none) (hroom : (SMap.get (b.xing (gateXY g).1 (gateXY g).2).bufs [] (bufKey 4 0)).length < 8)
    (hlink : (b.xing (gateXY g).1 (gateXY g).2).down.contains 4 = false) (hroute : b.routesTo (68 + g) t p) :
    b.injectToken (68 + g) so fromQ feed t = (some (b.gateInjected g so t p), b.gateInjected g so t p) := by
  have htoken := Block.routesTo_gateToken g so hroute
  have hemit := Block.routesTo_emit htoken
  have hframe := (b.emit (68 + g) (b.gateToken g so t).ctx).countFixes_frame (gateXY g).1 (gateXY g).2 0 (fixToken t so).2
  have hto := Block.routeToken_of_routesTo (Block.routesTo_of_same hemit hframe.ave hframe.disp hframe.retired fun off ho =>
    (hframe.2 off fun hm => by have := mem_fixCounters hm; omega).symm)
  have hkind : (fixToken t so).1.kind ≠ 8 := fun h => (Block.routesTo_fixToken so hroute).1 (by simp [h])
  have hmig' : ∀ t, b.migHeld t = false := fun t => by simp only [Block.migHeld, hmig]
  have hroll' : ∀ t, b.rollHeld t fromQ = false := fun t => by simp only [Block.rollHeld, hroll]
  have hunit : ¬ 68 + g < 68 := by omega
  have hgate : 68 ≤ 68 + g := by omega
  have hfull : ¬ 8 ≤ (SMap.get (b.xing (gateXY g).1 (gateXY g).2).bufs [] (bufKey 4 0)).length := by omega
  have hkind' : (b.gateToken g so t).kind ≠ 8 := fun h => htoken.1 (by simp [h])
  unfold Block.gateToken at hkind' hto
  unfold Block.injectToken
  simp only [hunit, hgate, hkind, ne_eq, not_false_eq_true, and_self, if_true, Nat.add_sub_cancel_left, hkind', hmig', hroll', hfull, hlink,
    if_false, decide_false, Bool.and_false, Bool.or_false, Bool.false_eq_true, hto]
  rfl

/-- What a Gate's token that enters the Avenue leaves. -/
theorem Block.gateInjected_effect (b : Block) (g : Nat) (so : Bool) (t : Token) (p : Nat) :
    SMap.get ((b.gateInjected g so t p).xing (gateXY g).1 (gateXY g).2).bufs [] (bufKey 4 0) =
      SMap.get (b.xing (gateXY g).1 (gateXY g).2).bufs [] (bufKey 4 0) ++ [(tokenFlit (b.gateToken g so t) (gateXY g) (xyOf p)).seal] ∧
    (b.gateInjected g so t p).now = b.now ∧ (b.gateInjected g so t p).conv = b.conv ∧ (b.gateInjected g so t p).mem = b.mem := by
  have hemit : CountsFrame b (b.emit (68 + g) (b.gateToken g so t).ctx) := b.count_frame _ _ 1 0
  have hframe := (b.emit (68 + g) (b.gateToken g so t).ctx).countFixes_frame (gateXY g).1 (gateXY g).2 0 (fixToken t so).2
  unfold Block.gateInjected
  generalize b.emit (68 + g) (b.gateToken g so t).ctx = c at hemit hframe ⊢
  generalize c.countFixes (gateXY g).1 (gateXY g).2 0 (fixToken t so).2 = d at hframe ⊢
  refine ⟨?_, ?_, ?_, ?_⟩
  · rw [Block.bufs_enter, Block.xing_of_ave (hframe.ave.trans hemit.ave)]
  · rw [Block.enter_frame, hframe.1, hemit]
  · rw [Block.enter_frame, hframe.1, hemit]
  · rw [Block.enter_frame, hframe.1, hemit]

-- STAGING_INJECT (R285, R288)

/-- The frames that staging keeps once the first token of its oldest frame has been injected. -/
def StgFrame.without (f : StgFrame) (toks : List Token) (fs : List StgFrame) : List StgFrame :=
  (if toks = [] then [] else [{ f with ts := [], toks := toks }]) ++ fs

/-- A link's staging at the moment from which its oldest frame may be injected, without a token. -/
def Block.stagingTaken (b : Block) (k : Nat) (f : StgFrame) (toks : List Token) (fs : List StgFrame) : Block :=
  (b.passTo f.ready).setLink k { b.link k with staging := f.without toks fs }

/-- The next token of a link's oldest frame, released and admitted, with a route and nothing that holds it, enters the Avenue at the
Converter Gate. -/
theorem Block.injectFrames_goes {b : Block} {k p : Nat} {f : StgFrame} {fs : List StgFrame} {tok : Token} {toks : List Token}
    (hreleased : f.released = true) (hts : f.ts = []) (htoks : f.toks = tok :: toks) (hgap : f.gap = false)
    (hadmitted : f.toks.any b.notAdmitted = false) (hroll : b.cont.roll = none) (hmig : b.ave.mig = none)
    (hroom : (SMap.get (b.xing 8 2).bufs [] (bufKey 4 0)).length < 8) (hlink : (b.xing 8 2).down.contains 4 = false)
    (hroute : b.routesTo 69 tok p) :
    b.injectFrames k [] (f :: fs) = (b.stagingTaken k f toks fs).gateInjected 1 true tok p := by
  have hrest : (if (([] : List Token).isEmpty && toks.isEmpty) = true then [] else [{ f with ts := [], toks := toks }]) ++ fs =
      f.without toks fs := by
    cases toks <;> rfl
  have hfree : (!b.rollHeld tok none) = true := by simp only [Block.rollHeld, hroll, Bool.not_false]
  have hgo : (b.stagingTaken k f toks fs).injectToken 69 true none false tok =
      (some ((b.stagingTaken k f toks fs).gateInjected 1 true tok p), (b.stagingTaken k f toks fs).gateInjected 1 true tok p) := by
    have hav : (b.stagingTaken k f toks fs).ave = b.ave := b.passTo_ave _
    have hx := Block.xing_of_ave hav 8 2
    refine Block.injectToken_gate_goes (g := 1) (by rw [hav, hmig]) ?_ ?_ ?_ (Block.routesTo_of_same hroute hav ?_ ?_ fun off _ => ?_)
    · exact (congrArg Cont.roll (b.passTo_cont f.ready)).trans hroll
    · exact hx ▸ hroom
    · exact hx ▸ hlink
    · exact b.passTo_disp _
    · exact b.retired_passTo _
    · exact b.passTo_reg _ _
  have hstaged : b.injectStaged k [] f fs = some ((b.stagingTaken k f toks fs).gateInjected 1 true tok p) := by
    unfold Block.injectStaged
    extract_lets free b0 l0 go
    have hfirst : takeFirst free f.toks = some (tok, toks) := by
      simp only [htoks, takeFirst, free, hfree, if_true]
    have hgone : go { f with ts := [], toks := toks } tok true = (b.stagingTaken k f toks fs).gateInjected 1 true tok p := by
      have hblock : (b.passTo f.ready).setLink k { (b.passTo f.ready).link k with
          staging := [] ++ (if (([] : List Token).isEmpty && toks.isEmpty) = true then [] else [{ f with ts := [], toks := toks }]) ++ fs } =
          b.stagingTaken k f toks fs := by
        rw [Block.link_of_conv (b.passTo_conv _), List.nil_append, hrest]
        rfl
      dsimp only [go]
      rw [hblock, hgo, hgap]
      rfl
    rw [hts, hfirst, ← hgone]
    rfl
  unfold Block.injectFrames
  rw [hts, List.nil_append, hadmitted, hreleased, hstaged]
  rfl

theorem stagingInject_completes {s : State} {k : Fin 8} (hup : s.blk.up = true) :
    Completes (.stagingInject k) s (s.blk.injectFrames k [] (s.blk.link k).staging) :=
  completes_of_actUp_eq (execStagingInject.eq_1 k s) hup rfl

-- LANE_LOCK_LOSS (R287, R290)

/-- Frames of a link have come and gone without its lock: they are counted, and its state, its loss of lock and what was reported stand. -/
structure FramesLost (k m : Nat) (b t : Block) : Prop where
  frames : (t.link k).frames = (b.link k).frames + m
  lock : (t.link k).lockLost = (b.link k).lockLost
  state : t.linkState k = b.linkState k
  losses : t.reg (convCnt k 1) = b.reg (convCnt k 1)
  wires : b.hub.wires <+: t.hub.wires
  mem : t.mem = b.mem

theorem stateReg_notMem_stagingRegs {k : Nat} (hk : k < 8) : linkReg k 8 ∉ stagingRegs k := by
  simp only [stagingRegs, List.mem_cons, List.not_mem_nil, or_false, not_or]
  unfold linkReg convCnt colirCnt
  omega

theorem FramesLost.trans {k m n : Nat} {b c t : Block} (h : FramesLost k m b c) (h' : FramesLost k n c t) : FramesLost k (m + n) b t :=
  ⟨by rw [h'.frames, h.frames, Nat.add_assoc], h'.lock.trans h.lock, h'.state.trans h.state, h'.losses.trans h.losses,
    h.wires.trans h'.wires, h'.mem.trans h.mem⟩

theorem framesLost_rxFrame {k : Nat} (hk : k < 8) (b : Block) (words : List W32) (err : LaneErr) :
    FramesLost k 1 b (b.rxFrame k words err true) := by
  have hbegun : Begun k (b.link k).frames b (b.frameStarted k) := Block.frameDue_begun hk b _
  have hstep := linkStep_toStaging k (b.link k).frames (b.frameStarted k) none false
  rw [Block.rxFrame_lost]
  refine ⟨?_, ?_, congrArg (bits · 2 0) ?_, ?_, ?_, ?_⟩
  · rw [hstep.link, hbegun.link]
  · rw [hstep.link, hbegun.link]
  · exact (hstep.reg (stateReg_notMem_stagingRegs hk)).trans (hbegun.regs _ (linkReg_notMem_frameRegs hk).1).symm
  · exact (hstep.reg (errorCount_notMem_stagingRegs k (by decide))).trans (hbegun.errors 1)
  · have hwires : (b.frameStarted k).hub = b.hub := by rw [hbegun.rest]
    exact hwires ▸ hstep.wires
  · exact hstep.mem.trans (by rw [hbegun.rest])

theorem framesLost_range {k : Nat} (hk : k < 8) (b : Block) (m : Nat) :
    FramesLost k m b ((List.range m).foldl (fun b _ => b.rxFrame k [] .none true) b) := by
  induction m with
  | zero => exact ⟨rfl, rfl, rfl, rfl, List.prefix_rfl, rfl⟩
  | succ m ih =>
    rw [List.range_succ, List.foldl_append]
    exact ih.trans (framesLost_rxFrame hk _ [] .none)

/-- The detection of a link that realigns. -/
def realignOf (k : Nat) : Detection := ⟨13, k, 0, 0, false, false, []⟩

/-- The first realign of a link in DATA: it has lost its lock, and the realign is counted and reported. -/
theorem Block.realign_effect {b : Block} {k : Nat} (hdata : b.linkState k = 3) (hfirst : (b.link k).realigns = []) :
    (b.realign k).linkState k = 3 ∧ ((b.realign k).link k).lockLost.isSome = true ∧ ((b.realign k).link k).frames = (b.link k).frames ∧
      (b.realign k).reg (convCnt k 1) = satAdd (b.reg (convCnt k 1)) 1 ∧ realignOf k ∈ (b.realign k).hub.wires ∧
      (b.realign k).mem = b.mem := by
  have hrealign : b.realign k = ((b.setLink k { b.link k with
      lockLost := some ((b.link k).lockLost.getD b.now), realigns := [b.now] }).bump (convCnt k 1)).detect 13 k := by
    have hfew : ¬ max b.conv.limit 1 < 1 := by omega
    unfold Block.realign
    rw [if_neg (not_not_intro hdata)]
    simp only [hfirst, List.filter_nil, List.nil_append, List.length_singleton]
    exact if_neg hfew
  rw [hrealign]
  generalize hlost : b.setLink k _ = c
  have hlink : ((c.bump (convCnt k 1)).detect 13 k).link k = c.link k := Block.link_of_conv (c.bump_conv _ _) k
  have hc : c.link k = { b.link k with lockLost := some ((b.link k).lockLost.getD b.now), realigns := [b.now] } := by
    rw [← hlost, Block.link_setLink_same]
  have hregs : ∀ off, c.reg off = b.reg off := fun off => by rw [← hlost]; rfl
  refine ⟨?_, ?_, ?_, ?_, List.mem_append_right _ (List.mem_singleton_self _), ?_⟩
  · exact (congrArg (bits · 2 0) ((c.reg_bump_ne 1 (convCnt_ne_linkReg k 1 8 (by decide)).symm).trans (hregs _))).trans hdata
  · rw [hlink, hc]
    rfl
  · rw [hlink, hc]
  · exact (c.reg_bump_one _).trans (by rw [hregs])
  · exact (c.bump_mem _ _).trans (by rw [← hlost]; rfl)

theorem laneLockLoss_completes {s : State} {k : Fin 8} (lost : Nat) (hup : s.blk.up = true) (hdata : s.blk.linkState k = 3)
    (hrx : s.blk.linkTx k = false) :
    Completes (.laneLockLoss k lost) s ((List.range lost).foldl (fun b _ => b.rxFrame k [] .none true) (s.blk.realign k)) :=
  completes_of_actUp_eq (execLaneLockLoss.eq_1 k lost s) hup (if_neg (by simp [hdata, hrx]))

-- LANE_DEAD_TIMEOUT (R287)

theorem Block.boundCtxs_of_regs {b t : Block} (h : ∀ off, t.reg off = b.reg off) (k : Nat) : t.boundCtxs k = b.boundCtxs k := by
  unfold Block.boundCtxs Block.bound Block.twinOf Block.rf
  simp only [h]

/-- A change of a link's state writes its STATE and cause, and may raise an event. -/
theorem Block.setLinkState_effect (b : Block) (k st cause : Nat) :
    (b.setLinkState k st cause).linkState k = st % 8 ∧ (b.setLinkState k st cause).rf (linkReg k 8) 7 4 = cause % 16 ∧
      b.setLinkState k st cause = { b with regs := (b.setLinkState k st cause).regs, evc := (b.setLinkState k st cause).evc } := by
  have hregs : (b.setLinkState k st cause).regs = ((b.setRf (linkReg k 8) 2 0 st).setRf (linkReg k 8) 7 4 cause).regs := by
    unfold Block.setLinkState
    dsimp only
    split <;> rfl
  have hreg := Block.reg_of_regs hregs
  refine ⟨(congrArg (bits · 2 0) (hreg _)).trans ?_, (congrArg (bits · 7 4) (hreg _)).trans (Block.rf_setRf_same _ _ (by decide) cause), ?_⟩
  · exact (Block.rf_setRf_ne _ _ (by decide) (.inl (by decide)) _).trans (Block.rf_setRf_same _ _ (by decide) st)
  · unfold Block.setLinkState
    dsimp only
    split <;> rfl

/-- The detection of a link whose lanes are dead. -/
def laneDeadOf (k : Nat) (ctxs : List Nat) : Detection := ⟨26, k, 0, 0, false, false, ctxs⟩

/-- A link whose lanes are dead is in SAFE with its cause, realigns no more, and is reported with the contexts bound to it. -/
theorem Block.laneDead_effect (b : Block) (k : Nat) :
    (b.laneDead k).linkState k = 4 ∧ (b.laneDead k).rf (linkReg k 8) 7 4 = 4 ∧
      (b.laneDead k).link k = { b.link k with lockLost := none } ∧
      (b.laneDead k).hub.wires = b.hub.wires ++ [laneDeadOf k (b.boundCtxs k)] ∧ (b.laneDead k).mem = b.mem ∧
      (b.laneDead k).now = b.now := by
  obtain ⟨hstate, hcause, hrest⟩ := (b.setLink k { b.link k with lockLost := none }).setLinkState_effect k 4 4
  have hconv := congrArg Block.conv hrest
  have hhub := congrArg Block.hub hrest
  have hmem := congrArg Block.mem hrest
  have hnow := congrArg Block.now hrest
  refine ⟨hstate, hcause, ?_, ?_, hmem, hnow⟩
  · exact (Block.link_of_conv hconv k).trans (Block.link_setLink_same b k _)
  · exact congrArg (·.wires ++ [laneDeadOf k (b.boundCtxs k)]) hhub

theorem laneDeadTimeout_completes {s : State} {k : Fin 8} {since : Nat} (hup : s.blk.up = true)
    (hlost : (s.blk.link k).lockLost = some since) (hdata : s.blk.linkState k = 3) :
    Completes (.laneDeadTimeout k) s ((s.blk.passTo (since + 10000000)).laneDead k) := by
  unfold Completes
  show execLaneDeadTimeout k s = _
  rw [execLaneDeadTimeout, actUp_up _ _ hup]
  simp only [hlost, hdata, ne_eq, not_true_eq_false, if_false]

-- Input bindings (R291)

/-- The enable bit of a binding's word. -/
theorem bits_bindMask (v : Nat) : bits (v &&& 0xFC0FFFFF) 31 31 = (v.testBit 31).toNat := by
  have hmask : (0xFC0FFFFF : Nat).testBit 31 = true := by decide
  rw [← Bool.and_true (v.testBit 31), ← hmask, ← Nat.testBit_and, Nat.toNat_testBit, bits, Nat.shiftRight_eq_div_pow]
  rfl

theorem bindMask_lt (v : Nat) : v &&& 0xFC0FFFFF < 2 ^ 32 := lt_of_le_of_lt Nat.and_le_right (by decide)

/-- A binding's word without its enable bit. -/
theorem mod_and_bindMask (v : Nat) : v % 2 ^ 31 &&& 0xFC0FFFFF = v &&& 0x7C0FFFFF := by
  rw [← Nat.and_two_pow_sub_one_eq_mod, Nat.and_assoc]
  rfl

/-- A binding reads as its word was written, and no other register is written. -/
theorem Block.writeBind_regs (b : Block) (c v : Nat) :
    (b.writeBind c v).reg (bindReg c) = v &&& 0xFC0FFFFF ∧ SameRegs b (b.writeBind c v) [bindReg c] := by
  have hregs : (b.writeBind c v).regs = (b.setReg (bindReg c) (v &&& 0xFC0FFFFF)).regs := by
    unfold Block.writeBind
    dsimp only
    split <;> rfl
  refine ⟨?_, fun off ho => ?_⟩
  · rw [Block.reg_of_regs hregs, Block.reg_setReg_same, Nat.mod_eq_of_lt (bindMask_lt v)]
  · rw [Block.reg_of_regs hregs]
    exact sameRegs_setReg _ _ _ off ho

/-- A binding that is enabled starts its channel again, unless it was enabled before. -/
theorem Block.writeBind_enable (b : Block) (c : Nat) {v : Nat} (h : v.testBit 31 = true) :
    b.writeBind c v = { b with
      regs := (b.writeBind c v).regs
      conv := { b.conv with starts := if b.bound c then b.conv.starts else SMap.erase b.conv.starts c } } := by
  have hbound : (b.setReg (bindReg c) (v &&& 0xFC0FFFFF)).bound c = true := by
    rw [Block.bound, Block.rf, Block.reg_setReg_same, Nat.mod_eq_of_lt (bindMask_lt v), bits_bindMask, h]
    rfl
  unfold Block.writeBind
  simp only [hbound, Bool.and_true]
  cases b.bound c <;> rfl

/-- A binding that is disabled changes nothing but its word. -/
theorem Block.writeBind_disable (b : Block) (c : Nat) {v : Nat} (h : v < 2 ^ 31) :
    b.writeBind c v = { b with regs := (b.writeBind c v).regs } := by
  have hbound : (b.setReg (bindReg c) (v &&& 0xFC0FFFFF)).bound c = false := by
    rw [Block.bound, Block.rf, Block.reg_setReg_same, Nat.mod_eq_of_lt (bindMask_lt v), bits_bindMask, Nat.testBit_lt_two_pow h]
    rfl
  unfold Block.writeBind
  simp only [hbound, Bool.and_false]
  rfl

-- The statement, by instruction

section
variable {s : State} {k : Fin 8}

/-- RX_FRAME_ARRIVE of a sound frame that the journal has room for: it is staged, or leaves a gap where staging has no room (R286, R289). -/
theorem rxFrameArrive_sound (words : List W32) {n : Nat} {ts toks : List Token} (hup : s.blk.up = true) (hn : (s.blk.link k).frames = n)
    (hdata : s.blk.linkState k = 3) (hrx : s.blk.linkTx k = false) (hlock : (s.blk.link k).lockLost = none)
    (hgrave : s.blk.hub.grave = false) (harm : s.blk.rf 0x300044 15 0 = 0) (hts : (s.blk.startChannels k n).stampToken k n = ts)
    (htoks : (s.blk.startChannels k n).frameTokens k n (some words) ((s.blk.link k).crcBad.any ((s.blk.link k).inBlock n)) = toks)
    (hsome : ts ++ toks ≠ []) (hjournal : s.blk.journalRoom (s.blk.frameBody k n ts toks) = true) :
    ∃ t, Completes (.rxFrameArrive k words .none) s t ∧ (s.blk.link k).dataAt + (s.blk.link k).frameNs n ≤ t.now ∧
      t.reg (linkReg k 0x28) = (n + 1) % 2 ^ 32 ∧
      (s.blk.stagingUsed k + (s.blk.link k).frameBytes ts toks ≤ s.blk.stgBytes k →
        t.link k = { s.blk.link k with frames := n + 1, staging := (s.blk.link k).staging ++ [s.blk.soundFrame k n ts toks] } ∧
          t.cont.lsn = s.blk.cont.lsn + 1) ∧
      (s.blk.stgBytes k < s.blk.stagingUsed k + (s.blk.link k).frameBytes ts toks →
        t.link k = { s.blk.link k with frames := n + 1, staging := (s.blk.link k).staging ++ [s.blk.gapFrame k n ts toks] } ∧
          t.reg (convCnt k 3) = satAdd (s.blk.reg (convCnt k 3)) 1 ∧ t.cont.lsn = s.blk.cont.lsn) ∧
      t.mem = s.blk.mem := by
  subst hn
  have hdone := rxFrameArrive_completes words .none hup hdata hrx
  rw [Block.rxFrame_sound words k.isLt hdata hlock harm hgrave hts htoks hsome] at hdone
  have hbegun : Begun k (s.blk.link k).frames s.blk (s.blk.frameStarted k) := Block.frameDue_begun k.isLt s.blk _
  have hstep := linkStep_stageFrame k (s.blk.link k).frames (s.blk.frameStarted k) ts toks
  have hlink := hbegun.link
  have hcont := hbegun.cont
  have hmem : (s.blk.frameStarted k).mem = s.blk.mem := by rw [hbegun.rest]
  have hused : (s.blk.frameStarted k).stagingUsed k = s.blk.stagingUsed k := by rw [Block.stagingUsed, hlink]; rfl
  have hbytes : ((s.blk.frameStarted k).link k).frameBytes ts toks = (s.blk.link k).frameBytes ts toks := by rw [hlink]; rfl
  have hspace := hbegun.stgBytes k.isLt
  have hroom : (s.blk.frameStarted k).journalRoom ((s.blk.frameStarted k).frameBody k (s.blk.link k).frames ts toks) = true := by
    rw [hbegun.journalRoom k.isLt, ← hjournal, Block.frameBody, hlink]
    rfl
  refine ⟨_, hdone, hstep.now ▸ hbegun.due, (hstep.reg (frameCount_notMem_stagingRegs k.isLt)).trans hbegun.count, fun hfits => ?_,
    fun hfull => ?_, hstep.mem.trans hmem⟩
  · obtain ⟨hstaged, hlsn⟩ := Block.journaledFrame_effect _ k (s.blk.link k).frames ts toks (by rw [hused, hbytes, hspace]; exact hfits) hroom
    rw [hstaged, hlsn, hbegun.soundFrame k.isLt, hlink, hcont]
    exact ⟨rfl, rfl⟩
  · obtain ⟨hstaged, hcount, hsame⟩ := (s.blk.frameStarted k).overflowed_effect k.isLt (s.blk.link k).frames ts toks
    rw [Block.stageFrame_eq, if_neg (by rw [hused, hbytes, hspace]; omega), if_pos hroom, hstaged, hcount, hsame, hbegun.gapFrame k.isLt,
      hlink, hcont, hbegun.errors]
    exact ⟨rfl, rfl, rfl⟩

/-- RX_FRAME_ARRIVE of a frame whose lanes report an error: it is counted and reported, and a CRC-12 failure is noted (R287). -/
theorem rxFrameArrive_error (words : List W32) {err : LaneErr} (herr : err ≠ .none) (hup : s.blk.up = true)
    (hdata : s.blk.linkState k = 3) (hrx : s.blk.linkTx k = false) (hlock : (s.blk.link k).lockLost = none)
    (harm : s.blk.rf 0x300044 15 0 = 0) :
    ∃ t, Completes (.rxFrameArrive k words err) s t ∧ t.reg (convCnt k 0) = satAdd (s.blk.reg (convCnt k 0)) 1 ∧
      laneErrorOf k ∈ t.hub.wires ∧
      (err = .crc → (t.link k).crcBad = some ((s.blk.link k).frames * (s.blk.link k).cF / 256)) ∧ t.mem = s.blk.mem := by
  have hbegun : Begun k (s.blk.link k).frames s.blk (s.blk.frameStarted k) := Block.frameDue_begun k.isLt s.blk _
  have hdone := rxFrameArrive_completes words err hup hdata hrx
  rw [Block.rxFrame_arrives words err k.isLt hdata hlock, Block.frameCheck_unarmed _ _ _ _ (hbegun.unarmed k.isLt harm)] at hdone
  obtain ⟨hcount, hwire, hbad, hmem⟩ := (s.blk.frameStarted k).errNoted_error k (s.blk.link k).frames herr
  have hstep := linkStep_toStaging k (s.blk.link k).frames ((s.blk.frameStarted k).errNoted k (s.blk.link k).frames err) (some words)
    (err != .none || (((s.blk.frameStarted k).errNoted k (s.blk.link k).frames err).link k).crcBad.any
      (((s.blk.frameStarted k).link k).inBlock (s.blk.link k).frames))
  refine ⟨_, hdone, ?_, hstep.wires.subset hwire, fun hcrc => ?_, ?_⟩
  · rw [hstep.reg (errorCount_notMem_stagingRegs k (by decide)), hcount, hbegun.errors]
  · rw [hstep.link]
    refine (hbad hcrc).trans ?_
    rw [hbegun.link]
    rfl
  · exact (hstep.mem.trans hmem).trans (by rw [hbegun.rest])

/-- FRAME_RELEASE: the oldest frame not released is released at its time, with TIME_NS less LAT_NS in its timestamp (R284). -/
theorem frameRelease_stamps {f : StgFrame} (hup : s.blk.up = true) (hfind : (s.blk.link k).staging.find? (fun f => !f.released) = some f) :
    ∃ t, Completes (.frameRelease k) s t ∧ f.due ≤ t.now ∧
      t.link k = { s.blk.link k with
        staging := (s.blk.link k).staging.modify ((s.blk.link k).staging.takeWhile (·.released)).length
          fun g => g.releasedAt t.now ((t.timeNs + 2 ^ 64 - (s.blk.link k).lat) % 2 ^ 64) } ∧
      t.regs = s.blk.regs ∧ t.mem = s.blk.mem := by
  refine ⟨_, frameRelease_completes hup hfind, ?_⟩
  have hframe := s.blk.passTo_frame f.due
  have hnow : f.due ≤ (s.blk.passTo f.due).now := by rw [Block.passTo_now]; exact le_max_right _ _
  have hconv : (s.blk.passTo f.due).link k = s.blk.link k := Block.link_of_conv (s.blk.passTo_conv _) k
  obtain ⟨hlink, hrest⟩ := (s.blk.passTo f.due).stampFrame_effect k ((s.blk.link k).staging.takeWhile (·.released)).length
    (((s.blk.passTo f.due).timeNs + 2 ^ 64 - (s.blk.link k).lat) % 2 ^ 64)
  generalize s.blk.passTo f.due = c at hframe hnow hconv hlink hrest ⊢
  rw [hlink, hconv, hrest]
  exact ⟨hnow, rfl, by rw [hframe], by rw [hframe]⟩

/-- STAGING_INJECT: the next sample of a released frame that nothing holds enters the Avenue at the Converter Gate (R285, R288). -/
theorem stagingInject_goes {f : StgFrame} {fs : List StgFrame} {tok : Token} {toks : List Token} {p : Nat} (hup : s.blk.up = true)
    (hstaging : (s.blk.link k).staging = f :: fs) (hreleased : f.released = true) (hts : f.ts = []) (htoks : f.toks = tok :: toks)
    (hgap : f.gap = false) (hadmitted : f.toks.any s.blk.notAdmitted = false) (hroll : s.blk.cont.roll = none)
    (hmig : s.blk.ave.mig = none) (hroom : (SMap.get (s.blk.xing 8 2).bufs [] (bufKey 4 0)).length < 8)
    (hlink : (s.blk.xing 8 2).down.contains 4 = false) (hroute : s.blk.routesTo 69 tok p) :
    ∃ t, Completes (.stagingInject k) s t ∧ f.ready ≤ t.now ∧ (t.link k).staging = f.without toks fs ∧
      SMap.get (t.xing 8 2).bufs [] (bufKey 4 0) = SMap.get (s.blk.xing 8 2).bufs [] (bufKey 4 0) ++
        [(tokenFlit (s.blk.gateToken 1 true tok) (gateXY 1) (xyOf p)).seal] ∧ t.mem = s.blk.mem := by
  have hdone : Completes (.stagingInject k) s _ := stagingInject_completes hup
  rw [hstaging, Block.injectFrames_goes hreleased hts htoks hgap hadmitted hroll hmig hroom hlink hroute] at hdone
  obtain ⟨hbufs, hnow, hconv, hmem⟩ := (s.blk.stagingTaken k f toks fs).gateInjected_effect 1 true tok p
  have hx : (s.blk.stagingTaken k f toks fs).xing 8 2 = s.blk.xing 8 2 := Block.xing_of_ave (s.blk.passTo_ave _) 8 2
  have htok : (s.blk.stagingTaken k f toks fs).gateToken 1 true tok = s.blk.gateToken 1 true tok := by
    have hcont : (s.blk.stagingTaken k f toks fs).cont = s.blk.cont := s.blk.passTo_cont _
    rw [Block.gateToken, Block.gEpoch, hcont]
    rfl
  refine ⟨_, hdone, ?_, ?_, ?_, ?_⟩
  · rw [hnow]
    exact (le_max_right _ _).trans (s.blk.passTo_now _).ge
  · rw [Block.link_of_conv hconv, Block.stagingTaken, Block.link_setLink_same]
  · rw [htok] at hbufs
    exact hbufs.trans (congrArg (SMap.get ·.bufs [] (bufKey 4 0) ++ _) hx)
  · exact hmem.trans (s.blk.passTo_mem _)

/-- LANE_LOCK_LOSS: the link realigns, and the frames lost so far are counted (R287, R290). -/
theorem laneLockLoss_realigns (lost : Nat) (hup : s.blk.up = true) (hdata : s.blk.linkState k = 3) (hrx : s.blk.linkTx k = false)
    (hfirst : (s.blk.link k).realigns = []) :
    ∃ t, Completes (.laneLockLoss k lost) s t ∧ t.linkState k = 3 ∧ (t.link k).lockLost.isSome = true ∧
      (t.link k).frames = (s.blk.link k).frames + lost ∧ t.reg (convCnt k 1) = satAdd (s.blk.reg (convCnt k 1)) 1 ∧
      realignOf k ∈ t.hub.wires ∧ t.mem = s.blk.mem := by
  obtain ⟨hstate, hlock, hframes, hcount, hwire, hmem⟩ := Block.realign_effect hdata hfirst
  have hlost := framesLost_range k.isLt (s.blk.realign k) lost
  refine ⟨_, laneLockLoss_completes lost hup hdata hrx, ?_⟩
  exact ⟨hlost.state.trans hstate, hlost.lock ▸ hlock, hlost.frames.trans (congrArg (· + lost) hframes), hlost.losses.trans hcount,
    hlost.wires.subset hwire, hlost.mem.trans hmem⟩

/-- LANE_DEAD_TIMEOUT: 10 ms after the lock was lost the link is in SAFE with cause LANE_DEAD (R287). -/
theorem laneDeadTimeout_safe {since : Nat} (hup : s.blk.up = true) (hlost : (s.blk.link k).lockLost = some since)
    (hdata : s.blk.linkState k = 3) :
    ∃ t, Completes (.laneDeadTimeout k) s t ∧ since + 10000000 ≤ t.now ∧ t.linkState k = 4 ∧ t.rf (linkReg k 8) 7 4 = 4 ∧
      t.link k = { s.blk.link k with lockLost := none } ∧ t.hub.wires = s.blk.hub.wires ++ [laneDeadOf k (s.blk.boundCtxs k)] ∧
      t.mem = s.blk.mem := by
  obtain ⟨hstate, hcause, hlink, hwires, hmem, hnow⟩ := (s.blk.passTo (since + 10000000)).laneDead_effect k
  have hhub : (s.blk.passTo (since + 10000000)).hub = s.blk.hub := s.blk.passTo_hub _
  refine ⟨_, laneDeadTimeout_completes hup hlost hdata, ?_, hstate, hcause, ?_, ?_, hmem.trans (s.blk.passTo_mem _)⟩
  · rw [hnow, Block.passTo_now]
    exact le_max_right _ _
  · rw [hlink, Block.link_of_conv (s.blk.passTo_conv _)]
  · rw [hwires, hhub, Block.boundCtxs_of_regs fun off => s.blk.passTo_reg _ off]

end

/-- CHANNEL_BIND_ENABLE: the binding reads as written, and its channel starts again unless it was enabled (R291). -/
theorem channelBindEnable_starts {s : State} (ch : Fin 4104) (value : W32) (hup : s.blk.up = true) :
    ∃ t, Completes (.channelBindEnable ch value) s t ∧ t.reg (bindReg ch) = (value.toNat ||| 2 ^ 31) &&& 0xFC0FFFFF ∧
      SameRegs s.blk t [bindReg ch] ∧ t.conv.links = s.blk.conv.links ∧ t.mem = s.blk.mem ∧
      t.conv.starts = if s.blk.bound ch then s.blk.conv.starts else SMap.erase s.blk.conv.starts ch := by
  have hbit : (value.toNat ||| 0x80000000).testBit 31 = true := by
    rw [Nat.testBit_or, show (0x80000000 : Nat).testBit 31 = true by decide, Bool.or_true]
  obtain ⟨hword, hregs⟩ := s.blk.writeBind_regs ch (value.toNat ||| 0x80000000)
  have hrest := s.blk.writeBind_enable ch hbit
  refine ⟨_, completes_of_actUp_eq (execChannelBindEnable.eq_1 ch value s) hup rfl, hword, hregs, ?_, ?_, ?_⟩
  · rw [hrest]
  · rw [hrest]
  · rw [hrest]

/-- CHANNEL_BIND_DISABLE: the binding reads as written, and nothing else changes (R291). -/
theorem channelBindDisable_stops {s : State} (ch : Fin 4104) (value : W32) (hup : s.blk.up = true) :
    ∃ t, Completes (.channelBindDisable ch value) s t ∧ t.reg (bindReg ch) = value.toNat &&& 0x7C0FFFFF ∧
      t = { s.blk with regs := t.regs } ∧ SameRegs s.blk t [bindReg ch] := by
  obtain ⟨hword, hregs⟩ := s.blk.writeBind_regs ch (value.toNat % 2 ^ 31)
  exact ⟨_, completes_of_actUp_eq (execChannelBindDisable.eq_1 ch value s) hup rfl, hword.trans (mod_and_bindMask _),
    s.blk.writeBind_disable ch (Nat.mod_lt _ (by decide)), hregs⟩

/-- Settles O46, instruction by instruction: every clause is the effect of one instruction on a link of the block. -/
theorem samplesIn : Obligations.SamplesIn := by
  unfold Obligations.SamplesIn
  intro s k b l n a w hup
  refine ⟨?_, ?_, ?_, ?_, ?_, ?_, ?_⟩
  · intro words hdata hrx hlock hgrave harm ts toks bytes used hsome hjournal
    exact rxFrameArrive_sound words hup rfl hdata hrx hlock hgrave harm rfl rfl hsome hjournal
  · intro words err herr hdata hrx hlock harm
    exact rxFrameArrive_error words herr hup hdata hrx hlock harm
  · intro f hfind i
    exact frameRelease_stamps hup hfind
  · intro f fs tok toks x c g lq p old hstaging hreleased hts htoks hgap hadmitted hroll hmig hkind hroom hlink hdev hctx hplaced hword
      hgroup hlq hp
    exact stagingInject_goes hup hstaging hreleased hts htoks hgap hadmitted hroll hmig hroom hlink
      ⟨hkind, hdev, x, c, g, lq, hctx, hplaced, hword, hgroup, hlq, hp⟩
  · intro lost hdata hrx hfirst
    exact laneLockLoss_realigns lost hup hdata hrx hfirst
  · intro since hlost hdata
    exact laneDeadTimeout_safe hup hlost hdata
  · intro ch value
    exact ⟨channelBindEnable_starts ch value hup, channelBindDisable_stops ch value hup⟩

end Sys2Proof.Machine

/-! DESCRIPTOR_READ_DONE of a descriptor that the Stops rebuild as they read it: the counterexample to ContextArming. -/

namespace Sys2Proof.Machine

/-- A running module in which context 0 is being armed. Descriptors and the journal's area both start at MA 0, as at reset; the line of the
descriptor is uncorrectable, and the other seven pages of its stripe hold zeros. -/
def rebuiltDescriptor : Block :=
  { Block.initial with
    power := { Power.initial with held := false, since := none }
    disp := { Disp.initial with arming := [⟨0, 0, 0, 0⟩] }
    stops := { MemUnit.initial with bad := [0] }
    mem := [(0, 1)] }

/-- The block is one that the statement speaks of: memory holds a descriptor with VALID 1. -/
theorem rebuiltDescriptor_met :
    rebuiltDescriptor.up = true ∧ rebuiltDescriptor.journalRoom (.disp 0 .arm) = true ∧ rebuiltDescriptor.descMa 0 + 128 ≤ maEnd ∧
    (Desc.ofBytes (memRead rebuiltDescriptor.mem (rebuiltDescriptor.descMa 0) 128)).ctl.testBit 0 = true := by
  decide +kernel

/-- The read writes the line back as its stripe gives it (R431): as zeros. -/
theorem rebuiltDescriptor_mem {t : Block} (h : Completes .descriptorReadDone ⟨rebuiltDescriptor, []⟩ t) : t.mem = [] := by
  have hmem : (match execDescriptorReadDone ⟨rebuiltDescriptor, []⟩ with | .next s => s.blk.mem | _ => rebuiltDescriptor.mem) = [] := by
    decide +kernel
  have hnext : execDescriptorReadDone ⟨rebuiltDescriptor, []⟩ = .next ⟨t, []⟩ := h
  rwa [hnext] at hmem

/-- Refutes O26: a descriptor in an uncorrectable line of the journal's area is rebuilt and written back as it is read (R431), so module
memory does not stay as it was, and the VALID that counts is not the one that memory held before. -/
theorem not_contextArming : ¬ Obligations.ContextArming := by
  unfold Obligations.ContextArming
  rintro ⟨-, hread⟩
  obtain ⟨hup, hroom, hin, hvalid⟩ := rebuiltDescriptor_met
  obtain ⟨harmed, -⟩ := hread ⟨rebuiltDescriptor, []⟩ ⟨0, 0, 0, 0⟩ [] _ _ hup rfl rfl hroom rfl hin rfl rfl
  obtain ⟨t, y, hdone, -, -, -, -, -, -, -, -, -, hmem⟩ := harmed hvalid
  rw [rebuiltDescriptor_mem hdone] at hmem
  exact absurd hmem (by decide)

end Sys2Proof.Machine

/-! The Dispatcher's own operations: jobs of the submission rings as it starts and ends them, its journaled decisions, and changes of DEP. -/

namespace Sys2Proof.Machine

/-- A command with a meaning of its own while the module is off completes with what its effect comes to. -/
theorem completes_of_act_eq {c : Instr} {s : State} {f : Block → Block} {t : Block} (hc : exec c s = act f s) (h : f s.blk = t) :
    Completes c s t := by
  rw [Completes, hc, ← h, act]

-- Jobs as they start (R369)

section
variable {b : Block} {r op : Nat} {j : Job}

theorem Block.starts.job_mem (h : b.starts r op j) : j ∈ (b.sq r).jobs := by
  obtain ⟨-, -, -, -, hnext, -, -⟩ := h
  unfold SQ.next at hnext
  split at hnext
  · exact absurd hnext (by simp)
  · next i hi =>
    split at hnext
    · exact absurd hnext (by simp)
    · exact Option.some.inj hnext ▸ List.mem_of_find?_eq_some hi

theorem Block.starts.not_done (h : b.starts r op j) : j.done = false := by
  obtain ⟨-, -, -, -, -, -, hdone⟩ := h
  exact hdone

/-- A ring whose next job has the OP asked for starts it. -/
theorem Block.starts.startJob (h : b.starts r op j) {mine : Nat → Bool} (hmine : mine op = true) (body : Block → Job → Block) :
    b.startJob r mine body = body b j := by
  obtain ⟨hup, hresume, hrec, hgrave, hnext, rfl, -⟩ := h
  simp [Block.startJob, hup, hresume, hrec, hgrave, hnext, hmine]

end

-- Jobs as they end (R369, R370)

/-- What of a job the end of its ring's jobs goes by: its index and its outcome. -/
def Job.outcome (j : Job) : Nat × Bool × Nat × Nat × Nat := (j.index, j.done, j.status, j.result, j.detail)

theorem find?_index_eq (js : List Job) (i : Nat) :
    (js.find? fun x => x.index = i).map (fun x => (x.done, x.status, x.result, x.detail)) =
      ((js.map Job.outcome).find? fun e => e.1 = i).map (·.2) := by
  rw [List.find?_map, Option.map_map]
  rfl

theorem Block.queueRecords_outcomes (b : Block) (r : Nat) (seen js : List Job) :
    ((b.queueRecords r seen js).sq r).jobs.map Job.outcome = (seen ++ js).map Job.outcome := by
  induction js generalizing b seen with
  | nil => simp [Block.queueRecords]
  | cons j js ih =>
    unfold Block.queueRecords
    split
    · simp
    · split
      · simp [ih]
      · simp [ih, Job.outcome]

theorem Block.queueRecords_disp (b : Block) (r : Nat) (seen js : List Job) : (b.queueRecords r seen js).disp = b.disp := by
  induction js generalizing b seen with
  | nil => rfl
  | cons j js ih =>
    unfold Block.queueRecords
    split
    · rfl
    · split
      · exact ih b _
      · exact ih _ _

/-- Records that wait at the CQs stay there. -/
def RecordsKept (b t : Block) : Prop := ∀ k, (b.cq k).waiting ⊆ (t.cq k).waiting

theorem recordsKept_refl (b : Block) : RecordsKept b b := fun _ => List.Subset.refl _
theorem RecordsKept.trans {a b c : Block} (h : RecordsKept a b) (h' : RecordsKept b c) : RecordsKept a c := fun k =>
  List.Subset.trans (h k) (h' k)
theorem recordsKept_of_host {b t : Block} (h : t.host = b.host) : RecordsKept b t := fun k => by simp [Block.cq, h]

theorem RecordsKept.recorded {b t : Block} (h : RecordsKept b t) {c : Nat} {x : Ctx} {status : Nat} {value : W64}
    (hr : b.recorded c x status value) : t.recorded c x status value := by
  obtain ⟨time, orphans, unfound, hmem⟩ := hr
  exact ⟨time, orphans, unfound, h x.cring hmem⟩

/-- A CQ takes one more record. -/
theorem recordsKept_append (b : Block) (k : Nat) (rec : CqRec) :
    RecordsKept b (b.setCq k { b.cq k with waiting := (b.cq k).waiting ++ [rec] }) := fun k' => by
  by_cases h : k' = k
  · subst h
    simp
  · simp [Block.cq, SMap.get_put_ne _ _ _ h]

theorem Block.queueRecords_recordsKept (b : Block) (r : Nat) (seen js : List Job) : RecordsKept b (b.queueRecords r seen js) := by
  induction js generalizing b seen with
  | nil => exact fun _ => List.Subset.refl _
  | cons j js ih =>
    unfold Block.queueRecords
    split
    · exact fun _ => List.Subset.refl _
    · split
      · exact ih b _
      · exact (recordsKept_append b _ _).trans (ih _ _)

theorem Block.notify_disp (b : Block) (ctx dev : Nat) :
    (b.notify ctx dev).disp = { b.disp with depQ := (b.notify ctx dev).disp.depQ } := by
  unfold Block.notify
  split
  · rfl
  · split
    · next t h => rw [(Block.sendDisp_dispKept h).1]
    · simp

section
variable {b : Block} {r index : Nat} {j : Job}

/-- The end of a job that has not ended puts its outcome into the ring, and its decrement and its record follow. -/
theorem Block.finishJob_eq (hj : ∃ j ∈ (b.sq r).jobs, j.index = index ∧ j.done = false) (status result detail : Nat) :
    ∃ t : Block, b.finishJob r index status result detail = t.queueRecords r []
        ((b.sq r).jobs.map fun x => if x.index = index then
          { x with begun := true, done := true, status := status, result := result % 2 ^ 64, detail := detail % 2 ^ 32 } else x) ∧
      (t = b ∨ ∃ ctx dev, t = b.notify ctx dev) := by
  obtain ⟨j, hmem, hindex, hdone⟩ := hj
  have hsome : ((b.sq r).jobs.find? fun x => x.index = index && !x.done).isSome := List.find?_isSome.2 ⟨j, hmem, by simp [hindex, hdone]⟩
  obtain ⟨i, hi⟩ := Option.isSome_iff_exists.1 hsome
  unfold Block.finishJob
  dsimp only
  rw [hi]
  refine ⟨_, rfl, ?_⟩
  split
  · exact .inr ⟨_, _, rfl⟩
  · exact .inl rfl

/-- A job that has not ended ends with the outcome given. -/
theorem Block.finishJob_ended (hmem : j ∈ (b.sq r).jobs) (hdone : j.done = false) (status result detail : Nat) :
    (b.finishJob r j.index status result detail).ended r j status result detail := by
  obtain ⟨t, ht, -⟩ := Block.finishJob_eq ⟨j, hmem, rfl, hdone⟩ status result detail
  obtain ⟨i, hi⟩ := Option.isSome_iff_exists.1
    (List.find?_isSome.2 ⟨j, hmem, by simp⟩ : ((b.sq r).jobs.find? fun x => x.index = j.index).isSome = true)
  have hindex : i.index = j.index := by simpa using List.find?_some hi
  unfold Block.ended
  rw [ht, find?_index_eq, Block.queueRecords_outcomes, ← find?_index_eq, List.nil_append, List.find?_map]
  have hpred : ((fun x : Job => decide (x.index = j.index)) ∘ fun x : Job => if x.index = j.index then
      { x with begun := true, done := true, status := status, result := result % 2 ^ 64, detail := detail % 2 ^ 32 } else x) =
        fun x => decide (x.index = j.index) := by
    funext x
    dsimp only [Function.comp]
    split <;> rfl
  rw [hpred, hi]
  simp [hindex]

/-- The end of a job leaves the Dispatcher but for a decrement it may queue. -/
theorem Block.finishJob_disp (b : Block) (r index status result detail : Nat) :
    (b.finishJob r index status result detail).disp = { b.disp with depQ := (b.finishJob r index status result detail).disp.depQ } := by
  unfold Block.finishJob
  dsimp only
  split
  · rfl
  · rw [Block.queueRecords_disp]
    split
    · exact b.notify_disp _ _
    · rfl

theorem Block.finishJob_ctxs (b : Block) (r index status result detail : Nat) :
    (b.finishJob r index status result detail).disp.ctxs = b.disp.ctxs := by
  rw [Block.finishJob_disp]

theorem Block.finishJob_ctx (b : Block) (r index status result detail c : Nat) :
    (b.finishJob r index status result detail).ctx? c = b.ctx? c := by
  rw [Block.ctx?, Block.finishJob_disp]
  rfl

theorem Block.finishJob_recordsKept (b : Block) (r index status result detail : Nat) :
    RecordsKept b (b.finishJob r index status result detail) := by
  unfold Block.finishJob
  dsimp only
  split
  · exact recordsKept_refl b
  · refine RecordsKept.trans ?_ (Block.queueRecords_recordsKept _ _ _ _)
    split
    · exact recordsKept_of_host (b.notify_residentsKept _ _).1
    · exact recordsKept_refl b

theorem Block.finishJob_mem (b : Block) (r index status result detail : Nat) : (b.finishJob r index status result detail).mem = b.mem := by
  rw [(b.finishJob_jobFrame r index status result detail).rest]

/-- The Dispatcher's registers stand as they are when a job ends. -/
theorem Block.finishJob_reg (b : Block) (r index status result detail : Nat) {off : Nat} (h : off < 0xE00000) :
    (b.finishJob r index status result detail).reg off = b.reg off :=
  ((b.finishJob_jobFrame r index status result detail).regs off (by simp only [colirCnt, List.mem_singleton]; omega)).symm

end

-- Decisions in the journal (R434)

/-- What the Dispatcher's work on one context leaves: its entry, the order of the ready lists, the journal with its mirror, and some
counters. -/
structure WorkFrame (c : Nat) (but : List Nat) (b t : Block) : Prop where
  rest : t = { b with
    regs := t.regs, evc := t.evc, colir := t.colir
    disp := { b.disp with ctxs := t.disp.ctxs, readySeq := t.disp.readySeq }
    cont := { b.cont with lsn := t.cont.lsn, journal := t.cont.journal } }
  others : ∀ k, k ≠ c → t.ctx? k = b.ctx? k
  regs : SameRegs b t but

section
variable {c : Nat} {but : List Nat} {a b t : Block}

theorem workFrame_refl (c : Nat) (but : List Nat) (b : Block) : WorkFrame c but b b := ⟨rfl, fun _ _ => rfl, sameRegs_refl b but⟩

theorem WorkFrame.trans (h : WorkFrame c but a b) (h' : WorkFrame c but b t) : WorkFrame c but a t :=
  ⟨by rw [h'.rest, h.rest], fun k hk => (h'.others k hk).trans (h.others k hk), h.regs.trans h'.regs⟩

theorem WorkFrame.mono {more : List Nat} (h : WorkFrame c but b t) (hs : but ⊆ more) : WorkFrame c more b t :=
  ⟨h.rest, h.others, h.regs.mono hs⟩

theorem WorkFrame.mem (h : WorkFrame c but b t) : t.mem = b.mem := by rw [h.rest]
theorem WorkFrame.host (h : WorkFrame c but b t) : t.host = b.host := by rw [h.rest]
theorem WorkFrame.now (h : WorkFrame c but b t) : t.now = b.now := by rw [h.rest]
theorem WorkFrame.qs (h : WorkFrame c but b t) : t.qs = b.qs := by rw [h.rest]
theorem WorkFrame.roll (h : WorkFrame c but b t) : t.cont.roll = b.cont.roll := by rw [h.rest]
theorem WorkFrame.depQ (h : WorkFrame c but b t) : t.disp.depQ = b.disp.depQ := by rw [h.rest]
theorem WorkFrame.reg (h : WorkFrame c but b t) {off : Nat} (ho : off ∉ but) : t.reg off = b.reg off := (h.regs off ho).symm
theorem WorkFrame.sq (h : WorkFrame c but b t) (r : Nat) : t.sq r = b.sq r := by rw [Block.sq, h.host]; rfl

theorem workFrame_setCtx (but : List Nat) (b : Block) (c : Nat) (x : Ctx) : WorkFrame c but b (b.setCtx c x) :=
  ⟨rfl, fun _ hk => b.ctx_setCtx_ne x hk, fun _ _ => rfl⟩

theorem workFrame_bump (c : Nat) (b : Block) {off : Nat} (h : off ∈ but) : WorkFrame c but b (b.bump off) := by
  obtain ⟨hrest, hregs⟩ := countFrame_bump b 1 h
  exact ⟨by rw [hrest], fun k _ => b.bump_ctx off 1 k, hregs⟩

theorem workFrame_bumpIf (c : Nat) (b : Block) (P : Prop) [Decidable P] {off : Nat} (h : off ∈ but) :
    WorkFrame c but b (if P then b.bump off else b) := by
  split
  · exact workFrame_bump c b h
  · exact workFrame_refl c but b

theorem Block.decide_work (b : Block) (c k : Nat) (d : Decision) : WorkFrame c [colirCnt 5] b (b.decide_ k d) := by
  unfold Block.decide_
  split
  · exact workFrame_refl c _ b
  · obtain ⟨hrest, hregs⟩ := b.journal_frame k (.disp k d)
    exact ⟨by rw [hrest]; rfl, fun _ _ => by rw [hrest]; rfl, hregs⟩

theorem Block.decide_ctx (b : Block) (c k : Nat) (d : Decision) : (b.decide_ k d).ctx? c = b.ctx? c := by
  rw [Block.ctx?, (b.decide_dispKept k d).1]
  rfl

end

-- READY and WAITING (R253, R256, R260, R261)

/-- A context at the end of the ready list of its level. -/
def Ctx.atReady (x : Ctx) (seq : Nat) : Ctx := { x with state := 3, readySeq := seq, timer := false, blocked := false }

/-- A context once its state follows its DEP. -/
def Ctx.settled (x : Ctx) (tick seq : Nat) : Ctx :=
  if x.state = 2 ∧ x.desc.dep ≠ 0 then { x with state := 1 }
  else if x.state ≠ 1 ∨ x.desc.dep ≠ 0 then x
  else if x.desc.tmode = 1 ∧ x.timer = true ∧ fallenDue tick x.desc.due = false then { x with state := 2 }
  else x.atReady seq

section
variable {b : Block} {c : Nat} {x : Ctx}

theorem Block.makeReady_ctx (h : b.ctx? c = some x) : (b.makeReady c).ctx? c = some (x.atReady b.disp.readySeq) := by
  unfold Block.makeReady
  rw [h]
  dsimp only
  rw [Block.decide_ctx]
  exact b.ctx_setCtx_same c _

theorem Block.makeReady_work (b : Block) (c : Nat) : WorkFrame c [colirCnt 5] b (b.makeReady c) := by
  unfold Block.makeReady
  split
  · exact workFrame_refl c _ b
  · next x _ =>
    refine WorkFrame.trans ?_ (Block.decide_work _ c c _)
    exact (workFrame_setCtx _ b c (x.atReady b.disp.readySeq)).trans ⟨rfl, fun _ _ => rfl, fun _ _ => rfl⟩

theorem Block.settleDep_ctx (h : b.ctx? c = some x) : (b.settleDep c).ctx? c = some (x.settled b.disp.tickNow b.disp.readySeq) := by
  unfold Block.settleDep Ctx.settled
  rw [h]
  dsimp only
  split
  · exact b.ctx_setCtx_same c _
  · split
    · exact h
    · by_cases hdelay : x.desc.tmode = 1 ∧ x.timer = true ∧ fallenDue b.disp.tickNow x.desc.due = false
      · rw [if_pos hdelay, if_pos (by simp [hdelay])]
        exact b.ctx_setCtx_same c _
      · rw [if_neg hdelay, if_neg (by simpa [and_assoc] using hdelay)]
        exact Block.makeReady_ctx h

theorem Block.settleDep_work (b : Block) (c : Nat) : WorkFrame c [colirCnt 5] b (b.settleDep c) := by
  unfold Block.settleDep
  split
  · exact workFrame_refl c _ b
  · split
    · exact workFrame_setCtx _ b c _
    · split
      · exact workFrame_refl c _ b
      · split
        · exact workFrame_setCtx _ b c _
        · exact b.makeReady_work c

/-- A context that arms settles in WAITING, DELAYED or READY. -/
theorem Ctx.settled_armed (x : Ctx) (tick seq : Nat) (h : x.state = 1) :
    1 ≤ (x.settled tick seq).state ∧ (x.settled tick seq).state ≤ 3 := by
  unfold Ctx.settled
  split_ifs
  · simp
  · simp [h]
  · simp
  · simp [Ctx.atReady]

/-- A context keeps what it was armed with and whether it has started as it settles. -/
theorem Ctx.settled_keeps (x : Ctx) (tick seq : Nat) :
    (x.settled tick seq).rearm = x.rearm ∧ (x.settled tick seq).started = x.started ∧ (x.settled tick seq).seq = x.seq ∧
    (x.settled tick seq).cring = x.cring := by
  unfold Ctx.settled
  split_ifs <;> exact ⟨rfl, rfl, rfl, rfl⟩

-- Changes of DEP (R255 to R257)

/-- DEP after a change: by a subtraction or decrement of n units, or to a value. -/
def newDep (sub : Bool) (n d : Nat) : Nat := if sub then d - n else n

/-- A context with its DEP changed, before its state follows. -/
def Ctx.withDep (x : Ctx) (sub : Bool) (n : Nat) : Ctx :=
  { x with
    desc := { x.desc with dep := newDep sub n x.desc.dep }
    decs := if sub && x.started then x.decs + n else x.decs }

theorem Block.afterDep_eq (b : Block) (x : Ctx) (sub : Bool) (n : Nat) :
    b.afterDep x (newDep sub n x.desc.dep) (if sub then n else 0) = (x.withDep sub n).settled b.disp.tickNow b.disp.readySeq := by
  have hdecs : (if x.started = true then x.decs + (if sub = true then n else 0) else x.decs) =
      if (sub && x.started) = true then x.decs + n else x.decs := by
    cases sub <;> cases x.started <;> rfl
  unfold Block.afterDep Ctx.withDep
  rw [hdecs]
  rfl

/-- A change of the DEP of a resident context. -/
theorem Block.changeDep_resident (h : b.ctx? c = some x) (sub : Bool) (n : Nat) :
    (b.changeDep c sub n).2 = (x.desc.dep, newDep sub n x.desc.dep) ∧
    (b.changeDep c sub n).1.ctx? c = some ((x.withDep sub n).settled b.disp.tickNow b.disp.readySeq) ∧
    WorkFrame c [colirCnt 5, dispCnt 5] b (b.changeDep c sub n).1 ∧
    (sub = true → x.desc.dep < n → (b.changeDep c sub n).1.reg (dispCnt 5) = satAdd (b.reg (dispCnt 5)) 1) := by
  have hbump := workFrame_bumpIf (but := [colirCnt 5, dispCnt 5]) c b (sub = true ∧ x.desc.dep < n) (off := dispCnt 5) (by simp)
  unfold Block.changeDep
  rw [h]
  dsimp only
  change _ ∧ (Block.settleDep (Block.decide_ (Block.setCtx _ c (x.withDep sub n)) c _) c).ctx? c = _ ∧ WorkFrame c _ b
    (Block.settleDep (Block.decide_ (Block.setCtx _ c (x.withDep sub n)) c _) c) ∧ _
  generalize hb1 : (if sub = true ∧ x.desc.dep < n then b.bump (dispCnt 5) else b) = b1 at hbump
  have hdecide := (b1.setCtx c (x.withDep sub n)).decide_work c c (.dep (newDep sub n x.desc.dep) (if sub = true then n else 0))
  have hsettle := Block.settleDep_work
    ((b1.setCtx c (x.withDep sub n)).decide_ c (.dep (newDep sub n x.desc.dep) (if sub = true then n else 0))) c
  refine ⟨rfl, ?_, ?_, ?_⟩
  · have hdisp : b1.disp = b.disp := by
      rw [← hb1]
      exact (dispKept_bumpIf b _ _).1
    rw [Block.settleDep_ctx (x := x.withDep sub n) (by rw [Block.decide_ctx, Block.ctx_setCtx_same])]
    rw [(Block.decide_dispKept _ _ _).1]
    show some ((x.withDep sub n).settled b1.disp.tickNow b1.disp.readySeq) = _
    rw [hdisp]
  · exact ((hbump.trans (workFrame_setCtx _ b1 c _)).trans (hdecide.mono (by simp))).trans (hsettle.mono (by simp))
  · intro hsub hlt
    refine (hsettle.reg (by decide)).trans ((hdecide.reg (by decide)).trans ?_)
    show b1.reg (dispCnt 5) = _
    rw [← hb1, if_pos ⟨hsub, hlt⟩, Block.reg_bump_one]

end

end Sys2Proof.Machine

/-! How a context completes (R262, R267, R268, R271): what a completion leaves alone, its record, and the end in quarantine, armed again or
IDLE. -/

namespace Sys2Proof

theorem SMap.find?_mapVal {α β : Type} (m : SMap α) (f : Nat → α → β) (k : Nat) :
    SMap.find? (SMap.mapVal m f) k = (SMap.find? m k).map (f k) := by
  induction m with
  | nil => rfl
  | cons e m ih =>
    obtain ⟨k', v⟩ := e
    have hcons : SMap.mapVal ((k', v) :: m) f = (k', f k' v) :: SMap.mapVal m f := rfl
    rw [hcons, SMap.find?, SMap.find?, ih]
    split
    · next h => rw [h]; rfl
    · rfl

end Sys2Proof

namespace Sys2Proof.Machine

-- The Dispatcher's settings, its registers before the counters (R248)

/-- The Dispatcher's settings read as before. -/
def SettingsKept (b t : Block) : Prop := ∀ off, 0x400000 ≤ off → off < 0x400100 → t.reg off = b.reg off

section
variable {b c t : Block}

theorem settingsKept_refl (b : Block) : SettingsKept b b := fun _ _ _ => rfl

theorem SettingsKept.trans (h : SettingsKept b c) (h' : SettingsKept c t) : SettingsKept b t := fun off hlo hhi =>
  (h' off hlo hhi).trans (h off hlo hhi)

theorem settingsKept_of_regs (h : t.regs = b.regs) : SettingsKept b t := fun off _ _ => Block.reg_of_regs h off

theorem settingsKept_of_same {but : List Nat} (h : SameRegs b t but) (hbut : ∀ off ∈ but, off < 0x400000 ∨ 0x400100 ≤ off) :
    SettingsKept b t := fun off hlo hhi => (h off fun hm => by have := hbut off hm; omega).symm

theorem settingsKept_setReg (b : Block) {off : Nat} (v : Nat) (h : off < 0x400000 ∨ 0x400100 ≤ off) : SettingsKept b (b.setReg off v) :=
  fun _ _ _ => b.reg_setReg_ne v (by omega)

theorem settingsKept_bump (b : Block) {off : Nat} (n : Nat) (h : off < 0x400000 ∨ 0x400100 ≤ off) : SettingsKept b (b.bump off n) :=
  fun _ _ _ => b.reg_bump_ne n (by omega)

theorem settingsKept_foldl {α : Type} {f : Block → α → Block} (hf : ∀ b a, SettingsKept b (f b a)) (l : List α) (b : Block) :
    SettingsKept b (l.foldl f b) :=
  List.foldlRecOn (motive := fun t => SettingsKept b t) l f (settingsKept_refl b) fun t ht a _ => ht.trans (hf t a)

end

theorem dispCnt_notSetting (k : Nat) : dispCnt k < 0x400000 ∨ 0x400100 ≤ dispCnt k := by
  unfold dispCnt
  omega

theorem memCnt_notSetting (k : Nat) : memCnt k < 0x400000 ∨ 0x400100 ≤ memCnt k := by
  unfold memCnt
  omega

theorem Block.inject_settings (b : Block) (checker unit sub : Nat) : SettingsKept b (b.inject checker unit sub).1 := by
  unfold Block.inject
  dsimp only
  split
  · exact settingsKept_setReg b _ (.inl (by decide))
  · exact settingsKept_refl b

theorem Block.touchPage_settings (b : Block) (ma : Nat) : SettingsKept b (b.touchPage ma) := fun _ hlo hhi =>
  (b.touchPage_readKept ma).reg (.inl (by omega))

theorem Block.uncorrectable_settings (b : Block) (line : Nat) (i : Bool) : SettingsKept b (b.uncorrectable line i) := by
  unfold Block.uncorrectable
  extract_lets b1 b2 t
  have h2 : SettingsKept b1 b2 := by
    simp only [b2]
    split
    · exact (settingsKept_setReg b1 _ (.inr (by decide))).trans (settingsKept_setReg _ _ (.inr (by decide)))
    · exact settingsKept_refl b1
  exact (settingsKept_bump b 1 (memCnt_notSetting 1)).trans h2

theorem Block.rebuildLine_settings (b : Block) (line : Nat) : SettingsKept b (b.rebuildLine line).1 := by
  unfold Block.rebuildLine
  split
  · exact settingsKept_refl b
  · exact settingsKept_of_regs rfl

theorem Block.freeLine_settings (b : Block) (line : Nat) : SettingsKept b (b.freeLine line) := by
  unfold Block.freeLine
  exact List.foldlRecOn (motive := fun t => SettingsKept b t) _ _ (settingsKept_refl b) fun c hc _ _ => hc.trans (settingsKept_of_regs rfl)

theorem Block.retirePage_settings (b : Block) (page : Nat) (i : Bool) : SettingsKept b (b.retirePage page i) := by
  have hpool : 0xB00110 + 4 * (page % 8) < 0x400000 ∨ 0x400100 ≤ 0xB00110 + 4 * (page % 8) := .inr (by omega)
  unfold Block.retirePage
  dsimp only
  split
  · exact settingsKept_setReg b _ hpool
  · exact SettingsKept.trans (settingsKept_setReg { b with stops := _ } _ hpool) (settingsKept_bump _ 1 (memCnt_notSetting 3))

theorem Block.corrected_settings (b : Block) (line : Nat) (i : Bool) : SettingsKept b (b.corrected line i) := by
  have hseen : SettingsKept b (b.bump (memCnt 0)) := settingsKept_bump b 1 (memCnt_notSetting 0)
  unfold Block.corrected
  dsimp only
  split
  · exact hseen.trans (Block.retirePage_settings { (b.bump (memCnt 0)).detect 5 (stopOf line) line i with stops := _ } _ _)
  · split
    · exact hseen.trans (settingsKept_bump _ 1 (memCnt_notSetting 4))
    · exact hseen

theorem Block.lineCheck_settings (b : Block) (upset line : Nat) : SettingsKept b (b.lineCheck upset line).1 := by
  have hinj := b.inject_settings 8 (stopOf line) 0
  unfold Block.lineCheck
  generalize b.inject 8 (stopOf line) 0 = r at hinj
  obtain ⟨b1, inj⟩ := r
  dsimp -zeta only
  extract_lets cleared stops b2 t
  have h2 : SettingsKept b b2 := by
    simp only [b2]
    split
    · exact hinj.trans (b1.freeLine_settings line)
    · exact hinj
  clear_value b2
  have hlost (i : Bool) : SettingsKept b ((b2.uncorrectable line i).rebuildLine line).1 :=
    (h2.trans (b2.uncorrectable_settings line i)).trans (Block.rebuildLine_settings _ _)
  split
  · exact hlost false
  · split
    · exact h2
    · split
      · exact h2.trans (b2.corrected_settings line true)
      · exact hlost true
    · split
      · exact h2.trans (b2.corrected_settings line false)
      · exact h2

theorem Block.stopRead_settings (b : Block) (ma n upset : Nat) : SettingsKept b (b.stopRead ma n upset).1 := by
  show SettingsKept b (b.stopReadLines ma n upset).1
  unfold Block.stopReadLines
  split
  · exact settingsKept_bump b 1 (memCnt_notSetting 2)
  · refine List.foldlRecOn (motive := fun acc : Block × List Nat => SettingsKept b acc.1) _ _ (settingsKept_refl b) fun acc hacc l _ => ?_
    have htouch := hacc.trans (acc.1.touchPage_settings l)
    dsimp only
    split
    · exact htouch
    · exact htouch.trans (Block.lineCheck_settings _ _ _)

theorem Block.stopWrite_settings (b : Block) (ma : Nat) (bs : List Byte) : SettingsKept b (b.stopWrite ma bs) := by
  have hready (ls : List Nat) : SettingsKept b (b.readiedFor ls) :=
    (settingsKept_foldl Block.touchPage_settings ls b).trans (settingsKept_of_regs (by rw [Block.readiedFor, Block.undoFor_frame]))
  unfold Block.stopWrite
  split
  · exact settingsKept_bump b 1 (memCnt_notSetting 2)
  · dsimp only
    split <;> exact hready (linesOf ma bs.length)

-- What the parts of a completion leave alone

/-- What of a context the end of its activation goes by: REARM, and whether it has started. -/
def Ctx.activation (x : Ctx) : Bool × Bool := (x.rearm, x.started)

/-- Beside the entries' other fields, memory, counters, the journal and messages, a part of a completion leaves this alone: the time, the
submission rings, records that wait, the Dispatcher's settings, and which contexts are resident in which activation. -/
structure AsideKept (b t : Block) : Prop where
  now : t.now = b.now
  sqs : t.host.sqs = b.host.sqs
  records : RecordsKept b t
  settings : SettingsKept b t
  residents : ∀ k, (t.ctx? k).map Ctx.activation = (b.ctx? k).map Ctx.activation

section
variable {b c t : Block}

theorem AsideKept.trans (h : AsideKept b c) (h' : AsideKept c t) : AsideKept b t :=
  ⟨h'.now.trans h.now, h'.sqs.trans h.sqs, h.records.trans h'.records, h.settings.trans h'.settings,
    fun k => (h'.residents k).trans (h.residents k)⟩

theorem asideKept_of_host (hnow : t.now = b.now) (hhost : t.host = b.host) (hset : SettingsKept b t)
    (hres : ∀ k, (t.ctx? k).map Ctx.activation = (b.ctx? k).map Ctx.activation) : AsideKept b t :=
  ⟨hnow, by rw [hhost], recordsKept_of_host hhost, hset, hres⟩

theorem DispKept.asideKept (h : DispKept b t) (hnow : t.now = b.now) (hset : SettingsKept b t) : AsideKept b t :=
  asideKept_of_host hnow h.2 hset fun k => by rw [Block.ctx?, Block.ctx?, h.1]

theorem asideKept_refl (b : Block) : AsideKept b b := (dispKept_refl b).asideKept rfl (settingsKept_refl b)

theorem AsideKept.sq (h : AsideKept b t) (r : Nat) : t.sq r = b.sq r := by
  rw [Block.sq, Block.sq, h.sqs]

theorem AsideKept.resident (h : AsideKept b t) {k : Nat} {x : Ctx} (hx : b.ctx? k = some x) :
    ∃ y, t.ctx? k = some y ∧ y.rearm = x.rearm ∧ y.started = x.started := by
  have hk := h.residents k
  rw [hx] at hk
  obtain ⟨y, hy, hact⟩ := Option.map_eq_some_iff.1 hk
  obtain ⟨hrearm, hstarted⟩ := Prod.mk.inj hact
  exact ⟨y, hy, hrearm, hstarted⟩

theorem asideKept_setCtx {k : Nat} {x y : Ctx} (hx : b.ctx? k = some x) (h : y.activation = x.activation) : AsideKept b (b.setCtx k y) := by
  refine asideKept_of_host rfl rfl (settingsKept_refl b) fun j => ?_
  by_cases hj : j = k
  · rw [hj, Block.ctx_setCtx_same, hx, Option.map_some, h, Option.map_some]
  · rw [b.ctx_setCtx_ne y hj]

theorem asideKept_bump (b : Block) (k : Nat) : AsideKept b (b.bump (dispCnt k)) :=
  (dispKept_bump b _ _).asideKept (b.bump_now _ _) (settingsKept_bump b 1 (dispCnt_notSetting k))

theorem asideKept_bumpIf (b : Block) (P : Prop) [Decidable P] (k : Nat) : AsideKept b (if P then b.bump (dispCnt k) else b) := by
  split
  · exact asideKept_bump b k
  · exact asideKept_refl b

theorem asideKept_foldl {α : Type} {f : Block → α → Block} (hf : ∀ b a, AsideKept b (f b a)) (l : List α) (b : Block) :
    AsideKept b (l.foldl f b) :=
  List.foldlRecOn (motive := fun t => AsideKept b t) l f (asideKept_refl b) fun t ht a _ => ht.trans (hf t a)

/-- Work on a context that keeps its activation. -/
theorem WorkFrame.asideKept {k : Nat} {but : List Nat} (h : WorkFrame k but b t) (hbut : ∀ off ∈ but, 0x400100 ≤ off)
    (hk : (t.ctx? k).map Ctx.activation = (b.ctx? k).map Ctx.activation) : AsideKept b t := by
  refine asideKept_of_host h.now h.host (settingsKept_of_same h.regs fun off ho => .inr (hbut off ho)) fun j => ?_
  by_cases hj : j = k
  · rw [hj, hk]
  · rw [h.others j hj]

end

theorem Block.stopRead_aside (b : Block) (ma n upset : Nat) : AsideKept b (b.stopRead ma n upset).1 :=
  (b.stopRead_dispKept ma n upset).asideKept (by rw [Block.stopRead, (b.stopReadLines_readFrame ma n upset).rest])
    (b.stopRead_settings ma n upset)

theorem Block.stopWrite_aside (b : Block) (ma : Nat) (bs : List Byte) : AsideKept b (b.stopWrite ma bs) :=
  (b.stopWrite_frame ma bs).dispKept.asideKept (by rw [b.stopWrite_frame ma bs]) (b.stopWrite_settings ma bs)

theorem Block.decide_aside (b : Block) (c : Nat) (d : Decision) : AsideKept b (b.decide_ c d) :=
  (b.decide_work c c d).asideKept (by decide) (by rw [Block.decide_ctx])

theorem Block.changeDep_aside (b : Block) (c : Nat) (sub : Bool) (n : Nat) : AsideKept b (b.changeDep c sub n).1 := by
  cases hctx : b.ctx? c with
  | some x =>
    obtain ⟨-, hset, hwork, -⟩ := Block.changeDep_resident hctx sub n
    obtain ⟨hrearm, hstarted, -, -⟩ := (x.withDep sub n).settled_keeps b.disp.tickNow b.disp.readySeq
    refine hwork.asideKept (by decide) ?_
    rw [hset, hctx, Option.map_some, Ctx.activation, hrearm, hstarted]
    rfl
  | none =>
    unfold Block.changeDep
    rw [hctx]
    exact (((b.stopRead_aside _ 4 0).trans (asideKept_bumpIf _ _ 5)).trans (Block.stopWrite_aside _ _ _)).trans (Block.decide_aside _ _ _)

theorem Block.decrement_aside (b : Block) (c : Nat) : AsideKept b (b.decrement c) := by
  unfold Block.decrement
  split
  · split
    · exact b.changeDep_aside c true 1
    · exact asideKept_bump b 6
  · split
    · exact b.changeDep_aside c true 1
    · exact asideKept_bump b 6

theorem Block.notify_aside (b : Block) (ctx dev : Nat) : AsideKept b (b.notify ctx dev) := by
  obtain ⟨hrest, hregs⟩ := b.notify_jobFrame ctx dev
  refine asideKept_of_host (by rw [hrest]) (b.notify_residentsKept ctx dev).1 (settingsKept_of_same hregs (by decide)) fun k => ?_
  rw [Block.ctx?, b.notify_disp ctx dev]
  rfl

/-- The end of parked reads writes Quarters, what the Avenue knows of their Districts, and registers of the Quarters alone. -/
theorem Block.abortParks_aside (b : Block) (c : Nat) : AsideKept b (b.abortParks c) := by
  have hbump (t : Block) (q : Nat) : AsideKept t (t.bump (qOff q 0x2180)) :=
    (dispKept_bump t _ _).asideKept (t.bump_now _ _) (settingsKept_bump t 1 (.inr (by unfold qOff; omega)))
  have hset (t : Block) (q : Nat) (x : Quarter) : AsideKept t (t.setQ q x) :=
    DispKept.asideKept ⟨rfl, rfl⟩ rfl (settingsKept_of_regs rfl)
  have hend (t : Block) (q pe slot : Nat) : AsideKept t (t.endStrand q pe slot) :=
    DispKept.asideKept ⟨rfl, rfl⟩ rfl (settingsKept_of_regs rfl)
  unfold Block.abortParks
  refine asideKept_foldl (fun t q => ?_) _ b
  extract_lets qq mine gone strands t1 t2
  split
  · exact asideKept_refl t
  · have h2 : AsideKept t1 t2 := asideKept_foldl (fun u n => (hend u _ _ _).trans (hbump _ _)) _ t1
    refine ((hset t _ _).trans h2).trans (asideKept_foldl (fun u p => ?_) _ t2)
    split
    · exact asideKept_refl u
    · exact hset u _ _

theorem Block.freeEntries_aside (b : Block) (c : Nat) : AsideKept b (b.freeEntries c) := by
  refine asideKept_of_host rfl rfl (settingsKept_of_regs rfl) fun k => ?_
  unfold Block.freeEntries Block.ctx?
  dsimp only
  split
  · rw [SMap.find?_mapVal, Option.map_map]
    rfl
  · rfl

theorem Block.tellAll_aside (b : Block) (ms : List Nat) (op ctx round status : Nat) : AsideKept b (b.tellAll ms op ctx round status) := by
  unfold Block.tellAll
  refine asideKept_foldl (fun t m => ?_) ms b
  cases hsent : t.sendDisp op ctx round 0 status 0 0 m with
  | none => exact asideKept_refl t
  | some u =>
    obtain ⟨hrest, hregs⟩ := Block.sendDisp_jobFrame hsent
    exact (Block.sendDisp_dispKept hsent).asideKept (show u.now = t.now by rw [hrest]) (settingsKept_of_same hregs (by decide))

theorem Block.tellAll_ctx (b : Block) (ms : List Nat) (op ctx round status c : Nat) :
    (b.tellAll ms op ctx round status).ctx? c = b.ctx? c := by
  unfold Block.tellAll
  refine List.foldlRecOn (motive := fun t : Block => t.ctx? c = b.ctx? c) ms _ rfl fun t ht m _ => ?_
  cases hsent : t.sendDisp op ctx round 0 status 0 0 m with
  | none => exact ht
  | some u => rw [← ht, Option.getD_some, Block.ctx?, (Block.sendDisp_dispKept hsent).1]; rfl

-- The completion, part by part (R251, R267, R268)

/-- A context whose activation is over. -/
def Ctx.over (x : Ctx) (status time : Nat) : Ctx :=
  { x with
    desc := { x.desc with
      dep := if x.desc.ctl.testBit 11 then x.desc.depInit - x.decs else x.desc.dep
      acts := (x.desc.acts + 1) % 2 ^ 32 }
    endTime := time, status := status }

/-- The context's entries and parked reads are gone, and the decision is journaled. -/
def Block.entriesFreed (b : Block) (c status : Nat) (value : W64) : Block :=
  ((b.freeEntries c).abortParks c).decide_ c (.complete status value)

/-- The outcome stands in the entry and the descriptor, and is counted. -/
def Block.writtenBack (b : Block) (c : Nat) (x : Ctx) (status : Nat) (value : W64) : Block :=
  let b := ((b.setCtx c x).writeBack c x status value).bump (dispCnt 2)
  if status = 2 then b.bump (dispCnt 4) else b

/-- The completion record of a context is queued. -/
def Block.withRecord (b : Block) (c : Nat) (x : Ctx) (status : Nat) (value : W64) (unfound : Nat) : Block :=
  b.setCq x.cring { b.cq x.cring with waiting := (b.cq x.cring).waiting ++
    [.ctx x.endTime (b2n x.faulted + 2 * b2n x.poisoned + 4 * b2n x.orphaned) status c value (min x.orphans 0xFFFFFFFF)
      (min unfound 0xFFFFFFFF) x.armRing x.armIndex] }

/-- The successors of a context that succeeded, or that tells them always, are decremented. -/
def Block.tellSuccessors (b : Block) (c : Nat) (x : Ctx) (status : Nat) : Block :=
  if status == 0 || x.desc.ctl.testBit 12 then
    x.desc.notify.foldl (fun b w =>
      if !w.testBit 31 then b
      else if bits w 23 20 = b.ownId then
        (if w % 2 ^ 20 ≠ c ∧ b.depWaits (w % 2 ^ 20) then { b with disp := { b.disp with depQ := b.disp.depQ ++ [w % 2 ^ 20] } }
          else b.decrement (w % 2 ^ 20))
      else b.notify (w % 2 ^ 20) (bits w 23 20)) b
  else b

/-- The block as the end of a context's activation finds it. -/
def Block.concluded (b : Block) (c : Nat) (x : Ctx) (status : Nat) (value : W64) (unfound : Nat) : Block :=
  let t := b.entriesFreed c status value
  let y := x.over status t.timeNs
  ((t.writtenBack c y status value).withRecord c y status value unfound).tellSuccessors c y status

section
variable {b : Block} {c : Nat} {x : Ctx}

theorem Block.complete_eq {status : Nat} {value : W64} {unfound : Nat} {y : Ctx} (hctx : b.ctx? c = some x) (hroll : b.cont.roll = none)
    (hy : (b.concluded c x status value unfound).ctx? c = some y) :
    b.complete c status value unfound = (b.concluded c x status value unfound).completionEnd c y status unfound := by
  have hrep : b.repeats c status value = false := by simp only [Block.repeats, hroll]
  have hdiv : b.diverge c = b := by simp only [Block.diverge, hroll]
  unfold Block.complete
  rw [hctx]
  dsimp -zeta only
  extract_lets again b1 b2 b3 dep desc x1 b4 b5 b6 flags q b7 told b8 wait z
  have hagain : again = false := hrep
  have h3 : b3 = b.entriesFreed c status value := by
    simp only [b3, b2, b1, hagain, Bool.false_eq_true, if_false, hdiv]
    rfl
  have hx : x1 = x.over status b3.timeNs := by
    simp only [x1, desc, hagain, Bool.false_eq_true, if_false]
    rfl
  have h6 : b6 = b3.writtenBack c x1 status value := rfl
  have h7 : b7 = b6.withRecord c x1 status value unfound := by
    simp only [b7, hagain, Bool.false_eq_true, if_false]
    rfl
  have h8 : b8 = b.concluded c x status value unfound := by
    simp only [b8, told, hagain, Bool.not_false, Bool.true_and]
    rw [h7, h6, hx, h3]
    rfl
  have hz : z = y := by
    simp only [z, h8, hy]
  rw [← h8, ← hz]
  rfl

theorem Block.entriesFreed_aside (b : Block) (c status : Nat) (value : W64) : AsideKept b (b.entriesFreed c status value) :=
  ((b.freeEntries_aside c).trans (Block.abortParks_aside _ c)).trans (Block.decide_aside _ c _)

theorem Block.writtenBack_aside {y : Ctx} (hctx : b.ctx? c = some x) (h : y.activation = x.activation) (status : Nat) (value : W64) :
    AsideKept b (b.writtenBack c y status value) := by
  have hwrite (t : Block) : AsideKept t (t.writeBack c y status value) :=
    ((t.stopWrite_aside _ _).trans (Block.stopWrite_aside _ _ _)).trans (Block.stopWrite_aside _ _ _)
  exact (((asideKept_setCtx hctx h).trans (hwrite _)).trans (asideKept_bump _ 2)).trans (asideKept_bumpIf _ (status = 2) 4)

theorem Block.withRecord_aside (b : Block) (c : Nat) (x : Ctx) (status : Nat) (value : W64) (unfound : Nat) :
    AsideKept b (b.withRecord c x status value unfound) :=
  ⟨rfl, rfl, recordsKept_append b _ _, settingsKept_of_regs rfl, fun _ => rfl⟩

theorem Block.tellSuccessors_aside (b : Block) (c : Nat) (x : Ctx) (status : Nat) : AsideKept b (b.tellSuccessors c x status) := by
  unfold Block.tellSuccessors
  split
  · refine asideKept_foldl (fun t w => ?_) _ b
    split
    · exact asideKept_refl t
    · split
      · split
        · exact asideKept_of_host rfl rfl (settingsKept_of_regs rfl) fun _ => rfl
        · exact t.decrement_aside _
      · exact t.notify_aside _ _
  · exact asideKept_refl b

/-- Before the end of its activation a completion leaves all that `AsideKept` names, and queues the context's record. -/
theorem Block.concluded_aside (hctx : b.ctx? c = some x) (status : Nat) (value : W64) (unfound : Nat) :
    AsideKept b (b.concluded c x status value unfound) ∧ (b.concluded c x status value unfound).recorded c x status value := by
  have hfreed := b.entriesFreed_aside c status value
  obtain ⟨y, hy, hrearm, hstarted⟩ := hfreed.resident hctx
  have hact : (x.over status (b.entriesFreed c status value).timeNs).activation = y.activation := by
    rw [Ctx.activation, Ctx.activation, hrearm, hstarted]
    rfl
  have htold := Block.tellSuccessors_aside (((b.entriesFreed c status value).writtenBack c (x.over status (b.entriesFreed c status value).timeNs)
    status value).withRecord c (x.over status (b.entriesFreed c status value).timeNs) status value unfound) c
    (x.over status (b.entriesFreed c status value).timeNs) status
  refine ⟨((hfreed.trans (Block.writtenBack_aside hy hact status value)).trans (Block.withRecord_aside _ c _ status value unfound)).trans
    htold, htold.records.recorded (x := x) ?_⟩
  exact Block.recorded_setCq _ c (x.over status (b.entriesFreed c status value).timeNs) status value _ _ _

-- The end of an activation (R262, R271)

theorem Block.ctx_leave_ne (b : Block) {c k : Nat} (x : Ctx) (h : k ≠ c) : (b.leave c x).ctx? k = b.ctx? k := by
  have hwrite : (b.writeDep c x.desc.dep).disp = b.disp := (b.stopWrite_frame _ _).disp
  show SMap.find? (SMap.erase (b.writeDep c x.desc.dep).disp.ctxs c) k = _
  rw [SMap.find?_erase_ne _ h, hwrite]
  rfl

/-- A context that arms itself again keeps its place and its CRING, and waits for its next start. -/
theorem Block.rearm_effect (hctx : b.ctx? c = some x) :
    WorkFrame c [colirCnt 5, dispCnt 0, dispCnt 9] b (b.rearm c) ∧
    ∃ y, (b.rearm c).ctx? c = some y ∧ y.started = false ∧ y.seq = x.seq ∧ y.cring = x.cring ∧ 1 ≤ y.state ∧ y.state ≤ 3 := by
  unfold Block.rearm
  rw [hctx]
  dsimp -zeta only
  extract_lets d due late d' armed y b1
  have h1 : WorkFrame c [colirCnt 5, dispCnt 0, dispCnt 9] b b1 := workFrame_bumpIf c b (late = true) (by simp)
  have h2 := (h1.trans (workFrame_setCtx _ b1 c y)).trans (workFrame_bump c (b1.setCtx c y) (off := dispCnt 0) (by simp))
  have h3 := h2.trans ((Block.decide_work ((b1.setCtx c y).bump (dispCnt 0)) c c .arm).mono (by simp))
  generalize hb3 : ((b1.setCtx c y).bump (dispCnt 0)).decide_ c .arm = b3 at h3
  have hy : b3.ctx? c = some y := by
    rw [← hb3, Block.decide_ctx, Block.bump_ctx, Block.ctx_setCtx_same]
  obtain ⟨hlo, hhi⟩ := y.settled_armed b3.disp.tickNow b3.disp.readySeq rfl
  obtain ⟨-, hstarted, hseq, hcring⟩ := y.settled_keeps b3.disp.tickNow b3.disp.readySeq
  exact ⟨h3.trans ((b3.settleDep_work c).mono (by simp)), _, Block.settleDep_ctx hy, hstarted, hseq, hcring, hlo, hhi⟩

end

/-- A context that ends so has to stand in quarantine first (R271). -/
def Block.quarantines (b : Block) (x : Ctx) (status unfound : Nat) : Bool :=
  x.started && min (b.rf 0x400014 9 0) 1000 ≠ 0 && (status == 1 || status == 3 || unfound ≠ 0)

section
variable {b : Block} {c status unfound : Nat} {x : Ctx}

/-- Outside a rollback a completion queues the context's record, and its activation then ends in quarantine, armed again, or with the
context IDLE. -/
theorem Block.complete_cases (hctx : b.ctx? c = some x) (hroll : b.cont.roll = none) (status : Nat) (value : W64) (unfound : Nat) :
    ∃ (t : Block) (y : Ctx), AsideKept b t ∧ t.recorded c x status value ∧ t.ctx? c = some y ∧
      b.complete c status value unfound =
        if b.quarantines x status unfound then
          t.setCtx c { y with state := 7, when_ := b.now + min (b.rf 0x400014 9 0) 1000 * 1000000, timer := false }
        else if x.rearm then t.rearm c else t.leave c y := by
  obtain ⟨haside, hrec⟩ := Block.concluded_aside hctx status value unfound
  obtain ⟨y, hy, hrearm, hstarted⟩ := haside.resident hctx
  have hwait : (b.concluded c x status value unfound).rf 0x400014 9 0 = b.rf 0x400014 9 0 :=
    congrArg (bits · 9 0) (haside.settings _ (by decide) (by decide))
  refine ⟨_, y, haside, hrec, hy, ?_⟩
  rw [Block.complete_eq hctx hroll hy, Block.completionEnd, hwait, haside.now, hrearm, hstarted]
  rfl

/-- A context that owes quarantine enters it as it completes. -/
theorem Block.complete_quarantined (hctx : b.ctx? c = some x) (hroll : b.cont.roll = none) (value : W64)
    (hq : b.quarantines x status unfound = true) :
    ∃ y, (b.complete c status value unfound).ctx? c = some y ∧ y.state = 7 ∧
      y.when_ = b.now + min (b.rf 0x400014 9 0) 1000 * 1000000 ∧ (b.complete c status value unfound).recorded c x status value := by
  obtain ⟨t, y, -, hrec, -, hend⟩ := Block.complete_cases hctx hroll status value unfound
  rw [if_pos hq] at hend
  rw [hend]
  exact ⟨_, t.ctx_setCtx_same c _, rfl, rfl, hrec⟩

/-- A context that owes none and is not armed again is gone once it has completed. -/
theorem Block.complete_gone (hctx : b.ctx? c = some x) (hroll : b.cont.roll = none) (value : W64)
    (hq : b.quarantines x status unfound = false) (hrearm : x.rearm = false) :
    (b.complete c status value unfound).ctx? c = none ∧ (b.complete c status value unfound).recorded c x status value ∧
    ∀ r, (b.complete c status value unfound).sq r = b.sq r := by
  obtain ⟨t, y, haside, hrec, -, hend⟩ := Block.complete_cases hctx hroll status value unfound
  rw [hq, hrearm, if_neg Bool.false_ne_true, if_neg Bool.false_ne_true] at hend
  rw [hend]
  have hhost := t.leave_host c y
  exact ⟨t.ctx_leave c y, Block.recorded_of_host hhost hrec, fun r => by rw [Block.sq, hhost]; exact haside.sq r⟩

/-- A context that owes none and is armed again waits for its next start. -/
theorem Block.complete_rearmed (hctx : b.ctx? c = some x) (hroll : b.cont.roll = none) (value : W64)
    (hq : b.quarantines x status unfound = false) (hrearm : x.rearm = true) :
    (b.complete c status value unfound).recorded c x status value ∧
    ∃ y, (b.complete c status value unfound).ctx? c = some y ∧ y.started = false ∧ 1 ≤ y.state ∧ y.state ≤ 3 := by
  obtain ⟨t, y, -, hrec, hy, hend⟩ := Block.complete_cases hctx hroll status value unfound
  rw [hq, hrearm, if_neg Bool.false_ne_true, if_pos rfl] at hend
  rw [hend]
  obtain ⟨hwork, z, hz, hstarted, -, -, hlo, hhi⟩ := Block.rearm_effect hy
  exact ⟨Block.recorded_of_host hwork.host hrec, z, hz, hstarted, hlo, hhi⟩

end

end Sys2Proof.Machine

/-! Ticks, timers and changes of DEP: TICK, DISPATCH_TICK_WRITE, TIMER_DUE, SET_COUNTER and DEP_DECREMENT (R255 to R262, R359, R363). -/

namespace Sys2Proof

/-- A number written in some bytes reads back modulo what they hold. -/
theorem ofBytes_leBytes (n v : Nat) : ofBytes (leBytes n v) = v % 256 ^ n := by
  induction n generalizing v with
  | zero => simp [leBytes, ofBytes, Nat.mod_one]
  | succ n ih =>
    have hsplit := Nat.mod_mul (x := v) (a := 256) (b := 256 ^ n)
    rw [leBytes, ofBytes, ih, BitVec.toNat_ofNat, Nat.pow_succ' (m := 256)]
    exact hsplit.symm

theorem ofBytes_lt (bs : List Byte) : ofBytes bs < 256 ^ bs.length := by
  induction bs with
  | nil => simp [ofBytes]
  | cons b bs ih =>
    have hb := b.isLt
    rw [ofBytes, List.length_cons, Nat.pow_succ]
    omega

end Sys2Proof

namespace Sys2Proof.Machine

-- Ticks (R258)

/-- The passing of time to a TIME_NS leaves all but the time. -/
theorem Block.passToNs_frame (b : Block) (t : Nat) : TimeFrame b (b.passToNs t) := by
  unfold Block.passToNs
  refine List.foldlRecOn (motive := fun c => TimeFrame b c) _ _ rfl fun c hc _ _ => ?_
  split
  · obtain ⟨n, u, h⟩ := c.pass_eq (t - c.timeNs)
    rw [h]
    unfold TimeFrame at hc ⊢
    rw [hc]
  · exact hc

/-- With no offset to slew out, time passes to just that TIME_NS. -/
theorem Block.passToNs_reached {b : Block} {t : Nat} (hslew : b.time.slew = 0) (hle : b.timeNs ≤ t) (hlt : t < 2 ^ 64) :
    (b.passToNs t).timeNs = t := by
  have hstep (c : Block) (hc : c.time.slew = 0) (hct : c.timeNs ≤ t) :
      (if c.timeNs < t then c.pass (t - c.timeNs) else c).timeNs = t ∧
        (if c.timeNs < t then c.pass (t - c.timeNs) else c).time.slew = 0 := by
    split
    · rw [Block.pass, if_pos hc]
      exact ⟨by dsimp only; rw [Nat.add_sub_cancel' hct, Nat.mod_eq_of_lt hlt], hc⟩
    · exact ⟨by omega, hc⟩
  have hfirst := hstep b hslew hle
  have hrest := List.foldlRecOn (motive := fun c : Block => c.timeNs = t ∧ c.time.slew = 0) [1, 2, 3]
    (fun c _ => if c.timeNs < t then c.pass (t - c.timeNs) else c) hfirst fun c hc _ _ => hstep c hc.2 hc.1.le
  exact hrest.1

section
variable {s : State}

theorem tick_effect (hup : s.blk.up = true) :
    ∃ t, Completes .tick s t ∧ t.disp.tickNow = (s.blk.disp.tickNow + 1) % 2 ^ 32 ∧
      t.disp.nextTick = s.blk.disp.nextTick + s.blk.tickPeriod ∧
      (s.blk.time.slew = 0 → s.blk.timeNs ≤ s.blk.disp.nextTick → s.blk.disp.nextTick < 2 ^ 64 → t.timeNs = s.blk.disp.nextTick) ∧
      t.disp.ctxs = s.blk.disp.ctxs ∧ t.regs = s.blk.regs ∧ t.mem = s.blk.mem := by
  have hframe := s.blk.passToNs_frame s.blk.disp.nextTick
  have hdisp : (s.blk.passToNs s.blk.disp.nextTick).disp = s.blk.disp := by rw [hframe]
  have hregs : (s.blk.passToNs s.blk.disp.nextTick).regs = s.blk.regs := by rw [hframe]
  have hperiod : (s.blk.passToNs s.blk.disp.nextTick).tickPeriod = s.blk.tickPeriod := by
    simp only [Block.tickPeriod, Block.rf, Block.reg, hregs]
  refine ⟨_, completes_of_actUp_eq (execTick.eq_1 s) hup rfl, ?_, ?_, fun hslew hle hlt => Block.passToNs_reached hslew hle hlt, ?_, hregs, ?_⟩
  · dsimp only
    rw [hdisp]
  · dsimp only
    rw [hdisp, hperiod]
  · dsimp only
    rw [hdisp]
  · dsimp only
    rw [hframe]

theorem dispatchTickWrite_effect (value : W32) (hup : s.blk.up = true) :
    ∃ t, Completes (.dispatchTickWrite value) s t ∧ t.reg 0x40000C = value.toNat % 1024 ∧ SameRegs s.blk t [0x40000C] ∧
      t.disp.nextTick = (s.blk.timeNs / t.tickPeriod + 1) * t.tickPeriod ∧ t.disp.tickNow = s.blk.disp.tickNow ∧ t.mem = s.blk.mem := by
  refine ⟨_, completes_of_actUp_eq (execDispatchTickWrite.eq_1 value s) hup rfl, ?_, sameRegs_setReg s.blk 0x40000C _, rfl, rfl, rfl⟩
  refine (s.blk.reg_setReg_same 0x40000C (value.toNat % 1024)).trans (Nat.mod_eq_of_lt ?_)
  exact (Nat.mod_lt _ (by decide)).trans (by decide)

end

-- Timers (R259 to R262)

/-- A fold that picks one of a list picks a member. -/
theorem foldl_pick_mem {α : Type} {f : Option α → α → Option α} (hf : ∀ o e, f o e = some e ∨ f o e = o) (l : List α) {a : α}
    (h : l.foldl f none = some a) : a ∈ l := by
  have hmem := List.foldlRecOn (motive := fun o : Option α => ∀ e, o = some e → e ∈ l) l f (fun _ he => absurd he (Option.some_ne_none _).symm)
    fun o ho x hx e he => by
      rcases hf o x with h | h
      · rw [h] at he
        exact Option.some.inj he ▸ hx
      · exact ho e (h ▸ he)
  exact hmem a h

/-- The timer that is acted on next is one that runs, of a context in WAITING or DELAYED. -/
theorem Block.nextTimer_waits {b : Block} {c : Nat} {x : Ctx} (h : b.nextTimer = some (c, x)) : x.state = 1 ∨ x.state = 2 := by
  unfold Block.nextTimer at h
  have hmem := foldl_pick_mem (fun o e => by
    dsimp only
    split
    · exact .inl rfl
    · split
      · exact .inl rfl
      · exact .inr rfl) _ h
  have hruns := (List.mem_filter.1 hmem).2
  simp only [Bool.and_eq_true, Bool.or_eq_true, beq_iff_eq] at hruns
  obtain ⟨⟨⟨-, hstate⟩, -⟩, -⟩ := hruns
  exact hstate

/-- The block with a context's timer off and the decision journaled. -/
def Block.timerTaken (b : Block) (c : Nat) (x : Ctx) : Block := (b.setCtx c { x with timer := false }).decide_ c .timerDue

section
variable {s : State} {c : Nat} {x : Ctx}

theorem timerDue_completes (hup : s.blk.up = true) (hnext : s.blk.nextTimer = some (c, x))
    (hroom : s.blk.journalRoom (.disp c .timerDue) = true) :
    Completes .timerDue s (if x.state = 2 ∧ x.desc.dep = 0 then (s.blk.timerTaken c x).makeReady c
      else if x.desc.tmode = 2 then (s.blk.timerTaken c x).complete c 2 0 0 else (s.blk.timerTaken c x).settleDep c) := by
  refine completes_of_actUp_eq (execTimerDue.eq_1 s) hup ?_
  rw [hnext]
  exact Block.withRoom_of_room hroom _

theorem Block.timerTaken_work (b : Block) (c : Nat) (x : Ctx) : WorkFrame c [colirCnt 5] b (b.timerTaken c x) :=
  (workFrame_setCtx _ b c _).trans (Block.decide_work _ c c _)

theorem Block.timerTaken_ctx (b : Block) (c : Nat) (x : Ctx) : (b.timerTaken c x).ctx? c = some { x with timer := false } := by
  rw [Block.timerTaken, Block.decide_ctx, Block.ctx_setCtx_same]

theorem timerDue_ready (hup : s.blk.up = true) (hnext : s.blk.nextTimer = some (c, x))
    (hroom : s.blk.journalRoom (.disp c .timerDue) = true) (hst : x.state = 2) (hdep : x.desc.dep = 0) :
    ∃ t, Completes .timerDue s t ∧
      t.ctx? c = some { x with state := 3, readySeq := s.blk.disp.readySeq, timer := false, blocked := false } ∧
      (∀ k, k ≠ c → t.ctx? k = s.blk.ctx? k) ∧ t.mem = s.blk.mem := by
  have hdone := timerDue_completes hup hnext hroom
  rw [if_pos ⟨hst, hdep⟩] at hdone
  have hwork := (s.blk.timerTaken_work c x).trans (Block.makeReady_work _ c)
  refine ⟨_, hdone, ?_, hwork.others, hwork.mem⟩
  rw [Block.makeReady_ctx (s.blk.timerTaken_ctx c x), Block.timerTaken, (Block.decide_dispKept _ _ _).1]
  rfl

theorem timerDue_waits (hup : s.blk.up = true) (hnext : s.blk.nextTimer = some (c, x))
    (hroom : s.blk.journalRoom (.disp c .timerDue) = true) (hmode : x.desc.tmode ≠ 2) (hdep : x.desc.dep ≠ 0) :
    ∃ t, Completes .timerDue s t ∧ t.ctx? c = some { x with state := 1, timer := false } ∧
      (∀ k, k ≠ c → t.ctx? k = s.blk.ctx? k) ∧ t.mem = s.blk.mem := by
  have hdone := timerDue_completes hup hnext hroom
  rw [if_neg fun h => hdep h.2, if_neg hmode] at hdone
  have hwork := (s.blk.timerTaken_work c x).trans (Block.settleDep_work _ c)
  refine ⟨_, hdone, ?_, hwork.others, hwork.mem⟩
  rw [Block.settleDep_ctx (s.blk.timerTaken_ctx c x), Ctx.settled]
  rcases Block.nextTimer_waits hnext with h1 | h2
  · rw [if_neg (by simp [h1]), if_pos (.inr hdep)]
    simp [← h1]
  · rw [if_pos ⟨h2, hdep⟩]

theorem timerDue_timeout (hup : s.blk.up = true) (hnext : s.blk.nextTimer = some (c, x)) (hroll : s.blk.cont.roll = none)
    (hroom : s.blk.journalRoom (.disp c .timerDue) = true) (hmode : x.desc.tmode = 2) (hheld : ¬(x.state = 2 ∧ x.desc.dep = 0)) :
    ∃ t, Completes .timerDue s t ∧ t.recorded c x 2 0 ∧ (x.rearm = false → t.ctx? c = none) ∧
      (x.rearm = true → ∃ y, t.ctx? c = some y ∧ y.started = false ∧ 1 ≤ y.state ∧ y.state ≤ 3) := by
  have hdone := timerDue_completes hup hnext hroom
  rw [if_neg hheld, if_pos hmode] at hdone
  have hctx := s.blk.timerTaken_ctx c x
  have hroll' : (s.blk.timerTaken c x).cont.roll = none := (s.blk.timerTaken_work c x).roll.trans hroll
  have hq : (s.blk.timerTaken c x).quarantines { x with timer := false } 2 0 = false := by simp [Block.quarantines]
  refine ⟨_, hdone, ?_, fun hrearm => (Block.complete_gone hctx hroll' 0 hq hrearm).1,
    fun hrearm => (Block.complete_rearmed hctx hroll' 0 hq hrearm).2⟩
  cases hrearm : x.rearm with
  | false =>
    obtain ⟨-, hrec, -⟩ := Block.complete_gone hctx hroll' 0 hq hrearm
    exact hrec
  | true =>
    obtain ⟨hrec, -⟩ := Block.complete_rearmed hctx hroll' 0 hq hrearm
    exact hrec

end

-- DEP in the descriptor (R255)

theorem Block.loadLe_answered {b : Block} (h : b.stops.lost = []) (ma n : Nat) : b.loadLe ma n = ofBytes (memRead b.mem ma n) := by
  simp [Block.loadLe, Block.loadBytes, Block.readByte, Block.onLost, h, memRead]

theorem Block.stopWrite_lost (b : Block) (ma : Nat) (bs : List Byte) : (b.stopWrite ma bs).stops.lost = b.stops.lost := by
  have hready : (b.readiedFor (linesOf ma bs.length)).stops.lost = b.stops.lost := (b.readiedFor_mem _).2
  unfold Block.stopWrite
  split
  · exact congrArg MemUnit.lost (b.bump_stops (memCnt 2) 1)
  · dsimp only
    split <;> exact hready

section
variable {b : Block} {c : Nat}

theorem Block.depInMemory.absent (h : b.depInMemory c) : b.ctx? c = none := by
  obtain ⟨hctx, -⟩ := h
  exact hctx

theorem Block.depInMemory.defined (h : b.depInMemory c) : b.defined c = true := by
  obtain ⟨-, hdef, -⟩ := h
  exact hdef

theorem Block.depInMemory.answered (h : b.depInMemory c) : b.stops.lost = [] := by
  obtain ⟨-, -, -, hlost, -⟩ := h
  exact hlost

/-- A read of DEP in the descriptor gives it as it stands, and leaves the rest. -/
theorem Block.readDep_memory (h : b.depInMemory c) :
    b.readDep c = ((b.stopRead (b.descMa c + 8) 4).1, b.loadLe (b.descMa c + 8) 4) ∧
    (b.stopRead (b.descMa c + 8) 4).2.1 = memRead b.mem (b.descMa c + 8) 4 ∧ ReadKept b (b.stopRead (b.descMa c + 8) 4).1 := by
  obtain ⟨hctx, -, -, hlost, hbad, harm, hin⟩ := h
  have hsound : ∀ l ∈ linesOf (b.descMa c + 8) 4, b.stops.bad.contains l = false := fun l _ => by rw [hbad]; rfl
  have hbytes := Block.stopRead_bytes harm hsound hlost (by omega)
  refine ⟨?_, by rw [hbytes], Block.stopRead_kept harm hsound⟩
  rw [b.loadLe_answered hlost, Block.readDep, hctx]
  exact congrArg (fun p => (_, ofBytes p)) (congrArg Prod.fst hbytes)

/-- A change of the DEP of a context that is not resident. -/
theorem Block.changeDep_memory (h : b.depInMemory c) (sub : Bool) (n : Nat) :
    (b.changeDep c sub n).2 = (b.loadLe (b.descMa c + 8) 4, newDep sub n (b.loadLe (b.descMa c + 8) 4)) ∧
    DispKept b (b.changeDep c sub n).1 ∧ (b.changeDep c sub n).1.stops.lost = [] ∧
    (b.changeDep c sub n).1.loadLe (b.descMa c + 8) 4 = newDep sub n (b.loadLe (b.descMa c + 8) 4) % 2 ^ 32 := by
  obtain ⟨-, hbytes, hkept⟩ := Block.readDep_memory h
  obtain ⟨hctx, -, hwf, hlost, -, -, hin⟩ := h
  have hread := b.stopRead_dispKept (b.descMa c + 8) 4 0
  unfold Block.changeDep
  rw [hctx]
  dsimp only
  rw [hbytes, ← b.loadLe_answered hlost]
  generalize (b.stopRead (b.descMa c + 8) 4).1 = b1 at hkept hread
  generalize b.loadLe (b.descMa c + 8) 4 = d
  have hbump := workFrame_bumpIf (but := [dispCnt 5]) c b1 (sub = true ∧ d < n) (off := dispCnt 5) (by simp)
  have hbumped := dispKept_bumpIf b1 (sub = true ∧ d < n) (dispCnt 5)
  generalize (if sub = true ∧ d < n then b1.bump (dispCnt 5) else b1) = b2 at hbump hbumped
  have hma : b2.descMa c = b.descMa c := by
    have hreg : b2.reg 0x400004 = b.reg 0x400004 := (hbump.reg (by decide)).trans (hkept.reg (.inl (by decide)))
    simp only [Block.descMa, Block.rf, hreg]
  have hdecide := (b2.writeDep c (newDep sub n d)).decide_work c c (.dep (newDep sub n d) (if sub = true then n else 0))
  have hmem2 : b2.mem = b.mem := hbump.mem.trans hkept.mem
  have hlost2 : b2.stops.lost = [] := by
    rw [hbump.rest]
    exact hkept.lost.trans hlost
  have hlost3 : (b2.writeDep c (newDep sub n d)).stops.lost = [] := (Block.stopWrite_lost _ _ _).trans hlost2
  have hlost4 : ((b2.writeDep c (newDep sub n d)).decide_ c (.dep (newDep sub n d) (if sub = true then n else 0))).stops.lost = [] := by
    rw [hdecide.rest]
    exact hlost3
  refine ⟨rfl, ((hread.trans hbumped).trans (b2.stopWrite_frame _ _).dispKept).trans (Block.decide_dispKept _ _ _), hlost4, ?_⟩
  change Block.loadLe (Block.decide_ (Block.writeDep b2 c (newDep sub n d)) c (.dep (newDep sub n d) _)) _ 4 = _
  rw [Block.loadLe_answered hlost4, hdecide.mem, Block.writeDep, hma, Block.stopWrite_mem _ (by rw [leBytes_length]; omega) hlost2, hmem2]
  have hback := memRead_memWrite b.mem (b.descMa c + 8) (leBytes 4 (newDep sub n d)) ((b.memOk_iff.1 hwf).1)
  rw [leBytes_length] at hback
  rw [hback, ofBytes_leBytes, show 256 ^ 4 = 2 ^ 32 from rfl]

end

-- SET_COUNTER (R255, R359, R363)

theorem Block.depWaits_free {b : Block} {c : Nat} (harm : ∀ a ∈ b.disp.arming, a.ctx ≠ c) (hroll : b.cont.roll = none) :
    b.depWaits c = false := by
  have harming : (b.disp.arming.any fun a => a.ctx == c) = false := List.any_eq_false.2 fun a ha => by simpa using harm a ha
  rw [Block.depWaits, harming, Block.inClosure, hroll]
  rfl

/-- The two commands of a SET_COUNTER job. -/
def counterInstr (r : Fin 64) (sub : Bool) : Instr := if sub then .setCounterSub r else .setCounterSet r

section
variable {s : State} {r : Fin 64} {j : Job} {sub : Bool}

theorem setCounter_completes (hj : s.blk.starts r 6 j) (hmode : j.byte 20 = b2n sub) :
    Completes (counterInstr r sub) s (s.blk.setCounter r j) := by
  cases sub with
  | false =>
    refine completes_of_act_eq (execSetCounterSet.eq_1 r s) ((hj.startJob rfl _).trans ?_)
    rw [if_neg (by rw [hmode]; decide)]
  | true =>
    refine completes_of_act_eq (execSetCounterSub.eq_1 r s) ((hj.startJob rfl _).trans ?_)
    rw [hmode]
    exact if_pos rfl

theorem setCounter_badMode (hj : s.blk.starts r 6 j) (hmode : 2 ≤ j.byte 20) :
    Completes (.setCounterSet r) s (s.blk.finishJob r j.index 12 0 0) := by
  refine completes_of_act_eq (execSetCounterSet.eq_1 r s) ((hj.startJob rfl _).trans ?_)
  rw [if_neg (by omega), Block.setCounter]
  dsimp only
  rw [if_pos hmode]

end

section
variable {b : Block} {r c v : Nat} {j : Job} {sub : Bool}

/-- A SET_COUNTER of a context that is not defined. -/
theorem Block.setCounter_undefined (hc : j.arg 16 4 % 2 ^ 20 = c) (hmode : j.byte 20 = b2n sub) (hfree : b.depWaits c = false)
    (hctx : b.ctx? c = none) (hdef : b.defined c = false) : b.setCounter r j = b.finishJob r j.index 1 0 0 := by
  have hlow : ¬ 2 ≤ j.byte 20 := by rw [hmode]; cases sub <;> decide
  unfold Block.setCounter
  rw [hc]
  simp [hlow, hfree, hctx, hdef]

/-- A SET_COUNTER of a context that is defined: a subtraction of 0 reads DEP alone, and any other one changes it. -/
theorem Block.setCounter_known (hc : j.arg 16 4 % 2 ^ 20 = c) (hv : j.arg 24 4 = v) (hmode : j.byte 20 = b2n sub)
    (hfree : b.depWaits c = false) (hdef : ((b.ctx? c).isNone && !b.defined c) = false)
    (hroom : b.journalRoom (.disp c (.dep 0 0)) = true) :
    b.setCounter r j = if sub = true ∧ v = 0 then (b.readDep c).1.finishJob r j.index 0 (b.readDep c).2 (b.readDep c).2
      else (b.changeDep c sub v).1.finishJob r j.index 0 (b.changeDep c sub v).2.2 (b.changeDep c sub v).2.1 := by
  have hlow : ¬ 2 ≤ j.byte 20 := by rw [hmode]; cases sub <;> decide
  have hsub : (j.byte 20 == 1) = sub := by rw [hmode]; cases sub <;> rfl
  have hone : (j.byte 20 = 1 ∧ v = 0) ↔ (sub = true ∧ v = 0) := by rw [hmode]; cases sub <;> simp [b2n]
  unfold Block.setCounter
  rw [hc, hv]
  dsimp only
  rw [if_neg hlow, hfree, if_neg Bool.false_ne_true, hdef, if_neg Bool.false_ne_true, Block.withRoom_of_room hroom, hsub]
  exact if_congr hone rfl rfl

end

section
variable {s : State} {r : Fin 64} {j : Job} {sub : Bool} {c v : Nat}

/-- The hypotheses of a SET_COUNTER that acts on a context. -/
structure CounterJob (s : State) (r : Fin 64) (j : Job) (sub : Bool) (c v : Nat) : Prop where
  starts : s.blk.starts r 6 j
  mode : j.byte 20 = b2n sub
  ctx : j.arg 16 4 % 2 ^ 20 = c
  value : j.arg 24 4 = v
  free : s.blk.depWaits c = false
  room : s.blk.journalRoom (.disp c (.dep 0 0)) = true

/-- SET_COUNTER on a resident context. -/
theorem CounterJob.resident (h : CounterJob s r j sub c v) {x : Ctx} (hctx : s.blk.ctx? c = some x) :
    ∃ t, Completes (counterInstr r sub) s t ∧ t.ended r j 0 (newDep sub v x.desc.dep) x.desc.dep ∧
      t.ctx? c = some (if sub = true ∧ v = 0 then x else s.blk.afterDep x (newDep sub v x.desc.dep) (if sub then v else 0)) ∧
      (sub = true → x.desc.dep < v → t.reg (dispCnt 5) = satAdd (s.blk.reg (dispCnt 5)) 1) ∧
      (∀ k, k ≠ c → t.ctx? k = s.blk.ctx? k) ∧ t.mem = s.blk.mem := by
  have hdone := setCounter_completes h.starts h.mode
  rw [Block.setCounter_known h.ctx h.value h.mode h.free (by simp [hctx]) h.room] at hdone
  have hjob := h.starts.job_mem
  have hopen := h.starts.not_done
  by_cases hzero : sub = true ∧ v = 0
  · have hread : s.blk.readDep c = (s.blk, x.desc.dep) := by simp only [Block.readDep, hctx]
    have hsame : newDep sub v x.desc.dep = x.desc.dep := by simp [newDep, hzero]
    rw [if_pos hzero, hread] at hdone
    refine ⟨_, hdone, ?_, ?_, fun _ hlt => absurd hlt (by omega), fun k _ => Block.finishJob_ctx .., Block.finishJob_mem ..⟩
    · rw [hsame]
      exact Block.finishJob_ended hjob hopen _ _ _
    · rw [if_pos hzero, Block.finishJob_ctx, hctx]
  · obtain ⟨hdep, hset, hwork, hunder⟩ := Block.changeDep_resident hctx sub v
    rw [if_neg hzero, hdep] at hdone
    refine ⟨_, hdone, ?_, ?_, fun hsub hlt => ?_, fun k hk => ?_, ?_⟩
    · exact Block.finishJob_ended (by rw [hwork.sq]; exact hjob) hopen _ _ _
    · rw [if_neg hzero, Block.finishJob_ctx, hset, Block.afterDep_eq]
    · rw [Block.finishJob_reg _ _ _ _ _ _ (by decide), hunder hsub hlt]
    · rw [Block.finishJob_ctx, hwork.others k hk]
    · rw [Block.finishJob_mem, hwork.mem]

/-- With every Stop answering, the end of a job leaves what they deliver. -/
theorem Block.finishJob_loadLe {b : Block} (hlost : b.stops.lost = []) (r index status result detail ma n : Nat) :
    (b.finishJob r index status result detail).loadLe ma n = b.loadLe ma n := by
  have hstops : (b.finishJob r index status result detail).stops = b.stops := by rw [(b.finishJob_jobFrame ..).rest]
  rw [Block.loadLe_answered (by rw [hstops]; exact hlost), Block.loadLe_answered hlost, Block.finishJob_mem]

/-- SET_COUNTER on a context that is not resident: DEP changes in its descriptor. -/
theorem CounterJob.inMemory (h : CounterJob s r j sub c v) (hin : s.blk.depInMemory c) :
    ∃ t, Completes (counterInstr r sub) s t ∧
      t.ended r j 0 (newDep sub v (s.blk.loadLe (s.blk.descMa c + 8) 4)) (s.blk.loadLe (s.blk.descMa c + 8) 4) ∧
      t.loadLe (s.blk.descMa c + 8) 4 = newDep sub v (s.blk.loadLe (s.blk.descMa c + 8) 4) % 2 ^ 32 ∧ t.disp.ctxs = s.blk.disp.ctxs := by
  have hdone := setCounter_completes h.starts h.mode
  rw [Block.setCounter_known h.ctx h.value h.mode h.free (by simp [hin.defined]) h.room] at hdone
  have hjob := h.starts.job_mem
  have hopen := h.starts.not_done
  have hlost := hin.answered
  by_cases hzero : sub = true ∧ v = 0
  · obtain ⟨hread, -, hkept⟩ := Block.readDep_memory hin
    have hdisp := s.blk.stopRead_dispKept (s.blk.descMa c + 8) 4 0
    have hsame : newDep sub v (s.blk.loadLe (s.blk.descMa c + 8) 4) = s.blk.loadLe (s.blk.descMa c + 8) 4 := by simp [newDep, hzero]
    have hlost' := hkept.lost.trans hlost
    rw [if_pos hzero, hread] at hdone
    refine ⟨_, hdone, ?_, ?_, ?_⟩
    · rw [hsame]
      refine Block.finishJob_ended ?_ hopen _ _ _
      rw [Block.sq, hdisp.2]
      exact hjob
    · rw [hsame, Block.finishJob_loadLe hlost', Block.loadLe_answered hlost', hkept.mem, Block.loadLe_answered hlost, Nat.mod_eq_of_lt]
      exact (ofBytes_lt _).trans_eq (by simp [memRead])
    · rw [Block.finishJob_ctxs, hdisp.1]
  · obtain ⟨hdep, hdisp, hlost', hload⟩ := Block.changeDep_memory hin sub v
    rw [if_neg hzero, hdep] at hdone
    refine ⟨_, hdone, Block.finishJob_ended (by rw [Block.sq, hdisp.2]; exact hjob) hopen _ _ _, ?_, ?_⟩
    · rw [Block.finishJob_loadLe hlost', hload]
    · rw [Block.finishJob_ctxs, hdisp.1]

end

-- DEP_DECREMENT (R255)

/-- The block with the decrement that waited longest taken off. -/
def Block.depTaken (b : Block) (rest : List Nat) : Block := { b with disp := { b.disp with depQ := rest } }

/-- A decrement that names a context that is not defined is counted and lost. -/
theorem Block.decrement_lost {b : Block} {c : Nat}
    (h : ((b.ctx? c).isSome = true ∧ b.ctxLimit ≤ c) ∨ (b.ctx? c = none ∧ b.defined c = false)) :
    b.decrement c = b.bump (dispCnt 6) := by
  rcases h with ⟨hctx, hlimit⟩ | ⟨hctx, hdef⟩
  · rw [Block.decrement, if_pos hctx, if_neg (Nat.not_lt.2 hlimit)]
  · simp [Block.decrement, hctx, hdef]

section
variable {s : State} {c : Nat} {rest : List Nat}

theorem depDecrement_completes (hup : s.blk.up = true) (hqueue : s.blk.disp.depQ = c :: rest) (hfree : s.blk.depWaits c = false)
    (hroom : s.blk.journalRoom (.disp c (.dep 0 0)) = true) : Completes .depDecrement s ((s.blk.depTaken rest).decrement c) := by
  refine completes_of_actUp_eq (execDepDecrement.eq_1 s) hup ?_
  rw [hqueue]
  dsimp only
  rw [hfree, if_neg Bool.false_ne_true, Block.withRoom_of_room hroom]
  rfl

theorem depDecrement_resident (hdone : Completes .depDecrement s ((s.blk.depTaken rest).decrement c)) {x : Ctx}
    (hctx : s.blk.ctx? c = some x) (hlimit : c < s.blk.ctxLimit) :
    ∃ t, Completes .depDecrement s t ∧ t.disp.depQ = rest ∧ t.ctx? c = some (s.blk.afterDep x (x.desc.dep - 1) 1) ∧
      (x.desc.dep = 0 → t.reg (dispCnt 5) = satAdd (s.blk.reg (dispCnt 5)) 1) ∧ (∀ k, k ≠ c → t.ctx? k = s.blk.ctx? k) ∧
      t.mem = s.blk.mem := by
  have htaken : (s.blk.depTaken rest).ctx? c = some x := hctx
  obtain ⟨-, hset, hwork, hunder⟩ := Block.changeDep_resident htaken true 1
  have hdec : (s.blk.depTaken rest).decrement c = ((s.blk.depTaken rest).changeDep c true 1).1 := by
    rw [Block.decrement, if_pos (by rw [htaken]; rfl)]
    exact if_pos hlimit
  rw [hdec] at hdone
  refine ⟨_, hdone, hwork.depQ, ?_, fun hzero => hunder rfl (by omega), hwork.others, hwork.mem⟩
  rw [hset]
  exact congrArg some (s.blk.afterDep_eq x true 1).symm

theorem depDecrement_inMemory (hdone : Completes .depDecrement s ((s.blk.depTaken rest).decrement c)) (hin : s.blk.depInMemory c) :
    ∃ t, Completes .depDecrement s t ∧ t.disp.depQ = rest ∧ t.disp.ctxs = s.blk.disp.ctxs ∧
      t.loadLe (s.blk.descMa c + 8) 4 = s.blk.loadLe (s.blk.descMa c + 8) 4 - 1 := by
  have htaken : (s.blk.depTaken rest).depInMemory c := hin
  obtain ⟨-, hdisp, -, hload⟩ := Block.changeDep_memory htaken true 1
  have hdec : (s.blk.depTaken rest).decrement c = ((s.blk.depTaken rest).changeDep c true 1).1 := by
    rw [Block.decrement, if_neg (by rw [htaken.absent]; exact Bool.false_ne_true), if_pos htaken.defined]
  rw [hdec] at hdone
  refine ⟨_, hdone, by rw [hdisp.1]; rfl, by rw [hdisp.1]; rfl, hload.trans (Nat.mod_eq_of_lt ?_)⟩
  have hlt := ofBytes_lt (memRead s.blk.mem (s.blk.descMa c + 8) 4)
  have hlen : (memRead s.blk.mem (s.blk.descMa c + 8) 4).length = 4 := by simp [memRead]
  rw [hlen] at hlt
  show s.blk.loadLe (s.blk.descMa c + 8) 4 - 1 < 2 ^ 32
  rw [Block.loadLe_answered hin.answered]
  omega

theorem depDecrement_lost (hdone : Completes .depDecrement s ((s.blk.depTaken rest).decrement c))
    (hundef : ((s.blk.ctx? c).isSome = true ∧ s.blk.ctxLimit ≤ c) ∨ (s.blk.ctx? c = none ∧ s.blk.defined c = false)) :
    ∃ t, Completes .depDecrement s t ∧ t.disp.depQ = rest ∧ t.reg (dispCnt 6) = satAdd (s.blk.reg (dispCnt 6)) 1 ∧
      t.disp.ctxs = s.blk.disp.ctxs ∧ t.mem = s.blk.mem := by
  rw [Block.decrement_lost (b := s.blk.depTaken rest) hundef] at hdone
  exact ⟨_, hdone, by rw [Block.bump_disp]; rfl, Block.reg_bump_one _ _, by rw [Block.bump_disp]; rfl, Block.bump_mem ..⟩

end

/-- Settles O27, command by command: ticks and timers, SET_COUNTER of a context in its entry or in its descriptor, and DEP_DECREMENT. -/
theorem counters : Obligations.Counters := by
  unfold Obligations.Counters
  refine ⟨?_, ?_, ?_, ?_⟩
  · intro s b hup
    refine ⟨tick_effect hup, fun value => dispatchTickWrite_effect value hup, fun c x hnext hroll hroom => ⟨?_, ?_, ?_⟩⟩
    · exact timerDue_ready hup hnext hroom
    · exact timerDue_waits hup hnext hroom
    · exact timerDue_timeout hup hnext hroll hroom
  · intro s r j sub b c v f cmd hj hmode hroll harm hroom
    have hfree : b.depWaits c = false := Block.depWaits_free harm hroll
    have hjob : CounterJob s r j sub c v := ⟨hj, hmode, rfl, rfl, hfree, hroom⟩
    refine ⟨fun x => hjob.resident, hjob.inMemory, fun hctx hdef => ?_⟩
    have hdone := setCounter_completes hj hmode
    rw [Block.setCounter_undefined rfl hmode hfree hctx hdef] at hdone
    exact ⟨_, hdone, Block.finishJob_ended hj.job_mem hj.not_done _ _ _, Block.finishJob_ctxs .., Block.finishJob_mem ..⟩
  · intro s r j hj hmode
    exact ⟨_, setCounter_badMode hj hmode, Block.finishJob_ended hj.job_mem hj.not_done _ _ _, Block.finishJob_ctxs .., Block.finishJob_mem ..⟩
  · intro s c rest b hup hqueue hroll harm hroom
    have hdone := depDecrement_completes hup hqueue (Block.depWaits_free harm hroll) hroom
    exact ⟨fun x => depDecrement_resident hdone, depDecrement_inMemory hdone, depDecrement_lost hdone⟩

end Sys2Proof.Machine

/-! Cancel, collection and quarantine: CANCEL_CTX, QUARTER_COLLECT, COLLECTION_DONE and QUARANTINE_END (R94, R95, R262, R269, R271). -/

namespace Sys2Proof.Machine

-- CANCEL_CTX (R269)

section
variable {b : Block} {c : Nat} {x : Ctx}

/-- A context that closes has every Quarter to collect from; the host's rings stand as they are. -/
theorem Block.close_ctx (hctx : b.ctx? c = some x) (cancelled : Bool) (status : Nat) :
    (b.close c cancelled status).ctx? c = some { x with
      state := 6, cancelled := cancelled, status := status, todo := b.collectors, held := false,
      span := { x.span with asked := true, askedAt := b.now, collected := [], gaveUp := false, orphans := 0 } } := by
  unfold Block.close
  rw [Block.tellAll_ctx, Block.ctx?, (Block.abortParks_frame _ c).1]
  exact Block.ctx_modCtx_same _ hctx

theorem Block.close_sq (b : Block) (c : Nat) (cancelled : Bool) (status r : Nat) : (b.close c cancelled status).sq r = b.sq r := by
  unfold Block.close
  dsimp only
  rw [(Block.tellAll_aside _ _ _ _ _ _).sq, (Block.abortParks_aside _ _).sq, Block.sq, b.modCtx_frame]
  rfl

/-- A cancel of a context that has not started: it is gone with status CANCELLED. -/
theorem Block.cancelCtx_waiting (hctx : b.ctx? c = some x) (hroll : b.cont.roll = none) (hst : x.state ≤ 3) (hfresh : x.started = false) :
    (b.cancelCtx c 1).2 = 0 ∧ (b.cancelCtx c 1).1.ctx? c = none ∧ (b.cancelCtx c 1).1.recorded c x 1 0 ∧
    ∀ r, (b.cancelCtx c 1).1.sq r = b.sq r := by
  have hdecide := b.decide_work c c .cancel
  obtain ⟨hgone, hrec, hsq⟩ := Block.complete_gone (status := 1) (unfound := 0) (x := { x with rearm := false })
    ((b.decide_ c .cancel).ctx_setCtx_same c _) (hdecide.roll.trans hroll) 0 (by simp [Block.quarantines, hfresh]) rfl
  have htold := Block.tellAll_aside (((b.decide_ c .cancel).setCtx c { x with rearm := false }).complete c 1 0 0)
    ((b.decide_ c .cancel).members c) 6 c 0 0
  unfold Block.cancelCtx
  rw [hctx]
  dsimp only
  rw [if_pos hst]
  refine ⟨rfl, ?_, htold.records.recorded hrec, fun r => ((htold.sq r).trans (hsq r)).trans (hdecide.sq r)⟩
  rw [Block.tellAll_ctx, hgone]

/-- A cancel of a started context sends it into collection. -/
theorem Block.cancelCtx_started (hctx : b.ctx? c = some x) (hlo : 4 ≤ x.state) (hhi : x.state ≤ 5) :
    (b.cancelCtx c 1).2 = 0 ∧ (∀ r, (b.cancelCtx c 1).1.sq r = b.sq r) ∧
    ∃ y, (b.cancelCtx c 1).1.ctx? c = some y ∧ y.state = 6 ∧ y.cancelled = true ∧ y.status = 1 ∧ y.rearm = false ∧
      y.todo = b.collectors := by
  have hdecide := b.decide_work c c .cancel
  have hcollect : ((b.decide_ c .cancel).setCtx c { x with rearm := false }).collectors = b.collectors := by
    show (b.decide_ c .cancel).collectors = _
    rw [hdecide.rest]
    rfl
  unfold Block.cancelCtx
  rw [hctx]
  dsimp only
  rw [if_neg (by omega), if_pos hhi]
  refine ⟨rfl, fun r => (Block.close_sq _ c true 1 r).trans (hdecide.sq r), _,
    Block.close_ctx ((b.decide_ c .cancel).ctx_setCtx_same c _) true 1, rfl, rfl, rfl, rfl, hcollect⟩

end

section
variable {s : State} {c : Nat} {x : Ctx} {r : Fin 64} {j : Job}

/-- A cancel that succeeds counts, and its job ends with the state the context was in. -/
theorem cancelCtx_completes (hj : s.blk.starts r 5 j) (hc : j.arg 16 4 % 2 ^ 20 = c) (harm : ∀ a ∈ s.blk.disp.arming, a.ctx ≠ c)
    (hroll : s.blk.cont.roll = none) (hroom : s.blk.journalRoom (.disp c .cancel) = true) (hctx : s.blk.ctx? c = some x)
    (hok : (s.blk.cancelCtx c 1).2 = 0) :
    Completes (.cancelCtx r) s (((s.blk.cancelCtx c 1).1.bump (dispCnt 3)).finishJob r j.index 0 x.state 0) := by
  have hfree : ((s.blk.disp.arming.any fun a => a.ctx == c) || s.blk.inClosure c) = false := Block.depWaits_free harm hroll
  have hstate : s.blk.ctxState c = x.state := by simp only [Block.ctxState, hctx]
  refine completes_of_act_eq (execCancelCtx.eq_1 r s) ((hj.startJob rfl _).trans ?_)
  rw [hc]
  dsimp only
  rw [hfree, if_neg Bool.false_ne_true, Block.withRoom_of_room hroom, hok, hstate, if_pos rfl]

/-- The job of a cancel that succeeds, and what its end leaves. -/
theorem cancelled_keeps {b t : Block} (hj : b.starts r 5 j) (hsq : ∀ r, t.sq r = b.sq r) (found : Nat) :
    ((t.bump (dispCnt 3)).finishJob r j.index 0 found 0).ended r j 0 found 0 ∧
    (∀ k, ((t.bump (dispCnt 3)).finishJob r j.index 0 found 0).ctx? k = t.ctx? k) ∧
    RecordsKept t ((t.bump (dispCnt 3)).finishJob r j.index 0 found 0) := by
  have hbump := asideKept_bump t 3
  refine ⟨Block.finishJob_ended ?_ hj.not_done _ _ _, fun k => ?_, hbump.records.trans (Block.finishJob_recordsKept _ r j.index 0 found 0)⟩
  · rw [hbump.sq, hsq]
    exact hj.job_mem
  · rw [Block.finishJob_ctx, Block.bump_ctx]

end

-- QUARTER_COLLECT (R94, R95)

/-- What the collection of operands as orphans leaves of a Quarter and of the context they belong to. -/
structure OrphansCounted (c n : Nat) (x : Ctx) (b t : Block) : Prop where
  qs : t.qs = b.qs
  mem : t.mem = b.mem
  ctx : ∃ y, t.ctx? c = some y ∧ y.orphans = x.orphans + n ∧ y.todo = x.todo ∧ y.cancelled = x.cancelled

section
variable {b : Block} {c q : Nat} {x : Ctx}

theorem Block.collectToken_orphan {t : Token} (htok : t.ctx = c) (hctx : b.ctx? c = some x) (horphan : x.cancelled = false) :
    OrphansCounted c 1 x b (b.collectToken q t) := by
  have hframe := b.consume_frame q c 1
  have hqs : (b.consume q c).qs = b.qs := by rw [hframe]
  have hctx' : (b.consume q c).ctx? c = some x := (b.ctx_consume_same q c 1).trans hctx
  unfold Block.collectToken
  rw [htok]
  dsimp only
  rw [hctx']
  dsimp only
  rw [if_neg (by rw [horphan]; exact Bool.false_ne_true)]
  split
  · exact ⟨(Block.bump_qs ..).trans hqs, (Block.bump_mem ..).trans hframe.mem, _, Block.ctx_setCtx_same _ c _, rfl, rfl, rfl⟩
  · exact ⟨(Block.bump_qs ..).trans hqs, (Block.bump_mem ..).trans hframe.mem, _, Block.ctx_setCtx_same _ c _, rfl, rfl, rfl⟩

theorem Block.collectTokens_orphans (os : List Operand) (hos : ∀ o ∈ os, o.tok.ctx = c) (hctx : b.ctx? c = some x)
    (horphan : x.cancelled = false) : OrphansCounted c os.length x b (os.foldl (fun b o => b.collectToken q o.tok) b) := by
  induction os generalizing b x with
  | nil => exact ⟨rfl, rfl, x, hctx, rfl, rfl, rfl⟩
  | cons o os ih =>
    obtain ⟨hqs, hmem, y, hy, hn, htodo, hcancel⟩ := Block.collectToken_orphan (q := q) (hos o (by simp)) hctx horphan
    obtain ⟨hqs', hmem', z, hz, hn', htodo', hcancel'⟩ := ih (fun o ho => hos o (by simp [ho])) hy (hcancel.trans horphan)
    refine ⟨hqs'.trans hqs, hmem'.trans hmem, z, hz, ?_, htodo'.trans htodo, hcancel'.trans hcancel⟩
    rw [hn', hn, List.length_cons]
    omega

/-- A Quarter with nothing spilt gives up the operands of a context that its Plaza holds. -/
def Block.plazaCollected (b : Block) (q c : Nat) : Block :=
  ((b.setPlz q { b.plz q with entries := (b.plz q).entries.filter fun o => o.tok.ctx ≠ c }).freeSlots q []).filterReset q

theorem Block.collectAt_eq (hspill : (b.plz q).spill = []) (hslots : b.usedSlots q = []) :
    b.collectAt q c = ((b.plz q).entries.filter fun o => o.tok.ctx = c).foldl (fun b o => b.collectToken q o.tok)
      (b.plazaCollected q c) := by
  have hslots' : (b.setPlz q { b.plz q with entries := (b.plz q).entries.filter fun o => o.tok.ctx ≠ c }).usedSlots q = [] := hslots
  unfold Block.collectAt
  extract_lets p here b1 spilt b2 busy slots
  have hspilt : spilt = [] := by simp only [spilt, p, hspill, List.filter_nil, List.flatMap_nil]
  have hb2 : b2 = b1 := by simp only [b2, hspilt, List.foldl_nil]
  have hnone : slots = [] := by
    simp only [slots, hb2]
    exact congrArg (List.filter _) hslots'
  rw [hnone, hspilt, hb2]
  simp only [List.foldl_nil, List.map_nil, List.append_nil]
  rfl

/-- The Plaza keeps the other operands, its pen and its wait table; contexts and memory stand as they are. -/
theorem Block.plazaCollected_keeps (b : Block) (q c : Nat) :
    ((b.plazaCollected q c).plz q).entries = ((b.plz q).entries.filter fun o => o.tok.ctx ≠ c) ∧
    ((b.plazaCollected q c).plz q).penBusy = (b.plz q).penBusy ∧ ((b.plazaCollected q c).plz q).wait = (b.plz q).wait ∧
    (∀ k, (b.plazaCollected q c).ctx? k = b.ctx? k) ∧ (b.plazaCollected q c).mem = b.mem := by
  unfold Block.plazaCollected Block.freeSlots Block.filterReset
  dsimp only [List.foldl_nil]
  split
  · simp only [Block.plz_setPlz_same, true_and]
    exact ⟨rfl, fun _ => rfl, rfl⟩
  · simp only [Block.plz_setPlz_same, true_and]
    exact ⟨rfl, fun _ => rfl, rfl⟩

/-- What a collection leaves of a Plaza with nothing spilt, and of the context. -/
theorem Block.collectAt_orphans (hspill : (b.plz q).spill = []) (hslots : b.usedSlots q = []) (hctx : b.ctx? c = some x)
    (horphan : x.cancelled = false) :
    OrphansCounted c ((b.plz q).entries.filter fun o => o.tok.ctx = c).length x (b.plazaCollected q c) (b.collectAt q c) := by
  obtain ⟨-, -, -, hctxs, -⟩ := b.plazaCollected_keeps q c
  rw [Block.collectAt_eq hspill hslots]
  exact Block.collectTokens_orphans _ (fun o ho => by simpa using (List.mem_filter.1 ho).2) ((hctxs c).trans hctx) horphan

end

theorem quarterCollect_completes {s : State} {c : Nat} {x : Ctx} (q : Fin 68) (hup : s.blk.up = true) (hctx : s.blk.ctx? c = some x)
    (hst : x.state = 6) (htodo : x.todo.contains q.val = true) (hret : s.blk.retired.contains q.val = false)
    (hon : SMap.find? s.blk.power.images q = none)
    (hdone : (((s.blk.collectAt q c).plz q).penBusy || ((s.blk.collectAt q c).plz q).wait.any fun w => w.tok.ctx == c && w.lane != 5) = false) :
    Completes (.quarterCollect q c) s ((s.blk.collectAt q c).modCtx c fun x => { x with todo := x.todo.filter (· ≠ q.val) }) := by
  have hplaza : (s.blk.onPlaza q fun b => b.collectAt q c) = s.blk.collectAt q c := by rw [Block.onPlaza, hon]
  refine completes_of_actUp_eq (execQuarterCollect.eq_1 q c s) hup ?_
  rw [hctx]
  dsimp only
  rw [hplaza, htodo, hret, if_neg (by simp [hst]), if_neg (by rw [hdone]; exact Bool.false_ne_true)]

theorem quarterCollect_effect {s : State} {c : Nat} {x : Ctx} (q : Fin 68) (hup : s.blk.up = true) (hctx : s.blk.ctx? c = some x)
    (hst : x.state = 6) (htodo : x.todo.contains q.val = true) (hret : s.blk.retired.contains q.val = false)
    (hspill : (s.blk.plz q).spill = []) (hslots : s.blk.usedSlots q = []) (hpen : (s.blk.plz q).penBusy = false)
    (hwait : ∀ w ∈ (s.blk.plz q).wait, w.tok.ctx ≠ c) (hon : SMap.find? s.blk.power.images q = none) (horphan : x.cancelled = false) :
    ∃ t y, Completes (.quarterCollect q c) s t ∧ (t.plz q).entries = ((s.blk.plz q).entries.filter fun o => o.tok.ctx ≠ c) ∧
      t.ctx? c = some y ∧ y.todo = x.todo.filter (· ≠ q.val) ∧
      y.orphans = x.orphans + ((s.blk.plz q).entries.filter fun o => o.tok.ctx = c).length ∧ t.mem = s.blk.mem := by
  obtain ⟨hentries, hbusy, hwaits, -, hmem⟩ := s.blk.plazaCollected_keeps q c
  obtain ⟨hqs, hmem', y, hy, horphans, hleft, -⟩ := Block.collectAt_orphans hspill hslots hctx horphan
  have hplz := Block.plz_of_qs hqs q.val
  have hdone : (((s.blk.collectAt q c).plz q).penBusy ||
      ((s.blk.collectAt q c).plz q).wait.any fun w => w.tok.ctx == c && w.lane != 5) = false := by
    have hnone : ((s.blk.plz q).wait.any fun w => w.tok.ctx == c && w.lane != 5) = false := List.any_eq_false.2 fun w hw => by
      simp [hwait w hw]
    rw [hplz, hbusy, hwaits, hpen, hnone]
    rfl
  have hframe := (s.blk.collectAt q c).modCtx_frame c fun x => { x with todo := x.todo.filter (· ≠ q.val) }
  refine ⟨_, _, quarterCollect_completes q hup hctx hst htodo hret hon hdone, ?_, Block.ctx_modCtx_same _ hy, by rw [← hleft], horphans,
    hframe.mem.trans (hmem'.trans hmem)⟩
  have hqs' : ((s.blk.collectAt q c).modCtx c fun x => { x with todo := x.todo.filter (· ≠ q.val) }).qs = (s.blk.collectAt q c).qs := by
    rw [hframe]
  rw [Block.plz_of_qs hqs', hplz, hentries]

-- COLLECTION_DONE (R94, R95, R269)

/-- A context but for its totals. -/
def Ctx.untotalled (x : Ctx) : Ctx := { x with e := 0, c := 0 }

/-- The fields that a completion goes by stand apart from the totals. -/
theorem Ctx.fields_of_untotalled {x y : Ctx} (h : y.untotalled = x.untotalled) :
    y.status = x.status ∧ y.started = x.started ∧ y.rearm = x.rearm ∧ y.cancelled = x.cancelled ∧ y.endSeen = x.endSeen ∧
    y.value = x.value := by
  have hstatus := congrArg Ctx.status h
  have hstarted := congrArg Ctx.started h
  have hrearm := congrArg Ctx.rearm h
  have hcancelled := congrArg Ctx.cancelled h
  have hseen := congrArg Ctx.endSeen h
  have hvalue := congrArg Ctx.value h
  exact ⟨hstatus, hstarted, hrearm, hcancelled, hseen, hvalue⟩

section
variable {b : Block} {c : Nat} {x : Ctx}

/-- The gathering of counts changes a context's totals alone. -/
theorem Block.gather_ctx (hctx : b.ctx? c = some x) :
    CountsFrame b (b.gather c) ∧ ∃ y, (b.gather c).ctx? c = some y ∧ y.untotalled = x.untotalled := by
  unfold Block.gather
  refine List.foldlRecOn (motive := fun t : Block => CountsFrame b t ∧ ∃ y, t.ctx? c = some y ∧ y.untotalled = x.untotalled) _ _
    ⟨countsFrame_refl b, x, hctx, rfl⟩ fun t ht k _ => ?_
  obtain ⟨hframe, y, hy, hsame⟩ := ht
  refine ⟨hframe.trans (t.flushCount_frame _ c), ?_⟩
  cases h : SMap.find? t.live (liveKey (k / 2 ^ 20) c) with
  | none => exact ⟨y, by simpa only [Block.flushCount, h] using hy, hsame⟩
  | some ek =>
    obtain ⟨e, n⟩ := ek
    rw [Block.flushCount_some h]
    exact ⟨_, Block.ctx_modCtx_same _ hy, hsame⟩

end

/-- A completion record says nothing of a context's totals. -/
theorem recorded_of_untotalled {t : Block} {c : Nat} {x y : Ctx} {status : Nat} {value : W64} (h : y.untotalled = x.untotalled)
    (hr : t.recorded c y status value) : t.recorded c x status value := by
  have hsame : t.recorded c y.untotalled status value := hr
  rwa [h] at hsame

section
variable {s : State} {c : Nat} {x : Ctx}

/-- A cancelled context from which every Quarter has collected completes with its status. -/
theorem collectionDone_cancelled (hup : s.blk.up = true) (hctx : s.blk.ctx? c = some x) (hst : x.state = 6) (htodo : x.todo = [])
    (hspan : s.blk.spanEntry c = none) (hcancel : x.cancelled = true) :
    ∃ (b : Block) (y : Ctx), CountsFrame s.blk b ∧ b.ctx? c = some y ∧ y.untotalled = x.untotalled ∧
      Completes (.collectionDone c) s (b.complete c y.status (if y.endSeen then y.value else 0) y.live) := by
  obtain ⟨hframe, y, hy, hsame⟩ := Block.gather_ctx hctx
  obtain ⟨-, -, -, hcancelled, -, -⟩ := Ctx.fields_of_untotalled hsame
  have hcancel' : y.cancelled = true := hcancelled.trans hcancel
  have hspan' : (s.blk.gather c).spanEntry c = none :=
    (Block.spanEntry_of_same (fun off _ => Block.reg_of_regs hframe.regs off) c).trans hspan
  refine ⟨(s.blk.gather c).setCtx c y, y, hframe.trans (countsFrame_setCtx _ c y), Block.ctx_setCtx_same _ c y, hsame,
    completes_of_actUp_eq (execCollectionDone.eq_1 c s) hup ?_⟩
  rw [hctx]
  simp only [hst, htodo, hcancel, hy, hcancel', Block.isMember_of_no_span hspan', ne_eq, not_true_eq_false, decide_false, List.any_nil,
    Bool.not_true, Bool.false_and, Bool.or_false, Bool.false_eq_true, if_false, false_and, if_true, true_or, Block.tellAll_nil]

theorem collectionDone_quarantined (hup : s.blk.up = true) (hctx : s.blk.ctx? c = some x) (hroll : s.blk.cont.roll = none)
    (hst : x.state = 6) (htodo : x.todo = []) (hspan : s.blk.spanEntry c = none) (hcancel : x.cancelled = true) (hstatus : x.status = 1)
    (hstarted : x.started = true) (hwait : min (s.blk.rf 0x400014 9 0) 1000 ≠ 0) :
    ∃ t y, Completes (.collectionDone c) s t ∧ t.ctx? c = some y ∧ y.state = 7 ∧
      y.when_ = s.blk.now + min (s.blk.rf 0x400014 9 0) 1000 * 1000000 ∧ t.recorded c x 1 (if x.endSeen then x.value else 0) := by
  obtain ⟨b, y, hframe, hy, hsame, hdone⟩ := collectionDone_cancelled hup hctx hst htodo hspan hcancel
  have hrf : b.rf 0x400014 9 0 = s.blk.rf 0x400014 9 0 := congrArg (bits · 9 0) (Block.reg_of_regs hframe.regs _)
  obtain ⟨hstatus', hstarted', -, -, hseen, hvalue⟩ := Ctx.fields_of_untotalled hsame
  rw [hstatus', hstatus, hseen, hvalue] at hdone
  obtain ⟨z, hz, hstate, hwhen, hrec⟩ := Block.complete_quarantined (status := 1) (unfound := y.live) hy
    (by rw [hframe.cont, hroll]) (if x.endSeen then x.value else 0) (by simp [Block.quarantines, hstarted', hstarted, hrf, hwait])
  rw [hframe.now, hrf] at hwhen
  exact ⟨_, z, hdone, hz, hstate, hwhen, recorded_of_untotalled hsame hrec⟩

theorem collectionDone_gone (hup : s.blk.up = true) (hctx : s.blk.ctx? c = some x) (hroll : s.blk.cont.roll = none)
    (hst : x.state = 6) (htodo : x.todo = []) (hspan : s.blk.spanEntry c = none) (hcancel : x.cancelled = true) (hrearm : x.rearm = false)
    (hwait : min (s.blk.rf 0x400014 9 0) 1000 = 0) :
    ∃ t, Completes (.collectionDone c) s t ∧ t.ctx? c = none ∧ t.recorded c x x.status (if x.endSeen then x.value else 0) := by
  obtain ⟨b, y, hframe, hy, hsame, hdone⟩ := collectionDone_cancelled hup hctx hst htodo hspan hcancel
  have hrf : b.rf 0x400014 9 0 = s.blk.rf 0x400014 9 0 := congrArg (bits · 9 0) (Block.reg_of_regs hframe.regs _)
  obtain ⟨hstatus, -, hrearm', -, hseen, hvalue⟩ := Ctx.fields_of_untotalled hsame
  rw [hstatus, hseen, hvalue] at hdone
  obtain ⟨hgone, hrec, -⟩ := Block.complete_gone (status := x.status) (unfound := y.live) hy (by rw [hframe.cont, hroll])
    (if x.endSeen then x.value else 0) (by simp [Block.quarantines, hrf, hwait])
    (hrearm'.trans hrearm)
  exact ⟨_, hdone, hgone, recorded_of_untotalled hsame hrec⟩

-- QUARANTINE_END (R262, R271)

theorem quarantineEnd_completes (hup : s.blk.up = true) (hctx : s.blk.ctx? c = some x) (hst : x.state = 7) :
    Completes (.quarantineEnd c) s (if x.rearm then (s.blk.passTo x.when_).rearm c else (s.blk.passTo x.when_).leave c x) := by
  refine completes_of_actUp_eq (execQuarantineEnd.eq_1 c s) hup ?_
  rw [hctx]
  exact if_neg (not_not.2 hst)

/-- The end of quarantine is not before its time. -/
theorem Block.le_passTo_now (b : Block) (t : Nat) : t ≤ (b.passTo t).now := by
  rw [Block.passTo_now]
  exact le_max_right _ _

theorem quarantineEnd_gone (hup : s.blk.up = true) (hctx : s.blk.ctx? c = some x) (hst : x.state = 7) (hrearm : x.rearm = false) :
    ∃ t, Completes (.quarantineEnd c) s t ∧ x.when_ ≤ t.now ∧ t.ctx? c = none ∧ (∀ k, k ≠ c → t.ctx? k = s.blk.ctx? k) := by
  have hdone := quarantineEnd_completes hup hctx hst
  rw [hrearm, if_neg Bool.false_ne_true] at hdone
  have hnow : ((s.blk.passTo x.when_).leave c x).now = (s.blk.passTo x.when_).now := (Block.stopWrite_aside _ _ _).now
  refine ⟨_, hdone, ?_, Block.ctx_leave _ c x, fun k hk => ?_⟩
  · rw [hnow]
    exact s.blk.le_passTo_now _
  · rw [Block.ctx_leave_ne _ x hk, Block.ctx_passTo]

theorem quarantineEnd_rearmed (hup : s.blk.up = true) (hctx : s.blk.ctx? c = some x) (hst : x.state = 7) (hrearm : x.rearm = true) :
    ∃ t y, Completes (.quarantineEnd c) s t ∧ x.when_ ≤ t.now ∧ t.ctx? c = some y ∧ y.started = false ∧ y.seq = x.seq ∧
      y.cring = x.cring ∧ 1 ≤ y.state ∧ y.state ≤ 3 ∧ (∀ k, k ≠ c → t.ctx? k = s.blk.ctx? k) := by
  have hdone := quarantineEnd_completes hup hctx hst
  rw [hrearm, if_pos rfl] at hdone
  obtain ⟨hwork, y, hy, hstarted, hseq, hcring, hlo, hhi⟩ := Block.rearm_effect ((s.blk.ctx_passTo x.when_ c).trans hctx)
  refine ⟨_, y, hdone, ?_, hy, hstarted, hseq, hcring, hlo, hhi, fun k hk => ?_⟩
  · rw [hwork.now]
    exact s.blk.le_passTo_now _
  · rw [hwork.others k hk, Block.ctx_passTo]

end

/-- Settles O30: each command's effect on the context from what a cancel, a collection, a completion and an arming leave. -/
theorem collectionAndCancel : Obligations.CollectionAndCancel := by
  unfold Obligations.CollectionAndCancel
  intro s c x b hup hctx hroll
  refine ⟨?_, ?_, ?_, ?_⟩
  · intro r j hj hc harm hroom
    refine ⟨fun _ hst hfresh => ?_, fun hlo hhi => ?_⟩
    · obtain ⟨hok, hgone, hrec, hsq⟩ := Block.cancelCtx_waiting hctx hroll hst hfresh
      obtain ⟨hended, hctxs, hrecords⟩ := cancelled_keeps hj hsq x.state
      exact ⟨_, cancelCtx_completes hj hc harm hroll hroom hctx hok, hended, (hctxs c).trans hgone, hrecords.recorded hrec⟩
    · obtain ⟨hok, hsq, y, hy, hclosing⟩ := Block.cancelCtx_started hctx hlo hhi
      obtain ⟨hended, hctxs, -⟩ := cancelled_keeps hj hsq x.state
      exact ⟨_, y, cancelCtx_completes hj hc harm hroll hroom hctx hok, hended, (hctxs c).trans hy, hclosing⟩
  · intro q hst htodo hret hspill hslots hpen hwait hon horphan
    exact quarterCollect_effect q hup hctx hst htodo hret hspill hslots hpen hwait hon horphan
  · intro hst htodo hspan hcancel
    exact ⟨collectionDone_quarantined hup hctx hroll hst htodo hspan hcancel, collectionDone_gone hup hctx hroll hst htodo hspan hcancel⟩
  · intro hst
    exact ⟨quarantineEnd_gone hup hctx hst, quarantineEnd_rearmed hup hctx hst⟩

end Sys2Proof.Machine

/-! Starts: CONTEXT_START of the head of the highest ready list that is not blocked, and WAKEFIRST_START (R263 to R266). -/

namespace Sys2Proof.Machine

-- The entries of a start (R225, R264)

/-- What the reserving of gate and mode entries leaves: the Quarters, and the gates that the Converter knows. -/
def EntriesFrame (b t : Block) : Prop := t = { b with qs := t.qs, ave := { b.ave with convGate := t.ave.convGate } }

theorem entriesFrame_refl (b : Block) : EntriesFrame b b := rfl

theorem EntriesFrame.trans {a b c : Block} (h : EntriesFrame a b) (h' : EntriesFrame b c) : EntriesFrame a c := by
  unfold EntriesFrame at *
  rw [h', h]

theorem entriesFrame_reserveAll {α : Type} {f : Block → α → Option Block} (hf : ∀ b a t, f b a = some t → EntriesFrame b t) (l : List α)
    {b t : Block} (h : reserveAll f b l = some t) : EntriesFrame b t := by
  induction l generalizing b with
  | nil => exact Option.some.inj h ▸ entriesFrame_refl b
  | cons a l ih =>
    unfold reserveAll at h
    split at h
    · next u hu => exact (hf b a u hu).trans (ih h)
    · exact absurd h (by simp)

theorem Block.reserveGate_frame {b t : Block} {c : Nat} {x : Ctx} {place : SMap Nat} {g : Nat × Bool × Nat × Nat × Nat}
    (h : b.reserveGate c x place g = some t) : EntriesFrame b t := by
  unfold Block.reserveGate at h
  dsimp only at h
  split at h
  · exact Option.some.inj h ▸ entriesFrame_refl b
  · split at h
    · exact absurd h (by simp)
    · obtain rfl := Option.some.inj h
      split <;> rfl

theorem Block.reserveMode_frame {b t : Block} {c mode p : Nat} (h : b.reserveMode c mode p = some t) : EntriesFrame b t := by
  unfold Block.reserveMode at h
  dsimp only at h
  split at h
  · exact Option.some.inj h ▸ entriesFrame_refl b
  · split at h
    · exact absurd h (by simp)
    · obtain rfl := Option.some.inj h
      rfl

theorem Block.reserve_frame {b t : Block} {c : Nat} {x : Ctx} {place : SMap Nat} (h : b.reserve c x place = some t) : EntriesFrame b t := by
  unfold Block.reserve at h
  dsimp only at h
  split at h
  · exact absurd h (by simp)
  · next u hu =>
    have hgates := entriesFrame_reserveAll (fun _ _ _ => Block.reserveGate_frame) _ hu
    split at h
    · exact Option.some.inj h ▸ hgates
    · exact hgates.trans (entriesFrame_reserveAll (fun _ _ _ => Block.reserveMode_frame) _ h)

-- The CTL_START (R264, step 4)

/-- The token that starts a context. -/
def Block.ctlStart (b : Block) (c : Nat) (x : Ctx) : Token :=
  ⟨x.desc.startValue, mkTag b.ownId c x.desc.startNode (x.desc.startTag % 2 ^ 18) (bits x.desc.startTag 19 18),
    mkCtrl 6 6 false true false 0 0⟩

/-- A CTL_START goes to the Host Gate and is counted; the rest stands. -/
theorem Block.sendStart_effect (b : Block) (c : Nat) (x : Ctx) :
    ((b.sendStart c x).gate 0).starts = (b.gate 0).starts ++ [b.ctlStart c x] ∧
    (b.sendStart c x).reg (dispCnt 1) = satAdd (b.reg (dispCnt 1)) 1 ∧ (∀ k, (b.sendStart c x).ctx? k = b.ctx? k) ∧
    (b.sendStart c x).qs = b.qs ∧ (b.sendStart c x).mem = b.mem := by
  unfold Block.sendStart
  refine ⟨?_, Block.reg_bump_one _ _, fun k => Block.bump_ctx _ _ _ k, Block.bump_qs .., Block.bump_mem ..⟩
  rw [Block.gate_of_ave (Block.bump_ave ..), Block.gate_setGate_same]
  rfl

-- CONTEXT_START (R263 to R265)

/-- A context as its start leaves it, with every District of its placement running. -/
def Ctx.running (x : Ctx) (place : SMap Nat) (time : Nat) : Ctx :=
  { x with state := 4, started := true, e := 0, c := 0, decs := 0, groups := place, startTime := time, held := false, woken := [] }

section
variable {b : Block} {c n : Nat} {x : Ctx} {place : SMap Nat}

/-- With every District of its placement running and no rollback, a start sends the CTL_START at once. -/
theorem Block.startNow_awake (hroll : b.cont.roll = none)
    (hawake : ∀ d ∈ b.districts place, b.distLevel d = 0 ∧ b.rf (distStat d) 0 0 = 0) :
    b.startNow c x place = ((b.setCtx c (x.running place b.timeNs)).decide_ c .start).sendStart c (x.running place b.timeNs) := by
  have hnone : ((b.districts place).filter fun d => b.distLevel d ≠ 0 ∨ b.rf (distStat d) 0 0 = 1) = [] :=
    List.filter_eq_nil_iff.2 fun d hd => by
      obtain ⟨hlevel, hentry⟩ := hawake d hd
      simp [hlevel, hentry]
  have hroll' : ((b.setCtx c (x.running place b.timeNs)).decide_ c .start).cont.roll = none :=
    (Block.decide_work (b.setCtx c (x.running place b.timeNs)) c c .start).roll.trans hroll
  have hreplay : ((b.setCtx c (x.running place b.timeNs)).decide_ c .start).replaying c = false := by
    simp only [Block.replaying, hroll']
  unfold Block.startNow
  extract_lets ds asleep y t1 t2
  have hasleep : asleep = [] := hnone
  have hy : y = x.running place b.timeNs := by
    simp only [y, hasleep, List.isEmpty_nil, Bool.not_true, Bool.and_false]
    rfl
  have ht : t2 = (b.setCtx c (x.running place b.timeNs)).decide_ c .start := by
    simp only [t2, hasleep, List.foldl_nil, t1, hy]
  rw [ht, hreplay, hy]
  rfl

/-- What a start with every District running leaves. -/
theorem Block.startNow_effect (hroll : b.cont.roll = none)
    (hawake : ∀ d ∈ b.districts place, b.distLevel d = 0 ∧ b.rf (distStat d) 0 0 = 0) :
    (b.startNow c x place).ctx? c = some (x.running place b.timeNs) ∧ (b.startNow c x place).qs = b.qs ∧
    (∀ k, k ≠ c → (b.startNow c x place).ctx? k = b.ctx? k) ∧
    ((b.startNow c x place).gate 0).starts = (b.gate 0).starts ++ [b.ctlStart c x] ∧
    (b.startNow c x place).reg (dispCnt 1) = satAdd (b.reg (dispCnt 1)) 1 ∧ (b.startNow c x place).mem = b.mem := by
  have hwork := (workFrame_setCtx [colirCnt 5] b c (x.running place b.timeNs)).trans (Block.decide_work _ c c .start)
  have hctx := Block.decide_ctx (b.setCtx c (x.running place b.timeNs)) c c .start
  rw [Block.startNow_awake hroll hawake]
  generalize (b.setCtx c (x.running place b.timeNs)).decide_ c .start = t at hwork hctx
  obtain ⟨hstarts, hcount, hctxs, hqs, hmem⟩ := t.sendStart_effect c (x.running place b.timeNs)
  have hown : t.ownId = b.ownId := congrArg (bits · 3 0) (hwork.reg (by decide))
  have hgate : t.gate 0 = b.gate 0 := Block.gate_of_ave (by rw [hwork.rest]) 0
  refine ⟨?_, hqs.trans hwork.qs, fun k hk => (hctxs k).trans (hwork.others k hk), ?_, ?_, hmem.trans hwork.mem⟩
  · rw [hctxs, hctx, Block.ctx_setCtx_same]
  · rw [hstarts, hgate, Block.ctlStart, hown]
    rfl
  · rw [hcount, hwork.reg (by decide)]

/-- Empty ready lists are passed over. -/
theorem Block.startFrom_empty {m : Nat} (hm : n ≤ m) (hnone : ∀ k, n ≤ k → k < m → b.headOf k = none) : b.startFrom m = b.startFrom n := by
  induction m, hm using Nat.le_induction with
  | base => rfl
  | succ m hm ih =>
    rw [Block.startFrom, hnone m hm (Nat.lt_succ_self m)]
    exact ih fun k hk hkm => hnone k hk (by omega)

/-- The head of a list that is not blocked starts once its entries are reserved. -/
theorem Block.startFrom_head {b1 : Block} (hhead : b.headOf n = some (c, x)) (hfree : x.blocked = false)
    (hres : (b.readSections x.desc.image [5, 6]).reserve c x ((b.readSections x.desc.image [5, 6]).placement x) = some b1) :
    b.startFrom (n + 1) = b1.startNow c x ((b.readSections x.desc.image [5, 6]).placement x) := by
  rw [Block.startFrom, hhead]
  dsimp only
  rw [hfree, if_neg Bool.false_ne_true, hres]

end

/-- What the reading of an image and the reserving of entries leave for the start. -/
theorem Block.reserved_keeps {b b1 : Block} {c image : Nat} {types : List Nat} {x : Ctx} {place : SMap Nat}
    (hres : (b.readSections image types).reserve c x place = some b1) :
    b1.cont.roll = b.cont.roll ∧ b1.disp = b.disp ∧ b1.timeNs = b.timeNs ∧ b1.gate 0 = b.gate 0 ∧ b1.ownId = b.ownId ∧
    b1.mem = (b.readSections image types).mem := by
  have hread := b.readSections_readFrame image types
  have hentries := Block.reserve_frame hres
  generalize b.readSections image types = b0 at hread hentries
  have hgates : b1.ave.gates = b.ave.gates := by
    have hsame : b1.ave.gates = b0.ave.gates := by rw [hentries]
    rw [hsame, hread.rest]
  have hreg : b1.reg 0xE00000 = b.reg 0xE00000 := by
    have hsame : b1.regs = b0.regs := by rw [hentries]
    exact (Block.reg_of_regs hsame _).trans (hread.regs _ (by decide))
  refine ⟨?_, ?_, ?_, by simp only [Block.gate, hgates], congrArg (bits · 3 0) hreg, by rw [hentries]⟩
  · rw [hentries, hread.rest]
  · rw [hentries, hread.rest]
  · rw [hentries, hread.rest]

theorem contextStart_completes {s : State} (hup : s.blk.up = true) (hen : s.blk.rf 0x400000 0 0 = 1) (hgrave : s.blk.hub.grave = false)
    (hroll : s.blk.cont.roll = none) (hroom : s.blk.journalRoom (.disp 0 .start) = true) :
    Completes .contextStart s (s.blk.startFrom 16) := by
  have hdecs : s.blk.applyDecs = s.blk := by simp only [Block.applyDecs, hroll]
  refine completes_of_actUp_eq (execContextStart.eq_1 s) hup ?_
  rw [if_neg (by rw [hen, hgrave]; decide), hdecs, Block.withRoom_of_room hroom]

-- WAKEFIRST_START (R266)

theorem wakefirstStart_completes {s : State} {c : Nat} {x : Ctx} (hup : s.blk.up = true) (hctx : s.blk.ctx? c = some x)
    (hheld : x.held = true) (hst : x.state = 4) (hgrave : s.blk.hub.grave = false)
    (hawake : ∀ d ∈ x.woken, s.blk.distLevel d = 0 ∧ s.blk.rf (distStat d) 1 1 = 0) :
    Completes (.wakefirstStart c) s ((s.blk.setCtx c { x with held := false }).sendStart c x) := by
  have hall : (x.woken.all fun d => s.blk.distLevel d == 0 && s.blk.rf (distStat d) 1 1 == 0) = true := List.all_eq_true.2 fun d hd => by
    obtain ⟨hlevel, hwaking⟩ := hawake d hd
    simp [hlevel, hwaking]
  refine completes_of_actUp_eq (execWakefirstStart.eq_1 c s) hup ?_
  rw [hctx]
  dsimp only
  rw [hheld, hst, hgrave, hall]
  rfl

/-- Settles O28: the start decision comes to the head of the highest list with one, and its start leaves what `startNow_effect` says of the
block in which its entries are reserved. -/
theorem starts : Obligations.Starts := by
  unfold Obligations.Starts
  refine ⟨?_, ?_⟩
  · intro s c n x b1 b b0 hup hen hgrave hroll hroom hn hhead hfree hempty hres hawake
    obtain ⟨hroll1, hdisp, htime, hgate, hown, hmem1⟩ := Block.reserved_keeps hres
    have hdone : Completes .contextStart s (b1.startNow c x (b0.placement x)) := by
      have hrun := contextStart_completes hup hen hgrave hroll hroom
      rwa [Block.startFrom_empty (n := n + 1) hn fun k hk hlt => hempty k hk hlt, Block.startFrom_head hhead hfree hres] at hrun
    obtain ⟨hctx, hqs, hothers, hstarts, hcount, hmem⟩ := Block.startNow_effect (c := c) (x := x) (hroll1.trans hroll) hawake
    generalize b0.placement x = place at hdone hctx hqs hothers hstarts hcount hmem ⊢
    refine ⟨_, x.running place b1.timeNs, hdone, hctx, rfl, rfl, rfl, rfl, rfl, rfl, htime, hqs, fun k hk => ?_, ?_, hcount, hmem.trans hmem1⟩
    · rw [hothers k hk, Block.ctx?, hdisp]
      rfl
    · rw [hstarts, hgate, Block.ctlStart, hown]
  · intro s c x b hup hctx hheld hst hgrave hawake
    obtain ⟨hstarts, hcount, hctxs, -, hmem⟩ := (b.setCtx c { x with held := false }).sendStart_effect c x
    refine ⟨_, wakefirstStart_completes hup hctx hheld hst hgrave hawake, ?_, ?_, hcount, hmem⟩
    · rw [hctxs, Block.ctx_setCtx_same]
    · rw [hstarts, List.length_append]
      rfl

end Sys2Proof.Machine
